-- ==== Sys2Proof/Word.lean ====
section
/-! DEFINITION. The word types of the complex (R7) and their plainest arithmetic. -/

namespace Sys2Proof

/-- 8 bits (R7). -/
abbrev Byte := BitVec 8
/-- 16 bits (R7). -/
abbrev Half := BitVec 16
/-- 32 bits, the manual's "word" (R7). -/
abbrev Word32 := BitVec 32
/-- 64 bits, the manual's "doubleword" (R7) and the width of a stack entry (R40). -/
abbrev Word := BitVec 64
/-- 128 bits, the manual's "pair" (R7). -/
abbrev Pair := BitVec 128

/-- A Bool as one bit. -/
def bit (b : Bool) : BitVec 1 := BitVec.ofBool b

/-- Serial-number comparison of R328: a follows b. -/
def follows (a b : Word32) : Bool :=
  let d := (a - b).toNat
  decide (0 < d) && decide (d < 2 ^ 31)

end Sys2Proof
end

