-- ==== Sys2Proof/Syntax.lean ====
section
/-! DEFINITION. The commands of the block, one constructor for each row of spec/opcode_table.json, with their operands. -/

namespace Sys2Proof

/-- A prefix byte of R57. -/
inductive Pfx where
  | rep | repz | repnz | usr | acq | rel
  deriving DecidableEq, Repr

/-- What every instruction command carries: the logical core that meets the instruction, and its prefix bytes in order (R55, R57). -/
structure Insn where
  lcn : Nat
  pfx : List Pfx
  deriving DecidableEq, Repr

/-- The two forms of ADDI (R78). -/
inductive AddImm where
  | i8 (v : BitVec 8)
  | i16 (v : BitVec 16)
  deriving DecidableEq, Repr

/-- A D16 branch (R55, R61): the slot bit A, the displacement, and the length of the instruction that stands in the delay slot. -/
structure Branch16 where
  slotBit : Bool
  disp : BitVec 16
  slotLen : Nat
  deriving DecidableEq, Repr

/-- A D32 branch (R55, R61). -/
structure Branch32 where
  slotBit : Bool
  disp : BitVec 32
  slotLen : Nat
  deriving DecidableEq, Repr

/-- JMPI, CALLI and RET (R93): the target is popped. -/
structure BranchInd where
  slotBit : Bool
  slotLen : Nat
  deriving DecidableEq, Repr

/-- The format of a floating-point instruction: .D (binary64) or .S (binary32) (R129). -/
inductive FpWidth where
  | d | s
  deriving DecidableEq, Repr

/-- What a reserved instruction was decoded from (R60, R65-R68): a primary byte, an escape and its extended byte, or RDSR or WRSR with a reserved number. -/
inductive ReservedOp where
  | primary (b : Byte)
  | escape (esc ext : Byte)
  | register (write : Bool) (n : Byte)
  deriving DecidableEq, Repr

/-- The errors of R219: the line of one in a cache, or that a walk reads; the index of a translation-cache entry. A dirty L2 line that an instruction consumes is the one that retry cannot undo. -/
inductive RetryError where
  | executionUnit
  | physicalRegister (n : Nat)
  | l1Line (instr : Bool) (line : Nat)
  | l2CleanLine (line : Nat)
  | l2DirtyLine (line : Nat)
  | tlbEntry (index : Nat)
  | walkRead (line : Nat)
  | checkpointWord (word : Nat) (bothCopies : Bool)
  deriving DecidableEq, Repr

/-- The two rings of Millrace (R17). -/
inductive Ring where
  | cw | ccw
  deriving DecidableEq, Repr

/-- Why a memory channel fails (R281, MEMCH.CAUSE). -/
inductive ChannelCause where
  | training | mismatch | link | promotion
  deriving DecidableEq, Repr

/-- What bears on filtered mode (R255): a boundary, or the beginning or end of the array test of a way of a core's L2, with the lines that its drain cannot read (R256). -/
inductive FilterEvent where
  | atBoundary
  | testBegins (core way : Nat) (bad : List Nat)
  | testEnds (bad : List Nat)
  deriving DecidableEq, Repr

/-- What a start-up finds (R28, R263, R271, R286, R433): the PCNs and physical CPs that fail, the population of each channel (bit i of the first component tells a DIMM in slot i, the second is the capacity code of MEMCFG.SIZE), the channels that fail training, the (slice, way) pairs that fail, whether the zeroing of main memory has ended when the reset is reported, and the generations of the records that an uncorrectable unit of Stillwater spoils (R433). -/
structure StartTest where
  cores : List Nat
  cps : List Nat
  dimms : List (BitVec 2 × BitVec 2)
  training : List Nat
  ways : List (Nat × Nat)
  zeroed : Bool
  spoilt : List (BitVec 32)
  deriving DecidableEq, Repr

/-- What the bursts of one line show when a controller reads or writes them (R277): by burst 0-4 of the group, those that the controller ECC corrects, those that it cannot, the link retries of the access, and whether the parity burst disagrees with good data. -/
structure BurstErrors where
  corrected : List (Fin 5)
  bad : List (Fin 5)
  retries : List (Fin 5 × Nat)
  parityOff : Bool
  deriving DecidableEq, Repr

/-- A unit with an overrun source (R37, R401). -/
inductive OverrunUnit where
  | cpGroup (g : Fin 4)
  | poolSlice (k : Fin 16)
  | memController (g : Fin 4)
  | channelSubsystem
  | ethStation (e : Fin 4)
  | compression | cipher | continuity | plant | weir
  deriving DecidableEq, Repr

/-- The outcome of one Coppice self-test pass (R421). -/
inductive SelfTest where
  | clean | corrected | failed
  deriving DecidableEq, Repr

/-- An SCP frame as it arrives (R325, R326). -/
structure ScpFrame where
  version : BitVec 4
  typ : BitVec 4
  cls : BitVec 2
  first : Bool
  last : Bool
  acknow : Bool
  len : BitVec 16
  dcid : Word32
  scid : Word32
  seq : Word32
  ack : Word32
  xid : Word32
  cxid : Word32
  fgen : Word32
  win : BitVec 16
  reservedZero : Bool
  crcOk : Bool
  payload : List Byte
  deriving DecidableEq, Repr

/-- A TCP segment (R341): its header fields, the options of R341, and its payload. -/
structure TcpSegment where
  seq : Word32
  ack : Word32
  syn : Bool
  ackFlag : Bool
  fin : Bool
  rst : Bool
  window : BitVec 16
  wscale : Option (BitVec 4)
  mss : Option (BitVec 16)
  sackOk : Bool
  sack : List (Word32 × Word32)
  ts : Option (Word32 × Word32)
  checksumOk : Bool
  payload : List Byte
  deriving DecidableEq, Repr

/-- A request that R357 answers. -/
inductive LocalQuery where
  | arp | neighborSolicitation | echo
  deriving DecidableEq, Repr

/-- The UDP checksum of a datagram as it arrives (R322). -/
inductive UdpSum where
  | zero | good | bad
  deriving DecidableEq, Repr

/-- What an Ethernet frame carries, as far as R358 classifies it. A fragment is an IP fragment, or an IPv6 packet with extension headers (R322). A Leat frame has passed its MACsec checks when the secure association verifies it; the mirror messages stand in rows of their own. -/
inductive EthBody where
  | leat (an : Fin 4) (pn : BitVec 64) (icvOk : Bool) (f : ScpFrame)
  | macControl
  | scp (f : ScpFrame)
  | scpUdp (v6 : Bool) (sip dip : Pair) (dport : BitVec 16) (fragment : Bool) (sum : UdpSum) (f : ScpFrame)
  | tcp (v6 : Bool) (sip dip : Pair) (sport dport : BitVec 16) (fragment : Bool) (g : TcpSegment)
  | query (q : LocalQuery) (lip : Pair)
  | other
  deriving DecidableEq, Repr

/-- An Ethernet frame as the MAC receives it: its FCS check, the FEC codewords corrected and not correctable in its time (R351, R362), its VLAN and priority, its source address, the length of its MAC client data without the tag (R352), and the bytes that the receive buffer of its priority then holds (R359). -/
structure EthFrame where
  fcsOk : Bool
  fecCorrected : Nat
  fecLost : Nat
  vid : BitVec 12
  prio : Fin 8
  smac : BitVec 48
  len : Nat
  backlog : Nat
  body : EthBody
  deriving DecidableEq, Repr

/-- The fields of R325 that a sequenced mirror message uses (R336, R437). -/
structure MirrorHead where
  seq : Word32
  ack : Word32
  win : BitVec 16
  acknow : Bool
  deriving DecidableEq, Repr

/-- A MACsec secure association by port, direction and number (R399, LKCMD). -/
structure SaName where
  rx : Bool
  port : Fin 2
  an : Fin 4
  deriving DecidableEq, Repr

/-- The four classes of a fault event (R403). -/
inductive FaultClass where
  | corrected | recoverable | severe | fatal
  deriving DecidableEq, Repr

/-- A fault event as a unit reports it to Weir (R403, R417). -/
structure WeirReport where
  src : Nat
  cls : FaultClass
  beat : Word
  pcn : Byte
  lcn : Byte
  station : Byte
  detail : Word32
  addr : Word
  deriving DecidableEq, Repr

/-- The role of a module (R442). -/
inductive Role where
  | active | standby
  deriving DecidableEq, Repr

/-- The pair state of a module (R442, CTPAIR.PSTATE). -/
inductive PState where
  | solo | joining | paired | broken
  deriving DecidableEq, Repr

/-- A HEARTBEAT frame (R444). -/
structure HeartbeatMsg where
  hseq : BitVec 16
  nextgen : Word32
  fgen : Word32
  role : Role
  pstate : PState
  safe : Bool
  armed : Bool
  deriving DecidableEq, Repr

/-- The part of a health record that its receiver acts on (R445, R450). -/
structure HealthMsg where
  role : Role
  pstate : PState
  safe : Bool
  armed : Bool
  fgen : Word32
  nextgen : Word32
  deriving DecidableEq, Repr

/-- A delta entry (R438). -/
inductive DeltaEntry where
  | jrec (gen off : Word32) (bytes : List Byte)
  | mem (pa : Nat) (bytes : List (Nat × Byte))
  | cbs (pa : Nat) (bytes : List Byte)
  | retire (sch : Word32) (gen : Word32)
  | reserved (etype : Byte)
  deriving DecidableEq, Repr

/-- A DELTA_END frame (R438). -/
structure DeltaEndMsg where
  nframes : Word32
  nbytes : Word32
  ecrc : Word32
  baseDone : Bool
  deriving DecidableEq, Repr

/-- A DYING_GASP frame (R448). -/
structure GaspMsg where
  reason : BitVec 16
  fgen : Word32
  nextgen : Word32
  lastDelta : Word
  deriving DecidableEq, Repr

/-- A witness message (R446), its kind being its row. -/
structure WitnessMsg where
  role : Byte
  fgen : Word32
  pairId : Word
  beat : Word
  nonce : Word
  tag : Pair
  deriving DecidableEq, Repr

/-- What the BMU answers at a hold-up stage: MFR_SOURCE and MFR_RESERVE (R465, R466). -/
structure BmuAnswer where
  source : Byte
  reserve : BitVec 16
  deriving DecidableEq, Repr

/-- What starts a cold or warm reset (R486). -/
inductive ResetCause where
  | powerSequence | boardInput | command | lifeCycle
  deriving DecidableEq, Repr

/-- The commands of the block. -/
inductive Instr where
  /-- NOP, R72. -/
  | nop (k : Insn)
  /-- DUP, R72. -/
  | dup (k : Insn)
  /-- DROP, R72. -/
  | drop (k : Insn)
  /-- SWAP, R72. -/
  | swap (k : Insn)
  /-- OVER, R72. -/
  | over (k : Insn)
  /-- ROT, R72. -/
  | rot (k : Insn)
  /-- NIP, R72. -/
  | nip (k : Insn)
  /-- TUCK, R72. -/
  | tuck (k : Insn)
  /-- DUP_2, R72. -/
  | dup2 (k : Insn)
  /-- DROP_2, R72. -/
  | drop2 (k : Insn)
  /-- SWAP_2, R72. -/
  | swap2 (k : Insn)
  /-- OVER_2, R72. -/
  | over2 (k : Insn)
  /-- TO_R, R72. -/
  | toR (k : Insn)
  /-- R_FROM, R72. -/
  | rFrom (k : Insn)
  /-- R_FETCH, R72. -/
  | rFetch (k : Insn)
  /-- RDROP, R72. -/
  | rdrop (k : Insn)
  /-- LIT8, R72. -/
  | lit8 (k : Insn) (imm : BitVec 8)
  /-- LIT16, R72. -/
  | lit16 (k : Insn) (imm : BitVec 16)
  /-- LIT32, R72. -/
  | lit32 (k : Insn) (imm : BitVec 32)
  /-- LIT64, R72. -/
  | lit64 (k : Insn) (imm : BitVec 64)
  /-- PICK, R75. -/
  | pick (k : Insn) (n : BitVec 8)
  /-- DEPTH, R76. -/
  | depth (k : Insn)
  /-- ADD, R78. -/
  | add (k : Insn)
  /-- SUB, R78. -/
  | sub (k : Insn)
  /-- MUL, R78. -/
  | mul (k : Insn)
  /-- MULH, R78. -/
  | mulh (k : Insn)
  /-- MULHU, R78. -/
  | mulhu (k : Insn)
  /-- DIV, R79. -/
  | div (k : Insn)
  /-- DIVU, R79. -/
  | divu (k : Insn)
  /-- REM, R79. -/
  | rem (k : Insn)
  /-- REMU, R79. -/
  | remu (k : Insn)
  /-- NEG, R78. -/
  | neg (k : Insn)
  /-- ADC, R78. -/
  | adc (k : Insn)
  /-- SBC, R78. -/
  | sbc (k : Insn)
  /-- CMP, R78. -/
  | cmp (k : Insn)
  /-- TST, R78. -/
  | tst (k : Insn)
  /-- INC, R78. -/
  | inc (k : Insn)
  /-- DEC, R78. -/
  | dec (k : Insn)
  /-- ADDI, R78. -/
  | addi (k : Insn) (imm : AddImm)
  /-- CMPI, R78. -/
  | cmpi (k : Insn) (imm : BitVec 16)
  /-- AND, R80. -/
  | andB (k : Insn)
  /-- OR, R80. -/
  | orB (k : Insn)
  /-- XOR, R80. -/
  | xorB (k : Insn)
  /-- NOT, R80. -/
  | notB (k : Insn)
  /-- ANDN, R80. -/
  | andn (k : Insn)
  /-- SHL, R80. -/
  | shl (k : Insn)
  /-- SHR, R80. -/
  | shr (k : Insn)
  /-- SAR, R80. -/
  | sar (k : Insn)
  /-- ROL, R80. -/
  | rol (k : Insn)
  /-- ROR, R80. -/
  | ror (k : Insn)
  /-- CLZ, R80. -/
  | clz (k : Insn)
  /-- CTZ, R80. -/
  | ctz (k : Insn)
  /-- POPC, R80. -/
  | popc (k : Insn)
  /-- BSWAP, R80. -/
  | bswap (k : Insn)
  /-- SXW, R80. -/
  | sxw (k : Insn)
  /-- ZXW, R80. -/
  | zxw (k : Insn)
  /-- SHLI, R80. -/
  | shli (k : Insn) (imm : BitVec 8)
  /-- SHRI, R80. -/
  | shri (k : Insn) (imm : BitVec 8)
  /-- SARI, R80. -/
  | sari (k : Insn) (imm : BitVec 8)
  /-- RDSR, R81. -/
  | rdsr (k : Insn) (n : BitVec 8)
  /-- WRSR, R81. -/
  | wrsr (k : Insn) (n : BitVec 8)
  /-- RDTOD, R83. -/
  | rdtod (k : Insn)
  /-- WRKRR, R84. -/
  | wrkrr (k : Insn)
  /-- LDB, R85. -/
  | ldb (k : Insn) (d : Option (BitVec 16))
  /-- LDBS, R85. -/
  | ldbs (k : Insn) (d : Option (BitVec 16))
  /-- LDH, R85. -/
  | ldh (k : Insn) (d : Option (BitVec 16))
  /-- LDHS, R85. -/
  | ldhs (k : Insn) (d : Option (BitVec 16))
  /-- LDW, R85. -/
  | ldw (k : Insn) (d : Option (BitVec 16))
  /-- LDWS, R85. -/
  | ldws (k : Insn) (d : Option (BitVec 16))
  /-- LDD, R85. -/
  | ldd (k : Insn) (d : Option (BitVec 16))
  /-- LDP, R85. -/
  | ldp (k : Insn)
  /-- STB, R85. -/
  | stb (k : Insn) (d : Option (BitVec 16))
  /-- STH, R85. -/
  | sth (k : Insn) (d : Option (BitVec 16))
  /-- STW, R85. -/
  | stw (k : Insn) (d : Option (BitVec 16))
  /-- STD, R85. -/
  | std (k : Insn) (d : Option (BitVec 16))
  /-- STP, R85. -/
  | stp (k : Insn)
  /-- LDR, R88. -/
  | ldr (k : Insn)
  /-- STC, R88. -/
  | stc (k : Insn)
  /-- FENCE, R89. -/
  | fence (k : Insn)
  /-- ISYNC, R90. -/
  | isync (k : Insn)
  /-- LDI, R91. -/
  | ldi (k : Insn)
  /-- STI, R91. -/
  | sti (k : Insn)
  /-- BR, R93. -/
  | br (k : Insn) (b : Branch16)
  /-- BZ, R93. -/
  | bz (k : Insn) (b : Branch16)
  /-- BNZ, R93. -/
  | bnz (k : Insn) (b : Branch16)
  /-- BEQ, R64. -/
  | beq (k : Insn) (b : Branch16)
  /-- BNE, R64. -/
  | bne (k : Insn) (b : Branch16)
  /-- BLT, R64. -/
  | blt (k : Insn) (b : Branch16)
  /-- BGE, R64. -/
  | bge (k : Insn) (b : Branch16)
  /-- BGT, R64. -/
  | bgt (k : Insn) (b : Branch16)
  /-- BLE, R64. -/
  | ble (k : Insn) (b : Branch16)
  /-- BLTU, R64. -/
  | bltu (k : Insn) (b : Branch16)
  /-- BGEU, R64. -/
  | bgeu (k : Insn) (b : Branch16)
  /-- BGTU, R64. -/
  | bgtu (k : Insn) (b : Branch16)
  /-- BLEU, R64. -/
  | bleu (k : Insn) (b : Branch16)
  /-- BVS, R64. -/
  | bvs (k : Insn) (b : Branch16)
  /-- BVC, R64. -/
  | bvc (k : Insn) (b : Branch16)
  /-- CALL, R93. -/
  | call (k : Insn) (b : Branch16)
  /-- JMPL, R93. -/
  | jmpl (k : Insn) (b : Branch32)
  /-- CALLL, R93. -/
  | calll (k : Insn) (b : Branch32)
  /-- JMPI, R93. -/
  | jmpi (k : Insn) (b : BranchInd)
  /-- CALLI, R93. -/
  | calli (k : Insn) (b : BranchInd)
  /-- RET, R93. -/
  | ret (k : Insn) (b : BranchInd)
  /-- SVC, R95. -/
  | svc (k : Insn) (imm : BitVec 8)
  /-- RETT, R152. -/
  | rett (k : Insn)
  /-- WAIT, R97. -/
  | wait (k : Insn)
  /-- MOVS, R110. -/
  | movs (k : Insn)
  /-- CMPS, R110. -/
  | cmps (k : Insn)
  /-- FILLS, R110. -/
  | fills (k : Insn)
  /-- SCANS, R110. -/
  | scans (k : Insn)
  /-- XLATS, R110. -/
  | xlats (k : Insn)
  /-- DMOVS, R110. -/
  | dmovs (k : Insn)
  /-- INW, R98. -/
  | inw (k : Insn)
  /-- IND, R98. -/
  | ind (k : Insn)
  /-- OUTW, R98. -/
  | outw (k : Insn)
  /-- OUTD, R98. -/
  | outd (k : Insn)
  /-- STARTIO, R103. -/
  | startio (k : Insn)
  /-- HALTIO, R303. -/
  | haltio (k : Insn)
  /-- TESTIO, R104. -/
  | testio (k : Insn)
  /-- INVPG, R175. -/
  | invpg (k : Insn)
  /-- INVTAG, R175. -/
  | invtag (k : Insn)
  /-- INVALL, R175. -/
  | invall (k : Insn)
  /-- SPILLD, R108. -/
  | spilld (k : Insn)
  /-- SPILLR, R108. -/
  | spillr (k : Insn)
  /-- FADD, R129. -/
  | fadd (k : Insn) (w : FpWidth)
  /-- FSUB, R129. -/
  | fsub (k : Insn) (w : FpWidth)
  /-- FMUL, R129. -/
  | fmul (k : Insn) (w : FpWidth)
  /-- FDIV, R129. -/
  | fdiv (k : Insn) (w : FpWidth)
  /-- FSQRT, R129. -/
  | fsqrt (k : Insn) (w : FpWidth)
  /-- FMA, R129. -/
  | fma (k : Insn) (w : FpWidth)
  /-- FNEG, R129. -/
  | fneg (k : Insn) (w : FpWidth)
  /-- FABS, R129. -/
  | fabs (k : Insn) (w : FpWidth)
  /-- FCMP, R130. -/
  | fcmp (k : Insn) (w : FpWidth)
  /-- FMIN, R131. -/
  | fmin (k : Insn) (w : FpWidth)
  /-- FMAX, R131. -/
  | fmax (k : Insn) (w : FpWidth)
  /-- FCLASS, R132. -/
  | fclass (k : Insn) (w : FpWidth)
  /-- FCVT_D_S, R129. -/
  | fcvtDS (k : Insn)
  /-- FCVT_S_D, R129. -/
  | fcvtSD (k : Insn)
  /-- FCVT_D_L, R129. -/
  | fcvtDL (k : Insn)
  /-- FCVT_D_LU, R129. -/
  | fcvtDLU (k : Insn)
  /-- FCVT_L_D, R133. -/
  | fcvtLD (k : Insn)
  /-- FCVT_LU_D, R133. -/
  | fcvtLUD (k : Insn)
  /-- FCVT_S_L, R129. -/
  | fcvtSL (k : Insn)
  /-- FCVT_S_LU, R129. -/
  | fcvtSLU (k : Insn)
  /-- FCVT_L_S, R133. -/
  | fcvtLS (k : Insn)
  /-- FCVT_LU_S, R133. -/
  | fcvtLUS (k : Insn)
  /-- DADD, R121. -/
  | dadd (k : Insn)
  /-- DSUB, R121. -/
  | dsub (k : Insn)
  /-- DCMP, R121. -/
  | dcmp (k : Insn)
  /-- DCHK, R122. -/
  | dchk (k : Insn)
  /-- DNEG, R121. -/
  | dneg (k : Insn)
  /-- CVBD, R121. -/
  | cvbd (k : Insn)
  /-- CVDB, R121. -/
  | cvdb (k : Insn)
  /-- DSHL, R121. -/
  | dshl (k : Insn)
  /-- DSHR, R121. -/
  | dshr (k : Insn)
  /-- RESERVED_INSTRUCTION, R60. -/
  | reservedInstruction (k : Insn) (r : ReservedOp)
  /-- TAKE_INTERRUPT, R139. -/
  | takeInterrupt (lcn : Nat)
  /-- ICISEND, R140. -/
  | iciSend (lcn : Nat) (v : Word)
  /-- DEVICE_RESPONSE, R99. -/
  | deviceResponse (lcn : Nat)
  /-- DEVICE_STORE_LOST, R100. -/
  | deviceStoreLost (lcn : Nat)
  /-- LOST_READ, R195. -/
  | lostRead (lcn : Nat)
  /-- STORE_PERFORMED, R180. -/
  | storePerformed (lcn : Nat) (idx : Nat)
  /-- HOLD_END, R202. -/
  | holdEnd (lcn : Nat)
  /-- INSTRUCTION_RETRY, R220. -/
  | instructionRetry (lcn : Nat) (e : RetryError) (issued : Option (BitVec 8))
  /-- MACHINE_CHECK_STORED_DATA, R526. -/
  | machineCheckStoredData (lcn : Nat) (line : Nat)
  /-- TIMER_MATCH, R459. -/
  | timerMatch (lcn : Nat) (i : Fin 2)
  /-- RDS, R251. -/
  | rds (agent : Nat) (line : Nat) (bad : Bool)
  /-- RDX, R251. -/
  | rdx (agent : Nat) (line : Nat) (bad : Bool)
  /-- UPG, R251. -/
  | upg (agent : Nat) (line : Nat) (bad : Bool)
  /-- HOLD, R261. -/
  | hold (agent : Nat) (line : Nat)
  /-- RDNA, R257. -/
  | rdna (agent : Nat) (line : Nat) (bad : Bool)
  /-- WRNA, R257. -/
  | wrna (agent : Nat) (line : Nat) (bytes : List (Nat × Byte))
  /-- WB, R262. -/
  | wb (agent : Nat) (line : Nat) (bad : Bool)
  /-- EVN, R262. -/
  | evn (agent : Nat) (line : Nat)
  /-- SNPS, R251. -/
  | snps (agent : Nat) (line : Nat)
  /-- SNPI, R251. -/
  | snpi (agent : Nat) (line : Nat)
  /-- SNPR, R251. -/
  | snpr (agent : Nat) (line : Nat)
  /-- BINV, R248. -/
  | binv (agent : Nat) (line : Nat)
  /-- LINE_DATA, R251. -/
  | lineData (agent : Nat) (line : Nat)
  /-- LINE_DATAE, R251. -/
  | lineDataE (agent : Nat) (line : Nat)
  /-- SNPACK, R254. -/
  | snpAck (agent : Nat) (line : Nat)
  /-- SNPDATA, R254. -/
  | snpData (agent : Nat) (line : Nat)
  /-- SLICE_ACK, R262. -/
  | sliceAck (agent : Nat) (line : Nat)
  /-- ACK_STALE, R262. -/
  | ackStale (agent : Nat) (line : Nat)
  /-- SLICE_RETRY, R250. -/
  | sliceRetry (agent : Nat) (line : Nat)
  /-- RETRY_RESEND, R250. -/
  | retryResend (agent : Nat) (line : Nat)
  /-- TLBI, R175. -/
  | tlbi (target : Nat) (issuer : Nat)
  /-- TLBA, R175. -/
  | tlba (sender : Nat) (issuer : Nat)
  /-- LINKACK, R253. -/
  | linkAck (station : Nat) (ring : Ring)
  /-- LINK_CRC_ERROR, R253. -/
  | linkCrcError (station : Nat) (ring : Ring)
  /-- VICTIM_RETRY, R259. -/
  | victimRetry (agent : Nat) (line : Nat)
  /-- FILTERED_MODE_CHANGE, R255. -/
  | filteredModeChange (e : FilterEvent)
  /-- HEDGEROW_ERROR, R256. -/
  | hedgerowError (core : Nat) (line : Nat)
  /-- WAY_DRAIN_COMPLETE, R263. -/
  | wayDrainComplete (slice : Nat) (way : Nat)
  /-- POOLWIN_LOCK, R265. -/
  | poolwinLock
  /-- WINDOW_LOCK_COMPLETE, R265. -/
  | windowLockComplete
  /-- RANGE_FLUSH, R268. -/
  | rangeFlush
  /-- RANGE_PURGE, R268. -/
  | rangePurge
  /-- RANGE_DONE, R268. -/
  | rangeDone
  /-- DRAM_LINE_READ, R276. -/
  | dramLineRead (line : Nat) (e : BurstErrors)
  /-- DRAM_LINE_WRITE, R276. -/
  | dramLineWrite (line : Nat) (e : BurstErrors)
  /-- SCRUB_LINE, R279. -/
  | scrubLine (group : Nat) (e : BurstErrors)
  /-- CHANNEL_FAIL, R281. -/
  | channelFail (channel : Nat) (cause : ChannelCause)
  /-- MEMORY_READY, R286. -/
  | memoryReady
  /-- ESTABLISH, R292. -/
  | establish (typ : BitVec 2) (g : Bool)
  /-- MODIFY, R292. -/
  | modify (typ : BitVec 2) (g : Bool)
  /-- REMOVE, R292. -/
  | remove (typ : BitVec 2) (g : Bool)
  /-- WRITE, R334. -/
  | ccwWrite (sch : Nat)
  /-- WRITE_COMMITTED, R314. -/
  | ccwWriteCommitted (sch : Nat)
  /-- READ, R334. -/
  | ccwRead (sch : Nat)
  /-- READ_JOURNALED, R299. -/
  | ccwReadJournaled (sch : Nat)
  /-- SEND_MESSAGE, R334. -/
  | ccwSendMessage (sch : Nat)
  /-- RECEIVE_MESSAGE, R299. -/
  | ccwReceiveMessage (sch : Nat)
  /-- CONTROL_CLOSE, R345. -/
  | controlClose (sch : Nat)
  /-- CONTROL_ABORT, R345. -/
  | controlAbort (sch : Nat)
  /-- CONTROL_QUERY, R345. -/
  | controlQuery (sch : Nat)
  /-- CONTROL_PING, R345. -/
  | controlPing (sch : Nat)
  /-- CONTROL_PARTNER, R345. -/
  | controlPartner (sch : Nat)
  /-- SENSE, R346. -/
  | ccwSense (sch : Nat)
  /-- BRANCH, R300. -/
  | ccwBranch (sch : Nat)
  /-- CCW_NOP, R295. -/
  | ccwNop (sch : Nat)
  /-- HELD_COMPLETION_WRITE, R310. -/
  | heldCompletionWrite (q : Nat)
  /-- CQ_ENABLE, R307. -/
  | cqEnable (q : Nat) (v : Word)
  /-- CQ_DISABLE, R307. -/
  | cqDisable (q : Nat) (v : Word)
  /-- JOURNAL_RESERVE, R431. -/
  | journalReserve
  /-- RECORD_DURABLE, R312. -/
  | recordDurable (gen : BitVec 32)
  /-- RECORD_RELEASE, R313. -/
  | recordRelease (gen : BitVec 32)
  /-- FRAME_RECEIVE, R358. -/
  | frameReceive (port : Nat) (f : EthFrame)
  /-- OPEN, R329. -/
  | scpOpen (sch : Nat) (f : ScpFrame)
  /-- OPEN_ACK, R329. -/
  | scpOpenAck (sch : Nat) (f : ScpFrame)
  /-- DATA, R330. -/
  | scpData (sch : Nat) (f : ScpFrame)
  /-- ACK, R331. -/
  | scpAck (sch : Nat) (f : ScpFrame)
  /-- NAK, R331. -/
  | scpNak (sch : Nat) (f : ScpFrame)
  /-- CLOSE, R329. -/
  | scpClose (sch : Nat) (f : ScpFrame)
  /-- CLOSE_ACK, R345. -/
  | scpCloseAck (sch : Nat) (f : ScpFrame)
  /-- KEEPALIVE, R329. -/
  | scpKeepalive (sch : Nat) (f : ScpFrame)
  /-- FENCE_FRAME, R339. -/
  | scpFence (sch : Nat) (f : ScpFrame)
  /-- FENCE_ACK, R339. -/
  | scpFenceAck (sch : Nat) (f : ScpFrame)
  /-- ERROR, R335. -/
  | scpError (sch : Nat) (f : ScpFrame)
  /-- OPEN_RESEND, R329. -/
  | openResend (sch : Nat)
  /-- KEEPALIVE_TIMER, R329. -/
  | keepaliveTimer (sch : Nat)
  /-- PATH_DEAD, R329. -/
  | pathDead (sch : Nat)
  /-- REOPEN, R329. -/
  | reopen (sch : Nat)
  /-- SCP_RETRANSMIT, R331. -/
  | scpRetransmit (sch : Nat)
  /-- DELAYED_ACK, R330. -/
  | delayedAck (sch : Nat)
  /-- FENCE_RESEND, R338. -/
  | fenceResend (sch : Nat)
  /-- TCP_SEGMENT, R341. -/
  | tcpSegment (sch : Nat) (g : TcpSegment)
  /-- TCP_RETRANSMIT_TIMEOUT, R341. -/
  | tcpRetransmitTimeout (sch : Nat)
  /-- LINK_DOWN, R351. -/
  | linkDown (port : Nat) (sub : Fin 4)
  /-- LINK_UP, R349. -/
  | linkUp (port : Nat) (sub : Fin 4) (fec : Bool)
  /-- PFC_FRAME, R359. -/
  | pfcFrame (port : Nat) (prio : Fin 8) (quanta : BitVec 16)
  /-- PFC_PAUSE_EXPIRY, R359. -/
  | pfcPauseExpiry (port : Nat) (prio : Fin 8)
  /-- ANNOUNCE_REPEAT, R356. -/
  | announceRepeat (port : Nat)
  /-- ETHCFG_WRITE, R361. -/
  | ethcfgWrite (port : Nat) (v : Word)
  /-- CZ_SUBMIT, R366. -/
  | czSubmit (slice : Nat) (tail : BitVec 16)
  /-- CZ_DESCRIPTOR_FETCH, R367. -/
  | czDescriptorFetch (engine : Fin 4)
  /-- COMPRESS, R373. -/
  | compress (engine : Fin 4)
  /-- DECOMPRESS, R374. -/
  | decompress (engine : Fin 4)
  /-- CZ_COMPLETE, R368. -/
  | czComplete (engine : Fin 4) (check : Bool)
  /-- CZ_ENABLE, R365. -/
  | czEnable (slice : Nat) (v : Word)
  /-- CZ_DISABLE, R380. -/
  | czDisable (slice : Nat) (v : Word)
  /-- LOAD, R383. -/
  | keyLoad (slice : Nat) (slot : Fin 64)
  /-- ERASE, R396. -/
  | keyErase (slice : Nat) (slot : Fin 64)
  /-- ERASE_ALL, R383. -/
  | keyEraseAll (slice : Nat) (slot : Fin 64)
  /-- CX_SUBMIT, R387. -/
  | cxSubmit (slice : Nat) (tail : BitVec 16)
  /-- CX_DESCRIPTOR_FETCH, R391. -/
  | cxDescriptorFetch (engine : Fin 8)
  /-- ENCRYPT, R386. -/
  | encrypt (engine : Fin 8)
  /-- DECRYPT, R392. -/
  | decrypt (engine : Fin 8)
  /-- MAC, R381. -/
  | macTag (engine : Fin 8)
  /-- VERIFY, R392. -/
  | macVerify (engine : Fin 8)
  /-- HASH, R393. -/
  | hashSha (engine : Fin 8)
  /-- CX_COMPLETE, R394. -/
  | cxComplete (engine : Fin 8) (check : Bool)
  /-- CX_ENABLE, R387. -/
  | cxEnable (slice : Nat) (v : Word)
  /-- CX_DISABLE, R398. -/
  | cxDisable (slice : Nat) (v : Word)
  /-- INSTALL, R400. -/
  | saInstall (sa : SaName)
  /-- SA_ACTIVATE, R400. -/
  | saActivate (sa : SaName)
  /-- TX_AN_SWITCH, R400. -/
  | txAnSwitch (p : Fin 2)
  /-- SA_RETIRE, R400. -/
  | saRetire (sa : SaName)
  /-- WEIR_EVENT, R405. -/
  | weirEvent (r : Option WeirReport)
  /-- WINDOW_ROLL, R404. -/
  | windowRoll (src : Nat)
  /-- STATUS_CLEAR, R413. -/
  | statusClear (src : Nat) (v : Word)
  /-- LOG_SELECT, R418. -/
  | logSelect (v : Word)
  /-- WEIR_PARITY_ERROR, R416. -/
  | weirParityError (logIntact : Bool)
  /-- SAFE_STATE, R414. -/
  | safeState
  /-- BEAT_OVERRUN, R37. -/
  | beatOverrun (u : OverrunUnit) (stage : BitVec 8) (n : Word)
  /-- SPARE_CORE, R422. -/
  | spareCore (tgt : BitVec 8)
  /-- SPARE_CP, R426. -/
  | spareCp (tgt : BitVec 8)
  /-- RESCUE, R154. -/
  | rescue (tgt : BitVec 8)
  /-- DUMP, R425. -/
  | dump (tgt : BitVec 8)
  /-- RETIRE, R432. -/
  | retire (tgt : BitVec 8)
  /-- PAIR_ACTIVE, R443. -/
  | pairActive (tgt : BitVec 8)
  /-- PAIR_STANDBY, R442. -/
  | pairStandby (tgt : BitVec 8)
  /-- LEAVE, R442. -/
  | leave (tgt : BitVec 8)
  /-- PROMOTE, R451. -/
  | promote (tgt : BitVec 8)
  /-- HANDOVER, R451. -/
  | handover (tgt : BitVec 8)
  /-- CORE_SPARING, R423. -/
  | coreSparing (lcn : Nat) (bad : List Nat)
  /-- SPARE_CONFIRMATION_FAIL, R423. -/
  | spareConfirmationFail (slot : Fin 8)
  /-- CP_SPARING, R426. -/
  | cpSparing (lcp : Nat)
  /-- SELF_TEST_PASS, R421. -/
  | selfTestPass (slot : Fin 8) (r : SelfTest)
  /-- CONTROL_AREA_WRITE, R428. -/
  | controlAreaWrite
  /-- DELTA_SHIP, R438. -/
  | deltaShip
  /-- HEARTBEAT_SEND, R444. -/
  | heartbeatSend
  /-- HEALTH_SEND, R445. -/
  | healthSend
  /-- HEARTBEAT, R444. -/
  | heartbeat (port : Fin 2) (h : HeartbeatMsg)
  /-- HEALTH, R445. -/
  | health (h : HealthMsg)
  /-- DELTA, R437. -/
  | delta (h : MirrorHead) (beat : Word) (entries : List DeltaEntry)
  /-- DELTA_END, R439. -/
  | deltaEnd (h : MirrorHead) (beat : Word) (e : DeltaEndMsg)
  /-- DELTA_ACK_SEND, R439. -/
  | deltaAckSend
  /-- DELTA_ACK, R439. -/
  | deltaAck (h : MirrorHead) (beat : Word)
  /-- PAIRED_ENTRY, R442. -/
  | pairedEntry
  /-- MIRROR_HORIZON_MISS, R441. -/
  | mirrorHorizonMiss (beat : Word)
  /-- DYING_GASP, R448. -/
  | dyingGasp (g : GaspMsg)
  /-- HEARTBEAT_LOSS, R448. -/
  | heartbeatLoss
  /-- TAKEOVER_CONFIRM, R448. -/
  | takeoverConfirm (m : WitnessMsg)
  /-- TAKEOVER_DENY, R448. -/
  | takeoverDeny (m : WitnessMsg)
  /-- SOLO_GRANT, R441. -/
  | soloGrant (m : WitnessMsg)
  /-- SOLO_DENY, R441. -/
  | soloDeny (m : WitnessMsg)
  /-- SAFE_REQ, R499. -/
  | safeReq (m : WitnessMsg)
  /-- WITNESS_RESEND, R446. -/
  | witnessResend
  /-- TAKEOVER, R449. -/
  | takeover
  /-- GUARDED_REGION_WRITE, R434. -/
  | guardedRegionWrite (r : Fin 16) (v : Word)
  /-- BEAT_BOUNDARY, R32. -/
  | beatBoundary
  /-- REFERENCE_LOSS, R457. -/
  | referenceLoss
  /-- REFERENCE_RETURN, R457. -/
  | referenceReturn
  /-- PPS_EDGE, R458. -/
  | ppsEdge
  /-- PPS_LOSS, R458. -/
  | ppsLoss
  /-- TOD_SET, R456. -/
  | todSet
  /-- TOD_LOAD, R456. -/
  | todLoad
  /-- SENSOR_SAMPLE, R462. -/
  | sensorSample (n : Fin 512) (v : BitVec 16)
  /-- THERMAL_LOOP, R464. -/
  | thermalLoop
  /-- HOLDUP, R466. -/
  | holdup (a : Option BmuAnswer)
  /-- POWER_STABLE_CHANGE, R466. -/
  | powerStableChange
  /-- RAIL_WINDOW_EXIT, R466. -/
  | railWindowExit (rail : Fin 32)
  /-- POWER_DOWN_ACCEPT, R468. -/
  | powerDownAccept (lcn : Nat)
  /-- REGULATORS_OFF, R468. -/
  | regulatorsOff
  /-- POWER_SEQUENCE, R514. -/
  | powerSequence
  /-- SEQUENCE_FAIL, R515. -/
  | sequenceFail (rail : Fin 32)
  /-- SEQUENCE_RETRY, R515. -/
  | sequenceRetry
  /-- PWRON_FALL, R516. -/
  | pwronFall
  /-- COLD_RESET, R492. -/
  | coldReset (c : ResetCause) (r : StartTest)
  /-- WARM_RESET, R495. -/
  | warmReset (c : ResetCause) (r : StartTest)
  /-- CORE_RESET, R496. -/
  | coreReset (issuer : Nat) (tgt : BitVec 8) (pass : Bool) (bad : List Nat)
  /-- MCL_VERIFY, R241. -/
  | mclVerify
  /-- VERIFY_COMPLETE, R243. -/
  | verifyComplete
  /-- MCL_ACTIVATE, R244. -/
  | mclActivate
  /-- MICROCODE_ACTIVATION, R244. -/
  | microcodeActivation
  /-- CHANGE, R502. -/
  | lcChange (confirm : BitVec 32) (target : BitVec 3)
  /-- RAISE_BSVN, R504. -/
  | raiseBsvn (confirm : BitVec 32) (target : BitVec 3)
  /-- RAISE_MSVN, R504. -/
  | raiseMsvn (confirm : BitVec 32) (target : BitVec 3)
  /-- ENABLE, R474. -/
  | sliceEnable (slice : Nat)
  /-- FREEZE, R476. -/
  | sliceFreeze (slice : Nat)
  /-- FREEZE_COMPLETE, R476. -/
  | freezeComplete (slice : Nat)
  /-- THAW, R478. -/
  | sliceThaw (slice : Nat)
  /-- SAVE, R479. -/
  | sliceSave (slice : Nat)
  /-- RESTORE, R482. -/
  | sliceRestore (slice : Nat)
  /-- SLICE_BUSY_END, R474. -/
  | sliceBusyEnd
  /-- RELEASE, R483. -/
  | sliceRelease (slice : Nat)
  /-- READ_CLEAR, R11. -/
  | readClear (lcn : Nat) (port : BitVec 32)
  /-- REGISTER_WRITE, R11. -/
  | registerWrite (lcn : Nat) (port : BitVec 32) (v : Word)
  /-- STANDBY_SUPPLY_LOSS, R517. -/
  | standbySupplyLoss (rail : Fin 2)
  /-- STANDBY_SUPPLY_ON, R512. -/
  | standbySupplyOn
  /-- KEY_SLOT_ECC_ERROR, R384. -/
  | keySlotEccError (slice : Nat) (slot : Fin 64)
  deriving DecidableEq, Repr

end Sys2Proof
end

