-- ==== Sys2Proof/Config.lean ====
section
/-! DEFINITION. What one module fixes for itself, and the values that the spec leaves open. -/

namespace Sys2Proof.Config

/-- A value that the spec leaves open, one for each index. Nothing in the model knows what it is (log 8). -/
opaque freeValue : Nat → BitVec 64

/-- The second-level TLB set of a leaf (R173): page number, size, side and PID tag. The spec does not give the index (log 18). -/
opaque tlbSet : Nat → Nat → Bool → Nat → Nat

/-- Which of several TLB entries that hold one address is used (R165): an index below the number of candidates, by address (log 18). -/
opaque tlbChoice : BitVec 64 → Nat → Nat

/-- The ECC field of a directory entry, of its TAG, V, D, X, P and PV (R246). The spec names a SEC-DED code and not its matrix (log 142). -/
opaque dirCode : Nat → Bool → Bool → Bool → Bool → List Nat → BitVec 10

/-- The ROM identifier in MCVER[63:48] (R240, log 6). -/
def romId : BitVec 16 := 0x0001

/-- The module's base MAC address (R353, log 6). -/
def macBase : BitVec 48 := 0x02D7A1000000

/-- The match, as length and distance, that the compressor takes at a place of a stream (R373): of LEVEL, the bytes before the place and those from it on. The spec fixes the format and that equal descriptors give equal bytes (R364), not the matches (log 41). -/
opaque deflateMatch : Nat → List (BitVec 8) → List (BitVec 8) → Nat × Nat

/-- The header bits of a dynamic block, which carry its codes, of the block's symbols (R373, log 41). -/
opaque deflateHeader : List (Nat × Nat) → List Bool

/-- The bytes that the compressor adds to a DEFLATE stream whose context block a program has stored into (R372). Arguments: the context block, LEVEL, the input, FLUSH and LAST (log 41). -/
opaque deflate : List (BitVec 8) → Nat → List (BitVec 8) → Bool → Bool → List (BitVec 8)

/-- The bytes WORK and SYMS of the context block that the compressor leaves, of the same arguments; for a context of such a stream its counts and pending bits as well (R371, log 41). -/
opaque deflateState : List (BitVec 8) → Nat → List (BitVec 8) → Bool → Bool → List (BitVec 8)

/-- A byte of the keystream that masks the staging area (R392): of the staging key drawn at the last reset and the address (log 164). -/
opaque stagingStream : BitVec 64 → Nat → BitVec 8

/-- The stepping of the module, B0 (R239, R508, log 6): bit 1 of STEPMASK. -/
def stepping : Nat := 1

/-- The Daxlor public key, an uncompressed P-384 point (R239): it stands in the part, not in the spec (log 59). -/
opaque daxlorKey : List (BitVec 8)

/-- The ECC field of a microword, of its bits [175:16] (R232): the spec names a SEC-DED code and not its matrix (log 59). -/
opaque microEcc : BitVec 160 → BitVec 16

/-- Whether the fields that belong to the ROM's decoder hold values that it assigns (R232, R241): not architectural (log 59). -/
opaque microFields : BitVec 176 → Bool

/-- The ECC field of a checkpoint word (R217): eight bits whose code the spec does not give (log 154). -/
opaque checkEcc : BitVec 64 → BitVec 8

/-- The ROM of the control store (R230): the spec gives no word of it (log 151). -/
opaque romWord : Nat → BitVec 176

/-- The micro-ALU's result of a word, when a sequence issues it as its i-th; its operands and operations are not architectural (R232, log 151). -/
opaque microResult : BitVec 176 → BitVec 64 → Nat → BitVec 64

/-- The sequence number with which each side of the Leat link begins when LEAT rises (R437): the spec gives none (log 158). -/
opaque leatStart : BitVec 32

/-- WIN of the frames of the mirror class (R325, R437): the spec gives the Leat link no receive area that sets it (log 158). -/
opaque leatWin : BitVec 16

/-- Which port answers at 0x00F0_0200 to 0x00F0_0278, where the spec puts both CTMAP32-47 and CTCPMAP0-15: the second where true (log 62). -/
opaque overlapIsCp : Bool

/-- The device-unique key that a seed and a key group give (21 R503): the derivation is not stated (log 166). -/
opaque deviceKey : BitVec 256 → Nat → BitVec 512

end Sys2Proof.Config
end

