-- ==== Sys2Proof/Machine/StateCore.lean ====
section
/-! DEFINITION. The state of one logical core, as plain data. -/

namespace Sys2Proof.Machine

/-- The states of R142, and ABSENT of R425. -/
inductive RunState where
  | running | waiting | stalled | checkstopped | paused | absent
  deriving DecidableEq, Repr

/-- One of the two stacks: its cached entries, the top first, and its three registers (R40, R47). -/
structure StackRegs where
  cache : List Word
  ptr : Word
  lo : Word
  hi : Word
  deriving DecidableEq, Repr

/-- A retired store that is not yet performed (R180): physical address of its first byte, its bytes in ascending order, and its REL mark (R186). -/
structure StoreEntry where
  addr : Nat
  bytes : List Byte
  rel : Bool
  deriving DecidableEq, Repr

/-- An outstanding access to a unit (R99, R194, R195): the port, the value of a device store, its width, and the beat and the reference cycle of issue. -/
structure PortAccess where
  port : BitVec 32
  value : Word
  wide : Bool
  issued : Word
  cycle : Nat
  deriving DecidableEq, Repr

/-- A selected exception or interrupt with everything that its TSB records (R137, R147, R148). -/
structure Exc where
  vec : Nat
  level : Nat
  sync : Bool
  pc : Word
  sub : Byte
  cause : Half
  faddr : Word
  info : Word
  opc : List Byte
  ilen : Nat
  orig : Nat
  nr : Bool
  imp : Bool
  more : Bool
  deriving DecidableEq, Repr

/-- A cached leaf (R173). -/
structure TlbEntry where
  pid : Half
  instr : Bool
  page : Nat
  size : Nat
  pa : Nat
  r : Bool
  w : Bool
  x : Bool
  u : Bool
  g : Bool
  d : Bool
  key : Nat
  ea : Nat
  deriving DecidableEq, Repr

/-- A cached pointer entry (R173): the level it stands at, the address bits above its span, the table it names, its key and its own address. -/
structure WalkEntry where
  pid : Half
  instr : Bool
  level : Nat
  span : Nat
  next : Nat
  key : Nat
  ea : Nat
  deriving DecidableEq, Repr

/-- The reservation (R200): the address of its LDR and the granule. -/
structure Reservation where
  va : Word
  granule : Nat
  deriving DecidableEq, Repr

/-- The hold of an LDR (R202): the line and the instructions that may still retire. -/
structure HoldMark where
  line : Nat
  left : Nat
  deriving DecidableEq, Repr

/-- A machine check of cause 2 that is pending (R526): the line and the Weir source. -/
structure PendingCheck where
  line : Nat
  src : Nat
  deriving DecidableEq, Repr

/-- A Device-Store-Lost that is pending (R144). -/
structure PendingDsl where
  port : BitVec 32
  more : Bool
  deriving DecidableEq, Repr

/-- A timer comparator (R459): TCMP, TCTL, and its value at the end of the previous beat (R36). -/
structure Timer where
  cmp : Word
  ctl : Word
  prevCmp : Word
  prevCtl : Word
  deriving DecidableEq, Repr

/-- The kinds of translation invalidation (R175). -/
inductive InvKind where
  | page (va : Word) (pid : Half)
  | tag (pid : Half)
  | all
  deriving DecidableEq, Repr

/-- An invalidation that waits for the cores that have not acknowledged it, and the TLBI messages still on their way (R175). -/
structure Invalidation where
  kind : InvKind
  toReach : List Nat
  toAck : List Nat
  deriving DecidableEq, Repr

/-- A performance counter (R226-R228). -/
structure PerfCounter where
  ctl : Word
  cnt : BitVec 48
  deriving DecidableEq, Repr

/-- The translation caches of a core (R173), the most recently used entry first. -/
structure Tlbs where
  itlb : List TlbEntry
  dtlb : List TlbEntry
  l2 : List TlbEntry
  walk : List WalkEntry
  deriving DecidableEq, Repr

/-- One logical core (02, 05, 07, 08). waits marks a core that was WAITING when it was paused (R221, R424). l1i and l1d are the lines of the two L1s, the latest used first; due holds the events of the instruction in progress that its retirement counts (R227); ioWait the opcode of an instruction that waits for the response to an older device store (R99); strProgress records a repeated string instruction with elements left (R217); upc, ustack and work are the microaddress, the microstack and the working state that a sequencing error left (R217, R233, R235). -/
structure Core where
  run : RunState
  pcn : Nat
  sparing : Bool
  waits : Bool
  ds : StackRegs
  rs : StackRegs
  pc : Word
  delay : Bool
  npc : Word
  slotFresh : Bool
  psw : Word
  tsbr : Word
  vbr : Word
  iroot : Word
  droot : Word
  pid : Half
  krr : Word32
  mcver : Word
  cnt : Word
  src : Word
  dst : Word
  fpc : Word32
  cyc : Word
  perf : List PerfCounter
  resv : Option Reservation
  hold : Option HoldMark
  sb : List StoreEntry
  devStore : Option PortAccess
  devRead : Option PortAccess
  mca : Option PendingCheck
  dsl : Option PendingDsl
  ici : Bool
  swi : Bool
  iciSrc : BitVec 48
  timers : List Timer
  stalled : Option Exc
  retries : Nat
  withdrawn : List Nat
  l1i : List Nat
  l1d : List Nat
  due : List Nat
  ioWait : Option (List Byte)
  strProgress : Bool
  upc : Half
  ustack : List Half
  work : List Word
  tlb : Tlbs
  inval : Option Invalidation
  deriving DecidableEq, Repr

/-- A stack with the reset values of R47. -/
def StackRegs.reset : StackRegs := { cache := [], ptr := 0, lo := 0, hi := 0 }

/-- A comparator at its reset values (R459). -/
def Timer.reset : Timer := { cmp := 0, ctl := 0, prevCmp := 0, prevCtl := 0 }

/-- A counter at its reset values. -/
def PerfCounter.reset : PerfCounter := { ctl := 0, cnt := 0 }

/-- Empty translation caches (R174). -/
def Tlbs.empty : Tlbs := { itlb := [], dtlb := [], l2 := [], walk := [] }

/-- PSW after reset (R47): S = 1 and ML = 7. -/
def pswReset : Word := 0x1700

/-- A logical core with the reset values of R47 and R493, served by physical core p: pc, vbr and the TSB area are the three handover registers. -/
def Core.reset (p : Nat) (mcver pc vbr tsbr : Word) : Core :=
  { run := .running, pcn := p, sparing := false, waits := false, ds := .reset, rs := .reset,
    pc := pc, delay := false, npc := 0, slotFresh := false, psw := pswReset, tsbr := tsbr, vbr := vbr,
    iroot := 0, droot := 0, pid := 0, krr := 0, mcver := mcver,
    cnt := 0, src := 0, dst := 0, fpc := 0, cyc := 0,
    perf := List.replicate 8 PerfCounter.reset,
    resv := none, hold := none, sb := [], devStore := none, devRead := none,
    mca := none, dsl := none, ici := false, swi := false, iciSrc := 0,
    timers := List.replicate 2 Timer.reset, stalled := none, retries := 0,
    withdrawn := [], l1i := [], l1d := [], due := [], ioWait := none, strProgress := false, upc := 0, ustack := [], work := List.replicate 43 0, tlb := .empty, inval := none }

/-- An LCN that no core serves (R29, R425). -/
def Core.absent : Core := { Core.reset 255 0 0 0 0 with run := .absent }

end Sys2Proof.Machine
end

