-- ==== Sys2Proof/Machine/StateNet.lean ====
section
/-! DEFINITION. The state of the Ethernet ports and of the transports' connections, as plain data. -/

namespace Sys2Proof.Machine

/-- The mirror messages that Leat carries (R437). -/
inductive MirrorMsg where
  | heartbeat (h : HeartbeatMsg)
  | health (h : HealthMsg)
  | delta (beat : Word) (entries : List DeltaEntry)
  | deltaEnd (beat : Word) (e : DeltaEndMsg)
  | deltaAck (beat : Word)
  | gasp (g : GaspMsg)
  deriving DecidableEq, Repr

/-- The addresses of IP and the ports above it (R322, R323). DF is set on IPv4, and the checksum of UDP or TCP is generated (R322). -/
structure IpHead where
  v6 : Bool
  sip : Pair
  dip : Pair
  sport : BitVec 16
  dport : BitVec 16
  df : Bool
  deriving DecidableEq, Repr

/-- What a frame of the mirror class carries after its header (R326, R437). -/
inductive MirrorBody where
  | msg (m : MirrorMsg)
  | ack
  | nak (lo hi : Word32)
  deriving DecidableEq, Repr

/-- What a transmitted frame carries. A frame of the mirror class has the header of R325 with CLASS 0b10 and DCID, SCID and FGEN zero (R336, R437); an announcement is a gratuitous ARP, or an unsolicited Neighbor Advertisement with the override flag where v6 (R356). -/
inductive OutBody where
  | scp (ip : Option IpHead) (f : ScpFrame)
  | tcp (ip : IpHead) (g : TcpSegment)
  | announce (v6 : Bool) (lip : Pair)
  | answer (q : LocalQuery) (lip : Pair)
  | pfc (prio : Nat) (quanta : BitVec 16)
  | leat (h : MirrorHead) (b : MirrorBody)
  deriving DecidableEq, Repr

/-- A frame that a port has transmitted, with its sublink in breakout mode (R350): the model's record of what left the module. The destination address is none where the spec gives none (log 159). -/
structure OutFrame where
  port : Nat
  sub : Nat
  smac : BitVec 48
  dmac : Option (BitVec 48)
  prio : Nat
  vid : BitVec 12
  body : OutBody
  deriving DecidableEq, Repr

/-- One Ethernet port (14): its writable ports, its link, the priorities paused by the partner with the quanta given, its counters, the announcements still due (R356), the priorities that it has paused at the partner (R359), and the subchannel served last at each priority (R360). -/
structure EthPort where
  mtu : BitVec 14
  mgmt : Bool
  mode : BitVec 3
  leat : Bool
  fec : BitVec 2
  subup : BitVec 4
  link : Bool
  mac : BitVec 48
  pfcEn : BitVec 7
  paused : List (Nat × BitVec 16)
  cnt : List Word
  announce : List Word
  pausing : List Nat
  turn : List (Nat × Nat)
  deriving DecidableEq, Repr

/-- A sequenced mirror message that its sender keeps until ACK covers it (R331, R437). -/
structure LeatTx where
  seq : Word32
  msg : MirrorMsg
  sent : Bool
  deriving DecidableEq, Repr

/-- The SCP state of the Leat link (R437): its sequence numbers, the messages sent and kept, and what R330 and R331 time. -/
structure LeatLink where
  sndNxt : Word32
  sndUna : Word32
  rcvNxt : Word32
  pwin : BitVec 16
  tx : List LeatTx
  kept : List (Word32 × MirrorMsg)
  naks : List (Word32 × Word32 × Word)
  ackBeat : Word
  ackDue : Option Word
  turn : Nat
  deriving DecidableEq, Repr

/-- The Ethernet complex. -/
structure Eth where
  ports : List EthPort
  link : LeatLink
  sent : List OutFrame
  deriving DecidableEq, Repr

/-- A DATA frame that its sender keeps until ACK covers it (R331). -/
structure TxFrame where
  seq : Word32
  first : Bool
  last : Bool
  xid : Word32
  payload : List Byte
  sent : Bool
  deriving DecidableEq, Repr

/-- What an outbound exchange serves. -/
inductive ExchangeUse where
  | command (op : Nat)
  /-- the write of a WRITE-COMMITTED, with its record once that is accepted (R314) -/
  | background (op : Nat) (gen : Option Word32)
  | message (op : Nat) (gen : Word32)
  | witness
  /-- its command has ended before CXID covers it (R333, R335) -/
  | spent
  deriving DecidableEq, Repr

/-- An outbound exchange that CXID does not cover (R332, R333), with the number of its first frame. -/
structure OutExchange where
  xid : Word32
  seq : Word32
  xop : Nat
  total : Nat
  aux : Word
  tag : Word
  data : List Byte
  use : ExchangeUse
  deriving DecidableEq, Repr

/-- An inbound exchange: assembled from FIRST to LAST, then waiting for its commit or its delivery. -/
structure InExchange where
  xid : Word32
  xop : Nat
  total : Nat
  aux : Word
  tag : Word
  data : List Byte
  complete : Bool
  gen : Option Word32
  released : Bool
  delivered : Bool
  committed : Bool
  area : Nat
  deriving DecidableEq, Repr

/-- A segment's worth of unacknowledged or unsent message bytes on a TCP connection: the sequence number of the first byte, the bytes, the record that covers them, and whether the present loss recovery has sent them again. -/
structure TcpChunk where
  seq : Word32
  data : List Byte
  sent : Bool
  sacked : Bool
  resent : Bool
  op : Option Nat
  gen : Option Word32
  deriving DecidableEq, Repr

/-- The states of a TCP connection (RFC 9293, R341). -/
inductive TcpPhase where
  | closed | listen | synSent | synReceived | established | finWait1 | finWait2 | closing | timeWait | closeWait | lastAck
  deriving DecidableEq, Repr

/-- The working state of message TCP (R341-R344). -/
structure Tcp where
  phase : TcpPhase
  iss : Word32
  irs : Word32
  pport : BitVec 16
  mss : Nat
  sndEnd : Word32
  got : Word32
  timer : Word
  chunks : List TcpChunk
  ahead : List (Word32 × List Byte)
  inbound : List Byte
  finAt : Option Word32
  finSent : Option Word32
  cwnd : Nat
  ssthresh : Nat
  dupAcks : Nat
  srtt : Nat
  rttvar : Nat
  timed : Option (Word32 × Word)
  backoffs : Nat
  tsRecent : Word32
  tsOn : Bool
  wsOn : Bool
  sackOn : Bool
  recover : Option Word32
  wl1 : Word32
  wl2 : Word32
  deriving DecidableEq, Repr

/-- One connection (R323): the configuration copy of the last opening, the state part with its working bytes as last written, and the transport's working state. -/
structure Conn where
  cfg : List Byte
  typ : Nat
  guarded : Bool
  jin : Bool
  slice : Nat
  port : Nat
  prio : Nat
  cb : Nat
  pstate : Nat
  lastReason : Half
  lcid : Word32
  pcid : Word32
  sndNxt : Word32
  sndUna : Word32
  rcvNxt : Word32
  xidOut : Word32
  cxidIn : Word32
  cxidOut : Word32
  pfgen : Word32
  pwin : Word32
  rxHead : Word32
  rxTail : Word32
  shifts : Byte
  pmax : Nat
  used : Nat
  udpPort : BitVec 16
  tx : List TxFrame
  kept : List ScpFrame
  outEx : List OutExchange
  inEx : List InExchange
  rto : Nat
  ackBeat : Word
  sentBeat : Word
  rcvdBeat : Word
  openBeat : Word
  ackDue : Option Word
  naks : List (Word32 × Word32 × Word)
  reopenAt : Option Word
  noReopen : Bool
  closeSent : Bool
  stale : Bool
  work : List Byte
  openAck : Option ScpFrame
  tcp : Option Tcp
  deriving DecidableEq, Repr

/-- A port at its reset values (14), p being its number. -/
def EthPort.reset (p : Nat) : EthPort :=
  { mtu := 9216, mgmt := false, mode := 0, leat := false, fec := 0, subup := 0, link := false,
    mac := Config.macBase + BitVec.ofNat 48 p, pfcEn := 0, paused := [], cnt := List.replicate 12 0, announce := [], pausing := [], turn := [] }

/-- The Leat link while no port carries it. -/
def LeatLink.off : LeatLink :=
  { sndNxt := 0, sndUna := 0, rcvNxt := 0, pwin := 0, tx := [], kept := [], naks := [], ackBeat := 0, ackDue := none, turn := 0 }

/-- The Leat link as it begins when LEAT rises (R437, log 158). -/
def LeatLink.start (b : Word) : LeatLink :=
  { LeatLink.off with sndNxt := Config.leatStart, sndUna := Config.leatStart, rcvNxt := Config.leatStart, pwin := Config.leatWin, ackBeat := b }

/-- The ports at reset. -/
def Eth.reset : Eth := { ports := (List.range 16).map EthPort.reset, link := LeatLink.off, sent := [] }

/-- A connection that has never been opened. -/
def Conn.closed : Conn :=
  { cfg := [], typ := 0, guarded := false, jin := false, slice := 0, port := 0, prio := 0, cb := 0,
    pstate := 0, lastReason := 0, lcid := 0, pcid := 0, sndNxt := 0, sndUna := 0, rcvNxt := 0,
    xidOut := 0, cxidIn := 0, cxidOut := 0, pfgen := 0, pwin := 0, rxHead := 0, rxTail := 0, shifts := 0,
    pmax := 0, used := 0, udpPort := 0, tx := [], kept := [], outEx := [], inEx := [], rto := 0,
    ackBeat := 0, sentBeat := 0, rcvdBeat := 0, openBeat := 0, ackDue := none, naks := [], reopenAt := none,
    noReopen := false, closeSent := false, stale := false, work := [], openAck := none, tcp := none }

end Sys2Proof.Machine
end

