-- ==== Sys2Proof/Machine/StateCss.lean ====
section
/-! DEFINITION. The state of the channel subsystem, as plain data. The subchannel table itself stands in the window (R288). -/

namespace Sys2Proof.Machine

/-- A completion queue (R304-R308). -/
structure Cq where
  base : Word
  size : BitVec 4
  head : BitVec 16
  phase : Bool
  tail : BitVec 16
  err : Bool
  lcn : Byte
  irq : Bool
  en : Bool
  deriving DecidableEq, Repr

/-- The number of entries (CQSIZE): values above 9 act as 0. -/
def Cq.entries (q : Cq) : Nat := if q.size.toNat ≤ 9 then 2 ^ (q.size.toNat + 7) else 128

/-- CQHEAD as it reads: bits above the ring size are zero. -/
def Cq.headAt (q : Cq) : Nat := q.head.toNat % q.entries

/-- Whether the queue drives INTPEND.IOC of LCN n (R308). -/
def Cq.pendingFor (q : Cq) (n : Nat) : Bool := q.en && q.irq && q.lcn.toNat == n && q.headAt != q.tail.toNat

/-- A queue at its reset values. -/
def Cq.reset : Cq :=
  { base := 0, size := 0, head := 0, phase := true, tail := 0, err := false, lcn := 0, irq := false, en := false }

/-- A command that an operation executes: its leading and last CCW, whether NEXT follows, and its data list (R294). -/
structure Command where
  lead : Nat
  last : Nat
  seqNext : Bool
  cmd : Nat
  short : Bool
  mark : Bool
  journal : Bool
  dropData : Bool
  aux : Word
  key : Word
  data : List (Nat × Nat)
  deriving DecidableEq, Repr

/-- What an operation waits for (R302, R334). -/
inductive OpPhase where
  /-- the next command stands at its ccw -/
  | ready
  /-- the partner's CXID -/
  | exchange (xid : Word32)
  /-- the reply to a READ -/
  | reply (xid : Word32)
  /-- the acceptance of its record -/
  | reserve
  /-- the release of a record -/
  | release (gen : Word32)
  /-- an inbound message -/
  | message
  | close
  | ping
  /-- COMPLETING -/
  | ended
  /-- the final entry is held (R310) -/
  | held
  /-- only background writes remain (R301) -/
  | background
  deriving DecidableEq, Repr

/-- An operation and its block (R301). Acks are the inbound exchanges whose acknowledgement waits for its entry (R313), each with its record. -/
structure Operation where
  id : Nat
  sch : Nat
  slice : Nat
  q : Nat
  parm : Word
  ccw : Nat
  reached : Nat
  phase : OpPhase
  cmd : Option Command
  past : Bool
  halting : Bool
  recs : List Word32
  jgen : Option Word32
  mirrored : Nat
  unmirrored : Nat
  acks : List (Word32 × Word32)
  code : Byte
  detail : Half
  ccwpa : Nat
  resid : Word32
  bg : List Word32
  deriving DecidableEq, Repr

/-- A completion that waits for its queue (R310). -/
structure HeldEntry where
  q : Nat
  op : Nat
  sch : Nat
  final : Bool
  parm : Word
  code : Byte
  flags : Byte
  detail : Half
  ccwpa : Nat
  resid : Word32
  jgen : Option Word32
  acks : List (Word32 × Word32)
  deriving DecidableEq, Repr

/-- Sense data (R346). -/
structure Sense where
  src : Byte
  reason : Half
  xid : Word32
  beat : Word
  pdetail : Word
  deriving DecidableEq, Repr

/-- The channel subsystem (12, 13). The connections are keyed by subchannel; 2^20 keys the witness connection (R446). -/
structure Css where
  queues : List (Nat × Cq)
  held : List HeldEntry
  ops : List Operation
  nextOp : Nat
  peak : Nat
  sel : BitVec 20
  cfg : BitVec 25
  bind : BitVec 44
  result : BitVec 3
  g : Bool
  typ : BitVec 2
  incs : List (Nat × Nat)
  senses : List (Nat × Sense)
  conns : List (Nat × Conn)
  udpPort : BitVec 16
  unkConn : Half
  malform : Half
  crcErr : Half
  deriving DecidableEq, Repr

/-- The channel subsystem at reset. -/
def Css.reset : Css :=
  { queues := [], held := [], ops := [], nextOp := 0, peak := 0, sel := 0, cfg := 0, bind := 0, result := 0, g := false, typ := 0,
    incs := [], senses := [], conns := [], udpPort := 0xD7A1, unkConn := 0, malform := 0, crcErr := 0 }

end Sys2Proof.Machine
end

