-- ==== Sys2Proof/Machine/StateCt.lean ====
section
/-! DEFINITION. The state of the continuity unit, as plain data. -/

namespace Sys2Proof.Machine

/-- CTGREGr (R434): a guarded region, its base in 2 MiB units and its size in 2 MiB units. -/
structure GuardRegion where
  en : Bool
  err : Bool
  base : BitVec 31
  size : BitVec 16
  deriving DecidableEq, Repr

/-- The states of a Coppice slot (COPSLOT.STATE). -/
inductive SlotState where
  | empty | ready | failed | claimed
  deriving DecidableEq, Repr

/-- A Coppice slot (R420, R421), and the beat at which its present self-test pass began. -/
structure Slot where
  st : SlotState
  phys : Nat
  passes : Nat
  fails : Nat
  since : Word
  deriving DecidableEq, Repr

/-- A sparing in progress (R423, R426): the logical unit, the claimed slot, the beat of the claim, and the source whose SPARE action it is. -/
structure Sparing where
  unit : Nat
  slot : Nat
  since : Word
  src : Option Nat
  deriving DecidableEq, Repr

/-- A journal record that stands in the ring (R429): its fields, where it stands, the bytes written and the bytes shipped in deltas, and its marks. A retired record stays until a later one takes its units; broken is one of which only the header is left. -/
structure JRec where
  gen : Word32
  kind : Nat
  sch : Nat
  guarded : Bool
  mirror : Bool
  key : Word
  pos : Word
  beat : Word
  parm : Word
  total : Nat
  data : List Byte
  unit : Nat
  units : Nat
  written : Nat
  shipped : Nat
  lastShip : Word
  ackBeat : Word
  durable : Bool
  mirrored : Bool
  released : Bool
  retired : Bool
  broken : Bool
  deriving DecidableEq, Repr

/-- A record that waits for its reservation (R431): the operation whose command it belongs to. -/
structure JWait where
  op : Nat
  kind : Nat
  sch : Nat
  guarded : Bool
  key : Word
  pos : Word
  parm : Word
  data : List Byte
  started : Bool
  done : Bool
  deriving DecidableEq, Repr

/-- One copy of the control area (R428). -/
structure CtlCopy where
  valid : Bool
  cseq : Word32
  pairId : Word
  fgen : Word32
  nextgen : Word32
  tailgen : Word32
  tail : Nat
  role : Role
  pstate : PState
  deriving DecidableEq, Repr

/-- The delta of one beat (R438). -/
structure Delta where
  beat : Word
  entries : List DeltaEntry
  baseDone : Bool
  deriving DecidableEq, Repr

/-- How far the baseline has come (R443). -/
inductive BaseCursor where
  | region (r line : Nat)
  | record (gens : List Word32)
  | block (schs : List Nat)
  | done
  deriving DecidableEq, Repr

/-- A delta that has been shipped and not acknowledged. -/
structure Shipped where
  beat : Word
  baseDone : Bool
  deriving DecidableEq, Repr

/-- A record that arrives on the standby in JREC entries: its first bytes so far, and whether its units are reserved (R439). -/
structure MirRec where
  gen : Word32
  raw : List Byte
  placed : Bool
  deriving DecidableEq, Repr

/-- A delta that the standby has applied and not acknowledged (R439): what of each record must be durable first, and the beat at which its other entries were performed. -/
structure AckDue where
  beat : Word
  needs : List (Word32 × Nat)
  since : Word
  deriving DecidableEq, Repr

/-- A witness request that is not answered (R446). -/
structure WitReq where
  kind : Nat
  nonce : Word
  sent : Option Word
  deriving DecidableEq, Repr

/-- A witness message handed to the witness connection. -/
structure WitSent where
  kind : Nat
  msg : WitnessMsg
  deriving DecidableEq, Repr

/-- A take-over that runs (R449): its beat, and whether rows 1 to 3 are done. -/
structure TakeOver where
  t : Word
  roleDone : Bool
  deriving DecidableEq, Repr

/-- What was last heard from the peer (R444, R445). -/
structure Peer where
  fgen : Word32
  nextgen : Word32
  role : Role
  pstate : PState
  deriving DecidableEq, Repr

/-- What the write of the control area takes from the boundary at which its stage starts (R36, R428). -/
structure CtlInput where
  beat : Word
  nextgen : Word32
  tailgen : Word32
  tail : Nat
  deriving DecidableEq, Repr

/-- The health record and what a receiver acts on of it, at the boundary at which its stage starts (R36, R445). -/
structure HealthInput where
  beat : Word
  bytes : List Byte
  msg : HealthMsg
  deriving DecidableEq, Repr

/-- The continuity unit (18). -/
structure Ct where
  regions : List GuardRegion
  role : Role
  pstate : PState
  pairId : Word
  fgen : Word32
  soloAct : Bool
  armed : Bool
  slots : List Slot
  spent : List Nat
  coreSpar : List Sparing
  cpSpar : List Sparing
  kept : List (Nat × Core)
  lcp : List (Option Nat)
  /-- Stillwater: the two control-area copies, the one in use, and the ring (R427-R433) -/
  copyA : CtlCopy
  copyB : CtlCopy
  useB : Bool
  recs : List JRec
  waits : List JWait
  head : Nat
  tail : Nat
  tailgen : Word32
  nextgen : Word32
  lowFree : Bool
  /-- the deltas: addresses of guarded bytes stored in the present beat (R192), changed state parts, retirements, what is formed and shipped -/
  dirty : List Nat
  cbsDirty : List Nat
  retireDirty : List (Nat × Word32)
  gathering : Bool
  toShip : List Delta
  shipped : List Shipped
  lastDelta : Word
  dmax : Nat
  baseline : Option BaseCursor
  baseGens : List Word32
  pairedDue : Option Word
  soloDue : Bool
  leatOffDue : Bool
  /-- the standby's side -/
  rxFrames : List (Word × List DeltaEntry)
  rxDeltas : List Delta
  needs : List (Word32 × Nat)
  mirIn : List MirRec
  applied : Option Word
  acksDue : List AckDue
  waitRaised : Bool
  /-- stages 3, 5 and 6 of R35 that have started and not finished, the oldest first (R37) -/
  hbDue : List (Word × HeartbeatMsg)
  healthDue : List HealthInput
  ctlDue : List CtlInput
  hseqTx : BitVec 16
  hseqAcc : BitVec 16
  hseqLast : Option (BitVec 16)
  rej : Half
  lost : Half
  peer : Peer
  witEn : Bool
  witCb : BitVec 44
  witKey : List Word
  witReqs : List WitReq
  witOut : List WitSent
  takeOver : Option TakeOver
  result : Byte
  tgt : Byte
  arg : Word
  rstResult : Byte
  rstTgt : Byte
  rsth : List Word
  /-- RSTHi as they stood at the end of the previous beat (R36, R509) -/
  rsthWas : List Word
  deriving DecidableEq, Repr

/-- The units of the journal area (R427). -/
def ringUnits : Nat := 16776960

/-- The control area as the start without a valid copy leaves it (R428). -/
def CtlCopy.fresh : CtlCopy :=
  { valid := true, cseq := 0, pairId := 0, fgen := 0, nextgen := 0, tailgen := 0, tail := 0, role := .active, pstate := .solo }

/-- The Coppice with every core and CP healthy (R28, R420): PCN 48-51, and the ninth CP of each group. -/
def slotsReset : List Slot :=
  [48, 49, 50, 51, 8, 17, 26, 35].map (fun p => { st := .ready, phys := p, passes := 0, fails := 0, since := 0 })

/-- The logical CPs with every CP healthy (R27, R28): eight of each group of nine. -/
def lcpReset : List (Option Nat) := (List.range 32).map (fun i => some (9 * (i / 8) + i % 8))

/-- RSTH0, RSTH1 and RSTH2 as a reset writes them (R493), for ENTRY = VBROFF = 0 (log 5). -/
def rsth0 : Word := 0x01000000
def rsth1 : Word := 0x01000000
def rsth2 : Word := 0x00010000

/-- The continuity unit at handover without a pair (R528, logs 13 and 14). -/
def Ct.reset : Ct :=
  { regions := List.replicate 16 { en := false, err := false, base := 0, size := 0 },
    role := .active, pstate := .solo, pairId := 0, fgen := 0, soloAct := false, armed := false,
    slots := slotsReset, spent := [], coreSpar := [], cpSpar := [], kept := [], lcp := lcpReset,
    copyA := .fresh, copyB := .fresh, useB := false, recs := [], waits := [],
    head := 0, tail := 0, tailgen := 0, nextgen := 0, lowFree := false,
    dirty := [], cbsDirty := [], retireDirty := [], gathering := false, toShip := [], shipped := [], lastDelta := 0, dmax := 0,
    baseline := none, baseGens := [], pairedDue := none, soloDue := false, leatOffDue := false,
    rxFrames := [], rxDeltas := [], needs := [], mirIn := [], applied := none, acksDue := [], waitRaised := false,
    hbDue := [], healthDue := [], ctlDue := [], hseqTx := 0, hseqAcc := 0, hseqLast := none, rej := 0, lost := 0,
    peer := { fgen := 0, nextgen := 0, role := .standby, pstate := .solo },
    witEn := false, witCb := 0, witKey := List.replicate 4 0, witReqs := [], witOut := [],
    takeOver := none, result := 0, tgt := 0, arg := 0, rstResult := 0, rstTgt := 0,
    rsth := [rsth0, rsth1, rsth2], rsthWas := [rsth0, rsth1, rsth2] }

end Sys2Proof.Machine
end

