-- ==== Sys2Proof/Machine/StateEngine.lean ====
section
/-! DEFINITION. The state of the compression and cipher units, as plain data. -/

namespace Sys2Proof.Machine

/-- The descriptor and completion rings of a slice at one engine unit: the ports CZSQ to CZCTL and CXSQ to CXCTL (R365, R387), and the completion slots that fetched descriptors have reserved (R366). -/
structure RingPair where
  sqBase : BitVec 40
  sqSize : BitVec 4
  sqHead : Nat
  sqTail : Half
  cqBase : BitVec 40
  cqSize : BitVec 4
  cqHead : Half
  cqTail : Nat
  phase : Bool
  err : Bool
  lcn : Byte
  irq : Bool
  en : Bool
  taken : Nat
  deriving DecidableEq, Repr

/-- A ring pair at its reset values. -/
def RingPair.reset : RingPair :=
  { sqBase := 0, sqSize := 0, sqHead := 0, sqTail := 0, cqBase := 0, cqSize := 0, cqHead := 0, cqTail := 0, phase := true, err := false,
    lcn := 0, irq := false, en := false, taken := 0 }

/-- The entries of a ring: 2^(SIZE+6); 11 to 15 act as 0. -/
def ringEntries (size : BitVec 4) : Nat := if size.toNat ≤ 10 then 2 ^ (size.toNat + 6) else 64

/-- TAIL and HEAD as they read: bits above the ring size are zero. -/
def RingPair.tailAt (r : RingPair) : Nat := r.sqTail.toNat % ringEntries r.sqSize
def RingPair.headAt (r : RingPair) : Nat := r.cqHead.toNat % ringEntries r.cqSize

/-- Whether the completion ring drives INTPEND.IOC of LCN n (R368). -/
def RingPair.pendingFor (r : RingPair) (n : Nat) : Bool := r.en && r.irq && r.lcn.toNat == n && r.headAt != r.cqTail

/-- A symbol of a DEFLATE block (RFC 1951). -/
inductive LzSym where
  | lit (b : Byte)
  | copy (len dist : Nat)
  deriving DecidableEq, Repr

/-- A symbol as the compressor's free choices see it: length 0 and the byte for a literal. -/
def LzSym.pair : LzSym → Nat × Nat
  | .lit b => (0, b.toNat)
  | .copy len dist => (len, dist)

/-- What a compression descriptor ends with (R377): its record's fields, and the context block to be written with the stream's input so far. -/
structure CzResult where
  status : Byte
  ended : Bool
  consumed : Nat
  produced : Nat
  crc : Word32
  wchk : Word32
  detail : Word32
  ctx : Option (List Byte)
  deriving DecidableEq, Repr

/-- A descriptor that a compression engine processes. -/
structure CzJob where
  slice : Nat
  desc : List Byte
  rerun : Bool
  aborted : Bool
  beat : Word
  result : Option CzResult
  input : List Byte
  syms : List LzSym
  deriving DecidableEq, Repr

/-- A stream as it was left: the context block as written, with what the engine reads back from WORK, PEND and SYMS (R371): the input that a decompression has consumed, or the symbols of a compression's open block. -/
structure CzStream where
  block : List Byte
  input : List Byte
  syms : List LzSym
  deriving DecidableEq, Repr

/-- The compression unit (15). Reruns are the descriptors that wait for another engine to be run again (R379). -/
structure Cz where
  rings : List (Nat × RingPair)
  engines : List (Option CzJob)
  reruns : List CzJob
  insvc : BitVec 4
  last : Nat
  streams : List CzStream
  deriving DecidableEq, Repr

/-- A key slot that is not empty (R382-R386). -/
structure KeySlot where
  typ : Nat
  hlen : Byte
  use : BitVec 4
  fixed : Word32
  key : List Byte
  invoc : Word
  deriving DecidableEq, Repr

/-- The key ports of a slice (KCMD, KATTR, KDATA). -/
structure KeyPorts where
  slot : BitVec 6
  result : Byte
  attr : Word
  data : List Word
  deriving DecidableEq, Repr

/-- What a cipher descriptor ends with (R394), with what completion still writes: the block at IVA or the context block. -/
structure CxResult where
  status : Byte
  produced : Nat
  detail : Word32
  tail : Option (Nat × List Byte)
  deriving DecidableEq, Repr

/-- A descriptor that a cipher engine processes: the key it latched, the counter it took, the staging chunks allocated to it, and what ends it early. -/
structure CxJob where
  slice : Nat
  desc : List Byte
  key : Option KeySlot
  invoc : Option Word
  chunks : List Nat
  rerun : Bool
  erased : Bool
  aborted : Bool
  beat : Word
  result : Option CxResult
  deriving DecidableEq, Repr

/-- A MACsec secure association (R399): SAK, salt and SSCI as LKDATA gave them, and the next transmit PN or the last PN accepted. -/
structure Sa where
  material : List Word
  pn : Word
  deriving DecidableEq, Repr

/-- The MACsec datapath of a Leat port (R399, R400); switchTo is the association that ACTIVATE named, with the beat of the command. -/
structure LeatSec where
  tx : List (Option Sa)
  rx : List (Option Sa)
  txOn : Bool
  txAn : Nat
  switchTo : Option (Nat × Word)
  vfail : Word32
  deriving DecidableEq, Repr

/-- The cipher unit (16); reruns are the descriptors that wait for another engine to be run again, and waits the slices whose descriptors wait for staging chunks, in the order of their requests (R391); stagingKey is the draw of the last reset (R392). -/
structure Cx where
  rings : List (Nat × RingPair)
  engines : List (Option CxJob)
  reruns : List CxJob
  insvc : BitVec 8
  last : Nat
  waits : List Nat
  stagingKey : Word
  keys : List (Nat × KeySlot)
  ports : List (Nat × KeyPorts)
  lkResult : Byte
  lkRx : Bool
  lkPort : Bool
  lkAn : BitVec 2
  lkData : List Word
  leat : List LeatSec
  deriving DecidableEq, Repr

/-- The compression unit at reset. -/
def Cz.reset : Cz := { rings := [], engines := List.replicate 4 none, reruns := [], insvc := 0xF, last := 0, streams := [] }

/-- The key ports of a slice at reset. -/
def KeyPorts.reset : KeyPorts := { slot := 0, result := 0, attr := 0, data := List.replicate 8 0 }

/-- A Leat datapath at reset. -/
def LeatSec.reset : LeatSec :=
  { tx := List.replicate 4 none, rx := List.replicate 4 none, txOn := false, txAn := 0, switchTo := none, vfail := 0 }

/-- The cipher unit at reset. -/
def Cx.reset : Cx :=
  { rings := [], engines := List.replicate 8 none, reruns := [], insvc := 0xFF, last := 0, waits := [], stagingKey := 0, keys := [], ports := [], lkResult := 0, lkRx := false, lkPort := false,
    lkAn := 0, lkData := List.replicate 6 0, leat := List.replicate 2 LeatSec.reset }

end Sys2Proof.Machine
end

