-- ==== Sys2Proof/Machine/StateLife.lean ====
section
/-! DEFINITION. The state of the life cycle, the boot flash, the resets and the microcode load, as plain data. -/

namespace Sys2Proof.Machine

/-- The boot flash, as its bytes from offset 0 on (R489). -/
structure Flash where
  data : List Byte
  deriving DecidableEq, Repr

/-- The fuses (R501): SVC, BSVN and MSVN by the number blown. -/
structure Fuses where
  dseed : BitVec 256
  dkeyh : BitVec 384
  okeyh : BitVec 384
  prov : Bool
  oper : Bool
  svc : Nat
  decom : Bool
  bsvn : Nat
  msvn : Nat
  deriving DecidableEq, Repr

/-- A patch image that verified (R242): VERSION and its bytes. -/
structure Patch where
  version : Word
  image : List Byte
  deriving DecidableEq, Repr

/-- A valid trap-redirect entry (R237). -/
structure Redirect where
  rom : BitVec 15
  word : BitVec 176
  deriving DecidableEq, Repr

/-- The writable part of a control store (R230): the loaded words of its patch RAM, by address, and the valid ones of its 64 trap-redirect entries. Every other word of patch RAM is an unloaded one (R235). -/
structure ControlStore where
  ram : List (Nat × BitVec 176)
  redir : List Redirect
  deriving DecidableEq, Repr

/-- A control store without a patch. -/
def ControlStore.empty : ControlStore := { ram := [], redir := [] }

/-- A change of life-cycle state (R502): its target, and the beat of the command. -/
structure LcChange where
  target : Nat
  beat : Word
  deriving DecidableEq, Repr

/-- A core reset in progress (R496): the LCN, and the beat of the command. -/
structure CoreReset where
  lcn : Nat
  beat : Word
  deriving DecidableEq, Repr

/-- A warm or cold reset that RSTCMD has asked for (R486). -/
inductive ResetDue where
  | warm (beat : Word)
  | cold (beat : Word)
  deriving DecidableEq, Repr

/-- The life cycle, the boot flash, the resets under way, and the microcode load. -/
structure Life where
  fuses : Fuses
  flash : Flash
  lcResult : Byte
  lcTarget : BitVec 3
  lcData : List Word
  change : Option LcChange
  resetDue : Option ResetDue
  coreResets : List CoreReset
  serial : Word
  /-- MCLBUF, MCLLEN, MCLSTAT (09) -/
  mclBuf : List (Nat × Word)
  mclLen : BitVec 17
  mclStatus : Byte
  mclVerified : Bool
  mclBusy : Bool
  mclDue : Option Word
  mclActive : Bool
  toSwitch : List Nat
  /-- the verified image that ACTIVATE takes into use -/
  mclNext : Option Patch
  master : Option Patch
  /-- the control stores of the cores by PCN, and of the physical CPs (R230) -/
  coreStores : List ControlStore
  cpStores : List ControlStore
  deriving DecidableEq, Repr

/-- The fuses of an OPERATIONAL module (logs 5 and 17). -/
def Fuses.reset : Fuses := { dseed := 0, dkeyh := 0, okeyh := 0, prov := true, oper := true, svc := 0, decom := false, bsvn := 0, msvn := 0 }

/-- Handover of a module without a patch image (logs 5 and 17). -/
def Life.reset : Life :=
  { fuses := .reset, flash := { data := [] },
    lcResult := 0, lcTarget := 0, lcData := List.replicate 6 0, change := none, resetDue := none, coreResets := [], serial := 0,
    mclBuf := [], mclLen := 0, mclStatus := 0, mclVerified := false, mclBusy := false, mclDue := none, mclActive := false, toSwitch := [], mclNext := none, master := none,
    coreStores := List.replicate 52 .empty, cpStores := List.replicate 36 .empty }

/-- The number of the life-cycle state (R500, R501). -/
def Fuses.state (f : Fuses) : Nat :=
  if f.decom then 4 else if !f.prov then 0 else if !f.oper then 1 else if f.svc % 2 = 1 then 3 else 2

end Sys2Proof.Machine
end

