-- ==== Sys2Proof/Machine/StatePlant.lean ====
section
/-! DEFINITION. The state of the plant controller, as plain data. -/

namespace Sys2Proof.Machine

/-- A sensor channel: SNSn and SNSLIMn (R461, R462). -/
structure Sensor where
  valid : Bool
  hi : Bool
  lo : Bool
  value : BitVec 16
  limHi : BitVec 16
  limLo : BitVec 16
  deriving DecidableEq, Repr

/-- The power state of the module (R468, R512-R517): no standby supply; rails 0 and 1 alone; a power sequence in progress; every rail on. -/
inductive Power where
  | off | standby | sequencing | on
  deriving DecidableEq, Repr

/-- What the controller sends to the regulator of a rail on PMBus segment 0 (R465, R513): VOUT_COMMAND with millivolts, and OPERATION on and off (log 171). -/
inductive RailCommand where
  | vout (rail millivolts : Nat)
  | on (rail : Nat)
  | off (rail : Nat)
  deriving DecidableEq, Repr

/-- What a loop stage reads, as it stood at the end of the beat before its boundary (R36, R461, R463, R464). -/
structure LoopInput where
  beat : Word
  temps : List Int
  flow : Option Int
  speedA : Option Int
  speedB : Option Int
  tset : BitVec 16
  tcrit : BitVec 16
  tshut : BitVec 16
  fmin : BitVec 16
  pmin : BitVec 16
  dmin : Byte
  man : Bool
  safe : Bool
  down : Bool
  deriving DecidableEq, Repr

/-- What a hold-up stage reads of its ports (R36, R466). -/
structure HoldInput where
  beat : Word
  hmin : BitVec 16
  hstop : BitVec 16
  hupol : Bool
  railsIn : Bool
  deriving DecidableEq, Repr

/-- The plant controller (19, 22). -/
structure Plant where
  /-- time -/
  beatc : Word
  todBase : Pair
  refCycle : Nat
  todValid : Bool
  setDue : Option Word
  /-- what the last boundary has loaded, until TOD_LOAD puts it in (R456) -/
  loadDue : Option (Word × Word)
  setH : Word
  setL : Word
  slew : Word32
  ppsH : Word
  ppsL : Word
  ppsNew : Bool
  ppsOk : Bool
  lastPps : Word
  refOk : Bool
  refLost : Word
  /-- sensors, pumps and the loops -/
  sensors : List (Nat × Sensor)
  tshut : BitVec 16
  tcrit : BitVec 16
  tset : BitVec 16
  fmin : BitVec 16
  pmin : BitVec 16
  failA : Bool
  failB : Bool
  duty : Byte
  dmin : Byte
  man : Bool
  acc : Int
  lowA : Nat
  lowB : Nat
  loopDue : List LoopInput
  /-- hold-up and power -/
  holdDue : List HoldInput
  stable : Bool
  stableNext : Option (Bool × Word)
  known : Bool
  inp : Bool
  res : BitVec 16
  okPrev : Bool
  unread : Nat
  bmuOk : Bool
  hmin : BitVec 16
  hstop : BitVec 16
  hupol : Bool
  railsOut : List Nat
  power : Power
  downAt : Option Word
  accepted : List Nat
  lastAccept : Word
  pwron : Bool
  standbyAt : Word
  seqAt : Word
  attempts : Nat
  fails : Byte
  frail : BitVec 5
  last : BitVec 3
  /-- what the regulators have been sent, the oldest first (log 11) -/
  railsSent : List RailCommand
  deriving DecidableEq, Repr

/-- A channel that holds no sample, with its limits off. -/
def Sensor.reset : Sensor := { valid := false, hi := false, lo := false, value := 0, limHi := 0, limLo := 0 }

/-- The handover beat of a module with one 32 GiB DIMM per channel (R492, log 15). -/
def handoverBeat : Word := 1099200

/-- The ports of the plant controller and its loops at their reset values, at beat b, with TOD equal to BEATC (R456); POWER_STABLE is 0 and no hold-up stage has had an answer (R466). -/
def Plant.cold (b : Word) : Plant :=
  { beatc := b, todBase := b.setWidth 128 <<< 64, refCycle := 0, todValid := false, setDue := none, loadDue := none, setH := 0, setL := 0, slew := 0,
    ppsH := 0, ppsL := 0, ppsNew := false, ppsOk := false, lastPps := b, refOk := true, refLost := 0,
    sensors := [], tshut := 1150, tcrit := 1050, tset := 850, fmin := 0, pmin := 600, failA := false, failB := false,
    duty := 255, dmin := 64, man := false, acc := 0, lowA := 0, lowB := 0, loopDue := [],
    holdDue := [], stable := false, stableNext := none, known := false, inp := false, res := 0, okPrev := false, unread := 0, bmuOk := false,
    hmin := 60, hstop := 20, hupol := false, railsOut := [], power := .on, downAt := none, accepted := [], lastAccept := 0,
    pwron := true, standbyAt := 0, seqAt := 0, attempts := 0, fails := 0, frail := 0, last := 1, railsSent := [] }

/-- The plant controller at handover: the reference is present, and the hold-up stages since beat 0 have found input power and 240 s of reserve (logs 15 and 16). -/
def Plant.reset : Plant :=
  { Plant.cold handoverBeat with stable := true, known := true, inp := true, res := 240, okPrev := true, bmuOk := true }

end Sys2Proof.Machine
end

