-- ==== Sys2Proof/Machine/StatePool.lean ====
section
/-! DEFINITION. The state of the Pool, Millrace, the directory and the memory controllers, as plain data. -/

namespace Sys2Proof.Machine

/-- What an agent may do with a line that it holds (R249); I is the absence of an entry. -/
inductive AgentState where
  | s | e | m
  deriving DecidableEq, Repr

/-- A Hedgerow entry (R255): the core by its PCN, the way of its L2 that holds the line, and the L2 state; the L2 set is that of the line. -/
structure HedgeEntry where
  core : Nat
  way : Nat
  st : AgentState
  deriving DecidableEq, Repr

/-- A directory entry that is valid (R246): the line number PA[51:8], which gives TAG, its way, the fields D, X, P, PV and ECC, and the line's Hedgerow entries (R255). -/
structure DirEntry where
  line : Nat
  way : Nat
  d : Bool
  x : Bool
  p : Bool
  pv : List Nat
  hedge : List HedgeEntry
  ecc : BitVec 10
  deriving DecidableEq, Repr

/-- A line that an agent's L2 or group cache holds, in a way (R249). Agents 0-51 are cores by PCN, 52-55 the CP groups, as in PV. -/
structure AgentLine where
  agent : Nat
  line : Nat
  way : Nat
  st : AgentState
  deriving DecidableEq, Repr

/-- An entry of an agent's eviction buffer (R262); dirty until a snoop has taken its data. -/
structure EvictEntry where
  agent : Nat
  line : Nat
  dirty : Bool
  deriving DecidableEq, Repr

/-- The requests of R251 that a home slice serves. -/
inductive ReqKind where
  | rds | rdx | upg | rdna
  | wrna (bytes : List (Nat × Byte))
  deriving DecidableEq, Repr

/-- A request at a slice: the requester is an agent for RdS, RdX and Upg, a station for RdNA and WrNA; bad marks that its Pool read meets an uncorrectable error (R264). -/
structure PoolReq where
  agent : Nat
  line : Nat
  kind : ReqKind
  bad : Bool
  deriving DecidableEq, Repr

/-- The snoops of R251. -/
inductive SnoopKind where
  | snps | snpi | snpr | binv
  deriving DecidableEq, Repr

/-- An open transaction (R250): the line, what it serves (for an eviction, the request that needs the way; none for a rebuild of Hedgerow), the snoop it sent, the answers it awaits, and the mode in which the snoop was sent (R255). -/
structure PoolTxn where
  line : Nat
  req : Option PoolReq
  snoop : SnoopKind
  await : List Nat
  filtered : Bool
  deriving DecidableEq, Repr

/-- The messages of the rings (R251). -/
inductive PoolMsg where
  | req (r : PoolReq)
  | hold (agent line : Nat)
  | notice (agent line : Nat) (dirty : Bool)
  | snoop (kind : SnoopKind) (line : Nat)
  | answer (agent line : Nat) (data : Bool)
  | data (agent line : Nat) (excl : Bool) (way : Nat)
  | dataNa (agent line : Nat) (poison : Bool)
  | ack (agent line : Nat)
  | ackUpg (agent line : Nat)
  | ackStale (agent line : Nat)
  | retry (req : PoolReq)
  | tlbi (issuer : Nat)
  | tlba (sender issuer : Nat)
  deriving DecidableEq, Repr

/-- The copy of a message that the retry buffer of a station keeps until the neighbour's LinkAck, with its sequence number on that link (R253). -/
structure HopCopy where
  station : Nat
  seq : Nat
  deriving DecidableEq, Repr

/-- A message on a ring (R252, R253): its source, the last station of its path, the stations that it has yet to reach, and the copies that the stations of its path keep. It is gone when it has arrived everywhere and every hop is acknowledged. -/
structure Flight where
  src : Nat
  dst : Nat
  ring : Ring
  dests : List Nat
  body : PoolMsg
  copies : List HopCopy
  deriving DecidableEq, Repr

/-- The hold mark of a line at its slice (R261): the agent, the line, and the beat of the grant or of the arrival of the Hold. -/
structure SliceHold where
  agent : Nat
  line : Nat
  beat : Word
  deriving DecidableEq, Repr

/-- An array test of one way of the L2 of a core in service (R255, R256). -/
structure ArrayTest where
  core : Nat
  way : Nat
  deriving DecidableEq, Repr

/-- POOLWAYk of one slice (R263): the disabled ways and the ways that drain. -/
structure WayState where
  dis : BitVec 16
  drain : List Nat
  deriving DecidableEq, Repr

/-- The Pool and Millrace (10). -/
structure Pool where
  dir : List DirEntry
  agents : List AgentLine
  evict : List EvictEntry
  txns : List PoolTxn
  queue : List PoolReq
  noVictim : List PoolReq
  resend : List PoolReq
  flights : List Flight
  /-- the next sequence number of each link: 2 × station, plus 1 for the counter-clockwise ring -/
  links : List Nat
  holds : List SliceHold
  poolOld : List (Nat × Byte)
  dramOld : List (Nat × Byte)
  /-- the LFSR of each slice (R260) -/
  lfsr : List Word32
  ccw : Bool
  cw : Bool
  filt : Bool
  filtDue : Bool
  deg : Bool
  spare : Bool
  atest : Option ArrayTest
  start : Bool
  force : Bool
  ways : List WayState
  lock : Bool
  locked : Bool
  lockFail : Bool
  ribBase : BitVec 44
  ribLines : BitVec 44
  ricDone : Bool
  ricBusy : Bool
  ricOp : Bool
  /-- OP as the operation in progress took it -/
  ricNow : Bool
  deriving DecidableEq, Repr

/-- One memory channel (MEMCHn, R281). -/
structure MemChannel where
  failed : Bool
  cause : Byte
  pres : BitVec 2
  deriving DecidableEq, Repr

/-- One parity group (MEMGRPg, R283): its failed channel, whether it is lost, the scrubber's next line number and its completed passes. -/
structure MemGroup where
  deg : Bool
  fch : BitVec 3
  lost : Bool
  scrubAt : Nat
  passes : Nat
  deriving DecidableEq, Repr

/-- The memory controllers (11): readiness, whether the locations are being zeroed (R286), population, scrub period, channels, groups, the lines that carry the poison code in DRAM (R278), and the reads and writes of lines that the home slices have asked for and the controllers have not reported complete (R276, R285). -/
structure MemCtl where
  ready : Bool
  zeroing : Bool
  capG : BitVec 16
  dpc : Bool
  size : BitVec 2
  period : Byte
  channels : List MemChannel
  groups : List MemGroup
  poisonCode : List Nat
  reads : List Nat
  writes : List Nat
  deriving DecidableEq, Repr

/-- The Pool at handover with every array good: window locked, START fallen and filtered mode in force until the next boundary (R255, R492, logs 4 and 19). -/
def Pool.reset : Pool :=
  { dir := [], agents := [], evict := [], txns := [], queue := [], noVictim := [], resend := [], flights := [], links := List.replicate 168 0, holds := [],
    poolOld := [], dramOld := [], lfsr := List.replicate 16 1, ccw := true, cw := true, filt := true, filtDue := true, deg := false, spare := false,
    atest := none, start := false, force := false,
    ways := List.replicate 16 { dis := 0, drain := [] },
    lock := true, locked := true, lockFail := false, ribBase := 0, ribLines := 0,
    ricDone := false, ricBusy := false, ricOp := false, ricNow := false }

/-- The controllers at handover: one 32 GiB DIMM per channel, all healthy (R270, log 9). -/
def MemCtl.reset : MemCtl :=
  { ready := true, zeroing := false, capG := 512, dpc := false, size := 0, period := 24,
    channels := List.replicate 20 { failed := false, cause := 0, pres := 1 },
    groups := List.replicate 4 { deg := false, fch := 0, lost := false, scrubAt := 0, passes := 0 },
    poisonCode := [], reads := [], writes := [] }

end Sys2Proof.Machine
end

