-- ==== Sys2Proof/Machine/StateSlice.lean ====
section
/-! DEFINITION. The state of the slice table, as plain data. -/

namespace Sys2Proof.Machine

/-- A storage grant (R473): SLGBg and SLGSg. -/
structure Grant where
  en : Bool
  base : BitVec 31
  size : BitVec 23
  deriving DecidableEq, Repr

/-- The states of a slice (R471). -/
inductive SliceState where
  | free | running | freezing | frozen | saved
  deriving DecidableEq, Repr

/-- A slice (R470): its PID, its state, its four grants, the beat of its last FREEZE (R476), and that of the THAW that it runs after (R478). -/
structure Slice where
  pid : Half
  st : SliceState
  grants : List Grant
  since : Word
  thawAt : Option Word
  deriving DecidableEq, Repr

/-- A SAVE or RESTORE in progress (R474): the slice, and the beat of the command. -/
inductive SliceJob where
  | save (slice : Nat) (beat : Word)
  | restore (slice : Nat) (beat : Word)
  deriving DecidableEq, Repr

/-- The slice table and its command ports (20). -/
structure Slices where
  tab : List (Nat × Slice)
  slice : BitVec 10
  result : Byte
  job : Option SliceJob
  addr : BitVec 49
  len : Word32
  deriving DecidableEq, Repr

/-- A slice at its reset values. -/
def Slice.reset : Slice :=
  { pid := 0, st := .free, grants := List.replicate 4 { en := false, base := 0, size := 0 }, since := 0, thawAt := none }

/-- The table at reset. -/
def Slices.reset : Slices := { tab := [], slice := 0, result := 0, job := none, addr := 0, len := 0 }

end Sys2Proof.Machine
end

