-- ==== Sys2Proof/Machine/StateWeir.lean ====
section
/-! DEFINITION. The state of Weir, as plain data. -/

namespace Sys2Proof.Machine

/-- The ports and counters of one source (R404, R405, R408, R412, R413). After a change of K, since holds the boundary at which the open window began, until the first roll of the new W (R419). -/
structure WeirSource where
  k : BitVec 6
  n : Byte
  lcn : Byte
  actC : Half
  actR : Half
  actS : Half
  actF : Half
  wcnt : Byte
  prm : Bool
  npend : Bool
  fat : Bool
  sev : Bool
  recov : Bool
  cor : Bool
  total : Word32
  level : Nat
  hitLcn : Option Nat
  station : Byte
  since : Option Word
  deriving DecidableEq, Repr

/-- A record of the log (R417). -/
structure WeirRecord where
  beat : Word
  seq : Word32
  src : Nat
  flags : Byte
  act : Byte
  pcn : Byte
  lcn : Byte
  wcnt : Byte
  station : Byte
  detail : Word32
  addr : Word
  deriving DecidableEq, Repr

/-- Weir (17): the sources that differ from their reset values, the log ring, the ports, the events in flight, the sources whose window rolls at the present boundary, safe state and the beat of its decision, the dying gasp that is due, the units out of use (R410), and the conditions that the plant reports as present (R525; true for FAT, false for SEV). -/
structure Weir where
  dlcn : Byte
  tkreq : Bool
  parity : Bool
  safe : Bool
  safeNext : Option Word
  drop : Half
  next : Word32
  logSel : BitVec 12
  logD : List Word
  log : List WeirRecord
  sources : List (Nat × WeirSource)
  inFlight : List WeirReport
  rollDue : List Nat
  /-- the stages that have missed their limit and whose overrun is not recorded yet (R37): unit, stage, and n -/
  late : List (Sys2Proof.OverrunUnit × Byte × Word)
  gaspDue : Option Half
  outOfUse : List Nat
  present : List (Nat × Bool)
  deriving DecidableEq, Repr

/-- Weir at reset (R411). -/
def Weir.reset : Weir :=
  { dlcn := 0, tkreq := false, parity := false, safe := false, safeNext := none, drop := 0, next := 0,
    logSel := 0, logD := List.replicate 4 0, log := [], sources := [], inFlight := [], rollDue := [], late := [], gaspDue := none, outOfUse := [], present := [] }

end Sys2Proof.Machine
end

