-- ==== Sys2Proof/Machine/State.lean ====
section
/-! DEFINITION. The state of the block, its stops, and the state after reset. -/

namespace Sys2Proof.Machine

/-- The faults of the model: none of its meanings stops with one; the constructor stands for a state that no run from reset reaches. -/
inductive Fault where
  /-- A list of the state has not the length that the spec gives it. Raised by no state that Inv admits; safe. -/
  | brokenState
  deriving DecidableEq, Repr

/-- Why a command has no meaning in a state. Every one is safe: the model stops where the hardware could not have met the command. -/
inductive Refusal where
  /-- A row that has no meaning yet. -/
  | notModelled (mnemonic : String)
  /-- An operand lies outside its range. -/
  | illFormed
  deriving DecidableEq, Repr

/-- Main memory and the window, one sorted list of the bytes that are not zero (R272). -/
abbrev Mem := List Host.Cell

/-- The whole block. -/
structure State where
  cores : List Core
  mem : Mem
  pool : Pool
  mc : MemCtl
  weir : Weir
  ct : Ct
  css : Css
  eth : Eth
  cz : Cz
  cx : Cx
  slices : Slices
  plant : Plant
  life : Life
  free : Nat
  pending : List Instr
  deriving DecidableEq, Repr

/-- BEATC (R32), which the plant controller keeps. -/
def State.beatc (s : State) : Word := s.plant.beatc

/-- MCVER of a core without a patch (R240). -/
def mcverRom : Word := Config.romId.setWidth 64 <<< 48

/-- TSBR of LCN n at handover (R493). -/
def tsbrAt (n : Nat) : Word := rsth2 + BitVec.ofNat 64 (0x2000 * n)

/-- The bytes of a doubleword, the most significant first (R6). -/
def bytesOf (n : Nat) (v : Nat) : List Byte :=
  match n with
  | 0 => []
  | k + 1 => BitVec.ofNat 8 (v / 256 ^ k) :: bytesOf k (v % 256 ^ k)

/-- The cells of a doubleword that are not zero. -/
def cellsFrom : Nat → List Byte → List Host.Cell
  | _, [] => []
  | a, b :: bs => if b = 0 then cellsFrom (a + 1) bs else (a, b) :: cellsFrom (a + 1) bs

/-- The boot tree of R493 in memory. -/
def bootTree : Mem :=
  cellsFrom 0 (bytesOf 8 0x1001) ++
  (List.range 16).flatMap (fun i => cellsFrom (0x1000 + 8 * i) (bytesOf 8 (0x03000000000003BB + i * 0x0001000000000000)))

/-- The state at the handover of R492 row 13. -/
def State.reset : State :=
  { cores := (List.range 48).map (fun n => Core.reset n mcverRom rsth0 rsth1 (tsbrAt n)),
    mem := bootTree, pool := .reset, mc := .reset, weir := .reset, ct := .reset, css := .reset, eth := .reset, cz := .reset, cx := .reset, slices := .reset,
    plant := .reset, life := .reset, free := 0, pending := [] }

end Sys2Proof.Machine
end

