-- ==== Sys2Proof/Machine/Bits.lean ====
section
/-! DEFINITION. Bit fields, sign extension, byte order and lists by position. -/

namespace Sys2Proof.Machine

/-- Bits [lo + w - 1 : lo] of x (R5). -/
def fld {n : Nat} (x : BitVec n) (lo w : Nat) : BitVec w := x.extractLsb' lo w

/-- x with the field [lo + w - 1 : lo] replaced by v. -/
def putFld {n w : Nat} (x : BitVec n) (lo : Nat) (v : BitVec w) : BitVec n :=
  (x &&& ~~~((BitVec.allOnes w).setWidth n <<< lo)) ||| (v.setWidth n <<< lo)

/-- Bit i of x. -/
def bitAt {n : Nat} (x : BitVec n) (i : Nat) : Bool := x.getLsbD i

/-- A Bool in bit i of a doubleword. -/
def at_ (b : Bool) (i : Nat) : Word := if b then 1 <<< i else 0

/-- A number in a field that starts at bit lo of a doubleword. -/
def fieldAt {w : Nat} (v : BitVec w) (lo : Nat) : Word := v.setWidth 64 <<< lo

/-- Sign extension to a doubleword. -/
def sext {n : Nat} (x : BitVec n) : Word := x.signExtend 64

/-- Zero extension to a doubleword. -/
def zext {n : Nat} (x : BitVec n) : Word := x.setWidth 64

/-- The number that big-endian bytes spell (R6). -/
def natOf : List Byte → Nat
  | bs => bs.foldl (fun n b => n * 256 + b.toNat) 0

/-- The doubleword that big-endian bytes spell. -/
def wordOf (bs : List Byte) : Word := BitVec.ofNat 64 (natOf bs)

/-- A doubleword as eight bytes, the most significant first (R6). -/
def wordBytes (w : Word) : List Byte := bytesOf 8 w.toNat

/-- The list with position i replaced by f of it; unchanged beyond its end. -/
def modAt {α : Type} (xs : List α) (i : Nat) (f : α → α) : List α := xs.modify i f

/-- The value under key k of a sparse table, or the default d. -/
def lookupD {α : Type} (xs : List (Nat × α)) (k : Nat) (d : α) : α :=
  match xs.find? (fun p => p.1 == k) with
  | some p => p.2
  | none => d

/-- A sparse table with key k set to v. -/
def assoc {α : Type} (xs : List (Nat × α)) (k : Nat) (v : α) : List (Nat × α) :=
  if xs.any (fun p => p.1 == k) then xs.map (fun p => if p.1 == k then (k, v) else p) else (k, v) :: xs

/-- A sparse table without key k. -/
def unassoc {α : Type} (xs : List (Nat × α)) (k : Nat) : List (Nat × α) := xs.filter (fun p => p.1 != k)

/-- The first n bytes of a list, zeros where it is shorter. -/
def padTo (n : Nat) (bs : List Byte) : List Byte := bs.take n ++ List.replicate (n - bs.length) 0

/-- The first element that f selects, and the list without it. -/
def takeFirst {α : Type} (f : α → Bool) : List α → Option (α × List α)
  | [] => none
  | x :: xs => if f x then some (x, xs) else (takeFirst f xs).map (fun p => (p.1, x :: p.2))

/-- The number of 1 bits among the low n bits of x. -/
def popLow (x : Nat) : Nat → Nat
  | 0 => 0
  | n + 1 => (if x.testBit n then 1 else 0) + popLow x n

end Sys2Proof.Machine
end

