-- ==== Sys2Proof/Machine/Crc.lean ====
section
/-! DEFINITION. The check sums of the spec: CRC-32C, CRC-32 and Adler-32. -/

namespace Sys2Proof.Machine

/-- One bit of a reflected CRC with the given polynomial. -/
def crcBit (poly c : Word32) : Word32 := if bitAt c 0 then (c >>> 1) ^^^ poly else c >>> 1

/-- One byte of a reflected CRC. -/
def crcByte (poly c : Word32) (b : Byte) : Word32 := Nat.repeat (crcBit poly) 8 (c ^^^ b.setWidth 32)

/-- A reflected CRC continued over bytes from the register value c. -/
def crcOver (poly c : Word32) (bs : List Byte) : Word32 := bs.foldl (crcByte poly) c

/-- CRC-32C of bytes (R325, R428-R429). -/
def crc32c (bs : List Byte) : Word32 := ~~~(crcOver 0x82F63B78 0xFFFFFFFF bs)

/-- CRC-32 of bytes, continued from the CRC of what stands before them (RFC 1952). -/
def crc32From (c : Word32) (bs : List Byte) : Word32 := ~~~(crcOver 0xEDB88320 (~~~c) bs)

/-- CRC-32 of bytes. -/
def crc32 (bs : List Byte) : Word32 := crc32From 0 bs

/-- Adler-32 of bytes, continued from the value of what stands before them (RFC 1950). -/
def adlerFrom (v : Word32) (bs : List Byte) : Word32 :=
  let (a, b) := bs.foldl (fun (p : Nat × Nat) x => let a := (p.1 + x.toNat) % 65521; (a, (p.2 + a) % 65521)) (v.toNat % 65536, v.toNat / 65536)
  BitVec.ofNat 32 (b * 65536 + a)

/-- Adler-32 of bytes. -/
def adler32 (bs : List Byte) : Word32 := adlerFrom 1 bs

end Sys2Proof.Machine
end

