-- ==== Sys2Proof/Machine/Sha.lean ====
section
/-! DEFINITION. SHA-256, SHA-384, SHA-512 (FIPS 180-4) and HMAC (RFC 2104). -/

namespace Sys2Proof.Machine

/-- The constants of SHA-256. -/
def k256 : List Nat :=
  [0x428A2F98, 0x71374491, 0xB5C0FBCF, 0xE9B5DBA5, 0x3956C25B, 0x59F111F1, 0x923F82A4, 0xAB1C5ED5] ++
  [0xD807AA98, 0x12835B01, 0x243185BE, 0x550C7DC3, 0x72BE5D74, 0x80DEB1FE, 0x9BDC06A7, 0xC19BF174] ++
  [0xE49B69C1, 0xEFBE4786, 0x0FC19DC6, 0x240CA1CC, 0x2DE92C6F, 0x4A7484AA, 0x5CB0A9DC, 0x76F988DA] ++
  [0x983E5152, 0xA831C66D, 0xB00327C8, 0xBF597FC7, 0xC6E00BF3, 0xD5A79147, 0x06CA6351, 0x14292967] ++
  [0x27B70A85, 0x2E1B2138, 0x4D2C6DFC, 0x53380D13, 0x650A7354, 0x766A0ABB, 0x81C2C92E, 0x92722C85] ++
  [0xA2BFE8A1, 0xA81A664B, 0xC24B8B70, 0xC76C51A3, 0xD192E819, 0xD6990624, 0xF40E3585, 0x106AA070] ++
  [0x19A4C116, 0x1E376C08, 0x2748774C, 0x34B0BCB5, 0x391C0CB3, 0x4ED8AA4A, 0x5B9CCA4F, 0x682E6FF3] ++
  [0x748F82EE, 0x78A5636F, 0x84C87814, 0x8CC70208, 0x90BEFFFA, 0xA4506CEB, 0xBEF9A3F7, 0xC67178F2]

/-- The constants of SHA-512. -/
def k512 : List Nat :=
  [0x428A2F98D728AE22, 0x7137449123EF65CD, 0xB5C0FBCFEC4D3B2F, 0xE9B5DBA58189DBBC] ++
  [0x3956C25BF348B538, 0x59F111F1B605D019, 0x923F82A4AF194F9B, 0xAB1C5ED5DA6D8118] ++
  [0xD807AA98A3030242, 0x12835B0145706FBE, 0x243185BE4EE4B28C, 0x550C7DC3D5FFB4E2] ++
  [0x72BE5D74F27B896F, 0x80DEB1FE3B1696B1, 0x9BDC06A725C71235, 0xC19BF174CF692694] ++
  [0xE49B69C19EF14AD2, 0xEFBE4786384F25E3, 0x0FC19DC68B8CD5B5, 0x240CA1CC77AC9C65] ++
  [0x2DE92C6F592B0275, 0x4A7484AA6EA6E483, 0x5CB0A9DCBD41FBD4, 0x76F988DA831153B5] ++
  [0x983E5152EE66DFAB, 0xA831C66D2DB43210, 0xB00327C898FB213F, 0xBF597FC7BEEF0EE4] ++
  [0xC6E00BF33DA88FC2, 0xD5A79147930AA725, 0x06CA6351E003826F, 0x142929670A0E6E70] ++
  [0x27B70A8546D22FFC, 0x2E1B21385C26C926, 0x4D2C6DFC5AC42AED, 0x53380D139D95B3DF] ++
  [0x650A73548BAF63DE, 0x766A0ABB3C77B2A8, 0x81C2C92E47EDAEE6, 0x92722C851482353B] ++
  [0xA2BFE8A14CF10364, 0xA81A664BBC423001, 0xC24B8B70D0F89791, 0xC76C51A30654BE30] ++
  [0xD192E819D6EF5218, 0xD69906245565A910, 0xF40E35855771202A, 0x106AA07032BBD1B8] ++
  [0x19A4C116B8D2D0C8, 0x1E376C085141AB53, 0x2748774CDF8EEB99, 0x34B0BCB5E19B48A8] ++
  [0x391C0CB3C5C95A63, 0x4ED8AA4AE3418ACB, 0x5B9CCA4F7763E373, 0x682E6FF3D6B2B8A3] ++
  [0x748F82EE5DEFB2FC, 0x78A5636F43172F60, 0x84C87814A1F0AB72, 0x8CC702081A6439EC] ++
  [0x90BEFFFA23631E28, 0xA4506CEBDE82BDE9, 0xBEF9A3F7B2C67915, 0xC67178F2E372532B] ++
  [0xCA273ECEEA26619C, 0xD186B8C721C0C207, 0xEADA7DD6CDE0EB1E, 0xF57D4F7FEE6ED178] ++
  [0x06F067AA72176FBA, 0x0A637DC5A2C898A6, 0x113F9804BEF90DAE, 0x1B710B35131C471B] ++
  [0x28DB77F523047D84, 0x32CAAB7B40C72493, 0x3C9EBE0A15C9BEBC, 0x431D67C49C100D4C] ++
  [0x4CC5D4BECB3E42B6, 0x597F299CFC657E2A, 0x5FCB6FAB3AD6FAEC, 0x6C44198C4A475817]

/-- What differs between the members of the family: the word width in bits, the constants, the rotations of the four functions (a last shift in the small ones), and the first chaining value. -/
structure ShaKind where
  w : Nat
  ks : List Nat
  big0 : List Nat
  big1 : List Nat
  small0 : List Nat
  small1 : List Nat
  h0 : List Nat
  out : Nat
  deriving DecidableEq, Repr

/-- SHA-256. -/
def sha256 : ShaKind :=
  { w := 32, ks := k256, big0 := [2, 13, 22], big1 := [6, 11, 25], small0 := [7, 18, 3], small1 := [17, 19, 10], out := 32,
    h0 := [0x6A09E667, 0xBB67AE85, 0x3C6EF372, 0xA54FF53A, 0x510E527F, 0x9B05688C, 0x1F83D9AB, 0x5BE0CD19] }

/-- SHA-512. -/
def sha512 : ShaKind :=
  { w := 64, ks := k512, big0 := [28, 34, 39], big1 := [14, 18, 41], small0 := [1, 8, 7], small1 := [19, 61, 6], out := 64,
    h0 := [0x6A09E667F3BCC908, 0xBB67AE8584CAA73B, 0x3C6EF372FE94F82B, 0xA54FF53A5F1D36F1] ++ [0x510E527FADE682D1, 0x9B05688C2B3E6C1F, 0x1F83D9ABFB41BD6B, 0x5BE0CD19137E2179] }

/-- SHA-384. -/
def sha384 : ShaKind :=
  { sha512 with out := 48, h0 := [0xCBBB9D5DC1059ED8, 0x629A292A367CD507, 0x9159015A3070DD17, 0x152FECD8F70E5939] ++ [0x67332667FFC00B31, 0x8EB44A8768581511, 0xDB0C2E0D64F98FA7, 0x47B5481DBEFA4FA4] }

/-- Rotation to the right of a word of w bits. -/
def rotr (w n x : Nat) : Nat := x / 2 ^ n + x % 2 ^ n * 2 ^ (w - n)

/-- The exclusive or of three rotations. -/
def bigSigma (w : Nat) (r : List Nat) (x : Nat) : Nat := rotr w (r.getD 0 0) x ^^^ rotr w (r.getD 1 0) x ^^^ rotr w (r.getD 2 0) x

/-- The exclusive or of two rotations and a shift. -/
def smallSigma (w : Nat) (r : List Nat) (x : Nat) : Nat := rotr w (r.getD 0 0) x ^^^ rotr w (r.getD 1 0) x ^^^ x / 2 ^ r.getD 2 0

/-- The message schedule, newest word first. -/
def shaSchedule (k : ShaKind) : Nat → List Nat → List Nat
  | 0, ws => ws
  | n + 1, ws =>
    let v := smallSigma k.w k.small1 (ws.getD 1 0) + ws.getD 6 0 + smallSigma k.w k.small0 (ws.getD 14 0) + ws.getD 15 0
    shaSchedule k n (v % 2 ^ k.w :: ws)

/-- One round on the eight working variables. -/
def shaRound (k : ShaKind) (v : List Nat) (kw : Nat × Nat) : List Nat :=
  match v with
  | [a, b, c, d, e, f, g, h] =>
    let t1 := h + bigSigma k.w k.big1 e + ((e &&& f) ^^^ ((2 ^ k.w - 1 - e) &&& g)) + kw.1 + kw.2
    let t2 := bigSigma k.w k.big0 a + ((a &&& b) ^^^ (a &&& c) ^^^ (b &&& c))
    [(t1 + t2) % 2 ^ k.w, a, b, c, (d + t1) % 2 ^ k.w, e, f, g]
  | _ => v

/-- The bytes of a block. -/
def ShaKind.blockBytes (k : ShaKind) : Nat := 2 * k.w

/-- The chaining value after a block. -/
def shaBlock (k : ShaKind) (h : List Nat) (block : List Byte) : List Nat :=
  let ws := ((chunks (k.w / 8) block).map natOf).reverse
  let sched := (shaSchedule k (k.ks.length - 16) ws).reverse
  List.zipWith (fun x y => (x + y) % 2 ^ k.w) h ((k.ks.zip sched).foldl (shaRound k) h)

/-- The chaining value after whole blocks. -/
def shaBlocks (k : ShaKind) (h : List Nat) (bs : List Byte) : List Nat := (chunks k.blockBytes bs).foldl (shaBlock k) h

/-- The padding after n bytes in all. -/
def shaPad (k : ShaKind) (n : Nat) : List Byte :=
  let b := k.blockBytes
  let len := k.w / 4
  let zeros := (2 * b - 1 - len - n % b) % b
  0x80 :: List.replicate zeros 0 ++ bytesOf len (8 * n)

/-- A chaining value as bytes. -/
def shaBytes (k : ShaKind) (h : List Nat) : List Byte := h.flatMap (bytesOf (k.w / 8))

/-- The digest of bytes. -/
def sha (k : ShaKind) (bs : List Byte) : List Byte := (shaBytes k (shaBlocks k k.h0 (bs ++ shaPad k bs.length))).take k.out

/-- HMAC (RFC 2104) under a key that is no longer than a block. -/
def hmac (k : ShaKind) (key bs : List Byte) : List Byte :=
  let key := padTo k.blockBytes key
  sha k (key.map (· ^^^ 0x5C) ++ sha k (key.map (· ^^^ 0x36) ++ bs))

end Sys2Proof.Machine
end

