-- ==== Sys2Proof/Machine/Modes.lean ====
section
/-! DEFINITION. The modes of AES (16 R381): ECB, CBC, CTR, GCM, CCM, XTS and CMAC. -/

namespace Sys2Proof.Machine

/-- ECB over whole blocks. -/
def ecbEnc (key bs : List Byte) : List Byte := (chunks 16 bs).flatMap (aesEnc key)

/-- ECB over whole blocks. -/
def ecbDec (key bs : List Byte) : List Byte := (chunks 16 bs).flatMap (aesDec key)

/-- CBC over blocks, from a chaining value. -/
def cbcEncBlocks (key : List Byte) : List Byte → List (List Byte) → List Byte
  | _, [] => []
  | iv, b :: bs =>
    let c := aesEnc key (xorBytes iv b)
    c ++ cbcEncBlocks key c bs

/-- CBC enciphering. -/
def cbcEnc (key iv bs : List Byte) : List Byte := cbcEncBlocks key iv (chunks 16 bs)

/-- CBC over blocks, from a chaining value. -/
def cbcDecBlocks (key : List Byte) : List Byte → List (List Byte) → List Byte
  | _, [] => []
  | iv, c :: cs => xorBytes (aesDec key c) iv ++ cbcDecBlocks key c cs

/-- CBC deciphering. -/
def cbcDec (key iv bs : List Byte) : List Byte := cbcDecBlocks key iv (chunks 16 bs)

/-- A counter block advanced by n, as one 128-bit integer (R390). -/
def ctrAdd (ctr : List Byte) (n : Nat) : List Byte := bytesOf 16 ((natOf ctr + n) % 2 ^ 128)

/-- CTR over bytes, the counter advanced by step. -/
def ctrBlocks (key : List Byte) (step : List Byte → List Byte) : List Byte → List (List Byte) → List Byte
  | _, [] => []
  | ctr, b :: bs => xorBytes b (aesEnc key ctr) ++ ctrBlocks key step (step ctr) bs

/-- CTR from an initial counter block (R390). -/
def ctrMode (key ctr bs : List Byte) : List Byte := ctrBlocks key (fun c => ctrAdd c 1) ctr (chunks 16 bs)

/-- PKCS#7 padding (R381). -/
def pkcs7 (bs : List Byte) : List Byte :=
  let n := 16 - bs.length % 16
  bs ++ List.replicate n (BitVec.ofNat 8 n)

/-- PKCS#7 padding checked and removed. -/
def unpad (bs : List Byte) : Option (List Byte) :=
  match bs.getLast? with
  | none => none
  | some p =>
    let n := p.toNat
    if 1 ≤ n ∧ n ≤ 16 ∧ n ≤ bs.length ∧ (bs.drop (bs.length - n)).all (· == p) then some (bs.take (bs.length - n)) else none

/-! GCM (SP 800-38D). -/

/-- The product in GF(2^128) of GHASH. -/
def gfMulBits (x : BitVec 128) : Nat → BitVec 128 → BitVec 128 → BitVec 128
  | 0, z, _ => z
  | n + 1, z, v =>
    gfMulBits x n (if bitAt x n then z ^^^ v else z) ((v >>> 1) ^^^ (if bitAt v 0 then 0xE1000000000000000000000000000000 else 0))

/-- The product of two blocks. -/
def gfMul (x y : BitVec 128) : BitVec 128 := gfMulBits x 128 0 y

/-- GHASH over whole blocks. -/
def ghash (h : BitVec 128) (bs : List Byte) : BitVec 128 :=
  (chunks 16 bs).foldl (fun y b => gfMul (y ^^^ BitVec.ofNat 128 (natOf b)) h) 0

/-- Zeros up to a whole number of blocks. -/
def zeroPad (bs : List Byte) : List Byte := bs ++ List.replicate ((16 - bs.length % 16) % 16) 0

/-- The counter of GCM: its last four bytes. -/
def inc32 (c : List Byte) : List Byte := c.take 12 ++ bytesOf 4 ((natOf (c.drop 12) + 1) % 2 ^ 32)

/-- GCM's keystream applied to the payload, under a 12-byte nonce. -/
def gcmCrypt (key nonce bs : List Byte) : List Byte := ctrBlocks key inc32 (nonce ++ [0, 0, 0, 2]) (chunks 16 bs)

/-- GCM's full tag. -/
def gcmTag (key nonce aad ct : List Byte) : List Byte :=
  let h := BitVec.ofNat 128 (natOf (aesEnc key (List.replicate 16 0)))
  let g := ghash h (zeroPad aad ++ zeroPad ct ++ bytesOf 8 (8 * aad.length) ++ bytesOf 8 (8 * ct.length))
  xorBytes (bytesOf 16 g.toNat) (aesEnc key (nonce ++ [0, 0, 0, 1]))

/-! CCM (SP 800-38C), with a 12-byte nonce and q = 3. -/

/-- The CBC-MAC of whole blocks. -/
def cbcMac (key bs : List Byte) : List Byte := (chunks 16 bs).foldl (fun y b => aesEnc key (xorBytes y b)) (List.replicate 16 0)

/-- The length of the additional data, encoded. -/
def ccmAadLen (n : Nat) : List Byte :=
  if n = 0 then [] else if n < 0xFF00 then bytesOf 2 n else [0xFF, 0xFE] ++ bytesOf 4 n

/-- CCM's counter block. -/
def ccmCtr (nonce : List Byte) (i : Nat) : List Byte := 2 :: nonce ++ bytesOf 3 i

/-- CCM's keystream applied to the payload. -/
def ccmCrypt (key nonce bs : List Byte) : List Byte := ctrBlocks key (fun c => ctrAdd c 1) (ccmCtr nonce 1) (chunks 16 bs)

/-- CCM's tag of t bytes over the plaintext. -/
def ccmTag (key nonce aad pt : List Byte) (t : Nat) : List Byte :=
  let flags := (if aad.isEmpty then 0 else 64) + 8 * ((t - 2) / 2) + 2
  let b0 := BitVec.ofNat 8 flags :: nonce ++ bytesOf 3 pt.length
  let a := if aad.isEmpty then [] else zeroPad (ccmAadLen aad.length ++ aad)
  (xorBytes (cbcMac key (b0 ++ a ++ zeroPad pt)) (aesEnc key (ccmCtr nonce 0))).take t

/-! XTS (SP 800-38E). -/

/-- The tweak of the next block. -/
def xtsNext (t : List Byte) : List Byte :=
  let n := natOf t.reverse
  (bytesOf 16 ((2 * n) % 2 ^ 128 ^^^ (if n / 2 ^ 127 = 1 then 0x87 else 0))).reverse

/-- One block under a tweak. -/
def xtsBlock (f : List Byte → List Byte) (t b : List Byte) : List Byte := xorBytes (f (xorBytes b t)) t

/-- Whole blocks; and the tweak after them. -/
def xtsBlocks (f : List Byte → List Byte) : List Byte → List (List Byte) → List Byte × List Byte
  | t, [] => ([], t)
  | t, b :: bs =>
    let (out, u) := xtsBlocks f (xtsNext t) bs
    (xtsBlock f t b ++ out, u)

/-- A data unit of at least 16 bytes, with ciphertext stealing. -/
def xts (enc : Bool) (k1 k2 tweak bs : List Byte) : List Byte :=
  let f := if enc then aesEnc k1 else aesDec k1
  let t := aesEnc k2 tweak
  let r := bs.length % 16
  if r = 0 then (xtsBlocks f t (chunks 16 bs)).1
  else
    let m := bs.length / 16 - 1
    let (out, t1) := xtsBlocks f t (chunks 16 (bs.take (16 * m)))
    let t2 := xtsNext t1
    let b := (bs.drop (16 * m)).take 16
    let tail := bs.drop (16 * m + 16)
    let (ta, tb) := if enc then (t1, t2) else (t2, t1)
    let c := xtsBlock f ta b
    out ++ xtsBlock f tb (tail ++ c.drop r) ++ c.take r

/-! CMAC (SP 800-38B). -/

/-- A subkey doubled. -/
def cmacDouble (b : List Byte) : List Byte :=
  let n := natOf b
  bytesOf 16 ((2 * n) % 2 ^ 128 ^^^ (if n / 2 ^ 127 = 1 then 0x87 else 0))

/-- The full CMAC. -/
def cmac (key bs : List Byte) : List Byte :=
  let k1 := cmacDouble (aesEnc key (List.replicate 16 0))
  let n := if bs.isEmpty then 0 else (bs.length - 1) / 16
  let last := bs.drop (16 * n)
  let m := if last.length = 16 then xorBytes last k1 else xorBytes (padTo 16 (last ++ [0x80])) (cmacDouble k1)
  cbcMac key (bs.take (16 * n) ++ m)

end Sys2Proof.Machine
end

