-- ==== Sys2Proof/Machine/Memory.lean ====
section
/-! DEFINITION. The bytes of physical memory, the address map (R272) and the placement of lines (R245, R275). -/

namespace Sys2Proof.Machine

/-- The byte at address a: an unlisted address reads 0, as R286 leaves it. -/
def Mem.read : Mem → Nat → Byte
  | [], _ => 0
  | (b, v) :: t, a => if a = b then v else Mem.read t a

/-- One byte stored; the list stays sorted and lists no zero. -/
def Mem.write : Mem → Nat → Byte → Mem
  | [], a, v => if v = 0 then [] else [(a, v)]
  | (b, w) :: t, a, v =>
    if a < b then (if v = 0 then (b, w) :: t else (a, v) :: (b, w) :: t)
    else if a = b then (if v = 0 then t else (a, v) :: t)
    else (b, w) :: Mem.write t a v

/-- Addresses strictly rise from lo, and no byte is 0. -/
def Mem.wfFrom : Nat → Mem → Bool
  | _, [] => true
  | lo, (a, v) :: t => decide (lo ≤ a) && decide (v ≠ 0) && Mem.wfFrom (a + 1) t

/-- The canonical form of memory. -/
def Mem.wf (m : Mem) : Bool := Mem.wfFrom 0 m

/-- n bytes from address a upward. -/
def Mem.readN (m : Mem) (a : Nat) : Nat → List Byte
  | 0 => []
  | n + 1 => m.read a :: Mem.readN m (a + 1) n

/-- Bytes stored from address a upward. -/
def Mem.writeN (m : Mem) (a : Nat) : List Byte → Mem
  | [] => m
  | b :: bs => Mem.writeN (m.write a b) (a + 1) bs

/-- The first address of the window (R272). -/
def windowBase : Nat := 0xFFFFFFC000000

/-- The end of the 52-bit space. -/
def paEnd : Nat := 2 ^ 52

/-- The capacity C in bytes (R270). -/
def State.capacity (s : State) : Nat := s.mc.capG.toNat * 2 ^ 30

/-- What stands at a physical address (R272). -/
inductive PaKind where
  | dram | window | hole
  deriving DecidableEq, Repr

/-- The map of R272; the window counts while POOLWIN.LOCKED = 1. -/
def State.paKind (s : State) (a : Nat) : PaKind :=
  if a < s.capacity then .dram
  else if decide (windowBase ≤ a) && decide (a < paEnd) && s.pool.locked then .window
  else .hole

/-- DRAM(x) of the walk (R165). -/
def State.isDram (s : State) (a : Nat) : Bool := decide (a < s.capacity)

/-- An address of the window while it is being formed (R274). -/
def State.windowForming (s : State) (a : Nat) : Bool :=
  decide (windowBase ≤ a) && decide (a < paEnd) && s.pool.lock && !s.pool.locked && !s.pool.lockFail

/-- The line that holds address a: PA[51:8]. -/
def lineOf (a : Nat) : Nat := a / 256

/-- The set of a line (R245). -/
def setOf (line : Nat) : Nat := line / 16 % 16384

/-- The slice of a line (R245): the exclusive or of the eleven digits of PA[51:8]. -/
def sliceOf (line : Nat) : Nat := (List.range 11).foldl (fun x i => x ^^^ (line / 16 ^ i % 16)) 0

/-- The parity group of a line (R275). -/
def groupOf (line : Nat) : Nat :=
  (line / 2 ^ 4 % 4) ^^^ (line / 2 ^ 12 % 4) ^^^ (line / 2 ^ 20 % 4) ^^^ (line / 2 ^ 28 % 4)

end Sys2Proof.Machine
end

