-- ==== Sys2Proof/Machine/Report.lean ====
section
/-! DEFINITION. Reports to Weir (R403): source numbers (R401, R402), stations (R524), and the reset values of a source (R411). -/

namespace Sys2Proof.Machine

/-- The number of source s of physical core p (R401). -/
def coreSrc (p s : Nat) : Nat := 16 * p + s

/-- Whether a source number is assigned (R401). -/
def srcAssigned (n : Nat) : Bool :=
  (decide (n < 0x340) && decide (n % 16 < 14)) ||
  (decide (0x340 ≤ n) && decide (n < 0x460) && decide ((n - 0x340) % 8 < 5)) ||
  (decide (0x460 ≤ n) && decide (n < 0x470) && decide ((n - 0x460) % 4 < 2)) ||
  (decide (0x500 ≤ n) && decide (n < 0x700) && decide ((n - 0x500) % 32 < 21)) ||
  (decide (0x700 ≤ n) && decide (n < 0x7AA)) ||
  (decide (0x800 ≤ n) && decide (n < 0x814)) || (decide (0x818 ≤ n) && decide (n < 0x820)) ||
  n == 0x880 || n == 0x881 || (decide (0x890 ≤ n) && decide (n < 0x8A0)) ||
  (decide (0x900 ≤ n) && decide (n < 0x912)) || (decide (0x918 ≤ n) && decide (n < 0x91C)) ||
  (decide (0x980 ≤ n) && decide (n < 0x985)) || (decide (0x990 ≤ n) && decide (n < 0x999)) ||
  (decide (0xA00 ≤ n) && decide (n < 0xA05)) || (decide (0xA10 ≤ n) && decide (n < 0xA18)) || n == 0xA20 ||
  (decide (0xA80 ≤ n) && decide (n < 0xA86)) || n == 0xB00 || n == 0xB01 ||
  (decide (0xC00 ≤ n) && decide (n < 0x1000))

/-- STATION of a source (R524); for 0x7A8, 0x880 and 0x881 the reporter names it. -/
def srcStation (n : Nat) : Nat :=
  if n < 0x340 then n / 16
  else if n < 0x460 then 68 + (n - 0x340) / 8 / 9
  else if n < 0x470 then 68 + (n - 0x460) / 4
  else if n < 0x700 then 52 + (n - 0x500) / 32
  else if n < 0x7A8 then (n - 0x700) / 2
  else if n < 0x800 then 83
  else if n < 0x814 then 72 + (n - 0x800) / 5
  else if n < 0x81C then 72 + (n - 0x818)
  else if n < 0x820 then 72 + (n - 0x81C)
  else if n < 0x890 then 68
  else if n < 0x8A0 then 76 + (n - 0x890) / 4
  else if n < 0x910 then 76 + (n - 0x900) / 4
  else if n < 0x912 then 79
  else if n < 0x91C then 76 + (n - 0x918)
  else if n < 0x985 then 80
  else if n < 0x999 then 81
  else if n < 0xA80 then 82
  else if n < 0xC00 then 83
  else 81

/-- Whether a source is an overrun source (R411). -/
def srcOverrun (n : Nat) : Bool :=
  (decide (0x460 ≤ n) && decide (n < 0x470) && (n - 0x460) % 4 == 1) ||
  (decide (0x500 ≤ n) && decide (n < 0x700) && (n - 0x500) % 32 == 20) ||
  (decide (0x81C ≤ n) && decide (n < 0x820)) || n == 0x881 ||
  (decide (0x918 ≤ n) && decide (n < 0x91C)) || n == 0x984 || n == 0x998 || n == 0xA20 || n == 0xA81 || n == 0xB01

/-- A source with the values of one row of R411. -/
def srcRow (n k lcn c r s f : Nat) : WeirSource :=
  { k := BitVec.ofNat 6 k, n := BitVec.ofNat 8 n, lcn := BitVec.ofNat 8 lcn, actC := BitVec.ofNat 16 c,
    actR := BitVec.ofNat 16 r, actS := BitVec.ofNat 16 s, actF := BitVec.ofNat 16 f,
    wcnt := 0, prm := false, npend := false, fat := false, sev := false, recov := false, cor := false,
    total := 0, level := 0, hitLcn := none, station := 0, since := none }

/-- The reset values of a source (R411). LOG is 0x0080, RETRY 0x1000, SPARE 0x2000, TAKEOVER 0x8000, INT n 0x0800 + 256 n (R408). -/
def srcReset (n : Nat) : WeirSource :=
  if srcOverrun n then srcRow 16 20 0xFE 0x0080 0x0080 0x0B80 0x0F80
  else if n < 0x340 then
    if n % 16 < 10 then srcRow 3 30 0xFE 0x1080 0x1080 0x2B80 0x0F80
    else if n % 16 < 12 then srcRow 1 0 0xFE 0x0080 0x0080 0x0E80 0x0F80
    else srcRow 255 10 0xFF 0x0080 0x0E80 0x0E80 0x0F80
  else if n < 0x460 then
    if (n - 0x340) % 8 < 4 then srcRow 3 30 0xFE 0x1080 0x1080 0x2B80 0x0F80
    else srcRow 255 10 0xFF 0x0080 0x0E80 0x0E80 0x0F80
  else if n < 0x470 then srcRow 255 10 0xFE 0x0080 0x0B80 0x2B80 0x0F80
  else if n < 0x700 then
    if (n - 0x500) % 32 < 16 then srcRow 16 36 0xFE 0x0080 0x0B80 0x2B80 0x8080
    else if (n - 0x500) % 32 = 17 then srcRow 1 0 0xFE 0x0080 0x0080 0x8080 0x8080
    else srcRow 1 0 0xFE 0x0080 0x0B80 0x0B80 0x8080
  else if n < 0x7A8 then srcRow 8 20 0xFE 0x0080 0x0080 0x2B80 0x8080
  else if n = 0x7A8 then srcRow 1 0 0xFE 0x0080 0x0080 0x8080 0x8080
  else if n < 0x800 then srcRow 1 0 0xFE 0x0080 0x0B80 0x0B80 0x8080
  else if n < 0x814 then srcRow 64 36 0xFE 0x0080 0x0B80 0x2B80 0x8080
  else if n < 0x81C then srcRow 1 0 0xFE 0x0080 0x0B80 0x0B80 0x8080
  else if n < 0x900 then srcRow 1 0 0xFE 0x0080 0x0B80 0x0B80 0x8080
  else if n < 0x912 then srcRow 255 10 0xFE 0x0080 0x0B80 0x2B80 0x0F80
  else if n < 0x999 then srcRow 3 30 0xFE 0x1080 0x1080 0x2B80 0x0F80
  else srcRow 1 0 0xFE 0x0080 0x0B80 0x0B80 0x8080

/-- A source's ports and counters. -/
def Weir.source (w : Weir) (n : Nat) : WeirSource := lookupD w.sources n (srcReset n)

/-- Weir with one source changed. -/
def Weir.modSource (w : Weir) (n : Nat) (f : WeirSource → WeirSource) : Weir :=
  { w with sources := assoc w.sources n (f (w.source n)) }

/-- The RETRY bit of a source for CORRECTED events, of which the unit keeps a copy (R409). -/
def State.mayRetry (s : State) (src : Nat) : Bool := bitAt (s.weir.source src).actC 12

/-- The next free value (log 8). -/
def State.takeFree (s : State) : Word × State := (Config.freeValue s.free, { s with free := s.free + 1 })

/-- A unit reports an event to Weir (R403): it is on its way until WEIR_EVENT processes it. A DETAIL that the spec does not state is a free value (log 8). -/
def State.reportAt (s : State) (src : Nat) (cls : FaultClass) (station : Nat) (pcn lcn : Byte) (detail : Option Word32) (addr : Word) : State :=
  let (d, s) := match detail with
    | some d => (d, s)
    | none => (s.takeFree.1.setWidth 32, s.takeFree.2)
  { s with weir := { s.weir with inFlight := s.weir.inFlight ++
      [{ src := src, cls := cls, beat := s.beatc, pcn := pcn, lcn := lcn, station := BitVec.ofNat 8 station, detail := d, addr := addr }] } }

/-- Logical core n; an LCN beyond the table reads as absent. -/
def State.core (s : State) (n : Nat) : Core := s.cores.getD n Core.absent

/-- Logical core n changed by f. -/
def State.modCore (s : State) (n : Nat) (f : Core → Core) : State := { s with cores := modAt s.cores n f }

/-- The LCN that physical core p serves. -/
def State.lcnOfPcn (s : State) (p : Nat) : Option Nat :=
  (List.range 48).find? (fun n => (s.core n).pcn == p && (s.core n).run != .absent)

/-- The logical CP that a physical CP serves. -/
def State.lcpOf (s : State) (c : Nat) : Option Nat := (List.range 32).find? (fun i => s.ct.lcp.getD i none == some c)

/-- The physical core or CP that a source belongs to, or 0xFF (R401, R417). -/
def srcPcn (n : Nat) : Byte := if n < 0x340 then BitVec.ofNat 8 (n / 16) else if n < 0x460 then BitVec.ofNat 8 ((n - 0x340) / 8) else 0xFF

/-- The LCN or logical CP that the core or CP of a source serves, or 0xFF (R402, R417). -/
def State.srcLcn (s : State) (n : Nat) : Byte :=
  match (if n < 0x340 then s.lcnOfPcn (n / 16) else if n < 0x460 then s.lcpOf ((n - 0x340) / 8) else none) with
  | some l => BitVec.ofNat 8 l
  | none => 0xFF

/-- A report with the station of its source (R524), and the core or CP that it belongs to with what that serves (R417). -/
def State.report (s : State) (src : Nat) (cls : FaultClass) (detail : Option Word32) (addr : Word) : State :=
  s.reportAt src cls (srcStation src) (srcPcn src) (s.srcLcn src) detail addr

/-- A report of source k (R402) of the physical core that serves LCN n; the record names both (R402). -/
def State.reportCore (s : State) (n k : Nat) (cls : FaultClass) (detail : Option Word32) (addr : Word) : State :=
  s.reportAt (coreSrc (s.core n).pcn k) cls (s.core n).pcn (BitVec.ofNat 8 (s.core n).pcn) (BitVec.ofNat 8 n) detail addr

end Sys2Proof.Machine
end

