-- ==== Sys2Proof/Machine/Millrace.lean ====
section
/-! DEFINITION. Millrace: the stations, the rings, and what every hop keeps of a message (01 R17, R18, 10 R251-R254). -/

namespace Sys2Proof.Machine

/-- Beats that have passed since beat b. -/
def State.since (s : State) (b : Word) : Nat := (s.beatc - b).toNat

/-- The Pool changed by f. -/
def State.modPool (s : State) (f : Pool → Pool) : State := { s with pool := f s.pool }

/-- The station of an agent of PV (R17, R246). -/
def agentStation (a : Nat) : Nat := if a < 52 then a else 68 + (a - 52)

/-- The station of a line's home slice (R17). -/
def homeStation (line : Nat) : Nat := 52 + sliceOf line

/-- Whether a ring is in service (POOLMODE). -/
def Pool.ringUp (p : Pool) : Ring → Bool
  | .cw => p.cw
  | .ccw => p.ccw

/-- The hops from a station to another on a ring, station numbers rising clockwise (R17, log 23). -/
def ringDist (r : Ring) (src dst : Nat) : Nat :=
  match r with
  | .cw => (dst + 84 - src) % 84
  | .ccw => (src + 84 - dst) % 84

/-- The ring that a message takes (R18, R253): the shorter one, clockwise at a tie, or the one that is left. -/
def Pool.ringFor (p : Pool) (src dst : Nat) : Ring :=
  if !p.cw then .ccw
  else if !p.ccw then .cw
  else if ringDist .cw src dst ≤ ringDist .ccw src dst then .cw else .ccw

/-- The station i hops from src on a ring. -/
def ringStation (r : Ring) (src i : Nat) : Nat :=
  match r with
  | .cw => (src + i) % 84
  | .ccw => (src + 84 - i % 84) % 84

/-- The link that leaves a station on a ring. -/
def linkIndex (r : Ring) (st : Nat) : Nat :=
  match r with
  | .cw => 2 * st
  | .ccw => 2 * st + 1

/-- The copies that the stations of a path of len hops keep, with the next sequence number of each link (R253). -/
def Pool.pathCopies (p : Pool) (r : Ring) (src len : Nat) : List HopCopy :=
  (List.range len).map fun i =>
    { station := ringStation r src i, seq := p.links.getD (linkIndex r (ringStation r src i)) 0 }

/-- The links of a path have carried one more message. -/
def Pool.countLinks (p : Pool) (r : Ring) (src len : Nat) : Pool :=
  { p with links := (List.range p.links.length).map fun i =>
      p.links.getD i 0 + (if linkIndex r (i / 2) = i ∧ ringDist r src (i / 2) < len then 1 else 0) }

/-- A message that covers len hops of a ring from its source and has yet to reach some stations. -/
def Pool.launch (p : Pool) (src : Nat) (r : Ring) (len : Nat) (dests : List Nat) (m : PoolMsg) : Pool :=
  let f : Flight := { src := src, dst := ringStation r src len, ring := r, dests := dests, body := m, copies := p.pathCopies r src len }
  let p := p.countLinks r src len
  if dests.isEmpty && f.copies.isEmpty then p else { p with flights := p.flights ++ [f] }

/-- A message on its way to one station (R18). -/
def State.send (s : State) (src dst : Nat) (m : PoolMsg) : State :=
  s.modPool fun p => p.launch src (p.ringFor src dst) (ringDist (p.ringFor src dst) src dst) [dst] m

/-- A message that arrives in the same step: only the copies of its hops stay behind (R253). -/
def State.carry (s : State) (src dst : Nat) (m : PoolMsg) : State :=
  s.modPool fun p => p.launch src (p.ringFor src dst) (ringDist (p.ringFor src dst) src dst) [] m

/-- A broadcast over all other stations, each on its shorter path (R254); the stations named are those that will answer. -/
def State.broadcast (s : State) (src : Nat) (answering : List Nat) (m : PoolMsg) : State :=
  s.modPool fun p =>
    if p.cw && p.ccw then
      (p.launch src .cw 42 (answering.filter (fun d => p.ringFor src d == .cw)) m).launch src .ccw 41
        (answering.filter (fun d => p.ringFor src d == .ccw)) m
    else p.launch src (p.ringFor src src) 83 answering m

/-- The flight without a station that it has reached. -/
def Flight.reach (f : Flight) (st : Nat) : Flight := { f with dests := f.dests.erase st }

/-- Whether nothing of a message is left: it has arrived, and every hop is acknowledged. -/
def Flight.over (f : Flight) : Bool := f.dests.isEmpty && f.copies.isEmpty

/-- The first message for a station that f selects, unless an older one of the same source on the same ring has yet to arrive there (R252); seen lists those sources and rings. -/
def takeFlight (f : PoolMsg → Bool) (st : Nat) : List (Nat × Ring) → List Flight → Option (PoolMsg × List Flight)
  | _, [] => none
  | seen, x :: xs =>
    if !x.dests.contains st then (takeFlight f st seen xs).map (fun q => (q.1, x :: q.2))
    else if f x.body && !seen.contains (x.src, x.ring) then
      some (x.body, if (x.reach st).over then xs else x.reach st :: xs)
    else (takeFlight f st ((x.src, x.ring) :: seen) xs).map (fun q => (q.1, x :: q.2))

/-- A message that arrives at a station, taken off its ring. -/
def State.takeMsg (s : State) (st : Nat) (f : PoolMsg → Bool) : Option (PoolMsg × State) :=
  (takeFlight f st [] s.pool.flights).map (fun q => (q.1, s.modPool fun p => { p with flights := q.2 }))

/-- Whether some message that f selects has not arrived. -/
def State.flying (s : State) (f : PoolMsg → Bool) : Bool := s.pool.flights.any (fun x => !x.dests.isEmpty && f x.body)

/-- Whether a grant of a line is on its way to an agent. -/
def PoolMsg.grants (m : PoolMsg) (agent line : Nat) : Bool :=
  match m with
  | .data a l _ _ => a == agent && l == line
  | .ackUpg a l => a == agent && l == line
  | _ => false

/-- Whether a grant of a line is on its way to any agent. -/
def PoolMsg.grantsLine (m : PoolMsg) (line : Nat) : Bool :=
  match m with
  | .data _ l _ _ => l == line
  | .ackUpg _ l => l == line
  | _ => false

/-- Whether a message belongs to an invalidation of a core (R175). -/
def PoolMsg.ofInval (m : PoolMsg) (issuer : Nat) : Bool :=
  match m with
  | .tlbi i => i == issuer
  | .tlba _ i => i == issuer
  | _ => false

/-- The messages of an invalidation that has been given up have no effect on arrival. -/
def Pool.dropInval (p : Pool) (issuer : Nat) : Pool :=
  { p with flights := (p.flights.map fun f => if f.body.ofInval issuer then { f with dests := [] } else f).filter fun f => !f.over }

/-- The oldest copy that a station keeps on a ring is released. -/
def releaseCopy (st : Nat) (r : Ring) : List Flight → List Flight
  | [] => []
  | f :: fs =>
    if f.ring == r && f.copies.any (fun c => c.station == st) then
      let f := { f with copies := f.copies.filter (fun c => c.station != st) }
      if f.over then fs else f :: fs
    else f :: releaseCopy st r fs

/-- The retry buffer of a station on a ring (R253): the copies that it keeps, the oldest first. -/
def Pool.retryBuffer (p : Pool) (st : Nat) (r : Ring) : List (PoolMsg × Nat) :=
  (p.flights.filter (fun f => f.ring == r)).flatMap fun f =>
    (f.copies.filter (fun c => c.station == st)).map (fun c => (f.body, c.seq))

/-- The other ring. -/
def otherRing : Ring → Ring
  | .cw => .ccw
  | .ccw => .cw

/-- The unacknowledged messages of a withdrawn ring sent again on the other one, by the first station that keeps each (R253); one that has arrived is a duplicate, which its receiver discards. -/
def Pool.resendAll (p : Pool) (r : Ring) : Pool :=
  p.flights.foldl (fun p f =>
    match f.copies with
    | c :: _ =>
      if f.ring == r then
        let o := otherRing r
        let len := (f.dst :: f.dests).foldl (fun m d => max m (ringDist o c.station d)) 0
        let g := { f with ring := o, copies := p.pathCopies o c.station len }
        let p := p.countLinks o c.station len
        { p with flights := p.flights ++ [g] }
      else { p with flights := p.flights ++ [f] }
    | [] => { p with flights := p.flights ++ [f] }) { p with flights := [] }

/-- The source of the hop that leaves a station (R401). -/
def hopSource (station : Nat) : Ring → Nat
  | .cw => 0x700 + 2 * station
  | .ccw => 0x700 + 2 * station + 1

/-- A ring is withdrawn after the failure of a hop that leaves a station (R253); with both gone, a FATAL event of Millrace. -/
def State.withdrawRing (s : State) (station : Nat) (r : Ring) : State :=
  if !s.pool.ringUp r then s
  else
    let s := s.modPool fun p => match r with
      | .cw => ({ p with cw := false, deg := true }).resendAll r
      | .ccw => ({ p with ccw := false, deg := true }).resendAll r
    if s.pool.cw || s.pool.ccw then s else s.reportAt 0x7A8 .fatal station 0xFF 0xFF none 0

end Sys2Proof.Machine
end

