-- ==== Sys2Proof/Machine/Coherence.lean ====
section
/-! DEFINITION. The directory, agent copies and the moment a store is performed (07 R180, 10 R245-R266, 18 R434-R436). -/

namespace Sys2Proof.Machine

/-- The directory entry of a line that is valid in the Pool. -/
def State.dirEntry (s : State) (line : Nat) : Option DirEntry := s.pool.dir.find? (fun e => e.line == line)

/-- The ECC field that belongs to the other fields of an entry (R246); TAG is PA[51:26]. -/
def DirEntry.code (e : DirEntry) : BitVec 10 := Config.dirCode (e.line / 2 ^ 18) true e.d e.x e.p e.pv

/-- An entry written with its ECC. -/
def DirEntry.write (e : DirEntry) : DirEntry := { e with ecc := e.code }

/-- PV and X written, and Hedgerow with them (R255). -/
def DirEntry.setPv (e : DirEntry) (pv : List Nat) (x : Bool) : DirEntry :=
  { e with pv := pv, x := x, hedge := e.hedge.filter (fun h => pv.contains h.core) }

/-- The Hedgerow entry of a core written (R255); a CP group has none. -/
def DirEntry.tag (e : DirEntry) (agent way : Nat) (st : AgentState) : DirEntry :=
  if agent < 52 then { e with hedge := { core := agent, way := way, st := st } :: e.hedge.filter (fun h => h.core != agent) } else e

/-- A directory entry changed by f. -/
def State.modDir (s : State) (line : Nat) (f : DirEntry → DirEntry) : State :=
  s.modPool fun p => { p with dir := p.dir.map (fun e => if e.line == line then (f e).write else e) }

/-- The state in which an agent holds a line, none for I (R249). -/
def State.agentState (s : State) (agent line : Nat) : Option AgentState :=
  (s.pool.agents.find? (fun x => x.agent == agent && x.line == line)).map AgentLine.st

/-- Whether the group of a line has lost its memory (R283). -/
def State.groupLost (s : State) (line : Nat) : Bool :=
  (s.mc.groups.map MemGroup.lost).getD (groupOf line) false

/-- Whether DRAM gives the poison indication for a line (R278, R283). -/
def State.dramPoison (s : State) (line : Nat) : Bool := s.mc.poisonCode.contains line || s.groupLost line

/-- Whether a reader of the line meets poison (R264). -/
def State.poisoned (s : State) (line : Nat) : Bool :=
  match s.dirEntry line with
  | some e => e.p
  | none => s.isDram (line * 256) && s.dramPoison line

/-- Bytes of the line that an overlay keeps. -/
def inLine (line : Nat) (c : Nat × Byte) : Bool := lineOf c.1 == line

/-- The overlay without a line: that copy now equals the coherent value. -/
def dropLine (xs : List (Nat × Byte)) (line : Nat) : List (Nat × Byte) := xs.filter (fun c => !inLine line c)

/-- Remember the old byte at a unless the overlay already keeps one. -/
def keepOld (xs : List (Nat × Byte)) (a : Nat) (old : Byte) : List (Nat × Byte) :=
  if xs.any (fun c => c.1 == a) then xs else (a, old) :: xs

/-- The bytes that an overlay keeps for a line written back into memory: the newer copy is lost. -/
def restoreLine (m : Mem) (xs : List (Nat × Byte)) (line : Nat) : Mem :=
  (xs.filter (inLine line)).foldl (fun m c => m.write c.1 c.2) m

/-- A core loses its reservation on a granule (R201). -/
def loseResv (c : Core) (line : Nat) : Core :=
  match c.resv with
  | some r => if r.granule = line then { c with resv := none } else c
  | none => c

/-- Every core that f selects loses its reservation on a granule. -/
def State.loseResvs (s : State) (line : Nat) (f : Core → Bool) : State :=
  { s with cores := s.cores.map (fun c => if f c then loseResv c line else c) }

/-- A line leaves the L1s of a core, which its L2 includes (R247). -/
def Core.dropL1 (c : Core) (line : Nat) : Core :=
  { c with l1i := c.l1i.filter (· != line), l1d := c.l1d.filter (· != line) }

/-- An agent's copy of a line ends (R249): data of an M copy return into the Pool copy when back holds, and are lost otherwise; its PV bit and its Hedgerow entry clear. -/
def State.dropCopy (s : State) (agent line : Nat) (back : Bool) : State :=
  let dirty := s.agentState agent line == some .m
  let s := s.modPool fun p => { p with agents := p.agents.filter (fun x => !(x.agent == agent && x.line == line)) }
  let s := s.modDir line fun e => { e.setPv (e.pv.filter (· != agent)) false with d := e.d || (dirty && back) }
  let s := if dirty then
      if back then s.modPool fun p => { p with poolOld := dropLine p.poolOld line }
      else { s with mem := restoreLine s.mem s.pool.poolOld line, pool := { s.pool with poolOld := dropLine s.pool.poolOld line } }
    else s
  { s with cores := s.cores.map (fun c => if c.pcn == agent then c.dropL1 line else c) }

/-- An agent evicts a line (R201, R247): its notice is processed, and a core's reservation on the granule is lost. -/
def State.evictCopy (s : State) (agent line : Nat) : State :=
  (s.dropCopy agent line true).loseResvs line (fun c => c.pcn == agent)

/-- Every agent but one loses its copy, M data returning (SnpI, BInv). -/
def State.dropOthers (s : State) (line : Nat) (keep : Option Nat) : State :=
  (((s.dirEntry line).map DirEntry.pv).getD []).foldl
    (fun s a => if some a = keep then s else s.dropCopy a line true) s

/-- The Pool writes a line to DRAM when D = 1 (R248): poison goes with the poison code (R264), a lost group discards it (R283). The write waits at its controller (R285). -/
def State.writeBack (s : State) (line : Nat) : State :=
  match s.dirEntry line with
  | none => s
  | some e =>
    let rest := s.mc.poisonCode.filter (· != line)
    if e.d || e.p then
      { s with
        mc := { s.mc with poisonCode := if e.p then line :: rest else rest, writes := s.mc.writes ++ [line] },
        pool := { s.pool with dramOld := dropLine s.pool.dramOld line } }
    else s

/-- The directory forgets a line. -/
def State.forgetLine (s : State) (line : Nat) : State :=
  s.modPool fun p => { p with dir := p.dir.filter (fun e => e.line != line) }

/-- A Pool eviction of a line whose answers are all in (R248): the back-invalidated cores lose a reservation on it (R201). -/
def State.evictLine (s : State) (line : Nat) : State :=
  let pv := ((s.dirEntry line).map DirEntry.pv).getD []
  (((s.dropOthers line none).loseResvs line (fun c => pv.contains c.pcn)).writeBack line).forgetLine line

/-- Whether a request for a line is in progress or waits at its slice (R250): one that waits for its victim to go, or for a victim, among them. -/
def State.reqWaiting (s : State) (line : Nat) : Bool :=
  s.pool.txns.any (fun t => t.line == line || (t.req.map PoolReq.line) == some line) || s.pool.noVictim.any (fun r => r.line == line)

/-- Whether a line has an open transaction (R250, R259): a request in progress, its eviction, or its hold mark (R261). -/
def State.txnOpen (s : State) (line : Nat) : Bool := s.reqWaiting line || s.pool.holds.any (fun h => h.line == line)

/-- Whether the copies of a line cannot be called back at once: it has an open transaction, a core holds it under R202, or a grant of it has yet to arrive (R252). -/
def State.lineBusy (s : State) (line : Nat) : Bool :=
  s.txnOpen line || s.cores.any (fun c => (c.hold.map HoldMark.line) == some line) || s.flying (fun m => m.grantsLine line)

/-- The line that a way of a set holds. -/
def State.wayLine (s : State) (slice set way : Nat) : Option DirEntry :=
  s.pool.dir.find? (fun e => e.way == way && setOf e.line == set && sliceOf e.line == slice)

/-- The ways of slice k that are disabled or drain. -/
def State.wayOff (s : State) (k w : Nat) : Bool :=
  match s.pool.ways[k]? with
  | some v => bitAt v.dis w || v.drain.contains w
  | none => true

/-- Whether a way is eligible as a victim (R259). -/
def State.eligible (s : State) (slice set way : Nat) : Bool :=
  !s.wayOff slice way && !(way == 15 && (s.pool.lock && !s.pool.lockFail)) &&
  (match s.wayLine slice set way with
   | some e => !s.txnOpen e.line
   | none => true)

/-- The way that R259 chooses for a line, w being LFSR[3:0]; none when no way is eligible. A window line has way 15 (R265). -/
def State.chooseWay (s : State) (line w : Nat) : Option Nat :=
  let sl := sliceOf line
  let st := setOf line
  let ways := (List.range 16).filter (s.eligible sl st)
  if s.paKind (line * 256) = .window then some 15 else
  match ways.find? (fun k => (s.wayLine sl st k).isNone) with
  | some k => some k
  | none => ((List.range 16).map (fun i => (w + i) % 16)).find? ways.contains

/-- A line is installed in a way (R248), with P from DRAM; the controller's read of it is under way. -/
def State.install (s : State) (line w : Nat) : State :=
  let e : DirEntry := { line := line, way := w, d := false, x := false, p := s.isDram (line * 256) && s.dramPoison line, pv := [], hedge := [], ecc := 0 }
  { s with
    pool := { s.pool with dir := e.write :: s.pool.dir },
    mc := if s.isDram (line * 256) then { s.mc with reads := s.mc.reads ++ [line] } else s.mc }

/-- One step of an LFSR with the polynomial x^32 + x^22 + x^2 + x + 1 (R260, log 143). -/
def lfsrStep (x : Word32) : Word32 := (x <<< 1) ||| ((x >>> 31) ^^^ ((x >>> 21) &&& 1) ^^^ ((x >>> 1) &&& 1) ^^^ (x &&& 1))

/-- An LFSR after k Pool-clock cycles. -/
def lfsrRun : Nat → Word32 → Word32
  | 0, x => x
  | k + 1, x => lfsrRun k (lfsrStep x)

/-- LFSR[3:0] of a line's slice now (R259, R260): it has advanced by the Pool-clock cycles since it was last used, whose number is free (log 8). -/
def State.drawWay (s : State) (line : Nat) : Nat × State :=
  let (v, s) := s.takeFree
  let x := lfsrRun v.toNat (s.pool.lfsr.getD (sliceOf line) 1)
  (x.toNat % 16, s.modPool fun p => { p with lfsr := modAt p.lfsr (sliceOf line) (fun _ => x) })

/-- A line is made valid in the Pool in one step (R248, R259): nothing when it is valid already; none when no way is eligible or the victim cannot go at once. -/
def State.allocate (s : State) (line : Nat) : Option State :=
  match s.dirEntry line with
  | some _ => some s
  | none =>
    let (v, s) := s.drawWay line
    match s.chooseWay line v with
    | none => none
    | some w =>
      match s.wayLine (sliceOf line) (setOf line) w with
      | none => some (s.install line w)
      | some e => if s.lineBusy e.line then none else some ((s.evictLine e.line).install line w)

/-- Whether a core other than the agent holds the line under R202. -/
def State.heldByOther (s : State) (agent : Nat) (line : Nat) : Bool :=
  s.cores.any (fun c => c.pcn != agent && (match c.hold with | some h => h.line == line | none => false))

/-- Whether the hold mark of another agent stands at a line (R261). -/
def State.markedByOther (s : State) (agent line : Nat) : Bool := s.pool.holds.any (fun h => h.line == line && h.agent != agent)

/-- Whether an access of an agent that lacks a line has to wait at the home slice (R202, R250, R261). -/
def State.lineWaits (s : State) (agent line : Nat) : Bool :=
  s.heldByOther agent line || s.markedByOther agent line || s.reqWaiting line || s.pool.queue.any (fun r => r.line == line)

/-- The set of a line in an agent's cache (R207, R249): 2,048 sets of an L2 and 512 of a group cache, by the low bits of the line number (log 144). -/
def cacheSet (agent line : Nat) : Nat := if agent < 52 then line % 2048 else line % 512

/-- The copies that share a set of an agent's cache. -/
def State.setCopies (s : State) (agent line : Nat) : List AgentLine :=
  s.pool.agents.filter (fun x => x.agent == agent && cacheSet agent x.line == cacheSet agent line)

/-- Whether an array test keeps a way of an agent's cache empty (R256). -/
def State.wayTested (s : State) (agent way : Nat) : Bool :=
  match s.pool.atest with
  | some t => t.core == agent && t.way == way
  | none => false

/-- Whether a way of an agent's set is taken: by a copy, by a grant on its way, or by an array test. -/
def State.wayTaken (s : State) (agent line way : Nat) : Bool :=
  s.wayTested agent way || (s.setCopies agent line).any (fun x => x.way == way) ||
  s.flying (fun m => match m with
    | .data a l _ w => a == agent && w == way && cacheSet agent l == cacheSet agent line
    | _ => false)

/-- The way of an agent's cache for a line: the one that it has, the lowest free one, or that of a copy which goes (R201, R207, R247); which copy goes is free (log 144). None where no copy of the set can go. -/
def State.placeCopy (s : State) (agent line : Nat) : Option (Nat × State) :=
  match s.pool.agents.find? (fun x => x.agent == agent && x.line == line) with
  | some x => some (x.way, s)
  | none =>
    match (List.range 16).find? (fun w => !s.wayTaken agent line w) with
    | some w => some (w, s)
    | none =>
      let may := (s.setCopies agent line).filter (fun x => !s.wayTested agent x.way && !s.lineBusy x.line)
      let (v, t) := s.takeFree
      match may[v.toNat % may.length]? with
      | some x => some (x.way, t.evictCopy agent x.line)
      | none => none

/-- An agent's copy of a line in a state, with nothing else of it changed. -/
def State.putCopy (s : State) (agent line way : Nat) (st : AgentState) : State :=
  s.modPool fun p => { p with
    agents := { agent := agent, line := line, way := way, st := st } :: p.agents.filter (fun x => !(x.agent == agent && x.line == line)) }

/-- The directory names an agent as the only holder, with write permission. -/
def State.ownLine (s : State) (agent line way : Nat) : State :=
  s.modDir line fun e => (e.setPv [agent] true).tag agent way .e

/-- An agent obtains a line with write permission (RdX or Upg, R251) in one step, or has it already: every other copy goes. None where the line or a victim is busy. -/
def State.acquire (s : State) (agent line : Nat) : Option State :=
  if s.agentState agent line == some .m || s.agentState agent line == some .e then some s
  else if s.lineWaits agent line || s.flying (fun m => m.grantsLine line) then none
  else match s.allocate line with
    | none => none
    | some s =>
      match (s.dropOthers line (some agent)).placeCopy agent line with
      | none => none
      | some (w, s) => some ((s.putCopy agent line w .e).ownLine agent line w)

/-- A class that the spec does not state, as a free value. -/
def State.freeClass (s : State) : FaultClass × State :=
  let (v, s) := s.takeFree
  (match v.toNat % 4 with
   | 0 => .corrected
   | 1 => .recoverable
   | 2 => .severe
   | _ => .fatal, s)

/-- A line that is valid in the Pool is poisoned (R264), and Weir records it against the slice. -/
def State.poisonCopy (s : State) (line : Nat) : State :=
  let (cls, s) := (s.modDir line (fun e => { e with p := true })).freeClass
  s.report (0x500 + 32 * sliceOf line + 19) cls none (BitVec.ofNat 64 (line * 256))

/-- A line is poisoned in the Pool (R264); none while no way is free. -/
def State.poisonLine (s : State) (line : Nat) : Option State := (s.allocate line).map (fun s => s.poisonCopy line)

/-- A byte written into the coherent value; the DRAM copy keeps what it held, and the Pool copy too when an agent writes its own copy (R249). -/
def State.putByte (s : State) (a : Nat) (b : Byte) (own : Bool) : State :=
  let old := s.mem.read a
  let p := s.pool
  { s with
    mem := s.mem.write a b,
    pool := { p with
      dramOld := if s.isDram a then keepOld p.dramOld a old else p.dramOld,
      poolOld := if own then keepOld p.poolOld a old else p.poolOld } }

/-- Bytes written into the coherent value. -/
def State.putBytes (s : State) (a : Nat) (own : Bool) : List Byte → State
  | [] => s
  | b :: bs => State.putBytes (s.putByte a b own) (a + 1) own bs

/-- The bytes of a guarded region: 2^21 times BASE and SIZE; 0 and values above 32,768 give an empty region (R434). -/
def GuardRegion.holds (g : GuardRegion) (a : Nat) : Bool :=
  g.en && decide (g.size.toNat ≤ 32768) && decide (g.base.toNat * 2 ^ 21 ≤ a) && decide (a < (g.base.toNat + g.size.toNat) * 2 ^ 21)

/-- Whether an address lies in a guarded region (R434). -/
def State.guarded (s : State) (a : Nat) : Bool := s.ct.regions.any (fun g => g.holds a)

/-- Whether the active module gathers deltas (R441-R443). -/
def State.gathers (s : State) : Bool := s.ct.gathering && s.ct.role == .active && (s.ct.pstate == .joining || s.ct.pstate == .paired)

/-- Bytes that the delta entries of the gathered guarded bytes take: 44 for each line and one for each byte (R438). -/
def dirtyBytes (xs : List Nat) : Nat := 44 * (xs.map lineOf).eraseDups.length + xs.length

/-- The quota of one beat's delta (R440). -/
def deltaQuota : Nat := 90000

/-- The bytes that the entries gathered in the present beat take, records aside (R438, R440). -/
def State.deltaUsed (s : State) : Nat := dirtyBytes s.ct.dirty + 140 * s.ct.cbsDirty.length + 12 * s.ct.retireDirty.length

/-- A guarded store enters the delta of the beat in which it is performed (R192). -/
def State.gatherBytes (s : State) (a n : Nat) : State :=
  if s.gathers then { s with ct := { s.ct with dirty := ((List.range n).map (a + ·)).filter (fun x => !s.ct.dirty.contains x) ++ s.ct.dirty } }
  else s

/-- Whether the home slices hold further guarded stores: until the next boundary (R440), or while POWER_STABLE is deasserted (R467). -/
def State.quotaFull (s : State) (n : Nat) : Bool := !s.plant.stable || s.gathers && decide (deltaQuota < s.deltaUsed + 44 + n)

/-- A read of a line that a controller has yet to complete is not needed any more: the whole line has been written. -/
def State.dropRead (s : State) (line : Nat) (whole : Bool) : State :=
  if whole then { s with mc := { s.mc with reads := s.mc.reads.filter (· != line) } } else s

/-- The whole line is stored. -/
def wholeLine (a n : Nat) : Bool := a % 256 == 0 && n == 256

/-- A WrNA at the home slice (R257): bytes of one line written for a station; every copy goes, D := 1; a whole line clears P (R264). None when it has to wait. -/
def State.wrNa (s : State) (a : Nat) (bs : List Byte) : Option State :=
  let line := lineOf a
  if s.lineBusy line || s.pool.queue.any (fun r => r.line == line) then none
  else match s.allocate line with
    | none => none
    | some s =>
      let s := s.dropOthers line none
      let s := s.putBytes a false bs
      let s := s.modDir line fun e => { e with d := true, p := e.p && !wholeLine a bs.length }
      some ((s.dropRead line (wholeLine a bs.length)).loseResvs line (fun _ => true))

/-- A guarded store on this module: performed at the home slice and gathered, or on a standby discarded and recorded as RECOVERABLE of 0xA00 (R435, R436). -/
def State.guardedStore (s : State) (a : Nat) (bs : List Byte) : Option State :=
  if s.ct.role == .standby then some (s.report 0xA00 .recoverable none (BitVec.ofNat 64 a))
  else if s.quotaFull bs.length then none
  else (s.wrNa a bs).map (fun s => s.gatherBytes a bs.length)

/-- A store of a logical core reaches its home slice (R180): bytes of one line at physical address a. None when it has to wait. -/
def State.performStore (s : State) (n : Nat) (a : Nat) (bs : List Byte) : Option State :=
  if s.windowForming a then none
  else match s.paKind a with
    | .hole => some (s.reportCore n 13 .recoverable none (BitVec.ofNat 64 a))
    | k =>
      if k == .dram && s.guarded a then s.guardedStore a bs
      else
        let agent := (s.core n).pcn
        match s.acquire agent (lineOf a) with
        | none => none
        | some s =>
          let s := s.putBytes a true bs
          let s := s.modPool fun p => { p with agents := p.agents.map (fun x => if x.agent == agent && x.line == lineOf a then { x with st := .m } else x) }
          let s := s.modDir (lineOf a) fun e => { e with p := e.p && !wholeLine a bs.length }
          some ((s.dropRead (lineOf a) (wholeLine a bs.length)).loseResvs (lineOf a) (fun c => c.pcn != agent))

end Sys2Proof.Machine
end

