-- ==== Sys2Proof/Machine/Ecdsa.lean ====
section
/-! DEFINITION. ECDSA over P-384 (FIPS 186-5, SP 800-186) with SHA-384, as the patch image and the boot image are signed (09 R239, 21 R490). The spec names the scheme and not its constants (log 152). -/

namespace Sys2Proof.Machine

/-- The prime of the field. -/
def p384 : Nat := 2 ^ 384 - 2 ^ 128 - 2 ^ 96 + 2 ^ 32 - 1

/-- The order of the base point. -/
def p384Order : Nat := 0xFFFFFFFFFFFFFFFFFFFFFFFFFFFFFFFFFFFFFFFFFFFFFFFFC7634D81F4372DDF581A0DB248B0A77AECEC196ACCC52973

/-- The constant of the curve y^2 = x^3 - 3x + b. -/
def p384B : Nat := 0xB3312FA7E23EE7E4988E056BE3F82D19181D9C6EFE8141120314088F5013875AC656398D8A2ED19D2A85C8EDD3EC2AEF

/-- A point with Jacobian coordinates: x / z^2 and y / z^3, and the point at infinity where z = 0. -/
structure EcPoint where
  x : Nat
  y : Nat
  z : Nat
  deriving DecidableEq, Repr

/-- The base point. -/
def p384G : EcPoint :=
  { x := 0xAA87CA22BE8B05378EB1C71EF320AD746E1D3B628BA79B9859F741E082542A385502F25DBF55296C3A545E3872760AB7,
    y := 0x3617DE4A96262C6F5D9E98BF9292DC29F8F41DBD289A147CE9DA3113B5F0B8C00A60B1CE1D7E819D7A431D7C90EA0E5F, z := 1 }

/-- A product in the field. -/
def fMul (a b : Nat) : Nat := a * b % p384

/-- A difference in the field, of reduced numbers. -/
def fSub (a b : Nat) : Nat := (a + p384 - b) % p384

/-- Twice a point. -/
def EcPoint.double (a : EcPoint) : EcPoint :=
  let delta := fMul a.z a.z
  let gamma := fMul a.y a.y
  let beta := fMul a.x gamma
  let alpha := fMul 3 (fMul (fSub a.x delta) ((a.x + delta) % p384))
  let x := fSub (fMul alpha alpha) (fMul 8 beta)
  { x := x, y := fSub (fMul alpha (fSub (fMul 4 beta) x)) (fMul 8 (fMul gamma gamma)), z := fMul 2 (fMul a.y a.z) }

/-- The sum of two points. -/
def EcPoint.add (a b : EcPoint) : EcPoint :=
  if a.z = 0 then b
  else if b.z = 0 then a
  else
    let za := fMul a.z a.z
    let zb := fMul b.z b.z
    let u := fMul a.x zb
    let h := fSub (fMul b.x za) u
    let s := fMul a.y (fMul zb b.z)
    let r := fSub (fMul b.y (fMul za a.z)) s
    if h = 0 then (if r = 0 then a.double else { x := 1, y := 1, z := 0 })
    else
      let hh := fMul h h
      let v := fMul u hh
      let x := fSub (fSub (fMul r r) (fMul hh h)) (fMul 2 v)
      { x := x, y := fSub (fMul r (fSub v x)) (fMul s (fMul hh h)), z := fMul h (fMul a.z b.z) }

/-- The bits of a number below 2^384, the highest first. -/
def bits384 (k : Nat) : List Bool := (List.range 384).reverse.map k.testBit

/-- A multiple of a point. -/
def EcPoint.mul (a : EcPoint) (k : Nat) : EcPoint :=
  (bits384 k).foldl (fun q b => if b then q.double.add a else q.double) { x := 1, y := 1, z := 0 }

/-- A power of a number modulo m. -/
def powMod (m a k : Nat) : Nat := (bits384 k).foldl (fun x b => if b then x * x % m * a % m else x * x % m) 1

/-- The public key that 97 bytes encode as an uncompressed point; none where they name no point of the curve. -/
def ecKey (bs : List Byte) : Option EcPoint :=
  let x := natOf ((bs.drop 1).take 48)
  let y := natOf (bs.drop 49)
  if bs.length = 97 ∧ bs.headD 0 = 4 ∧ x < p384 ∧ y < p384 ∧ fMul y y = (fMul x (fMul x x) + (p384 - fMul 3 x) + p384B) % p384 then
    some { x := x, y := y, z := 1 }
  else none

/-- Whether a signature, r and then s, of the digest of a message verifies under a public key. -/
def ecdsaOk (key msg sig : List Byte) : Bool :=
  let r := natOf (sig.take 48)
  let t := natOf (sig.drop 48)
  match ecKey key with
  | none => false
  | some q =>
    if sig.length = 96 ∧ 0 < r ∧ r < p384Order ∧ 0 < t ∧ t < p384Order then
      let w := powMod p384Order t (p384Order - 2)
      let e := natOf (sha sha384 msg)
      let a := (p384G.mul (e * w % p384Order)).add (q.mul (r * w % p384Order))
      decide (a.z ≠ 0) && fMul a.x (powMod p384 (fMul a.z a.z) (p384 - 2)) % p384Order == r
    else false

end Sys2Proof.Machine
end

