-- ==== Sys2Proof/Machine/ControlStore.lean ====
section
/-! DEFINITION. The control store: its words, the sequencer, the patch image and its checks, and the switch of a core to an image (09 R230-R244). -/

namespace Sys2Proof.Machine

/-! Microwords (R232). -/

/-- A microword of its upper 160 bits, with its ECC. -/
def microSeal (x : BitVec 160) : BitVec 176 := x ++ Config.microEcc x

/-- What an unloaded word of patch RAM holds (R235): FMT 0b11, and the correct ECC. -/
def unloadedWord : BitVec 176 := microSeal (BitVec.ofNat 160 (3 * 2 ^ 158))

/-- FMT of a word. -/
def microFmt (w : BitVec 176) : Nat := (fld w 174 2).toNat

/-- SEQOP of a word. -/
def microSeq (w : BitVec 176) : Nat := (fld w 128 8).toNat

/-- A microaddress that lies k words further in the same space (R230). -/
def microAdd (a : Half) (k : Nat) : Half := (a &&& 0x8000) ||| (BitVec.ofNat 16 (a.toNat + k) &&& 0x7FFF)

/-- The word that is issued at a microaddress (R230, R235, R237): of patch RAM, of the redirect entry that names the ROM address, or of ROM. -/
def ControlStore.wordAt (c : ControlStore) (a : Half) : BitVec 176 :=
  let k := (fld a 0 15).toNat
  if bitAt a 15 then lookupD c.ram k unloadedWord
  else match c.redir.find? (fun r => r.rom.toNat == k) with
    | some r => r.word
    | none => Config.romWord k

/-! The sequencer (R233-R235). -/

/-- A sequence in progress: its microaddress, its microstack with the newest entry first, the working state that it has written (R217), and whether a word of it has waited for the store buffer. -/
structure MicroRun where
  upc : Half
  stack : List Half
  work : List Word
  drains : Bool
  deriving DecidableEq, Repr

/-- What comes of issuing a word: the sequence goes on, ends, or meets a sequencing error (R235). -/
inductive MicroStep where
  | go (r : MicroRun)
  | exit (r : MicroRun)
  | error (r : MicroRun)
  deriving DecidableEq, Repr

/-- The sequence goes on at an address. -/
def MicroRun.goTo (r : MicroRun) (a : Half) : MicroStep := .go { r with upc := a }

/-- The word of the sequence's microaddress is issued (R232, R233, R235). SER and NOINT ask for nothing more in a model whose sequences are never split. -/
def ControlStore.issue (c : ControlStore) (seed : Word) (i : Nat) (r : MicroRun) : MicroStep :=
  let w := c.wordAt r.upc
  let x := Config.microResult w seed i
  let fall := if microFmt w = 0 then microAdd r.upc 1 else fld w 32 16
  let tgt : Half := fld w 48 16
  let next := { r with
    drains := r.drains || bitAt w 30,
    work := if bitAt w 28 then modAt r.work (fld w 16 8).toNat (fun _ => x) else r.work }
  if 2 ≤ microFmt w then .error r
  else match microSeq w with
    | 0x01 => next.goTo tgt
    | 0x02 => next.goTo (if x = 0 then tgt else fall)
    | 0x03 => next.goTo (if x ≠ 0 then tgt else fall)
    | 0x04 => next.goTo (if bitAt x 63 then tgt else fall)
    | 0x05 => next.goTo (microAdd tgt (fld x 0 4).toNat)
    | 0x06 => if 4 ≤ r.stack.length then .error r else { next with stack := fall :: r.stack }.goTo tgt
    | 0x07 =>
      match r.stack with
      | [] => .error r
      | a :: rest => { next with stack := rest }.goTo a
    | 0x08 => .exit next
    | _ => next.goTo fall

/-- A sequence of at most k further words; one that has not ended by then ends (R231, log 151). -/
def ControlStore.run (c : ControlStore) (seed : Word) : Nat → MicroRun → MicroStep
  | 0, r => .exit r
  | k + 1, r =>
    match c.issue seed k r with
    | .go r => ControlStore.run c seed k r
    | e => e

/-- The most words that a sequence issues. -/
def microMax : Nat := 65536

/-- A sequence from its entry address (R238), in a core that no sequence is in progress in. -/
def ControlStore.sequence (c : ControlStore) (seed : Word) (entry : Nat) : MicroStep :=
  c.run seed microMax { upc := BitVec.ofNat 16 entry, stack := [], work := List.replicate 43 0, drains := false }

/-! The patch image (R239). -/

/-- Bytes off to off + n of an image as one number, zeros beyond its end. -/
def imgNat (bs : List Byte) (off n : Nat) : Nat := natOf (padTo n ((bs.drop off).take n))

/-- Whether bytes off to off + n of an image are zero. -/
def imgZero (bs : List Byte) (off n : Nat) : Bool := ((bs.drop off).take n).all (· == 0)

/-- VERSION of an image (R239). -/
def imgVersion (bs : List Byte) : Word := BitVec.ofNat 64 (imgNat bs 8 8)

/-- NWORDS and NREDIR of an image. -/
def imgWords (bs : List Byte) : Nat := imgNat bs 0x14 2
def imgRedirs (bs : List Byte) : Nat := imgNat bs 0x16 2

/-- The microword whose 24 bytes begin at off (R239): its 176 bits stand in the low 22 bytes. -/
def imgWord (bs : List Byte) (off : Nat) : BitVec 176 := BitVec.ofNat 176 (imgNat bs (off + 2) 22)

/-- Where patch word i and redirect record i stand. -/
def patchOffset (i : Nat) : Nat := 256 + 24 * i
def redirOffset (bs : List Byte) (i : Nat) : Nat := 256 + 24 * imgWords bs + 32 * i

/-- The control store that an image fills (R239, R242). -/
def imgStore (bs : List Byte) : ControlStore :=
  { ram := (List.range (imgWords bs)).map (fun i => (i, imgWord bs (patchOffset i))),
    redir := (List.range (imgRedirs bs)).map (fun i => { rom := BitVec.ofNat 15 (imgNat bs (redirOffset bs i) 2), word := imgWord bs (redirOffset bs i + 8) }) }

/-- A microaddress of a patch that exists (R230, R241 step 7): in ROM, or in patch RAM below NWORDS; with k words from it on in the same space. -/
def patchTarget (nwords k : Nat) (a : Half) : Bool :=
  let w := (fld a 0 15).toNat
  if bitAt a 15 then decide (w + k ≤ nwords) else decide (w + k ≤ 32768)

/-- A linked word with assigned fields and a correct ECC (R232-R234, R241 step 7). -/
def microwordForm (nwords : Nat) (w : BitVec 176) : Bool :=
  microFmt w == 1 && decide (microSeq w ≤ 8) && decide ((fld w 16 8).toNat ≤ 42) && fld w 24 4 == (0 : BitVec 4) &&
  patchTarget nwords (if microSeq w = 5 then 16 else 1) (fld w 48 16) && patchTarget nwords 1 (fld w 32 16) && Config.microFields w &&
  fld w 0 16 == Config.microEcc (fld w 16 160)

/-- The microword whose 24 bytes begin at off: two zero bytes, then 176 bits (R239). The zero bytes of the body are checked here, in step 7, and not in step 1 (DESIGN CHOICE, log 59). -/
def imgWordOk (bs : List Byte) (off : Nat) : Bool := imgZero bs off 2 && microwordForm (imgWords bs) (imgWord bs off)

/-- Whether no element of a list stands in it twice. -/
def allDistinct : List Nat → Bool
  | [] => true
  | x :: xs => !xs.contains x && allDistinct xs

/-- Step 7 of R241. -/
def imgWordsOk (bs : List Byte) : Bool :=
  let redirs := List.range (imgRedirs bs)
  (List.range (imgWords bs)).all (fun i => imgWordOk bs (patchOffset i)) &&
  redirs.all (fun i => decide (0x8000 ≤ imgNat bs (redirOffset bs i) 2) && imgZero bs (redirOffset bs i + 2) 6 && imgWordOk bs (redirOffset bs i + 8)) &&
  allDistinct (redirs.map (fun i => imgNat bs (redirOffset bs i) 2)) &&
  imgNat bs 8 8 % 2 == 1

/-- Steps 1 and 2 of R241: the framing of an image. -/
def imgFrame (bs : List Byte) : Byte :=
  if !(imgNat bs 0 4 == 0x5A504D43 && imgNat bs 4 2 == 1 && imgNat bs 6 2 == 0x100 && imgZero bs 0x1C 228) then 1
  else if !(decide (imgWords bs ≤ 4096) && decide (imgRedirs bs ≤ 64) && imgNat bs 0x18 4 == 24 * imgWords bs + 32 * imgRedirs bs &&
      bs.length == 256 + imgNat bs 0x18 4 + 96) then 2
  else 0

/-- Step 3 of R241: the signature of header and body verifies under the Daxlor key, whose digest the fuses hold (R239). -/
def imgSigned (dkeyh : BitVec 384) (bs : List Byte) : Bool :=
  natOf (sha sha384 Config.daxlorKey) == dkeyh.toNat && ecdsaOk Config.daxlorKey (bs.take (bs.length - 96)) (bs.drop (bs.length - 96))

/-- The checks of R241 but the eighth, in order: the status of the first that fails, or 0. -/
def checkImage (f : Fuses) (bs : List Byte) : Byte :=
  let version := imgVersion bs
  if imgFrame bs ≠ 0 then imgFrame bs
  else if !imgSigned f.dkeyh bs then 3
  else if !(imgNat bs 0x10 4).testBit Config.stepping then 4
  else if fld version 48 16 ≠ Config.romId then 5
  else if (fld version 8 8).toNat < f.msvn then 6
  else if !imgWordsOk bs then 7
  else 0

/-! The master copy, and the stores that are filled from it (R242, R244). -/

/-- The life cycle, the resets and the microcode load changed. -/
def State.modLife (s : State) (f : Life → Life) : State := { s with life := f s.life }

/-- What the master copy fills a control store with; the rest of patch RAM is unloaded (R235). -/
def Life.masterStore (l : Life) : ControlStore :=
  match l.master with
  | some p => imgStore p.image
  | none => .empty

/-- MCVER of a core that takes the master copy (R240): VERSION as the image gives it, bits [7:1] too, which no check of R241 refuses (DESIGN CHOICE, log 59). -/
def Life.masterVersion (l : Life) : Word :=
  match l.master with
  | some p => p.version
  | none => mcverRom

/-- The control store of a logical core: that of the physical core that serves it. -/
def State.store (s : State) (n : Nat) : ControlStore := s.life.coreStores.getD (s.core n).pcn .empty

/-- The control store of a physical core filled from the master copy. -/
def Life.fillCore (l : Life) (pcn : Nat) : Life := { l with coreStores := modAt l.coreStores pcn (fun _ => l.masterStore) }

/-- Activation ends when every present core has switched (R244). -/
def State.mclSettle (s : State) : State :=
  if s.life.mclActive && s.life.mclDue.isNone && s.life.toSwitch.isEmpty then s.modLife fun l => { l with mclActive := false, mclStatus := 0 } else s

/-- A core takes the master copy (R242, R244): its store and its MCVER; activation no longer waits for it. -/
def State.takeMaster (s : State) (n : Nat) : State :=
  let pcn := (s.core n).pcn
  let s := s.modCore n fun c => { c with mcver := s.life.masterVersion }
  (s.modLife fun l => { l.fillCore pcn with toSwitch := l.toSwitch.filter (· != n) }).mclSettle

/-- Activation no longer waits for a core that is gone. -/
def State.mclGone (s : State) (n : Nat) : State := (s.modLife fun l => { l with toSwitch := l.toSwitch.filter (· != n) }).mclSettle

/-- Whether a core stands at an instruction boundary or between two string elements (R244): no instruction of it waits or is in progress, and it is neither stalled nor being spared. -/
def Core.betweenInstrs (c : Core) : Bool :=
  (c.run == .running || c.run == .waiting || c.run == .paused) && !c.sparing && c.inval.isNone && c.devRead.isNone && c.ioWait.isNone

/-- A core that an activation waits for switches at its next boundary (R244). -/
def State.switchDue (s : State) (n : Nat) : State :=
  if s.life.toSwitch.contains n && (s.core n).betweenInstrs then s.takeMaster n else s

/-! Sequencing errors (R235). -/

/-- A microcode sequencing error: the core is CHECKSTOPPED without a TSB, with a FATAL event of its microcode source that names the microaddress (in DETAIL, log 151). -/
def State.microStop (s : State) (n : Nat) (r : MicroRun) : State :=
  ((s.reportCore n 9 .fatal (some (r.upc.setWidth 32)) 0).modCore n fun c =>
    { c with run := .checkstopped, resv := none, hold := none, due := [], ioWait := none, upc := r.upc, ustack := r.stack, work := r.work }).mclGone n

/-- The microcoded sequence of core n at an entry address. Without redirect entries it is the one of ROM, which ends (R234, R238). -/
def State.microRun (s : State) (n entry : Nat) : MicroStep × State :=
  if (s.store n).redir.isEmpty then (.exit { upc := BitVec.ofNat 16 entry, stack := [], work := List.replicate 43 0, drains := false }, s)
  else ((s.store n).sequence s.takeFree.1 entry, s.takeFree.2)

/-- A word of patch RAM whose single-bit error was corrected is written again from the master copy (R236). -/
def Life.rewriteWord (l : Life) (pcn : Nat) (a : Half) : Life :=
  let k := (fld a 0 15).toNat
  match l.masterStore.ram.find? (fun w => w.1 == k) with
  | some w => if bitAt a 15 then { l with coreStores := modAt l.coreStores pcn (fun c => { c with ram := c.ram.map (fun x => if x.1 == k then w else x) }) } else l
  | none => l

end Sys2Proof.Machine
end

