-- ==== Sys2Proof/Machine/Ports.lean ====
section
/-! DEFINITION. The map of the I/O space (01 R22-R25): the ports, their addresses, and what their heading lines say. -/

namespace Sys2Proof.Machine

/-- A defined port (R24), by the unit that holds it. -/
inductive Port where
  /-- a doubleword of the capability chain, by its offset -/
  | cap (off : Nat)
  | intpend | icisend | icisrc
  | tcmp (i : Nat) | tctl (i : Nat)
  | poolmode | poolwin | poolrib | poolril | poolric
  | poolway (k : Nat)
  | memcfg | memscrub
  | memgrp (g : Nat) | memch (n : Nat)
  | cssinfl | mschsel | mschcfg | mschbind | mschcmd | csslcp | scpcfg | cssfgen | scpstat | slcmd | slarg | sllen
  | slctl (k : Nat) | slgb (k g : Nat) | slgs (k g : Nat)
  | ethcfg (p : Nat) | ethstat (p : Nat) | ethmac (p : Nat) | ethpfc (p : Nat) | ethcnt (p i : Nat)
  | czeng | cxeng | lkcmd
  | lkdata (i : Nat) | lkstat (p : Nat)
  | wcfg | wstat | wlogptr | wlogsel
  | wlogd (i : Nat) | wsum (i : Nat)
  | wsrccfg (n : Nat) | wsrcact (n : Nat) | wsrcstat (n : Nat) | wsrccnt (n : Nat)
  | ctcmd | ctarg | ctpair | ctpairid | jstat | jtail | cthb | ctwit | rstcmd | lcctl
  | ctmap (n : Nat) | ctcpmap (i : Nat) | copslot (i : Nat) | ctgreg (r : Nat) | ctwkey (i : Nat) | rsth (i : Nat) | lcdata (i : Nat)
  | pltod | pltodseth | pltodsetl | plslew | plppsh | plppsl | plpower | pltherm | plpump | plseq
  | sns (n : Nat) | snslim (n : Nat)
  /-- register r of completion queue j of slice k: CQBASE, CQSIZE, CQHEAD, CQTAIL, CQCTL -/
  | cq (k j r : Nat)
  /-- register r of the compression or cipher rings of slice k: SQ, SQP, CQ, CQP, CTL -/
  | cz (k r : Nat) | cx (k r : Nat)
  | kcmd (k : Nat) | kattr (k : Nat) | kstat (k : Nat) | kcur (k : Nat) | kdata (k i : Nat)
  | mclbuf (i : Nat)
  | mclctl | mcllen | mclstat
  deriving DecidableEq, Repr

/-- Item i of an array of n doublewords that begins at offset base, where off falls on one. -/
def item (off base n : Nat) : Option Nat :=
  if base ≤ off ∧ (off - base) % 8 = 0 ∧ (off - base) / 8 < n then some ((off - base) / 8) else none

/-- The first of two results. -/
def orPort (a b : Option Port) : Option Port :=
  match a with
  | some p => some p
  | none => b

/-- The offsets of the capability chain's 17 doublewords (R505-R508). -/
def capOffsets : List Nat := [0, 8, 0x10, 0x18, 0x20, 0x28, 0x30, 0x38, 0x40, 0x48, 0x50, 0x58, 0x60, 0x68, 0x70, 0x78, 0x80]

/-- The core-local ports (R25). -/
def localPort (o : Nat) : Option Port :=
  match o with
  | 0x100 => some .intpend
  | 0x108 => some .icisend
  | 0x110 => some .icisrc
  | _ => orPort ((item o 0x200 2).map .tcmp) ((item o 0x210 2).map .tctl)

/-- The ports of the Pool and Millrace. -/
def poolPort (o : Nat) : Option Port :=
  match o with
  | 0 => some .poolmode
  | 8 => some .poolwin
  | 0x10 => some .poolrib
  | 0x18 => some .poolril
  | 0x20 => some .poolric
  | _ => (item o 0x100 16).map .poolway

/-- The ports of the memory controllers. -/
def memPort (o : Nat) : Option Port :=
  match o with
  | 0 => some .memcfg
  | 0x10 => some .memscrub
  | _ => orPort ((item o 0x100 4).map .memgrp) ((item o 0x200 20).map .memch)

/-- SLCTL and the eight grant ports of a slice, at an offset inside its 0x80 bytes. -/
def slicePort (k o : Nat) : Option Port :=
  if o = 0 then some (.slctl k)
  else if 8 ≤ o ∧ o < 0x48 ∧ o % 8 = 0 then
    let g := (o - 8) / 0x10
    if (o - 8) % 0x10 = 0 then some (.slgb k g) else some (.slgs k g)
  else none

/-- The global ports of the channel subsystem, and the slice table. -/
def cssPort (o : Nat) : Option Port :=
  match o with
  | 0 => some .cssinfl
  | 8 => some .mschsel
  | 0x10 => some .mschcfg
  | 0x18 => some .mschbind
  | 0x20 => some .mschcmd
  | 0x28 => some .csslcp
  | 0x100 => some .scpcfg
  | 0x108 => some .cssfgen
  | 0x110 => some .scpstat
  | 0x200 => some .slcmd
  | 0x208 => some .slarg
  | 0x210 => some .sllen
  | _ => if 0x10000 ≤ o ∧ o < 0x30000 then slicePort ((o - 0x10000) / 0x80) (o % 0x80) else none

/-- The ports of Ethernet port p. -/
def ethPort (p o : Nat) : Option Port :=
  match o with
  | 0 => some (.ethcfg p)
  | 8 => some (.ethstat p)
  | 0x10 => some (.ethmac p)
  | 0x18 => some (.ethpfc p)
  | _ => (item o 0x100 12).map (.ethcnt p)

/-- The global ports of the cipher unit. -/
def cipherPort (o : Nat) : Option Port :=
  match o with
  | 0 => some .cxeng
  | 0x100 => some .lkcmd
  | _ => orPort ((item o 0x110 2).map .lkstat) ((item o 0x140 6).map .lkdata)

/-- The four ports of an assigned source (R401). -/
def sourcePort (n o : Nat) : Option Port :=
  if !srcAssigned n then none
  else match o with
    | 0 => some (.wsrccfg n)
    | 8 => some (.wsrcact n)
    | 0x10 => some (.wsrcstat n)
    | 0x18 => some (.wsrccnt n)
    | _ => none

/-- The ports of Weir. -/
def weirPort (o : Nat) : Option Port :=
  match o with
  | 0 => some .wcfg
  | 8 => some .wstat
  | 0x10 => some .wlogptr
  | 0x18 => some .wlogsel
  | _ => if 0x10000 ≤ o then sourcePort ((o - 0x10000) / 0x20) (o % 0x20) else orPort ((item o 0x20 4).map .wlogd) ((item o 0x200 64).map .wsum)

/-- The maps of logical to physical units. CTMAP32-47 and CTCPMAP0-15 have the same addresses (log 62). -/
def mapPort (o : Nat) : Option Port :=
  if 0x200 ≤ o ∧ o < 0x280 ∧ Config.overlapIsCp = false then (item o 0x100 48).map .ctmap
  else orPort ((item o 0x200 32).map .ctcpmap) ((item o 0x100 32).map .ctmap)

/-- The ports of the continuity unit. -/
def ctPort (o : Nat) : Option Port :=
  match o with
  | 0 => some .ctcmd
  | 8 => some .ctarg
  | 0x10 => some .ctpair
  | 0x18 => some .ctpairid
  | 0x500 => some .jstat
  | 0x508 => some .jtail
  | 0x600 => some .cthb
  | 0x700 => some .ctwit
  | 0x800 => some .rstcmd
  | 0x900 => some .lcctl
  | _ =>
    orPort (mapPort o) (orPort ((item o 0x300 8).map .copslot) (orPort ((item o 0x400 16).map .ctgreg)
      (orPort ((item o 0x740 4).map .ctwkey) (orPort ((item o 0x840 3).map .rsth) ((item o 0x940 6).map .lcdata)))))

/-- The ports of the plant controller. -/
def plantPort (o : Nat) : Option Port :=
  match o with
  | 0 => some .pltod
  | 8 => some .pltodseth
  | 0x10 => some .pltodsetl
  | 0x18 => some .plslew
  | 0x20 => some .plppsh
  | 0x28 => some .plppsl
  | 0x30 => some .plpower
  | 0x40 => some .pltherm
  | 0x48 => some .plpump
  | 0x50 => some .plseq
  | _ => orPort ((item o 0x1000 512).map .sns) ((item o 0x3000 512).map .snslim)

/-- The ports of a cipher slice page. -/
def cxPage (k o : Nat) : Option Port :=
  match o with
  | 0x100 => some (.kcmd k)
  | 0x108 => some (.kattr k)
  | 0x110 => some (.kstat k)
  | 0x118 => some (.kcur k)
  | _ => orPort ((item o 0 5).map (.cx k)) ((item o 0x140 8).map (.kdata k))

/-- The ports of a channel slice page. -/
def cqPage (k o : Nat) : Option Port := if o < 0x100 then (item (o % 0x40) 0 5).map (.cq k (o / 0x40)) else none

/-- The ports of the microcode load. -/
def mclPort (o : Nat) : Option Port :=
  match o with
  | 0xF0000 => some .mclctl
  | 0xF0008 => some .mcllen
  | 0xF0010 => some .mclstat
  | _ => (item o 0 16384).map .mclbuf

/-- The port at an address (R22-R24); none where none is defined. -/
def portAt (a : Nat) : Option Port :=
  if a < 0x10000 then (if capOffsets.contains a then some (.cap a) else none)
  else if a < 0x100000 then localPort (a - 0x10000)
  else if a < 0x200000 then poolPort (a - 0x100000)
  else if a < 0x400000 then memPort (a - 0x200000)
  else if a < 0x800000 then cssPort (a - 0x400000)
  else if a < 0xA00000 then (if a < 0x810000 then ethPort ((a - 0x800000) / 0x1000) (a % 0x1000) else none)
  else if a < 0xC00000 then (if a = 0xA00000 then some .czeng else none)
  else if a < 0xE00000 then cipherPort (a - 0xC00000)
  else if a < 0xF00000 then weirPort (a - 0xE00000)
  else if a < 0xF80000 then ctPort (a - 0xF00000)
  else if a < 0x1000000 then plantPort (a - 0xF80000)
  else if a < 0x1400000 then cqPage ((a - 0x1000000) / 0x1000) (a % 0x1000)
  else if a < 0x1800000 then (item (a % 0x1000) 0 5).map (.cz ((a - 0x1400000) / 0x1000))
  else if a < 0x1C00000 then cxPage ((a - 0x1800000) / 0x1000) (a % 0x1000)
  else if 0x10000000 ≤ a ∧ a < 0x10100000 then mclPort (a - 0x10000000)
  else none

/-- The slice whose page holds a port (R22, R472). -/
def Port.page : Port → Option Nat
  | .cq k _ _ | .cz k _ | .cx k _ | .kcmd k | .kattr k | .kstat k | .kcur k | .kdata k _ => some k
  | _ => none

/-- The ports of the chain and of the slice pages are open to both privilege states; every other port to supervisor state alone. -/
def Port.userOk : Port → Bool
  | .cap _ => true
  | p => p.page.isSome

/-- The life-cycle states of a heading line. -/
inductive LcStates where
  | every | operService | service | manufacture
  deriving DecidableEq, Repr

/-- The life-cycle states that a port's heading line lists. -/
def Port.states : Port → LcStates
  | .mclbuf _ | .mclctl | .mcllen | .mclstat => .service
  | .lcdata _ => .manufacture
  | .cq _ _ _ | .cz _ _ | .cx _ _ | .kcmd _ | .kattr _ | .kstat _ | .kcur _ | .kdata _ _ => .operService
  | .poolrib | .poolril | .poolric => .operService
  | .mschsel | .mschcfg | .mschbind | .mschcmd | .scpcfg | .slcmd | .slarg | .sllen | .slctl _ | .slgb _ _ | .slgs _ _ => .operService
  | .ethcfg _ | .ethmac _ | .ethpfc _ => .operService
  | .lkcmd | .lkdata _ => .operService
  | .ctcmd | .ctarg | .ctpairid | .ctgreg _ | .ctwit | .ctwkey _ => .operService
  | .pltodseth | .pltodsetl | .plslew | .pltherm | .plpump | .snslim _ => .operService
  | _ => .every

/-- Whether a port is accessible in a life-cycle state (R10, R500). -/
def LcStates.lists (l : LcStates) (state : Nat) : Bool :=
  match l with
  | .every => true
  | .operService => state == 2 || state == 3
  | .service => state == 3
  | .manufacture => state == 0

/-- Whether the life-cycle state lets a port act (R10). -/
def State.portLives (s : State) (p : Port) : Bool := p.states.lists s.life.fuses.state

/-- Whether the unit of a port answers accesses (R194-R196, R410): an Ethernet port that Weir has taken out of use does not (log 63). -/
def State.portAnswers (s : State) : Port → Bool
  | .ethcfg p | .ethstat p | .ethmac p | .ethpfc p | .ethcnt p _ => !s.weir.outOfUse.contains (0x900 + p)
  | _ => true

end Sys2Proof.Machine
end

