-- ==== Sys2Proof/Machine/Ops.lean ====
section
/-! DEFINITION. Named operations of a core: the monad of its steps, its stacks and PSW, the store buffer, taking an exception and returning from one (05). -/

namespace Sys2Proof.Machine

/-- Why the execution of an instruction ends before it retires. -/
inductive Stop where
  | exc (e : Exc)
  | wait
  deriving DecidableEq, Repr

/-- A computation of a step: it reads and changes the state, and may stop. -/
abbrev Run := EStateM Stop State

/-- What the block answers. -/
abbrev Out := Host.Outcome State Fault Refusal

/-- The logical core n. -/
def coreOf (n : Nat) : Run Core := do return (← get).core n

/-- The logical core n changed. -/
def onCore (n : Nat) (f : Core → Core) : Run Unit := modify (·.modCore n f)

/-- A free value (log 8). -/
def freeWord : Run Word := fun s => .ok s.takeFree.1 s.takeFree.2

/-- A partial change of the state; the step waits where it cannot be made yet. -/
def orWait (f : State → Option State) : Run Unit := fun s =>
  match f s with
  | some s' => .ok () s'
  | none => .error .wait s

/-! PSW (02). -/

def pswC (p : Word) : Bool := bitAt p 0
def pswV (p : Word) : Bool := bitAt p 1
def pswN (p : Word) : Bool := bitAt p 2
def pswZ (p : Word) : Bool := bitAt p 3
def pswS (p : Word) : Bool := bitAt p 12
def pswUA (p : Word) : Bool := bitAt p 13
def pswML (p : Word) : Nat := (fld p 8 3).toNat

/-- The writable bits of PSW (R50). -/
def pswMask : Word := 0x370F

/-- PSW at exception entry (R150): S := 1, UA := 0, ML as given, the flags kept. -/
def pswEntry (p : Word) (ml : Nat) : Word := (p &&& 0x0F) ||| 0x1000 ||| (BitVec.ofNat 64 (ml % 8) <<< 8)

/-! The store buffer (07). -/

/-- The entries of the store buffer performed in order; none where one of them has to wait. -/
def State.performAll (s : State) (n : Nat) : List StoreEntry → Option State
  | [] => some s
  | e :: es =>
    match s.performStore n e.addr e.bytes with
    | none => none
    | some s => State.performAll s n es

/-- The store buffer of a core drained (R188). -/
def State.drain (s : State) (n : Nat) : Option State :=
  (s.performAll n (s.core n).sb).map (fun s => s.modCore n (fun c => { c with sb := [] }))

/-- A microcoded sequence of core n from its entry address, and then f; its words may drain the store buffer first (R232). A sequencing error stops the core (R235). None where it has to wait. -/
def State.withSequence (s : State) (n entry : Nat) (f : State → Option State) : Option State :=
  match s.microRun n entry with
  | (.error r, s) => some (s.microStop n r)
  | (.exit r, s) => if r.drains then (s.drain n).bind f else f s
  | (.go _, s) => f s

/-- The capacity of the store buffer (R85). -/
def sbMax : Nat := 64

/-- The oldest k entries performed. -/
def State.drainFirst (s : State) (n k : Nat) : Option State :=
  (s.performAll n ((s.core n).sb.take k)).map (fun s => s.modCore n (fun c => { c with sb := c.sb.drop k }))

/-- Stores put into the buffer; one to the granule of the core's reservation loses it (R201). -/
def Core.putStores (c : Core) (es : List StoreEntry) : Core :=
  es.foldl (fun c e => if e.bytes.isEmpty then c else loseResv c (lineOf e.addr)) { c with sb := c.sb ++ es }

/-- The stores of one instruction retire into the buffer together, which first drains as many of its oldest entries as it lacks room for (R85, R143). None where one of those has to wait. -/
def State.pushStores (s : State) (n : Nat) (es : List StoreEntry) : Option State :=
  (s.drainFirst n ((s.core n).sb.length + es.length - sbMax)).map fun s => s.modCore n (fun c => c.putStores es)

/-- The youngest buffered store to a byte (R184). -/
def forward (sb : List StoreEntry) (a : Nat) : Option Byte :=
  match sb.reverse.find? (fun e => decide (e.addr ≤ a) && decide (a < e.addr + e.bytes.length)) with
  | some e => e.bytes[a - e.addr]?
  | none => none

/-! Pending asynchronous events (R139). -/

/-- A performance counter asks for vector 24 (R228). -/
def Core.pmi (c : Core) : Bool := c.perf.any (fun p => bitAt p.ctl 22 && bitAt p.ctl 23)

/-- A comparator has matched (R459: TCTL.MATCH, with IE). -/
def Core.tmr (c : Core) : Bool := c.timers.any (fun t => bitAt t.ctl 2 && bitAt t.ctl 1)

/-- The LCN that a source's notification goes to (R412). -/
def State.weirTarget (s : State) (x : WeirSource) : Nat :=
  if x.lcn = 0xFE then s.weir.dlcn.toNat
  else if x.lcn = 0xFF then (match x.hitLcn with | some n => n | none => s.weir.dlcn.toNat)
  else x.lcn.toNat

/-- The highest LEVEL of the notifications pending for LCN n, 0 when there is none (R412). -/
def State.weirLevel (s : State) (n : Nat) : Nat :=
  s.weir.sources.foldl (fun m p => if p.2.npend && s.weirTarget p.2 == n then max m p.2.level else m) 0

/-- At least one completion queue routed to LCN n holds an unacknowledged entry (R139, R308). -/
def State.iocPending (s : State) (n : Nat) : Bool := s.css.queues.any (fun q => q.2.pendingFor n) || s.cz.rings.any (fun r => r.2.pendingFor n) || s.cx.rings.any (fun r => r.2.pendingFor n)

/-- The pending asynchronous events of a core as (vector, level) (R137, R139). -/
def State.pendingEvents (s : State) (n : Nat) : List (Nat × Nat) :=
  let c := s.core n
  (if c.mca.isSome then [(1, 7)] else []) ++ (if c.dsl.isSome then [(3, 6)] else []) ++
  (if c.swi then [(23, 1)] else []) ++ (if c.pmi then [(24, 1)] else []) ++
  (if c.tmr then [(25, 2)] else []) ++ (if s.iocPending n then [(26, 3)] else []) ++
  (if c.ici then [(27, 3)] else []) ++ (if 0 < s.weirLevel n then [(28, s.weirLevel n)] else [])

/-- The event of the highest level, the lowest vector first among equals (R139). -/
def bestEvent : List (Nat × Nat) → Option (Nat × Nat)
  | [] => none
  | e :: es =>
    match bestEvent es with
    | none => some e
    | some b => if e.2 < b.2 then some b else some e

/-- The event that R139 takes now: the best one whose level exceeds ML. -/
def State.nextEvent (s : State) (n : Nat) : Option (Nat × Nat) :=
  match bestEvent (s.pendingEvents n) with
  | some e => if pswML (s.core n).psw < e.2 then some e else none
  | none => none

/-- An invalidation of core n given up, its messages with it: the instruction starts again, or never completes. -/
def State.dropInval (s : State) (n : Nat) : State := (s.modPool (·.dropInval n)).modCore n fun c => { c with inval := none }

/-! Taking an exception (05). -/

/-- The core's hold of an LDR ends (R202); the mark at the slice stands until its time is over (R261). -/
def State.endHold (s : State) (n : Nat) : State := s.modCore n (fun c => { c with hold := none })

/-- Whether a TSB block at a is usable (R149). -/
def State.tsbUsable (s : State) (a : Word) : Bool :=
  a.toNat % 1024 == 0 && decide (a.toNat + 1024 ≤ s.capacity) &&
  !(s.ct.role == .standby && (s.guarded a.toNat || s.guarded (a.toNat + 1023)))

/-- FLAGS of a TSB (R147). -/
def tsbFlags (e : Exc) (esc ds : Bool) : Byte :=
  (if ds then 1 else 0) ||| (if esc then 2 else 0) ||| (if e.nr then 4 else 0) ||| (if e.imp then 8 else 0) ||| (if e.more then 16 else 0)

/-- A byte that holds a small number. -/
def byteN (n : Nat) : Byte := BitVec.ofNat 8 n

/-- The first line of a TSB (R146): the vector taken, the escalated one, the level given to the handler. -/
def tsbHeader (c : Core) (e : Exc) (vec orig level : Nat) (beat : Word) : List Byte :=
  padTo 256
    ([1, byteN vec, tsbFlags e (orig != 0) c.delay, byteN level,
      byteN c.ds.cache.length, byteN c.rs.cache.length, byteN e.ilen, byteN e.opc.length] ++
     padTo 4 e.opc ++ [byteN orig, e.sub] ++ bytesOf 2 e.cause.toNat ++
     wordBytes e.pc ++ wordBytes c.psw ++ wordBytes c.ds.ptr ++ wordBytes c.rs.ptr ++
     wordBytes c.cnt ++ wordBytes c.src ++ wordBytes c.dst ++
     wordBytes (if c.delay then c.npc else 0) ++ wordBytes e.faddr ++ wordBytes e.info ++ wordBytes beat)

/-- The stack-cache lines of a TSB (R146): entries from the top, zeros beyond the valid count. -/
def tsbStack (n : Nat) (cache : List Word) : List Byte := padTo (8 * n) (cache.flatMap wordBytes)

/-- The three TSB writes of R150 step 4, the header last. -/
def State.writeTsb (s : State) (n : Nat) (e : Exc) (vec orig level : Nat) : Option State :=
  let c := s.core n
  let a := c.tsbr.toNat
  match s.performStore n (a + 0x100) (tsbStack 32 c.ds.cache) with
  | none => none
  | some s =>
    match s.performStore n (a + 0x200) (tsbStack 16 c.rs.cache) with
    | none => none
    | some s => s.performStore n a (tsbHeader c e vec orig level s.beatc)

/-- Steps 3 to 8 of R150: TSBR checked, the TSB written, the mode and the stacks changed, and the pc at the vector (R138); or STALLED (R153). -/
def State.enterFrom3 (s : State) (n : Nat) (e : Exc) (vec orig level : Nat) : Option State :=
  let c := s.core n
  if s.tsbUsable c.tsbr then
    (s.writeTsb n e vec orig level).map fun s =>
      ((s.endHold n).modCore n fun c =>
        { c with
          run := .running, stalled := none, resv := none, hold := none, tsbr := c.tsbr + 0x400,
          psw := pswEntry c.psw level,
          ds := { c.ds with cache := [BitVec.ofNat 64 vec, c.tsbr] }, rs := { c.rs with cache := [] },
          pc := c.vbr + BitVec.ofNat 64 (64 * vec), delay := false, npc := 0, slotFresh := false, retries := 0, due := [], ioWait := none, strProgress := false }).switchDue n
  else
    some ((s.reportCore n 10 .severe none c.tsbr).modCore n fun c => { c with run := .stalled, due := [], ioWait := none, stalled := some { e with vec := vec, orig := orig, level := level } })

/-- Exception entry (R150) for an event with its vector, its escalated vector and the level of its handler, by the sequence at 0x0400 (R238). -/
def State.enter (s : State) (n : Nat) (e : Exc) (vec orig level : Nat) : Option State :=
  s.withSequence n 0x0400 fun s => (s.drain n).bind fun s => s.enterFrom3 n e vec orig level

/-- A software checkstop (R142). The TSB holds the vector that stopped the core; TSBR does not advance. -/
def State.checkstop (s : State) (n : Nat) (e : Exc) : Option State :=
  match s.drain n with
  | none => none
  | some s =>
    let stop := fun (s : State) =>
      (((s.reportCore n 11 .severe none 0).endHold n).modCore n fun c => { c with run := .checkstopped, resv := none, hold := none, due := [], ioWait := none }).mclGone n
    if s.tsbUsable (s.core n).tsbr then (s.writeTsb n e e.vec 0 7).map stop else some (stop s)

/-- A synchronous exception under R141: taken at its level, escalated to Double Fault, or a software checkstop. -/
def State.raiseSync (s : State) (n : Nat) (e : Exc) : Option State :=
  let ml := pswML (s.core n).psw
  if ml = 7 then s.checkstop n e
  else if ml < e.level then s.enter n e e.vec 0 e.level
  else s.enter n e 2 e.vec 7

/-- An exception of a class without information of its own, at a saved pc. -/
def Exc.plain (vec level : Nat) (pc : Word) : Exc :=
  { vec := vec, level := level, sync := true, pc := pc, sub := 0, cause := 0, faddr := 0, info := 0,
    opc := [], ilen := 0, orig := 0, nr := false, imp := false, more := false }

/-- The answer of a step that may have to wait: it then changes nothing. -/
def orSame (s : State) : Option State → Out
  | some s' => .next s'
  | none => .next s

/-- A command that is a write of one port: it acts in the life-cycle states that the port's heading line lists, and in any other the port ignores it (R10). -/
def portRow (p : Port) (run : State → Out) (s : State) : Out := if s.portLives p then run s else .next s

/-! Taking an interrupt (R137, R139). -/

/-- The record of an interrupt taken at the core's pc (R137, R144, R148). -/
def intExc (c : Core) (vec level : Nat) : Exc :=
  let e := { Exc.plain vec level c.pc with sync := false }
  if vec = 1 then
    match c.mca with
    | some m => { e with cause := 2, faddr := BitVec.ofNat 64 (m.line * 256), info := BitVec.ofNat 64 m.src }
    | none => e
  else if vec = 3 then
    match c.dsl with
    | some d => { e with info := zext d.port, imp := true, more := d.more }
    | none => e
  else e

/-- Taking a cause-2 machine check or a Device-Store-Lost clears its pending indication (R139). -/
def Core.clearTaken (c : Core) (vec : Nat) : Core :=
  if vec = 1 then { c with mca := none } else if vec = 3 then { c with dsl := none } else c

/-- Whether core n is at a boundary at which it takes interrupts (R63, R139): running or waiting, with no I/O access or invalidation of its own in progress, no instruction that waits for an older device store (R100), and not between a branch and its delay slot. -/
def State.atBoundary (s : State) (n : Nat) : Bool :=
  let c := s.core n
  (c.run == .running || c.run == .waiting) && !s.weir.safe && c.devRead.isNone && c.inval.isNone && c.ioWait.isNone && !c.slotFresh

/-- The pending event of the highest level above ML taken at a boundary (R139, R150); nothing where there is none. The pending indication clears when the event is selected, so an entry that stalls keeps the event in its record alone (DESIGN CHOICE, log 145). -/
def State.takeEvent (s : State) (n : Nat) : Option State :=
  match s.nextEvent n with
  | none => some s
  | some (vec, level) => (s.modCore n (fun c => c.clearTaken vec)).enter n (intExc (s.core n) vec level) vec 0 level

/-- What core n does when an instruction with some opcode bytes stands at its pc. -/
inductive Start where
  /-- it starts the instruction, or goes on with it -/
  | go
  /-- it takes a pending event first (R139) -/
  | event
  /-- it executes no instruction now -/
  | idle
  deriving DecidableEq, Repr

/-- The registers of the physical file that are not withdrawn (R207, R219). -/
def Core.usable (c : Core) : List Nat := (List.range 448).filter (fun r => !c.withdrawn.contains r)

/-- The mapped positions of a core between two instructions (R209): its valid stack-cache entries, and CNT, SRC, DST and the flags. -/
def Core.mapped (c : Core) : Nat := c.ds.cache.length + c.rs.cache.length + 4

/-- The rename map (R209): the physical register of each mapped position, the data stack first. The spec does not say which register a position has; the model takes the lowest (DESIGN CHOICE, log 146). -/
def Core.renameMap (c : Core) : List Nat := c.usable.take c.mapped

/-- Whether rename has stopped (R209): fewer than eight free physical registers remain, and no instruction is in flight that would free one. -/
def Core.renameStops (c : Core) : Bool := decide (c.usable.length < c.mapped + 8)

/-- What core n does at its pc (R99, R139, R142, R209, R414): a running core starts the instruction unless an event comes first; one that waits for a device store goes on with the instruction that waits. -/
def State.mayStart (s : State) (n : Nat) (code : List Byte) : Start :=
  let c := s.core n
  if s.atBoundary n && (s.nextEvent n).isSome then .event
  else if c.run == .running && !s.weir.safe && c.devRead.isNone && c.inval.isNone && !c.renameStops &&
      (match c.ioWait with
       | some b => b == code
       | none => true) then .go
  else .idle

end Sys2Proof.Machine
end

