-- ==== Sys2Proof/Machine/Perf.lean ====
section
/-! DEFINITION. Performance counters (08 R226-R229). -/

namespace Sys2Proof.Machine

/-- EVENT of a counter. -/
def PerfCounter.event (p : PerfCounter) : Nat := (fld p.ctl 0 16).toNat

/-- Whether a counter counts in privilege state s (R227). -/
def PerfCounter.counts (p : PerfCounter) (s : Bool) : Bool := bitAt p.ctl 18 && (if s then bitAt p.ctl 19 else bitAt p.ctl 20)

/-- The value at which a counter sticks (R228). -/
def pcntMax : Nat := 2 ^ 48 - 1

/-- A counter k higher, sticking at its maximum with OVF set (R228). -/
def PerfCounter.add (p : PerfCounter) (k : Nat) : PerfCounter :=
  let v := p.cnt.toNat + k
  if pcntMax ≤ v then { ctl := p.ctl ||| (1 <<< 23), cnt := BitVec.ofNat 48 pcntMax } else { p with cnt := BitVec.ofNat 48 v }

/-- k events of number ev that belong to an instruction of privilege state sup (R227). -/
def Core.perfAddAs (c : Core) (sup : Bool) (ev k : Nat) : Core :=
  { c with perf := c.perf.map fun p => if p.counts sup && p.event == ev then p.add k else p }

/-- k events of number ev in the present privilege state (R227). -/
def Core.perfAdd (c : Core) (ev k : Nat) : Core := c.perfAddAs (pswS c.psw) ev k

/-- The events whose number depends on timing or on work that is not retired: cycles, mispredictions, cache misses, waits, dispatches and squashes, and conditional branches, TLB misses, walks, fills and spills while SPEC = 1 (R226). Their counts are free (log 20). -/
def PerfCounter.timed (p : PerfCounter) : Bool :=
  let e := p.event
  e == 1 || (decide (4 ≤ e) && decide (e ≤ 8)) || e == 13 ||
  (bitAt p.ctl 21 && (e == 3 || e == 9 || e == 10 || e == 11 || e == 12 || e == 16 || e == 17))

/-- One timed counter of core n advanced by a free amount, for an instruction of privilege state sup (R227). -/
def State.perfTimed (s : State) (n : Nat) (sup : Bool) (i : Nat) : State :=
  match (s.core n).perf[i]? with
  | some p =>
    if p.counts sup && p.timed then
      let (v, s) := s.takeFree
      s.modCore n fun c => { c with perf := modAt c.perf i (fun p => p.add v.toNat) }
    else s
  | none => s

/-- The timed counters of core n at the retirement of an instruction. -/
def State.perfTick (s : State) (n : Nat) (sup : Bool) : State := (List.range 8).foldl (fun s i => s.perfTimed n sup i) s

/-- An event of the instruction in progress, which its retirement counts (R227). -/
def Core.note (c : Core) (ev : Nat) : Core := { c with due := c.due ++ [ev] }

/-- The events noted of an instruction counted, those that f selects. -/
def Core.countDue (c : Core) (sup : Bool) (f : Nat → Bool) : Core :=
  { (c.due.filter f).foldl (fun c ev => c.perfAddAs sup ev 1) c with due := [] }

/-- PCTLn written by WRSR: reserved bits stay 0, and OVF is set again while PCNTn holds the maximum (R228). -/
def PerfCounter.writeCtl (p : PerfCounter) (v : Word) : PerfCounter :=
  let v := v &&& 0xFCFFFF
  { p with ctl := if p.cnt.toNat = pcntMax then v ||| (1 <<< 23) else v }

/-- PCNTn written by WRSR (R227); reaching the maximum sets OVF (R228). -/
def PerfCounter.writeCnt (p : PerfCounter) (v : Word) : PerfCounter :=
  let n := v.setWidth 48
  { ctl := if n.toNat = pcntMax then p.ctl ||| (1 <<< 23) else p.ctl, cnt := n }

end Sys2Proof.Machine
end

