-- ==== Sys2Proof/Machine/Translate.lean ====
section
/-! DEFINITION. Translation: the walk, its checks, the accessed and dirty marks, and the TLBs (06). -/

namespace Sys2Proof.Machine

/-- An access to be translated (R159, R168): its side, whether it reads, writes or is checked as a fetch, whether it is user-checked, and whether PSW.UA excuses it. -/
structure Acc where
  instr : Bool
  rd : Bool
  wr : Bool
  fetch : Bool
  user : Bool
  uaOk : Bool
  deriving DecidableEq, Repr

/-- A translation that failed: the class, CAUSE, the address and INFO of R171; vector 1 for a walk that met poison (R167). -/
structure XErr where
  vec : Nat
  cause : Half
  va : Word
  info : Word
  deriving DecidableEq, Repr

/-- The reason for which CHECK fails, if any (R168, R169). -/
def checkReason (a : Acc) (krr : Word32) (r w x u : Bool) (key : Nat) : Option Nat :=
  let data := a.rd || a.wr
  if a.user && !u then some 2
  else if data && !a.user && u && !a.uaOk then some 3
  else if a.fetch && !a.user && u then some 4
  else if a.rd && !r then some 5
  else if a.wr && !w then some 6
  else if a.fetch && !x then some 7
  else if data && bitAt krr (2 * key + 1) then some 8
  else if a.wr && bitAt krr (2 * key) then some 9
  else none

/-- The outcome of a walk: a failure, or a leaf with the doubleword read and the pointer entries passed. -/
inductive WalkRes where
  | err (e : XErr)
  | leaf (t : TlbEntry) (raw : Nat) (ptrs : List WalkEntry)
  deriving DecidableEq, Repr

/-- The index of va at level L (R162). -/
def walkIndex (va L : Nat) : Nat := if L = 5 then va / 2 ^ 57 else va / 2 ^ (12 + 9 * L) % 512

/-- A Translation failure at level L (R171). -/
def xlatErr (va : Nat) (L reason : Nat) : XErr :=
  { vec := 4, cause := BitVec.ofNat 16 (256 * L + reason), va := BitVec.ofNat 64 va, info := 0 }

/-- Whether a leaf entry breaks a format rule of R165 at level L. -/
def badLeaf (e L : Nat) : Bool :=
  let s := e / 2 ^ 52 % 64
  L == 5 || decide (e / 2 ^ 58 ≠ 0) || decide (e / 2 ^ 10 % 4 ≠ 0) || e.testBit 2 ||
  decide (s < 12 + 9 * L) || decide (min (21 + 9 * L) 48 < s) || (decide (12 < s) && decide (e % 2 ^ s / 2 ^ 12 ≠ 0))

/-- WALK of R165 from level L downward: the table at base, the entry that supplied it, and its key. -/
def State.walkFrom (s : State) (c : Core) (va : Nat) (acc : Acc) : Nat → Nat → Option Nat → Nat → List WalkEntry → WalkRes
  | L, base, src, key, ptrs =>
    let ea := base + 8 * walkIndex va L
    if !s.isDram ea then .err { vec := 5, cause := 0, va := BitVec.ofNat 64 va, info := BitVec.ofNat 64 (src.getD ea) }
    else if s.poisoned (lineOf ea) then .err { vec := 1, cause := 0, va := BitVec.ofNat 64 va, info := BitVec.ofNat 64 (lineOf ea * 256) }
    else
      let e := natOf (s.mem.readN ea 8)
      let fmt := WalkRes.err { vec := 6, cause := 0, va := BitVec.ofNat 64 va, info := BitVec.ofNat 64 ea }
      if !e.testBit 0 then .err (xlatErr va L 1)
      else if !e.testBit 1 then
        if decide (e / 2 ^ 56 ≠ 0) || decide (e / 4 % 2 ^ 10 ≠ 0) then fmt
        else match L with
          | 0 => fmt
          | k + 1 =>
            let next := e / 2 ^ 12 % 2 ^ 40 * 4096
            let key := e / 2 ^ 52 % 16
            State.walkFrom s c va acc k next (some ea) key
              ({ pid := c.pid, instr := acc.instr, level := k + 1, span := va / 2 ^ (12 + 9 * (k + 1)), next := next, key := key, ea := ea } :: ptrs)
      else if badLeaf e L then fmt
      else
        let sz := e / 2 ^ 52 % 64
        let t : TlbEntry :=
          { pid := c.pid, instr := acc.instr, page := va / 2 ^ sz, size := sz, pa := e / 2 ^ 12 % 2 ^ 40 * 4096,
            r := e.testBit 3, w := e.testBit 4, x := e.testBit 5, u := e.testBit 6, g := e.testBit 7, d := e.testBit 9,
            key := key, ea := ea }
        match checkReason acc c.krr t.r t.w t.x t.u key with
        | some reason => .err (xlatErr va L reason)
        | none => .leaf t e ptrs

/-- The leaf doubleword that a TLB entry caches, with A = 1 (R166, R173). -/
def leafWord (t : TlbEntry) (d : Bool) : Nat :=
  t.size * 2 ^ 52 + t.pa + (if d then 512 else 0) + 256 + (if t.g then 128 else 0) + (if t.u then 64 else 0) +
  (if t.x then 32 else 0) + (if t.w then 16 else 0) + (if t.r then 8 else 0) + 3

/-- Whether an entry serves an access of a side and PID at va (R160). -/
def TlbEntry.serves (t : TlbEntry) (instr : Bool) (pid : Half) (va : Nat) : Bool :=
  t.instr == instr && (t.g || t.pid == pid) && t.page == va / 2 ^ t.size

/-- The candidate that is used (R165): the only one, or any of several. -/
def pickEntry (va : Nat) (ts : List TlbEntry) : Option TlbEntry :=
  match ts with
  | [t] => some t
  | _ => ts[Config.tlbChoice (BitVec.ofNat 64 va) ts.length % ts.length]?

/-- The set of a leaf in the second-level TLB. -/
def TlbEntry.set (t : TlbEntry) : Nat := Config.tlbSet t.page t.size t.instr t.pid.toNat % 512

/-- An entry at the head of its first-level TLB, which keeps its size (R173). -/
def Tlbs.fill1 (b : Tlbs) (t : TlbEntry) : Tlbs :=
  if t.instr then { b with itlb := (t :: b.itlb.filter (· != t)).take 64 } else { b with dtlb := (t :: b.dtlb.filter (· != t)).take 96 }

/-- An entry at the head of its set of the second-level TLB, which holds eight per set (R173). -/
def Tlbs.fill2 (b : Tlbs) (t : TlbEntry) : Tlbs :=
  let rest := b.l2.filter (· != t)
  let same := (rest.filter (fun x => x.set == t.set)).take 7
  { b with l2 := t :: rest.filter (fun x => x.set != t.set || same.contains x) }

/-- Pointer entries at the head of the walk cache, which holds 64 (R173). -/
def Tlbs.fillWalk (b : Tlbs) (ps : List WalkEntry) : Tlbs :=
  { b with walk := (ps ++ b.walk.filter (fun w => !ps.any (fun p => p.level == w.level && p.span == w.span && p.instr == w.instr && p.pid == w.pid))).take 64 }

/-- An entry removed from both levels. -/
def Tlbs.discard (b : Tlbs) (t : TlbEntry) : Tlbs :=
  { b with itlb := b.itlb.filter (· != t), dtlb := b.dtlb.filter (· != t), l2 := b.l2.filter (· != t) }

/-- The entry that the first level, or else the second, gives for an access. -/
def Tlbs.find (b : Tlbs) (instr : Bool) (pid : Half) (va : Nat) : Option TlbEntry :=
  match pickEntry va ((if instr then b.itlb else b.dtlb).filter (fun t => t.serves instr pid va)) with
  | some t => some t
  | none => pickEntry va (b.l2.filter (fun t => t.serves instr pid va))

/-- A pointer entry used, moved to the head of the walk cache (R173). -/
def Tlbs.usePointer (b : Tlbs) (w : WalkEntry) : Tlbs := { b with walk := w :: b.walk.filter (· != w) }

/-- The deepest cached pointer for an access. -/
def Tlbs.pointer (b : Tlbs) (instr : Bool) (pid : Half) (va : Nat) : Option WalkEntry :=
  ((List.range 5).map (· + 1)).findSome? fun lv =>
    b.walk.find? (fun w => w.level == lv && w.instr == instr && w.pid == pid && w.span == va / 2 ^ (12 + 9 * lv))

/-- The walk of an access, from the deepest cached pointer or from the root (R165, R173). -/
def State.walk (s : State) (n : Nat) (va : Nat) (acc : Acc) : WalkRes :=
  let c := s.core n
  match c.tlb.pointer acc.instr c.pid va with
  | some w => s.walkFrom c va acc (w.level - 1) w.next (some w.ea) w.key []
  | none => s.walkFrom c va acc 5 ((fld (if acc.instr then c.iroot else c.droot) 12 40).toNat * 4096) none 0 []

/-- An accessed or dirty mark written at the leaf (R166, R527): as a store of the core, with every reservation on the granule lost (R201). -/
def State.setMark (s : State) (n : Nat) (ea v : Nat) : Option State :=
  (s.performStore n ea (bytesOf 8 v)).map (fun s => s.loseResvs (lineOf ea) (fun _ => true))

/-- Whether a mark update at ea is discarded (R527). -/
def State.markDiscarded (s : State) (ea : Nat) : Bool := s.guarded ea && s.ct.role == .standby

/-- The failure of a walk or mark update that met poison in a line of tables, reported (R167, R526). -/
def walkPoison (n line : Nat) : Run XErr := do
  let c ← coreOf n
  modify (fun s => s.reportCore n 5 .recoverable none (BitVec.ofNat 64 (line * 256)))
  return { vec := 1, cause := 0, va := BitVec.ofNat 64 (line * 256), info := BitVec.ofNat 64 (coreSrc c.pcn 5) }

/-- The pointer that a walk begins from becomes the latest used of the walk cache (R173). -/
def Core.usePointer (c : Core) (va : Nat) (acc : Acc) : Core :=
  match c.tlb.pointer acc.instr c.pid va with
  | some w => { c with tlb := c.tlb.usePointer w }
  | none => c

/-- One walk with its fills and its A mark: a leaf, or the failure. A walk that meets poison reports it (R526). A leaf fills its first-level TLB and the second level. The model makes no walk for a wrong path, so no A mark and no entry that such a walk may leave (R172, R216) ever appears (DESIGN CHOICE, log 147). -/
def walkAndFill (n : Nat) (va : Nat) (acc : Acc) : Run (Except XErr TlbEntry) := do
  let res := (← get).walk n va acc
  onCore n (fun c => c.usePointer va acc)
  match res with
  | .err e =>
    if e.vec = 1 then return .error (← walkPoison n (lineOf e.info.toNat))
    return .error e
  | .leaf t raw ptrs =>
    if !raw.testBit 8 then orWait (fun s => s.setMark n t.ea (raw + 256))
    onCore n (fun c => ({ c with tlb := ((c.tlb.fillWalk ptrs).fill2 t).fill1 t }).note 10)
    return .ok t

/-- Whether an entry stands in the first-level TLB of its side. -/
def Tlbs.first (b : Tlbs) (t : TlbEntry) : Bool := if t.instr then b.itlb.contains t else b.dtlb.contains t

/-- A translated access (R165, R170): a hit that CHECK allows, or a walk; a denying hit is discarded first. A hit of either level is the latest used of both, the second level holding it again where it had gone (DESIGN CHOICE, log 148). -/
def translate (n : Nat) (va : Word) (acc : Acc) : Run (Except XErr TlbEntry) := do
  let c ← coreOf n
  match c.tlb.find acc.instr c.pid va.toNat with
  | some t =>
    unless c.tlb.first t do onCore n (fun c => c.note 9)
    if (checkReason acc c.krr t.r t.w t.x t.u t.key).isNone then
      onCore n (fun c => { c with tlb := (c.tlb.fill2 t).fill1 t })
      return .ok t
    else
      onCore n (fun c => { c with tlb := c.tlb.discard t })
      walkAndFill n va.toNat acc
  | none =>
    onCore n (fun c => c.note 9)
    walkAndFill n va.toNat acc

/-- The TLBs' copies of a leaf with D set. -/
def Tlbs.setD (b : Tlbs) (t : TlbEntry) : Tlbs :=
  let f := fun (x : TlbEntry) => if x == t then { x with d := true } else x
  { b with itlb := b.itlb.map f, dtlb := b.dtlb.map f, l2 := b.l2.map f }

/-- The physical address that a leaf gives to va (R163). -/
def TlbEntry.addr (t : TlbEntry) (va : Nat) : Nat := t.pa + va % 2 ^ t.size

/-- A part of an access that lies in one page: its address, its leaf, and its bytes. -/
structure Piece where
  va : Nat
  leaf : TlbEntry
  len : Nat
  deriving DecidableEq, Repr

/-- The physical addresses of a part. -/
def Piece.addrs (p : Piece) : List Nat := (List.range p.len).map (p.leaf.addr p.va + ·)

/-- The parts of an access to the k bytes from va upward, both pages of a crossing access checked before anything is read or written (R86). -/
def translateSpan (n : Nat) (va : Word) (k : Nat) (acc : Acc) : Run (Except XErr (List Piece)) := do
  match ← translate n va acc with
  | .error e => return .error e
  | .ok t =>
    let room := 2 ^ t.size - va.toNat % 2 ^ t.size
    if k ≤ room then return .ok [{ va := va.toNat, leaf := t, len := k }]
    else
      let va2 := va + BitVec.ofNat 64 room
      match ← translate n va2 acc with
      | .error e => return .error e
      | .ok t2 => return .ok [{ va := va.toNat, leaf := t, len := room }, { va := va2.toNat, leaf := t2, len := k - room }]

/-- Whether the compare of a D update succeeds (R166, R527): the leaf in memory is the one that the entry caches, or the update is discarded. -/
def State.markFits (s : State) (t : TlbEntry) : Bool :=
  t.d || s.markDiscarded t.ea || natOf (s.mem.readN t.ea 8) == leafWord t false

/-- The compares of the D updates of a store (R166): a poisoned leaf is a machine check (R526); entries whose compare fails are discarded, and the answer says whether there were none. -/
def compareMarks (n : Nat) : List Piece → Run (Except XErr Bool)
  | [] => return .ok true
  | p :: ps => do
    let s ← get
    if !p.leaf.d && s.poisoned (lineOf p.leaf.ea) then return .error (← walkPoison n (lineOf p.leaf.ea))
    let fits := s.markFits p.leaf
    unless fits do onCore n (fun c => { c with tlb := c.tlb.discard p.leaf })
    match ← compareMarks n ps with
    | .error e => return .error e
    | .ok b => return .ok (b && fits)

/-- The parts of a store, with every D update ready to be made (R166): where a compare fails, the access is translated again, and what the new walk meets is raised before anything is stored. -/
def storeSpan (n : Nat) (va : Word) (k : Nat) (acc : Acc) : Run (Except XErr (List Piece)) := do
  match ← translateSpan n va k acc with
  | .error e => return .error e
  | .ok ps =>
    match ← compareMarks n ps with
    | .error e => return .error e
    | .ok true => return .ok ps
    | .ok false => translateSpan n va k acc

/-- The D updates of a store (R166), which commit with it. None where one has to wait. -/
def State.markPieces (s : State) (n : Nat) : List Piece → Option State
  | [] => some s
  | p :: ps =>
    if p.leaf.d then State.markPieces s n ps
    else match s.setMark n p.leaf.ea (leafWord p.leaf true) with
      | none => none
      | some s => State.markPieces (s.modCore n (fun c => { c with tlb := c.tlb.setD p.leaf })) n ps

/-- A store commits (R85, R143, R166): its D updates are made and its entries retire into the buffer, all of them or nothing. -/
def State.commitStore (s : State) (n : Nat) (ps : List Piece) (es : List StoreEntry) : Option State :=
  (s.markPieces n ps).bind (fun s => s.pushStores n es)

end Sys2Proof.Machine
end

