-- ==== Sys2Proof/Machine/Operands.lean ====
section
/-! DEFINITION. What every instruction shares: its encoding facts, prefix and privilege checks, fills and spills, memory accesses, and retirement (02, 03, 07). -/

namespace Sys2Proof.Machine

/-- What the spec's maps say of an opcode: its opcode bytes, its length without prefixes (R55, R66, R68), the prefixes it admits (R57), whether it may not stand in a delay slot (R61), whether it is privileged (R51), and the entry address of its microcoded sequence (R238). -/
structure Op where
  bytes : List Byte
  len : Nat
  usr : Bool
  acq : Bool
  rel : Bool
  rep : Bool
  noSlot : Bool
  priv : Bool
  entry : Option Nat
  deriving DecidableEq, Repr

/-- An opcode without prefixes, permitted in a delay slot and in user state. -/
def op (bytes : List Byte) (len : Nat) : Op :=
  { bytes := bytes, len := len, usr := false, acq := false, rel := false, rep := false, noSlot := false, priv := false, entry := none }

/-- The byte of a prefix (R57). -/
def Pfx.byte : Pfx → Byte
  | .rep => 0xF8
  | .repz => 0xF9
  | .repnz => 0xFA
  | .usr => 0xFB
  | .acq => 0xFC
  | .rel => 0xFD

/-- The group of a prefix: 0 repeat, 1 access, 2 order (R57). -/
def Pfx.group : Pfx → Nat
  | .rep => 0
  | .repz => 0
  | .repnz => 0
  | .usr => 1
  | .acq => 2
  | .rel => 2

/-- Whether prefixes are arranged as R57 permits. -/
def pfxArranged (ps : List Pfx) : Bool :=
  let gs := ps.map Pfx.group
  decide (gs.count 0 ≤ 1) && decide (gs.count 1 ≤ 1) && decide (gs.count 2 ≤ 1) && !(gs.contains 0 && gs.contains 2)

/-- Whether a prefix may precede an opcode (R57, R58). -/
def Op.admits (o : Op) : Pfx → Bool
  | .rep => o.rep
  | .repz => o.rep
  | .repnz => o.rep
  | .usr => o.usr
  | .acq => o.acq
  | .rel => o.rel

/-- CAUSE of the Illegal-Prefix exception that an instruction meets, if any (R57). -/
def pfxCause (delay : Bool) (o : Op) (ps : List Pfx) : Option Nat :=
  if delay && (o.noSlot || !ps.isEmpty) then some 2
  else if !pfxArranged ps then some 0
  else if ps.any (fun p => !o.admits p) then some 1
  else none

/-- The opcode record of vectors 9, 10, 11, 13 and machine-check cause 1 (R148). -/
def Exc.withOp (e : Exc) (k : Insn) (o : Op) : Exc :=
  { e with opc := (k.pfx.map Pfx.byte ++ o.bytes).take 4, ilen := k.pfx.length + o.len }

/-- An exception of the instruction at the core's pc. -/
def throwExc {α : Type} (e : Exc) : Run α := throw (.exc e)

/-- A machine check of cause 0 for data of a line (R526), with its RECOVERABLE event of source s of the core. -/
def machineCheck {α : Type} (n line srcNo : Nat) : Run α := do
  let c ← coreOf n
  modify (fun s => s.reportCore n srcNo .recoverable none (BitVec.ofNat 64 (line * 256)))
  throwExc { Exc.plain 1 7 c.pc with faddr := BitVec.ofNat 64 (line * 256), info := BitVec.ofNat 64 (coreSrc c.pcn srcNo) }

/-! Stack fills and spills (R42-R46). -/

/-- The data stack or the return stack of a core. -/
def Core.stack (c : Core) (ret : Bool) : StackRegs := if ret then c.rs else c.ds

/-- A stack replaced. -/
def Core.setStack (c : Core) (ret : Bool) (x : StackRegs) : Core := if ret then { c with rs := x } else { c with ds := x }

/-- A stack fault (R44): Stack-Fill or Stack-Spill with its cause, address and INFO. -/
def stackFault {α : Type} (n : Nat) (ret spill : Bool) (cause : Nat) (addr info : Word) : Run α := do
  let c ← coreOf n
  throwExc { Exc.plain (if spill then 8 else 7) 5 c.pc with sub := if ret then 1 else 0, cause := BitVec.ofNat 16 cause, faddr := addr, info := info }

/-- A failed translation of a fill or spill (R44, R171); a walk that met poison is a machine check (R45). -/
def stackXlat {α : Type} (n : Nat) (ret spill : Bool) (addr : Word) (e : XErr) : Run α := do
  if e.vec = 1 then
    let c ← coreOf n
    throwExc { Exc.plain 1 7 c.pc with faddr := e.va, info := e.info }
  else if e.vec = 4 then stackFault n ret spill 2 addr (e.cause.setWidth 64)
  else stackFault n ret spill 2 addr ((BitVec.ofNat 64 e.vec <<< 56) ||| (e.info &&& 0xFFFFFFFFFFFFF))

/-- How a stack access is checked (R52, R168): in the current privilege state, without regard to UA. -/
def stackAcc (c : Core) (wr : Bool) : Acc :=
  { instr := false, rd := !wr, wr := wr, fetch := false, user := !pswS c.psw, uaOk := false }

/-- Whether a core's access to a line has to wait at the home slice: another core's hold, an open transaction, or a window set being formed (R202, R250, R274). -/
def State.mustWait (s : State) (n a : Nat) : Bool :=
  s.windowForming a || ((s.agentState (s.core n).pcn (lineOf a)).isNone && s.lineWaits (s.core n).pcn (lineOf a))

/-- A line read by a core whose L2 holds it is the latest used of its set in the L1D (R207): 64 sets of 8 ways, by the low bits of the line number (log 144). -/
def Core.touchL1 (c : Core) (line : Nat) : Core :=
  let rest := c.l1d.filter (· != line)
  let same := (rest.filter (fun l => l % 64 == line % 64)).take 7
  { c with l1d := line :: rest.filter (fun l => l % 64 != line % 64 || same.contains l) }

/-- The lines of a load that the core's L2 holds are in its L1D. -/
def State.touchLines (s : State) (n : Nat) (as : List Nat) : State :=
  ((as.map lineOf).eraseDups.filter (fun l => (s.agentState (s.core n).pcn l).isSome)).foldl (fun s l => s.modCore n (fun c => c.touchL1 l)) s

/-- One byte as the core's load sees it (R184, R273). -/
def State.loadByte (s : State) (n a : Nat) : Byte :=
  match s.paKind a with
  | .hole => 0xFF
  | _ => (forward (s.core n).sb a).getD (s.mem.read a)

/-- The bytes at physical addresses, read for core n; a hole reads ones and is recorded once (R273), a poisoned line is a machine check of the L2 source (R526). -/
def readBytes (n : Nat) (as : List Nat) : Run (List Byte) := do
  let s ← get
  if as.any (s.mustWait n) then throw .wait
  match as.find? (fun a => s.paKind a != .hole && s.poisoned (lineOf a) && (forward (s.core n).sb a).isNone) with
  | some a => machineCheck n (lineOf a) 3
  | none =>
    let bs := as.map (s.loadByte n)
    match as.find? (fun a => s.paKind a == .hole) with
    | some a => modify (fun s => s.reportCore n 13 .recoverable none (BitVec.ofNat 64 a))
    | none => modify (fun s => s.touchLines n as)
    return bs

/-- FILL_ONE of R43, from the address that PICK or a fill names, an exact sum which no translation reaches where it lies outside 64 bits; the doubleword read. -/
def fillRead (n : Nat) (ret : Bool) (at' : Nat) : Run Word := do
  let c ← coreOf n
  let st := c.stack ret
  let a := BitVec.ofNat 64 at'
  if at' % 8 ≠ 0 then stackFault n ret false 1 a 0
  if at' < st.lo.toNat ∨ st.hi.toNat < at' + 8 then stackFault n ret false 0 a 0
  modify (·.endHold n)
  match ← translateSpan n a 8 (stackAcc c false) with
  | .error e => stackXlat n ret false a e
  | .ok ps =>
    let as := ps.flatMap Piece.addrs
    if (← get).paKind (as.headD 0) != .dram then stackFault n ret false 3 a 0
    return wordOf (← readBytes n as)

/-- FILL_ONE of R43. -/
def fillOne (n : Nat) (ret : Bool) : Run Unit := do
  let x ← fillRead n ret ((← coreOf n).stack ret).ptr.toNat
  onCore n fun c =>
    let st := c.stack ret
    (c.setStack ret { st with cache := st.cache ++ [x], ptr := st.ptr + 8 }).note 11

/-- SPILL_ONE of R43. -/
def spillOne (n : Nat) (ret : Bool) : Run Unit := do
  let c ← coreOf n
  let st := c.stack ret
  let a := st.ptr - 8
  if st.ptr.toNat % 8 ≠ 0 then stackFault n ret true 1 st.ptr 0
  if st.ptr.toNat < st.lo.toNat + 8 ∨ st.hi.toNat < st.ptr.toNat then stackFault n ret true 0 a 0
  modify (·.endHold n)
  match ← storeSpan n a 8 (stackAcc c true) with
  | .error e => stackXlat n ret true a e
  | .ok ps =>
    let pa := (ps.flatMap Piece.addrs).headD 0
    if (← get).paKind pa != .dram then stackFault n ret true 3 a 0
    orWait (fun s => s.commitStore n ps [{ addr := pa, bytes := wordBytes (st.cache.getLastD 0), rel := false }])
    onCore n fun c =>
      let st := c.stack ret
      (c.setStack ret { st with cache := st.cache.dropLast, ptr := st.ptr - 8 }).note 12

/-- A computation run k times. -/
def times : Nat → Run Unit → Run Unit
  | 0, _ => pure ()
  | k + 1, m => do m; times k m

/-- The capacity of a stack cache (R40). -/
def stackMax (ret : Bool) : Nat := if ret then 16 else 32

/-- The fills and spills of R42 for an instruction that consumes i entries of a stack and produces o. -/
def makeRoom (n : Nat) (ret : Bool) (i o : Nat) : Run Unit := do
  let v := ((← coreOf n).stack ret).cache.length
  times (i - v) (fillOne n ret)
  times (max v i - i + o - stackMax ret) (spillOne n ret)

/-! The course of one instruction. -/

/-- How an instruction leaves the pc: to the next instruction, as a branch (R61), as it set it itself, or where it stands because elements are left (R112). -/
inductive Retire where
  | next
  | branch (taken cond : Bool) (target : Word) (a : Bool) (slotLen : Nat)
  | done
  | stay
  deriving DecidableEq, Repr

/-- The pc after an instruction of length len (R61, R62). -/
def Core.advance (c : Core) (len : Nat) : Retire → Core
  | .next =>
    if c.delay then { c with pc := c.npc, delay := false, npc := 0, slotFresh := false }
    else { c with pc := c.pc + BitVec.ofNat 64 len, slotFresh := false }
  | .branch taken cond target a slotLen =>
    let slot := c.pc + BitVec.ofNat 64 len
    let after := if taken then target else slot + BitVec.ofNat 64 slotLen
    if !a || (cond && taken) then { c with pc := slot, delay := true, npc := after, slotFresh := true }
    else { c with pc := after, slotFresh := false }
  | .done => c
  | .stay => { c with slotFresh := false }

/-- The hold's count of retired instructions (R202). -/
def State.countHold (s : State) (n : Nat) (taken : Bool) : State :=
  match (s.core n).hold with
  | none => s
  | some h => if taken || h.left ≤ 1 then s.endHold n else s.modCore n (fun c => { c with hold := some { h with left := h.left - 1 } })

/-- An instruction of privilege state sup retires: its pc, the counters, the hold, and its retries (R224, R227, R202); the core then switches to a microcode image that waits for it (R244). An element of a repeated string instruction retires with its events alone (R112). -/
def State.retire (s : State) (n len : Nat) (sup : Bool) (r : Retire) : State :=
  let done := fun (c : Core) =>
    { (c.countDue sup (fun _ => true)).advance len r with retries := 0, ioWait := none, strProgress := r == .stay && c.inval.isNone && c.devRead.isNone }
  if r = .stay then (s.modCore n done).switchDue n else
  let taken := match r with
    | .branch t _ _ _ _ => t
    | _ => false
  let cond := match r with
    | .branch _ c _ _ _ => c
    | _ => false
  let s := s.countHold n taken
  let s := s.modCore n (fun c => if cond then (c.perfAddAs sup 2 1).perfAddAs sup 3 1 else c.perfAddAs sup 2 1)
  ((s.perfTick n sup).modCore n done).switchDue n

/-- The events of an instruction that does not retire: the fills and spills already made count, its own accesses do not (R45, R227). -/
def Core.unretired (c : Core) (sup : Bool) : Core := { c.countDue sup (fun ev => ev == 11 || ev == 12) with ioWait := none }

/-- The answer to a computation that began in s0 as an instruction of length len of core n, in privilege state sup; an exception whose entry has to wait leaves s0. -/
def settle (s0 : State) (n len : Nat) (sup : Bool) : EStateM.Result Stop State Retire → Out
  | .ok r s => .next (s.retire n len sup r)
  | .error (.exc e) s => orSame s0 ((s.modCore n (fun c => c.unretired sup)).raiseSync n e)
  | .error .wait s => .next s

/-- Steps 3 and 5 of R59. -/
def precheck (k : Insn) (o : Op) : Run Unit := do
  let c ← coreOf k.lcn
  match pfxCause c.delay o k.pfx with
  | some cause => throwExc (({ Exc.plain 10 4 c.pc with cause := BitVec.ofNat 16 cause }).withOp k o)
  | none => pure ()
  if o.priv && !pswS c.psw then throwExc ((Exc.plain 11 4 c.pc).withOp k o)

/-- The microcoded sequence of an instruction, if it has one (R238); a sequencing error ends the instruction with the core stopped (R235). -/
def runSequence (n : Nat) : Option Nat → Run Unit
  | none => pure ()
  | some entry => fun s =>
    match s.microRun n entry with
    | (.error r, s) => .error .wait (s.microStop n r)
    | (.exit r, s) => if r.drains then orWait (fun s => s.drain n) s else .ok () s
    | (.go _, s) => .ok () s

/-- An instruction of core k.lcn: an event that R139 puts before it, or steps 3, 5 and 6 of R59 (i, j consumed of and produced on the data stack, ri, ro on the return stack), its microcoded sequence, and then its own execution; nothing on a core that executes no instruction. -/
def instr (k : Insn) (o : Op) (i j ri ro : Nat) (body : Run Retire) (s : State) : Out :=
  match s.mayStart k.lcn o.bytes with
  | .idle => .next s
  | .event => orSame s (s.takeEvent k.lcn)
  | .go =>
    settle s k.lcn (k.pfx.length + o.len) (pswS (s.core k.lcn).psw)
      ((do precheck k o
           makeRoom k.lcn false i j
           makeRoom k.lcn true ri ro
           runSequence k.lcn o.entry
           body : Run Retire) s)

/-- An instruction that step 2 of R59 refuses: its exception, unless an event comes first. -/
def trapInstr (k : Insn) (o : Op) (f : Core → Exc) (s : State) : Out :=
  match s.mayStart k.lcn o.bytes with
  | .idle => .next s
  | .event => orSame s (s.takeEvent k.lcn)
  | .go => orSame s (s.raiseSync k.lcn (f (s.core k.lcn)))

/-- The top i entries, T0 first. -/
def topN (n i : Nat) : Run (List Word) := do return (← coreOf n).ds.cache.take i

/-- The top i entries replaced by others, T0 first, and PSW. -/
def Core.replaceTop (c : Core) (i : Nat) (r : List Word) (psw : Word) : Core :=
  { c with ds := { c.ds with cache := r ++ c.ds.cache.drop i }, psw := psw }

/-- The data stack without its top i entries and with others above the rest. -/
def Core.pushes (c : Core) (i : Nat) (r : List Word) : Core := { c with ds := { c.ds with cache := r ++ c.ds.cache.drop i } }

/-- The return stack without its top i entries and with others above the rest. -/
def Core.rpushes (c : Core) (i : Nat) (r : List Word) : Core := { c with rs := { c.rs with cache := r ++ c.rs.cache.drop i } }

/-- The entry on top of the return stack. -/
def Core.rtop (c : Core) : Word := c.rs.cache.headD 0

/-- An instruction that only turns the top i entries and PSW into j entries and PSW. -/
def stackOp (k : Insn) (o : Op) (i j : Nat) (f : List Word → Word → List Word × Word) (s : State) : Out :=
  instr k o i j 0 0 (do
    let c ← coreOf k.lcn
    let (r, psw) := f (c.ds.cache.take i) c.psw
    onCore k.lcn (fun c => c.replaceTop i r psw)
    return .next) s

/-- T0 and T1 of the entries an instruction consumes; an absent one cannot come about after R42. -/
def t0 (xs : List Word) : Word := xs.getD 0 0
def t1 (xs : List Word) : Word := xs.getD 1 0
def t2 (xs : List Word) : Word := xs.getD 2 0
def t3 (xs : List Word) : Word := xs.getD 3 0

/-! Memory accesses (R85-R87, R197-R199). -/

/-- How a data access of an instruction is checked (R52, R168). -/
def dataAcc (c : Core) (usr wr : Bool) : Acc :=
  { instr := false, rd := !wr, wr := wr, fetch := false, user := !pswS c.psw || usr, uaOk := pswUA c.psw }

/-- SUB of R148 for an access. -/
def Acc.sub (a : Acc) : Byte := (if a.rd || a.wr then 1 else 0) ||| (if a.wr then 2 else 0)

/-- The exception of a failed translation (R148, R167, R171). -/
def xlatThrow {α : Type} (n : Nat) (a : Acc) (e : XErr) : Run α := do
  let c ← coreOf n
  if e.vec = 1 then throwExc { Exc.plain 1 7 c.pc with faddr := e.va, info := e.info }
  else throwExc { Exc.plain e.vec 5 c.pc with sub := a.sub, cause := e.cause, faddr := e.va, info := e.info }

/-- The physical addresses of an access, or its exception (R86). -/
def addresses (n : Nat) (va : Word) (w : Nat) (a : Acc) : Run (List Nat) := do
  match ← translateSpan n va w a with
  | .error e => xlatThrow n a e
  | .ok ps => return ps.flatMap Piece.addrs

/-- The parts of a store, its D updates ready, or its exception (R86, R166). -/
def storePieces (n : Nat) (va : Word) (w : Nat) (a : Acc) : Run (List Piece) := do
  match ← storeSpan n va w a with
  | .error e => xlatThrow n a e
  | .ok ps => return ps

/-- An ACQ load waits for every REL store before it, and so for every store older than the youngest of them (R187). -/
def acquireDrain (n : Nat) : Run Unit := do
  let sb := (← coreOf n).sb
  let k := sb.length - (sb.reverse.takeWhile (fun e => !e.rel)).length
  orWait (fun s => s.drainFirst n k)

/-- The bytes of a load (R85): the hold ends unless keep holds, ACQ drains, both pages are checked, then the bytes are read. -/
def loadBytes (k : Insn) (va : Word) (w : Nat) : Run (List Byte) := do
  let n := k.lcn
  let c ← coreOf n
  let as ← addresses n va w (dataAcc c (k.pfx.contains .usr) false)
  modify (·.endHold n)
  if k.pfx.contains .acq then acquireDrain n
  readBytes n as

/-- The store-buffer entries of a store of width w (R197, R199): one when it is atomic, single bytes otherwise. -/
def storeEntries (va : Word) (as : List Nat) (bs : List Byte) (rel : Bool) : List StoreEntry :=
  if va.toNat % bs.length = 0 then [{ addr := as.headD 0, bytes := bs, rel := rel }]
  else (as.zip bs).map (fun p => { addr := p.1, bytes := [p.2], rel := rel })

/-- A store of bytes at va (R85): checked, then its D updates made and its entries retired into the store buffer together. -/
def storeBytes (k : Insn) (va : Word) (bs : List Byte) : Run Unit := do
  let n := k.lcn
  let c ← coreOf n
  let ps ← storePieces n va bs.length (dataAcc c (k.pfx.contains .usr) true)
  modify (·.endHold n)
  orWait (fun s => s.commitStore n ps (storeEntries va (ps.flatMap Piece.addrs) bs (k.pfx.contains .rel)))

end Sys2Proof.Machine
end

