-- ==== Sys2Proof/Machine/Flags.lean ====
section
/-! DEFINITION. The flag codes of R77, as functions from operands, result and the old PSW to the new PSW. -/

namespace Sys2Proof.Machine

/-- PSW with its four flags replaced. -/
def setFlags (p : Word) (z n v c : Bool) : Word :=
  (p &&& ~~~(0xF : Word)) ||| at_ z 3 ||| at_ n 2 ||| at_ v 1 ||| at_ c 0

/-- Z and N of a result. -/
def isZ (r : Word) : Bool := r == 0
def isN (r : Word) : Bool := r.msb

/-- Code A+ for a + b + cin (R77): V is the signed overflow, C the carry out of bit 63. -/
def flagsAdd (p a b : Word) (cin : Bool) : Word :=
  let i := if cin then 1 else 0
  let r := a + b + BitVec.ofNat 64 i
  let e := a.toInt + b.toInt + (i : Int)
  setFlags p (isZ r) (isN r) (decide (e < -(2 ^ 63)) || decide (2 ^ 63 ≤ e)) (decide (2 ^ 64 ≤ a.toNat + b.toNat + i))

/-- Code A− for a − b − bin (R77): C = 1 when there is no borrow. -/
def flagsSub (p a b : Word) (bin : Bool) : Word :=
  let i := if bin then 1 else 0
  let r := a - b - BitVec.ofNat 64 i
  let e := a.toInt - b.toInt - (i : Int)
  setFlags p (isZ r) (isN r) (decide (e < -(2 ^ 63)) || decide (2 ^ 63 ≤ e)) (decide (b.toNat + i ≤ a.toNat))

/-- Code L (R77): V := 0, C kept. -/
def flagsLogic (p r : Word) : Word := setFlags p (isZ r) (isN r) false (pswC p)

/-- Code S (R77): C is the last bit shifted out, kept for a count of 0. -/
def flagsShift (p r : Word) (count : Nat) (out : Bool) : Word :=
  setFlags p (isZ r) (isN r) false (if count = 0 then pswC p else out)

/-- Code M (R77). -/
def flagsMul (p a b : Word) : Word :=
  let r := a * b
  let sp := a.toInt * b.toInt
  setFlags p (isZ r) (isN r) (decide (sp < -(2 ^ 63)) || decide (2 ^ 63 ≤ sp)) (decide (2 ^ 64 ≤ a.toNat * b.toNat))

/-- Code Q (R77); v holds only for DIV of −2^63 by −1. -/
def flagsDiv (p r : Word) (v : Bool) : Word := setFlags p (isZ r) (isN r) v false

/-- The conditions of R64 on the flags of PSW, by the number of the opcode pair from BEQ (0) to BVC (11). -/
def branchCond (p : Word) : Nat → Bool
  | 0 => pswZ p
  | 1 => !pswZ p
  | 2 => pswN p != pswV p
  | 3 => pswN p == pswV p
  | 4 => !pswZ p && (pswN p == pswV p)
  | 5 => pswZ p || (pswN p != pswV p)
  | 6 => !pswC p
  | 7 => pswC p
  | 8 => pswC p && !pswZ p
  | 9 => !pswC p || pswZ p
  | 10 => pswV p
  | 11 => !pswV p
  | _ => false

end Sys2Proof.Machine
end

