-- ==== Sys2Proof/Machine/Invalidate.lean ====
section
/-! DEFINITION. Translation invalidation with its messages, SPILLD and SPILLR (03 R106-R108, 06 R175). -/

namespace Sys2Proof.Machine

/-- Whether an invalidation removes a leaf (R175). -/
def InvKind.leaf (v : InvKind) (t : TlbEntry) : Bool :=
  match v with
  | .page va pid => (t.pid == pid || t.g) && t.page == va.toNat / 2 ^ t.size
  | .tag pid => t.pid == pid && !t.g
  | .all => true

/-- Whether an invalidation removes a cached pointer entry (R175). -/
def InvKind.pointer (v : InvKind) (w : WalkEntry) : Bool :=
  match v with
  | .page va pid => w.pid == pid && w.span == va.toNat / 2 ^ (12 + 9 * w.level)
  | .tag pid => w.pid == pid
  | .all => true

/-- The translation caches after an invalidation (R175). -/
def Tlbs.remove (b : Tlbs) (v : InvKind) : Tlbs :=
  { itlb := b.itlb.filter (fun t => !v.leaf t), dtlb := b.dtlb.filter (fun t => !v.leaf t),
    l2 := b.l2.filter (fun t => !v.leaf t), walk := b.walk.filter (fun w => !v.pointer w) }

/-- The present cores other than n (R175). -/
def State.othersPresent (s : State) (n : Nat) : List Nat :=
  (List.range 48).filter (fun m => m != n && (s.core m).run != .absent)

/-- The entries that an invalidation consumes. -/
def InvKind.operands : InvKind → Nat
  | .page _ _ => 2
  | .tag _ => 1
  | .all => 0

/-- An invalidation of core n completes: its operands go and it retires (R107). -/
def State.endInval (s : State) (n : Nat) (v : InvKind) : State :=
  (s.modCore n (fun c => { c.pushes v.operands [] with inval := none })).retire n 2 (pswS (s.core n).psw) .next

/-- An invalidation issues: the issuer's own entries go at once, and a TLBI is on its way to every other present core; with none it completes (R107, R175). -/
def invalidate (k : Insn) (b : Byte) (entry : Nat) (kind : List Word → InvKind) (i : Nat) (s : State) : Out :=
  instr k { op [0xF0, b] 2 with priv := true, entry := some entry } i 0 0 0 (do
    let n := k.lcn
    let c ← coreOf n
    let v := kind c.ds.cache
    let others := (← get).othersPresent n
    onCore n fun c => { c with tlb := c.tlb.remove v }
    if others.isEmpty then
      onCore n fun c => c.pushes i []
      return .next
    else
      onCore n fun c => { c with inval := some { kind := v, toReach := others, toAck := [] } }
      modify fun s => others.foldl (fun s m => s.send (s.core n).pcn (s.core m).pcn (.tlbi n)) s
      return .stay) s

/-- INVPG ( va pid -- ) (R106, R175). -/
def execInvpg (k : Insn) (s : State) : Out := invalidate k 0x00 0x1400 (fun x => .page (t1 x) (fld (t0 x) 0 16)) 2 s

/-- INVTAG ( pid -- ) (R106, R175). -/
def execInvtag (k : Insn) (s : State) : Out := invalidate k 0x01 0x1480 (fun x => .tag (fld (t0 x) 0 16)) 1 s

/-- INVALL (R106, R175). -/
def execInvall (k : Insn) (s : State) : Out := invalidate k 0x02 0x14C0 (fun _ => .all) 0 s

/-- TLBI reaches a core: its entries go, and its acknowledgement goes out (R175). -/
def execTlbi (target issuer : Nat) (s : State) : Out :=
  match (s.core issuer).inval, s.takeMsg (s.core target).pcn (· == .tlbi issuer) with
  | some v, some (_, s) =>
    let s := s.modCore target (fun c => { c with tlb := c.tlb.remove v.kind })
    let s := s.modCore issuer (fun c => { c with inval := some { v with toReach := v.toReach.erase target, toAck := target :: v.toAck } })
    .next (s.send (s.core target).pcn (s.core issuer).pcn (.tlba target issuer))
  | _, _ => .next s

/-- An acknowledgement is in, or a core that owed one is gone: the invalidation completes with the last (R175). -/
def State.ackInval (s : State) (issuer sender : Nat) : State :=
  match (s.core issuer).inval with
  | none => s
  | some v =>
    let v := { v with toReach := v.toReach.filter (· != sender), toAck := v.toAck.filter (· != sender) }
    if v.toReach.isEmpty && v.toAck.isEmpty then s.endInval issuer v.kind
    else s.modCore issuer (fun c => { c with inval := some v })

/-- TLBA reaches the issuing core (R175). -/
def execTlba (sender issuer : Nat) (s : State) : Out :=
  match s.takeMsg (s.core issuer).pcn (· == .tlba sender issuer) with
  | none => .next s
  | some (_, s) => .next (s.ackInval issuer sender)

/-- Core n is gone: no other core waits any longer for its acknowledgement, and its own invalidation ends. -/
def State.forgetInvals (s : State) (n : Nat) : State := (List.range 48).foldl (fun s m => s.ackInval m n) (s.dropInval n)

/-- Every valid entry of a stack spilled, deepest first (R108). -/
def spillAll (k : Insn) (b : Byte) (ret : Bool) (s : State) : Out :=
  instr k (op [0xF0, b] 2) 0 0 0 0 (do
    times ((← coreOf k.lcn).stack ret).cache.length (spillOne k.lcn ret)
    return .next) s

/-- SPILLD (R108). -/
def execSpilld (k : Insn) (s : State) : Out := spillAll k 0x03 false s

/-- SPILLR (R108). -/
def execSpillr (k : Insn) (s : State) : Out := spillAll k 0x04 true s

end Sys2Proof.Machine
end

