-- ==== Sys2Proof/Machine/Special.lean ====
section
/-! DEFINITION. Special registers and time (02 R46-R50, 03 R81-R84, 19 R454-R455). -/

namespace Sys2Proof.Machine

/-- The increment of TOD at each reference cycle (R455). -/
def todStep : Pair := 0x028F5C28F5C28F5C

/-- TOD now (R455). -/
def Plant.tod (p : Plant) : Pair := p.todBase + BitVec.ofNat 128 p.refCycle * todStep

/-- Time passes inside the beat: the reference cycles since the boundary rise by a free amount and stay below 100 (R31, log 7). -/
def passTime : Run Unit := do
  let f ← freeWord
  modify fun s => { s with plant := { s.plant with refCycle := s.plant.refCycle + f.toNat % (100 - s.plant.refCycle) } }

/-- CYC counts on by a free amount and never runs backward (R82, log 7). -/
def passCycles (n : Nat) : Run Unit := do
  let f ← freeWord
  onCore n fun c => { c with cyc := c.cyc + BitVec.ofNat 64 (f.toNat % (2 ^ 64 - c.cyc.toNat)) }

/-- The special registers of R47; PCTL and PCNT carry their index. -/
inductive Sr where
  | psw | tsbr | vbr | iroot | droot | pid | krr | lcn | mcver
  | dsp | dslo | dshi | rsp | rslo | rshi | cnt | src | dst | fpc
  | cyc | beatc | todh | todl
  | pctl (i : Nat) | pcnt (i : Nat)
  deriving DecidableEq, Repr

/-- The register with a number; none for a reserved number (R47). -/
def srOf (n : Nat) : Option Sr :=
  if n = 0x00 then some .psw else if n = 0x01 then some .tsbr else if n = 0x02 then some .vbr
  else if n = 0x03 then some .iroot else if n = 0x04 then some .droot else if n = 0x05 then some .pid
  else if n = 0x06 then some .krr else if n = 0x07 then some .lcn else if n = 0x08 then some .mcver
  else if n = 0x10 then some .dsp else if n = 0x11 then some .dslo else if n = 0x12 then some .dshi
  else if n = 0x13 then some .rsp else if n = 0x14 then some .rslo else if n = 0x15 then some .rshi
  else if n = 0x18 then some .cnt else if n = 0x19 then some .src else if n = 0x1A then some .dst
  else if n = 0x1C then some .fpc else if n = 0x20 then some .cyc else if n = 0x21 then some .beatc
  else if n = 0x22 then some .todh else if n = 0x23 then some .todl
  else if 0x40 ≤ n ∧ n < 0x48 then some (.pctl (n - 0x40))
  else if 0x48 ≤ n ∧ n < 0x50 then some (.pcnt (n - 0x48))
  else none

/-- Registers that only supervisor state may read (R47). -/
def Sr.readS : Sr → Bool
  | .tsbr | .vbr | .iroot | .droot | .pctl _ => true
  | _ => false

/-- Registers that only supervisor state may write (R47). -/
def Sr.writeS : Sr → Bool
  | .psw | .tsbr | .vbr | .iroot | .droot | .pid | .krr | .dslo | .dshi | .rslo | .rshi | .pctl _ | .pcnt _ => true
  | _ => false

/-- Registers whose writes are serialising (R47). -/
def Sr.serialising : Sr → Bool
  | .psw | .tsbr | .vbr | .iroot | .droot | .pid => true
  | _ => false

/-- The value of a special register, zero-extended (R47). -/
def Core.srRead (c : Core) (n : Nat) (p : Plant) : Sr → Word
  | .psw => c.psw
  | .tsbr => c.tsbr
  | .vbr => c.vbr
  | .iroot => c.iroot
  | .droot => c.droot
  | .pid => zext c.pid
  | .krr => zext c.krr
  | .lcn => BitVec.ofNat 64 n
  | .mcver => c.mcver
  | .dsp => c.ds.ptr
  | .dslo => c.ds.lo
  | .dshi => c.ds.hi
  | .rsp => c.rs.ptr
  | .rslo => c.rs.lo
  | .rshi => c.rs.hi
  | .cnt => c.cnt
  | .src => c.src
  | .dst => c.dst
  | .fpc => zext c.fpc
  | .cyc => c.cyc
  | .beatc => p.beatc
  | .todh => fld p.tod 64 64
  | .todl => fld p.tod 0 64
  | .pctl i => ((c.perf[i]?).map PerfCounter.ctl).getD 0
  | .pcnt i => zext (((c.perf[i]?).map PerfCounter.cnt).getD 0)

/-- The writable bits of FPC (R123). -/
def fpcMask : Word32 := 0x001F1F0F

/-- The core after a write of a special register: reserved bits stay 0, a read-only register ignores it (R47, R50). -/
def Core.srWrite (c : Core) (v : Word) : Sr → Core
  | .psw => { c with psw := v &&& pswMask }
  | .tsbr => { c with tsbr := v }
  | .vbr => { c with vbr := v &&& 0xFFFFFFFFFFFFF000 }
  | .iroot => { c with iroot := v &&& 0x000FFFFFFFFFF000 }
  | .droot => { c with droot := v &&& 0x000FFFFFFFFFF000 }
  | .pid => { c with pid := fld v 0 16 }
  | .krr => { c with krr := fld v 0 32 }
  | .dsp => { c with ds := { c.ds with ptr := v } }
  | .dslo => { c with ds := { c.ds with lo := v } }
  | .dshi => { c with ds := { c.ds with hi := v } }
  | .rsp => { c with rs := { c.rs with ptr := v } }
  | .rslo => { c with rs := { c.rs with lo := v } }
  | .rshi => { c with rs := { c.rs with hi := v } }
  | .cnt => { c with cnt := v }
  | .src => { c with src := v }
  | .dst => { c with dst := v }
  | .fpc => { c with fpc := fld v 0 32 &&& fpcMask }
  | .pctl i => { c with perf := modAt c.perf i (fun p => p.writeCtl v) }
  | .pcnt i => { c with perf := modAt c.perf i (fun p => p.writeCnt v) }
  | .lcn | .mcver | .cyc | .beatc | .todh | .todl => c

/-- Reserved-Opcode for a reserved register number (R47, R60): OPLEN 1 and ILEN 2, prefixes apart, the number in INFO. -/
def reservedReg (k : Insn) (o : Op) (num : Nat) (s : State) : Out :=
  trapInstr k o (fun c => ({ Exc.plain 9 4 c.pc with cause := 1, info := BitVec.ofNat 64 num }).withOp k o) s

/-- RDSR (R81) of a register that is not reserved. -/
def readReg (k : Insn) (o : Op) (r : Sr) (s : State) : Out :=
  instr k { o with priv := r.readS } 0 1 0 0 (do
    match r with
    | .cyc => passCycles k.lcn
    | .todh => passTime
    | .todl => passTime
    | _ => pure ()
    let s ← get
    onCore k.lcn (fun c => c.pushes 0 [c.srRead k.lcn s.plant r])
    return .next) s

/-- RDSR ( -- x ) (R47, R81). -/
def execRdsr (k : Insn) (n : BitVec 8) (s : State) : Out :=
  match srOf n.toNat with
  | none => reservedReg k (op [0x55] 2) n.toNat s
  | some r => readReg k (op [0x55] 2) r s

/-- WRSR ( x -- ) (R47, R81). A serialising write takes effect before the next instruction (R49). -/
def execWrsr (k : Insn) (n : BitVec 8) (s : State) : Out :=
  match srOf n.toNat with
  | none => reservedReg k (op [0x56] 2) n.toNat s
  | some r =>
    instr k { op [0x56] 2 with priv := r.writeS, entry := if r.serialising then some 0x0E00 else none } 1 0 0 0 (do
      onCore k.lcn (fun c => (c.pushes 1 []).srWrite (t0 c.ds.cache) r)
      return .next) s

/-- RDTOD ( -- th tl ): one consistent time of day (R83). -/
def execRdtod (k : Insn) (s : State) : Out :=
  instr k (op [0x96] 1) 0 2 0 0 (do
    passTime
    let p := (← get).plant
    onCore k.lcn (fun c => c.pushes 0 [fld p.tod 0 64, fld p.tod 64 64])
    return .next) s

/-- WRKRR ( x -- ): x[31:0] to KRR in either state (R84). -/
def execWrkrr (k : Insn) (s : State) : Out :=
  instr k (op [0x99] 1) 1 0 0 0 (do
    onCore k.lcn (fun c => { c.pushes 1 [] with krr := fld (t0 c.ds.cache) 0 32 })
    return .next) s

end Sys2Proof.Machine
end

