-- ==== Sys2Proof/Machine/CoreEvents.lean ====
section
/-! DEFINITION. Events of a core: reserved instructions, interrupts, the performance of stores, holds, retry, machine checks of stored data, and timers (02 R60, 05, 07, 08, 19 R459). -/

namespace Sys2Proof.Machine

/-- Whether a primary byte is reserved (R65). -/
def primaryReserved (b : Nat) : Bool :=
  b == 0x47 || b == 0x4F || (decide (0x59 ≤ b) && decide (b ≤ 0x5F)) || b == 0x85 || b == 0x87 || b == 0x8F ||
  (decide (0x9A ≤ b) && decide (b ≤ 0x9F)) || (decide (0xA9 ≤ b) && decide (b ≤ 0xEF)) || b == 0xFE || b == 0xFF

/-- The assumed length of a reserved primary byte (R66). -/
def primaryLength (b : Nat) : Nat :=
  if b < 0x50 then 3 else if b < 0x60 then 2 else if b < 0x86 then 5 else if b < 0x88 then 9
  else if b < 0xC0 then 1 else if b < 0xD0 then 2 else if b < 0xE0 then 3 else if b < 0xF0 then 5 else 1

/-- Whether an escape and its extended byte name no instruction (R67). -/
def escapeReserved (e x : Nat) : Bool :=
  (e == 0xF0 && decide (6 ≤ x)) ||
  (e == 0xF1 && !(decide (x ≤ 0x0B) || (decide (0x10 ≤ x) && decide (x ≤ 0x1B)) || (decide (0x20 ≤ x) && decide (x ≤ 0x29)) ||
    (decide (0x30 ≤ x) && decide (x ≤ 0x38)))) ||
  (decide (0xF2 ≤ e) && decide (e ≤ 0xF7))

/-- The length that an extended byte fixes (R68). -/
def escapeLength (x : Nat) : Nat := if x < 0x80 then 2 else if x < 0xC0 then 3 else if x < 0xE0 then 4 else 6

/-- The exception of a reserved instruction without its prefixes (R60, R148). -/
def reservedExc (pc : Word) : Sys2Proof.ReservedOp → Option (Exc × Op)
  | .primary b => if primaryReserved b.toNat then some (Exc.plain 9 4 pc, op [b] (primaryLength b.toNat)) else none
  | .escape e x => if escapeReserved e.toNat x.toNat then some (Exc.plain 9 4 pc, op [e, x] (escapeLength x.toNat)) else none
  | .register w n => if (srOf n.toNat).isNone then some ({ Exc.plain 9 4 pc with cause := 1, info := zext n }, op [if w then 0x56 else 0x55] 2) else none

/-- RESERVED_INSTRUCTION (R59 step 2, R60). -/
def execReservedInstruction (k : Insn) (r : Sys2Proof.ReservedOp) (s : State) : Out :=
  match reservedExc (s.core k.lcn).pc r with
  | none => .refused .illFormed
  | some (e, o) => trapInstr k o (fun _ => e.withOp k o) s

/-- TAKE_INTERRUPT (R139, R150): the pending event of the highest level above ML, at a boundary. -/
def execTakeInterrupt (lcn : Nat) (s : State) : Out := if s.atBoundary lcn then orSame s (s.takeEvent lcn) else .next s

/-- ICI of the target set, and the sender in its ICISRC (R140); an absent or unknown LCN has no effect. -/
def State.sendIci (s : State) (n target : Nat) : State :=
  if target < 48 ∧ (s.core target).run ≠ .absent then
    s.modCore target (fun c => { c with ici := true, iciSrc := c.iciSrc ||| (1 <<< n) })
  else s

/-- Whether two entries store to a common byte. -/
def StoreEntry.overlaps (a b : StoreEntry) : Bool :=
  decide (a.addr < b.addr + b.bytes.length) && decide (b.addr < a.addr + a.bytes.length)

/-- Whether an entry may leave the buffer before the older ones (R181, R186). -/
def mayPerform (older : List StoreEntry) (e : StoreEntry) : Bool :=
  !older.any (fun o => o.overlaps e) && (!e.rel || older.isEmpty)

/-- STORE_PERFORMED (R180): entry idx of the buffer, the oldest being 0, reaches its home slice. -/
def execStorePerformed (lcn idx : Nat) (s : State) : Out :=
  let c := s.core lcn
  match c.sb[idx]? with
  | none => .next s
  | some e =>
    if s.weir.safe || !mayPerform (c.sb.take idx) e then .next s
    else match s.performStore lcn e.addr e.bytes with
      | none => .next s
      | some s => .next (s.modCore lcn (fun c => { c with sb := c.sb.eraseIdx idx }))

/-- The reference cycles since an access was issued (R194). -/
def State.age (s : State) (a : PortAccess) : Int := 100 * (s.since a.issued : Int) + s.plant.refCycle - a.cycle

/-- Whether 4 beats have passed since an access was issued (R194, R195): no response of its unit counts any more. -/
def State.overdue (s : State) (a : PortAccess) : Bool := decide (400 ≤ s.age a)

/-- The core source of an error of R219. -/
def RetryError.source : Sys2Proof.RetryError → Nat
  | .executionUnit => 0
  | .physicalRegister _ => 1
  | .l1Line _ _ => 2
  | .l2CleanLine _ => 3
  | .l2DirtyLine _ => 3
  | .tlbEntry _ => 4
  | .walkRead _ => 5
  | .checkpointWord _ _ => 6

/-- Entry i of the translation caches invalidated, those of the walk cache counted last (R219). -/
def Tlbs.invalidate (b : Tlbs) (i : Nat) : Tlbs :=
  let all := b.itlb ++ b.dtlb ++ b.l2
  match all[i]? with
  | some t => b.discard t
  | none => { b with walk := b.walk.eraseIdx (i - all.length) }

/-- What is done at the error's site before the restart (R219). A clean L2 line that is invalidated is fetched again by the next access to it. -/
def State.disposeError (s : State) (n : Nat) : Sys2Proof.RetryError → State
  | .physicalRegister r => s.modCore n (fun c => { c with withdrawn := r :: c.withdrawn.filter (· != r) })
  | .tlbEntry i => s.modCore n (fun c => { c with tlb := c.tlb.invalidate i })
  | .l1Line instr line => s.modCore n (fun c => if instr then { c with l1i := c.l1i.filter (· != line) } else { c with l1d := c.l1d.filter (· != line) })
  | .l2CleanLine line => if s.agentState (s.core n).pcn line == some .m then s else s.dropCopy (s.core n).pcn line false
  | .executionUnit | .l2DirtyLine _ | .walkRead _ | .checkpointWord _ _ => s

/-- The action field of a source for a class (R408). -/
def WeirSource.act (x : WeirSource) : FaultClass → Half
  | .corrected => x.actC
  | .recoverable => x.actR
  | .severe => x.actS
  | .fatal => x.actF

/-- The core becomes PAUSED with a SEVERE event of its retry source (R224). -/
def State.pauseCore (s : State) (n : Nat) : State :=
  (((s.reportCore n 7 .severe none 0).endHold n).dropInval n).modCore n fun c =>
    { c with run := .paused, resv := none, due := [], ioWait := none, waits := c.run == .waiting }

/-- The opcodes of the I/O-space instructions (R101). -/
def ioOpcode (b : Nat) : Bool := (decide (0xA0 ≤ b) && decide (b ≤ 0xA3)) || (decide (0xA6 ≤ b) && decide (b ≤ 0xA8))

/-- The machine check of an I/O-space instruction that had issued (R223, R526). Whether the port acted is open (R101): in the model it has not (DESIGN CHOICE, log 149). -/
def State.ioCheck (s : State) (n : Nat) (code : Byte) (srcNo : Nat) : Option State :=
  let c := s.core n
  let s := s.reportCore n srcNo .recoverable none 0
  let s := s.modCore n (fun c => { c with devRead := none })
  s.raiseSync n { Exc.plain 1 7 c.pc with
    cause := 1, nr := true, info := BitVec.ofNat 64 (coreSrc c.pcn srcNo), opc := [code], ilen := 1 }

/-- The opcode of the I/O-space instruction of core n that has issued and not retired: the one named, or the IN whose data are outstanding (R99). -/
def Core.issued (c : Core) (named : Option (BitVec 8)) : Option (BitVec 8) :=
  match c.devRead with
  | some a => some (if a.wide then 0xA1 else 0xA0)
  | none => named.filter (fun b => ioOpcode b.toNat)

/-- A machine check of cause 0 of the instruction at the pc, for a line that is poisoned with it (R219, R526): source k of the core. None while it has to wait. -/
def State.lineCheck (s : State) (n k line : Nat) : Option State :=
  (s.poisonLine line).bind fun s =>
    (s.reportCore n k .recoverable none (BitVec.ofNat 64 (line * 256))).raiseSync n
      { Exc.plain 1 7 (s.core n).pc with faddr := BitVec.ofNat 64 (line * 256), info := BitVec.ofNat 64 (coreSrc (s.core n).pcn k) }

/-- A sparing that cannot be completed ends (R424): its spare is READY again (DESIGN CHOICE, log 155). -/
def State.cancelSparing (s : State) (n : Nat) : State :=
  let mine := (s.ct.coreSpar.filter (fun x => x.unit == n)).map Sparing.slot
  { s with ct := { s.ct with
    coreSpar := s.ct.coreSpar.filter (fun x => x.unit != n),
    slots := (List.range s.ct.slots.length).zipWith (fun i x => if mine.contains i && x.st == .claimed then { x with st := .ready } else x) s.ct.slots } }

/-- A checkpoint word that is uncorrectable in both copies (R225): the core's state is lost, a FATAL event names it, and no sparing of it goes on (R424). -/
def State.loseCheckpoint (s : State) (n : Nat) : State :=
  (((((s.reportCore n 6 .fatal none 0).endHold n).dropInval n).cancelSparing n).modCore n fun c =>
    { c with run := .checkstopped, sparing := false, waits := false, resv := none, devRead := none, due := [], ioWait := none }).mclGone n

/-- The checkpoint of a core (R217), which copies A and B both hold after every retirement: its registers as they stand between two instructions, and the working state of a sequence in progress. The spec does not give word 48 a layout (DESIGN CHOICE, log 154). -/
def Core.checkpoint (c : Core) : List Word :=
  (List.range 32).map (fun i => c.ds.cache.getD i 0) ++ (List.range 16).map (fun i => c.rs.cache.getD i 0) ++
  [BitVec.ofNat 64 c.ds.cache.length ||| fieldAt (BitVec.ofNat 8 c.rs.cache.length) 8 ||| at_ c.delay 16 ||| at_ c.strProgress 17] ++
  [c.pc, c.npc, c.psw, c.ds.ptr, c.rs.ptr, c.ds.lo, c.ds.hi, c.rs.lo, c.rs.hi, zext c.fpc, c.cnt, c.src, c.dst] ++
  [c.tsbr, c.vbr, c.iroot, c.droot, zext c.pid, zext c.krr, c.cyc] ++
  (List.range 8).map (fun i => (c.perf.map PerfCounter.ctl).getD i 0) ++ (List.range 8).map (fun i => zext ((c.perf.map PerfCounter.cnt).getD i 0)) ++ c.work

/-- A word of one copy of the checkpoint array with its ECC (R217). -/
def Core.checkWord (c : Core) (i : Nat) : Word × Byte := (c.checkpoint.getD i 0, Config.checkEcc (c.checkpoint.getD i 0))

/-- The restart of R220 from the checkpoint, as the error left it (R221), with the sequence that rebuilds the rename maps (R238). None where that has to wait. -/
def State.restart (s : State) (n : Nat) : Option State :=
  (((s.endHold n).dropInval n).modCore n fun c =>
    { c.perfAdd 14 1 with retries := c.retries + 1, resv := none, due := [], ioWait := none }).withSequence n 0x0A00 some

/-- An error that retry is attempted for (R219, R224): the restart, or the pause when the source forbids it or two have gone before; an error of a walk that retry does not cure is a machine check of cause 0 instead (R167, R526; DEDUCED, log 150). -/
def State.tryAgain (s : State) (n : Nat) (e : Sys2Proof.RetryError) : Option State :=
  let c := s.core n
  let k := RetryError.source e
  let allowed := bitAt ((s.weir.source (coreSrc c.pcn k)).act .corrected) 12 && decide (c.retries < 2)
  match e with
  | .walkRead line =>
    if allowed then (s.reportCore n k .corrected none 0).restart n
    else ((s.dropInval n).modCore n (fun c => { c with due := [], ioWait := none })).lineCheck n 5 line
  | e =>
    let s := (s.reportCore n k .corrected none 0).disposeError n e
    if allowed then s.restart n else some (s.pauseCore n)

/-- INSTRUCTION_RETRY (R219-R225): an error detected in an unretired instruction of a running or waiting core, or in the checkpoint that the sparing of a paused one reads; issued names the opcode of an I/O-space instruction that had issued. -/
def execInstructionRetry (lcn : Nat) (e : Sys2Proof.RetryError) (issued : Option (BitVec 8)) (s : State) : Out :=
  let c := s.core lcn
  match e, c.run with
  | .checkpointWord _ both, .paused =>
    .next (if both then s.loseCheckpoint lcn else s.reportCore lcn 6 .corrected none 0)
  | .checkpointWord _ true, .running => .next (s.loseCheckpoint lcn)
  | .checkpointWord _ true, .waiting => .next (s.loseCheckpoint lcn)
  | e, .running =>
    match c.issued issued, e with
    | some code, _ => orSame s (s.ioCheck lcn code (RetryError.source e))
    | none, .l2DirtyLine line =>
      if s.agentState c.pcn line == some .m then orSame s ((s.dropCopy c.pcn line false).lineCheck lcn 3 line) else .next s
    | none, e => orSame s (s.tryAgain lcn e)
  | e, .waiting =>
    match e with
    | .l2DirtyLine _ => .next s
    | e => orSame s (s.tryAgain lcn e)
  | _, _ => .next s

/-- MACHINE_CHECK_STORED_DATA (R526): the line is poisoned and a machine check of cause 2 pends; the first one pending keeps its record. -/
def execMachineCheckStoredData (lcn line : Nat) (s : State) : Out :=
  let c := s.core lcn
  if c.run = .absent then .next s
  else if s.paKind (line * 256) = .hole then .refused .illFormed
  else
    match s.poisonLine line with
    | none => .next s
    | some s =>
      let s := s.reportCore lcn 3 .recoverable none (BitVec.ofNat 64 (line * 256))
      .next (s.modCore lcn fun c => { c with mca := if c.mca.isSome then c.mca else some { line := line, src := coreSrc c.pcn 3 } })

/-- A comparator after its match at boundary n (R459). -/
def Timer.fire (t : Timer) (n : Nat) : Timer :=
  let period := (fld t.ctl 32 32).toNat
  let t := { t with prevCtl := 0 }
  if period = 0 then { t with ctl := (t.ctl ||| 4) &&& ~~~(1 : Word) }
  else
    let cmp := t.cmp.toNat
    let j := if n < cmp then 1 else (n - cmp) / period + 1
    let miss := min 255 ((fld t.ctl 24 8).toNat + (j - 1))
    { t with cmp := BitVec.ofNat 64 (cmp + j * period), ctl := putFld (t.ctl ||| 4) 24 (BitVec.ofNat 8 miss) }

/-- Whether a comparator matches at the present boundary, with its ports as they stood at the end of the previous beat (R36, R459). -/
def Timer.due (t : Timer) (n : Word) : Bool := bitAt t.prevCtl 0 && decide (t.prevCmp.toNat ≤ n.toNat)

/-- TIMER_MATCH (R459). -/
def execTimerMatch (lcn : Nat) (i : Fin 2) (s : State) : Out :=
  let c := s.core lcn
  match c.timers[i.val]? with
  | none => .next s
  | some t =>
    if c.run != .absent && t.due s.beatc then
      .next (s.modCore lcn (fun c => { c with timers := modAt c.timers i.val (fun t => t.fire s.beatc.toNat) }))
    else .next s

end Sys2Proof.Machine
end

