-- ==== Sys2Proof/Machine/Pool.lean ====
section
/-! DEFINITION. The messages of the Pool and Millrace, drains, the window and range operations (10 R245-R268). -/

namespace Sys2Proof.Machine

/-- The source of a master for an access to a hole (R273, R401): a CP's hole access, a port, an engine or the continuity unit; the station does not say which of its units it was. -/
def State.masterSource (s : State) (st : Nat) : Nat × State :=
  let (v, s) := s.takeFree
  (if st < 52 then coreSrc st 13
   else if 68 ≤ st ∧ st < 72 then 0x340 + 8 * (9 * (st - 68) + v.toNat % 9) + 4
   else if 76 ≤ st ∧ st < 80 then 0x900 + 4 * (st - 76) + v.toNat % 4
   else if st = 80 then 0x980 + v.toNat % 4
   else if st = 81 then 0x990 + v.toNat % 8
   else 0xA00, s)

/-- An access of a source to a hole is recorded against it (R273); the spec states no class for a master that is no core. -/
def State.holeAccess (s : State) (src a : Nat) : State :=
  let (cls, s) := if src < 0x340 then (FaultClass.recoverable, s) else s.freeClass
  s.report src cls none (BitVec.ofNat 64 a)

/-- The bytes of a masked write as addresses (R251). -/
def maskedCells (line : Nat) (bs : List (Nat × Byte)) : List (Nat × Byte) := bs.map (fun p => (line * 256 + p.1 % 256, p.2))

/-- Whether a masked write covers its line. -/
def wholeMask (bs : List (Nat × Byte)) : Bool := (List.range 256).all (fun i => bs.any (fun p => p.1 == i))

/-- A WrNA's bytes put into a line that is valid and that no agent holds any more (R257, R264). -/
def State.putWrNa (s : State) (line : Nat) (bs : List (Nat × Byte)) : State :=
  let s := (maskedCells line bs).foldl (fun s c => s.putByte c.1 c.2 false) s
  let s := s.modDir line fun e => { e with pv := [], x := false, d := true, p := e.p && !wholeMask bs }
  (s.dropRead line (wholeMask bs)).loseResvs line (fun _ => true)

/-- A WrNA is performed at its home slice (R257, R264): one to a guarded region is gathered, or on a standby discarded and recorded (R435, R436). -/
def State.performWrNa (s : State) (line : Nat) (bs : List (Nat × Byte)) : State :=
  if !s.guarded (line * 256) then s.putWrNa line bs
  else if s.ct.role == .standby then s.report 0xA00 .recoverable none (BitVec.ofNat 64 (line * 256))
  else (maskedCells line bs).foldl (fun s c => s.gatherBytes c.1 1) (s.putWrNa line bs)

/-- The station that sent a request. -/
def PoolReq.station (r : PoolReq) : Nat :=
  match r.kind with
  | .rds => agentStation r.agent
  | .rdx => agentStation r.agent
  | .upg => agentStation r.agent
  | .rdna => r.agent
  | .wrna _ => r.agent

/-- The Pool copy read for a request: an uncorrectable error in the only good copy poisons it (R264); a clean copy is read from DRAM again. -/
def State.readCopy (s : State) (r : PoolReq) : State :=
  match s.dirEntry r.line with
  | some e => if r.bad && !e.p && (e.d || !s.isDram (r.line * 256)) then s.poisonCopy r.line else s
  | none => s

/-- The grant of a copy (R251): the way of the agent's cache is found, PV and Hedgerow are written, and the data go out; a request whose set has no copy that can go waits. -/
def State.grantCopy (s : State) (r : PoolReq) (excl : Bool) : State :=
  match s.placeCopy r.agent r.line with
  | none => s.modPool fun p => { p with noVictim := p.noVictim ++ [r] }
  | some (w, s) =>
    let s := if excl then s.ownLine r.agent r.line w
      else s.modDir r.line fun e => (e.setPv (r.agent :: e.pv.filter (· != r.agent)) false).tag r.agent w .s
    s.send (homeStation r.line) (agentStation r.agent) (.data r.agent r.line excl w)

/-- Write permission for an agent that still holds the line in S (R251). -/
def State.grantUpg (s : State) (r : PoolReq) : State :=
  match s.placeCopy r.agent r.line with
  | none => s.modPool fun p => { p with noVictim := p.noVictim ++ [r] }
  | some (w, s) => (s.ownLine r.agent r.line w).send (homeStation r.line) (agentStation r.agent) (.ackUpg r.agent r.line)

/-- The answer to a request all of whose snoops are answered (R250, R251, R257); a line of a guarded region is granted in S alone (R435). -/
def State.grant (s : State) (r : PoolReq) : State :=
  let home := homeStation r.line
  let pv := ((s.dirEntry r.line).map DirEntry.pv).getD []
  match r.kind with
  | .rds => (s.readCopy r).grantCopy r ((pv.filter (· != r.agent)).isEmpty && !s.guarded (r.line * 256))
  | .rdx => (s.readCopy r).grantCopy r true
  | .upg => if pv.contains r.agent then s.grantUpg r else (s.readCopy r).grantCopy r true
  | .rdna =>
    let s := s.readCopy r
    let s := if (s.dirEntry r.line).isNone && s.isDram (r.line * 256) then { s with mc := { s.mc with reads := s.mc.reads ++ [r.line] } } else s
    s.send home r.agent (.dataNa r.agent r.line (s.poisoned r.line))
  | .wrna bs => (s.performWrNa r.line bs).send home r.agent (.ack r.agent r.line)

/-- A transaction opened with its snoop: in normal service a broadcast, which the agents awaited answer (R254); in filtered mode a message to each of them that Hedgerow or PV names (R255). -/
def State.openTxn (s : State) (line : Nat) (req : Option PoolReq) (k : SnoopKind) (await : List Nat) : State :=
  let s := s.modPool fun p => { p with txns := { line := line, req := req, snoop := k, await := await, filtered := p.filt } :: p.txns }
  let home := homeStation line
  if s.pool.filt then await.foldl (fun s a => s.send home (agentStation a) (.snoop k line)) s
  else s.broadcast home (await.map agentStation) (.snoop k line)

/-- A request for a line that is valid in the Pool, or that needs no way: snooped for, or answered at once. Where the holder may have it in M, the data do not come from the Pool copy. -/
def State.serveValid (s : State) (r : PoolReq) : State :=
  match s.dirEntry r.line with
  | none => s.grant r
  | some e =>
    let others := e.pv.filter (fun a => match r.kind with
      | .rds => a != r.agent
      | .rdx => a != r.agent
      | .upg => a != r.agent
      | .rdna => true
      | .wrna _ => true)
    let q := { r with bad := r.bad && !e.x }
    if others.isEmpty then s.grant r
    else match r.kind with
      | .rds => if e.x then s.openTxn r.line (some q) .snps others else s.grant r
      | .rdna => if e.x then s.openTxn r.line (some q) .snpr others else s.grant r
      | .rdx => s.openTxn r.line (some q) .snpi others
      | .upg => s.openTxn r.line (some q) .snpi others
      | .wrna _ => s.openTxn r.line (some q) .snpi others

/-- A request at a hole (R273): ones, or nothing, and the record against the requester. -/
def State.serveHole (s : State) (r : PoolReq) : State :=
  let home := homeStation r.line
  let st := r.station
  let (src, s) := s.masterSource st
  let s := s.holeAccess src (r.line * 256)
  match r.kind with
  | .wrna _ => s.send home st (.ack r.agent r.line)
  | .rdna => s.send home st (.dataNa r.agent r.line true)
  | .rds => s.send home st (.dataNa r.agent r.line false)
  | .rdx => s.send home st (.dataNa r.agent r.line false)
  | .upg => s.send home st (.dataNa r.agent r.line false)

/-- A request as the home slice treats it: RdX and Upg for a line of a guarded region are answered as RdS (R435). -/
def State.asGuarded (s : State) (r : PoolReq) : PoolReq :=
  if s.guarded (r.line * 256) && (r.kind == .rdx || r.kind == .upg) then { r with kind := .rds } else r

/-- A request that is due at its slice: a miss finds a way first, back-invalidating the victim when agents hold it (R248, R259). -/
def State.serve (s : State) (r : PoolReq) : State :=
  let r := s.asGuarded r
  if s.paKind (r.line * 256) = .hole then s.serveHole r
  else if (s.dirEntry r.line).isSome || r.kind == .rdna then s.serveValid r
  else
    let (v, s) := s.drawWay r.line
    match s.chooseWay r.line v with
    | none => s.modPool fun p => { p with noVictim := p.noVictim ++ [r] }
    | some w =>
      match s.wayLine (sliceOf r.line) (setOf r.line) w with
      | none => (s.install r.line w).serveValid r
      | some e =>
        if e.pv.isEmpty then ((s.evictLine e.line).install r.line w).serveValid r
        else s.openTxn e.line (some r) .binv e.pv

/-- Whether a request has to wait in its slice's queue (R250, R274, R440): its line has an open transaction, the window is being formed, the quota of the beat is full, or 512 transactions are open. -/
def State.mustQueue (s : State) (r : PoolReq) : Bool :=
  s.txnOpen r.line || s.windowForming (r.line * 256) ||
  decide (512 ≤ (s.pool.txns.filter (fun t => sliceOf t.line == sliceOf r.line)).length) ||
  (match r.kind with
   | .wrna bs => s.guarded (r.line * 256) && s.ct.role == .active && s.quotaFull bs.length
   | _ => false)

/-- A request arrives at its home slice (R250): served, queued, or answered with Retry. -/
def State.arrive (s : State) (r : PoolReq) : State :=
  if s.mustQueue r || s.pool.queue.any (fun q => q.line == r.line) then
    if (s.pool.queue.filter (fun q => sliceOf q.line == sliceOf r.line)).length < 1024 then
      s.modPool fun p => { p with queue := p.queue ++ [r] }
    else s.send (homeStation r.line) r.station (.retry r)
  else s.serve r

/-- A request comes over its ring to the home slice (R18, R250). -/
def State.request (s : State) (r : PoolReq) : State := (s.carry r.station (homeStation r.line) (.req r)).arrive r

/-- The queues are gone through in order of arrival after a line became free (R250). -/
def State.serveQueue (s : State) : State :=
  s.pool.queue.foldl State.arrive (s.modPool fun p => { p with queue := [] })

/-- The hold mark that stands longest for an agent. -/
def Pool.oldestHold (p : Pool) (agent : Nat) : Option SliceHold := (p.holds.filter (fun h => h.agent == agent)).getLast?

/-- A hold mark of a slice goes, and with it the core's hold of that line where it still lasts; what waited at the slice is served (R202, R261). -/
def State.endMark (s : State) (h : SliceHold) : State :=
  let s := s.modPool fun p => { p with holds := p.holds.erase h }
  State.serveQueue { s with cores := s.cores.map (fun c => if c.pcn == h.agent && (c.hold.map HoldMark.line) == some h.line then { c with hold := none } else c) }

/-- HOLD_END (R202, R261): 1,024 core cycles have passed since the line of an LDR arrived: its hold ends where it still lasts, and its mark at the slice. -/
def execHoldEnd (lcn : Nat) (s : State) : Out :=
  match s.pool.oldestHold (s.core lcn).pcn with
  | some h => .next (s.endMark h)
  | none => .next (s.endHold lcn)

/-- The hold marks that have lasted over a whole beat are gone (R261): 512 Pool-clock cycles are less than a beat. -/
def State.expireHolds (s : State) : State :=
  (s.pool.holds.filter (fun h => decide (2 ≤ s.since h.beat))).foldl State.endMark s

/-- Whether the slices accept requests: not in safe state (R414), nor before main memory is ready (R286). -/
def State.poolOpen (s : State) : Bool := !s.weir.safe && s.mc.ready

/-- Whether a number names an agent of PV and another a line. -/
def agentLineOk (a line : Nat) : Bool := decide (a < 56) && decide (line < 2 ^ 44)

/-- RDS (R251): an agent that does not hold the line asks for it; bad marks an uncorrectable error that the Pool read meets (R264). -/
def execRds (agent line : Nat) (bad : Bool) (s : State) : Out :=
  if !agentLineOk agent line then .refused .illFormed
  else if !s.poolOpen || (s.agentState agent line).isSome then .next s
  else .next (s.request { agent := agent, line := line, kind := .rds, bad := bad })

/-- RDX (R251): an agent without write permission asks for it with the data. -/
def execRdx (agent line : Nat) (bad : Bool) (s : State) : Out :=
  if !agentLineOk agent line then .refused .illFormed
  else if !s.poolOpen || s.agentState agent line == some .e || s.agentState agent line == some .m then .next s
  else .next (s.request { agent := agent, line := line, kind := .rdx, bad := bad })

/-- UPG (R251, R262): an agent in S, or one that lost its copy while the request was on its way. -/
def execUpg (agent line : Nat) (bad : Bool) (s : State) : Out :=
  if !agentLineOk agent line then .refused .illFormed
  else if !s.poolOpen || s.agentState agent line == some .e || s.agentState agent line == some .m then .next s
  else .next (s.request { agent := agent, line := line, kind := .upg, bad := bad })

/-- HOLD (R261): the hold mark of an LDR that hit its line in E or M. -/
def execHold (agent line : Nat) (s : State) : Out :=
  if !(s.cores.any (fun c => c.run != .absent && c.pcn == agent && (c.hold.map HoldMark.line) == some line)) then .next s
  else if s.pool.holds.any (fun h => h.agent == agent && h.line == line) then .next s
  else .next ((s.carry (agentStation agent) (homeStation line) (.hold agent line)).modPool fun p =>
    { p with holds := { agent := agent, line := line, beat := s.beatc } :: p.holds })

/-- RDNA (R257): agent is the Millrace station of the master. -/
def execRdna (agent line : Nat) (bad : Bool) (s : State) : Out :=
  if 84 ≤ agent ∨ 2 ^ 44 ≤ line then .refused .illFormed
  else if !s.poolOpen then .next s
  else .next (s.request { agent := agent, line := line, kind := .rdna, bad := bad })

/-- WRNA (R257): the bytes under the mask, by offset in the line. -/
def execWrna (agent line : Nat) (bytes : List (Nat × Byte)) (s : State) : Out :=
  if 84 ≤ agent ∨ 2 ^ 44 ≤ line ∨ bytes.any (fun p => decide (256 ≤ p.1)) then .refused .illFormed
  else if !s.poolOpen then .next s
  else .next (s.request { agent := agent, line := line, kind := .wrna bytes, bad := false })

/-- Whether a snoop of the line is on its way to the agent or awaited from it. -/
def State.snooped (s : State) (agent line : Nat) : Bool := s.pool.txns.any (fun t => t.line == line && t.await.contains agent)

/-- An agent's copy moves into its eviction buffer without any other change; a core's reservation on the granule is lost (R201). -/
def State.toBuffer (s : State) (agent line : Nat) (dirty : Bool) : State :=
  let s := s.modPool fun p => { p with
    agents := p.agents.filter (fun x => !(x.agent == agent && x.line == line)),
    evict := { agent := agent, line := line, dirty := dirty } :: p.evict }
  State.loseResvs { s with cores := s.cores.map (fun c => if c.pcn == agent then c.dropL1 line else c) } line (fun c => c.pcn == agent)

/-- A notice at its slice (R262): stale when a snoop of that line to that agent is open, otherwise the Pool copy and PV follow it; bad marks data that an uncorrectable error destroyed (R264). -/
def State.notice (s : State) (agent line : Nat) (dirty bad : Bool) : State :=
  let home := homeStation line
  let s := s.carry (agentStation agent) home (.notice agent line dirty)
  if s.snooped agent line then (s.toBuffer agent line dirty).send home (agentStation agent) (.ackStale agent line)
  else
    let s := s.evictCopy agent line
    let s := if dirty && bad then s.poisonCopy line else s
    let s := s.modPool fun p => { p with evict := { agent := agent, line := line, dirty := false } :: p.evict }
    s.send home (agentStation agent) (.ack agent line)

/-- The core that an agent number names defers snoops of a line under R202. -/
def State.defers (s : State) (agent line : Nat) : Bool :=
  s.cores.any (fun c => c.pcn == agent && c.run != .absent && (c.hold.map HoldMark.line) == some line)

/-- WB (R262): a line in M is evicted by its agent, with data; a core keeps a line that it holds (R201, R202). -/
def execWb (agent line : Nat) (bad : Bool) (s : State) : Out :=
  if s.agentState agent line == some .m && !s.defers agent line then .next ((s.notice agent line true bad).serveQueue)
  else .next s

/-- EVN (R262): a line in S or E is evicted by its agent, without data; a core keeps a line that it holds (R201, R202). -/
def execEvn (agent line : Nat) (s : State) : Out :=
  if (s.agentState agent line == some .s || s.agentState agent line == some .e) && !s.defers agent line then
    .next ((s.notice agent line false false).serveQueue)
  else .next s

/-- Whether a grant to the agent is still on its way: the snoop that the slice sent after it arrives after it (R252). -/
def State.grantFlying (s : State) (agent line : Nat) : Bool := s.flying (fun m => m.grants agent line)

/-- Whether the open transaction of a line writes the whole of it, so that its snoops want no data (R257). -/
def State.wantsNoData (s : State) (line : Nat) : Bool :=
  s.pool.txns.any (fun t => t.line == line && (match t.req with
    | some r => (match r.kind with
      | .wrna bs => wholeMask bs && r.line == line
      | _ => false)
    | none => false))

/-- Whether the eviction buffer of an agent holds the line dirty. -/
def State.bufferDirty (s : State) (agent line : Nat) : Bool :=
  s.pool.evict.any (fun x => x.agent == agent && x.line == line && x.dirty)

/-- The buffered data of an agent are given to the slice, or are no longer needed (R262, log 24). -/
def State.emptyBuffer (s : State) (agent line : Nat) : State :=
  if s.bufferDirty agent line then
    (s.modPool fun p => { p with
      evict := p.evict.map (fun x => if x.agent == agent && x.line == line then { x with dirty := false } else x),
      poolOld := dropLine p.poolOld line }).modDir line (fun e => { e with d := true })
  else s

/-- What a snoop does to the agent's copy (R249, R251). -/
def State.snoopEffect (s : State) (k : SnoopKind) (agent line : Nat) : State :=
  let s := s.emptyBuffer agent line
  match k with
  | .snpr => s
  | .snpi => s.dropCopy agent line true
  | .binv => s.dropCopy agent line true
  | .snps =>
    if s.agentState agent line == some .m || s.agentState agent line == some .e then
      let dirty := s.agentState agent line == some .m
      let s := s.modPool fun p => { p with
        agents := p.agents.map (fun x => if x.agent == agent && x.line == line then { x with st := .s } else x),
        poolOld := dropLine p.poolOld line }
      s.modDir line fun e => { (e.setPv e.pv false) with d := e.d || dirty, hedge := e.hedge.map (fun h => if h.core == agent then { h with st := .s } else h) }
    else s

/-- A snoop reaches its agent, which answers it from its copy or its eviction buffer (R254, R262); under a hold it waits (R202). -/
def snoopArrives (k : SnoopKind) (agent line : Nat) (s : State) : Out :=
  match s.takeMsg (agentStation agent) (· == .snoop k line) with
  | none => .next s
  | some (_, t) =>
    if s.grantFlying agent line || s.defers agent line then .next s
    else
      let data := (s.agentState agent line == some .m || s.bufferDirty agent line) && !s.wantsNoData line
      .next ((t.snoopEffect k agent line).send (agentStation agent) (homeStation line) (.answer agent line data))

/-- SNPS (R251). -/
def execSnps (agent line : Nat) (s : State) : Out := snoopArrives .snps agent line s

/-- SNPI (R251). -/
def execSnpi (agent line : Nat) (s : State) : Out := snoopArrives .snpi agent line s

/-- SNPR (R251). -/
def execSnpr (agent line : Nat) (s : State) : Out := snoopArrives .snpr agent line s

/-- BINV (R248). -/
def execBinv (agent line : Nat) (s : State) : Out := snoopArrives .binv agent line s

/-- Whether an agent is the cache of a CP group that is out of use, which keeps no line (R410, log 170). -/
def State.agentOut (s : State) (agent : Nat) : Bool := decide (52 ≤ agent) && s.weir.outOfUse.contains (0x460 + 4 * (agent - 52))

/-- The agent installs what the slice granted (R249), as far as the directory still names it: a copy that the slice has called back since is gone at once, or is S (R247). -/
def State.fill (s : State) (agent line way : Nat) (excl : Bool) : State :=
  match s.dirEntry line with
  | none => s
  | some e =>
    if s.agentOut agent then s.dropCopy agent line true
    else if e.pv.contains agent then s.putCopy agent line way (if excl && e.x then .e else .s) else s

/-- LINE_DATA (R251): the S grant, or the data of an RdNA, reaches the requester. -/
def execLineData (agent line : Nat) (s : State) : Out :=
  match s.takeMsg agent (fun m => match m with
    | .dataNa a l _ => a == agent && l == line
    | _ => false) with
  | some (_, s) => .next s
  | none =>
    match s.takeMsg (agentStation agent) (fun m => match m with
      | .data a l x _ => a == agent && l == line && !x
      | .dataNa _ l _ => l == line
      | _ => false) with
    | some (.data _ _ _ w, s) => .next (s.fill agent line w false)
    | some (_, s) => .next s
    | none => .next s

/-- LINE_DATAE (R251): the E grant reaches the requester. -/
def execLineDataE (agent line : Nat) (s : State) : Out :=
  match s.takeMsg (agentStation agent) (fun m => match m with
    | .data a l x _ => a == agent && l == line && x
    | _ => false) with
  | some (.data _ _ _ w, s) => .next (s.fill agent line w true)
  | some (_, s) => .next s
  | none => .next s

/-- The Hedgerow entries of a line as the cores that PV names hold it (R256). -/
def State.rebuildHedge (s : State) (line : Nat) : State :=
  (s.pool.agents.filter (fun x => x.line == line)).foldl
    (fun s x => s.modDir line fun e => if e.pv.contains x.agent then e.tag x.agent x.way x.st else e) s

/-- What a transaction does when its last answer is in (R248, R250, R256): its request is served before any that came later. -/
def State.completeTxn (s : State) (t : PoolTxn) : State :=
  let s := s.modPool fun p => { p with txns := p.txns.filter (fun x => x.line != t.line) }
  let s := match t.snoop, t.req with
    | .binv, some r => (s.evictLine t.line).serve r
    | .binv, none => s.evictLine t.line
    | _, some r => s.grant r
    | _, none => s.rebuildHedge t.line
  s.serveQueue

/-- A snoop answer reaches the slice (R254). -/
def answerArrives (agent line : Nat) (data : Bool) (s : State) : Out :=
  match s.takeMsg (homeStation line) (· == .answer agent line data) with
  | none => .next s
  | some (_, s) =>
    match s.pool.txns.find? (fun t => t.line == line) with
    | none => .next s
    | some t =>
      let t := { t with await := t.await.filter (· != agent) }
      if t.await.isEmpty then .next (s.completeTxn t)
      else .next (s.modPool fun p => { p with txns := p.txns.map (fun x => if x.line == line then t else x) })

/-- SNPACK (R254). -/
def execSnpAck (agent line : Nat) (s : State) : Out := answerArrives agent line false s

/-- SNPDATA (R254). -/
def execSnpData (agent line : Nat) (s : State) : Out := answerArrives agent line true s

/-- An entry of an eviction buffer is released (R262). -/
def State.releaseBuffer (s : State) (agent line : Nat) : State :=
  s.modPool fun p => { p with evict := p.evict.filter (fun x => !(x.agent == agent && x.line == line)) }

/-- Write permission reaches an agent that asked for it with Upg (R249, R251). -/
def State.upgrade (s : State) (agent line : Nat) : State :=
  match s.pool.agents.find? (fun x => x.agent == agent && x.line == line) with
  | some x => s.fill agent line x.way true
  | none => s

/-- The stations at which messages for a requester arrive: an agent's, or that of a master. -/
def State.takeFor (s : State) (agent : Nat) (f : PoolMsg → Bool) : Option (PoolMsg × State) :=
  match s.takeMsg (agentStation agent) f with
  | some r => some r
  | none => s.takeMsg agent f

/-- SLICE_ACK (R251, R262): write permission for an Upg, the end of a WrNA, or the release of an eviction-buffer entry. -/
def execSliceAck (agent line : Nat) (s : State) : Out :=
  match s.takeFor agent (fun m => m == .ack agent line || m == .ackUpg agent line) with
  | none => .next s
  | some (.ackUpg _ _, s) => .next (s.upgrade agent line)
  | some (_, s) => .next (s.releaseBuffer agent line)

/-- ACK_STALE (R262): it arrives after the snoop that made the notice stale (R252). -/
def execAckStale (agent line : Nat) (s : State) : Out :=
  match s.takeMsg (agentStation agent) (· == .ackStale agent line) with
  | none => .next s
  | some (_, s) => .next (s.releaseBuffer agent line)

/-- SLICE_RETRY (R250): the requester keeps its request for the resend. -/
def execSliceRetry (agent line : Nat) (s : State) : Out :=
  match s.takeFor agent (fun m => match m with
    | .retry r => r.agent == agent && r.line == line
    | _ => false) with
  | some (.retry r, s) => .next (s.modPool fun p => { p with resend := p.resend ++ [r] })
  | _ => .next s

/-- RETRY_RESEND (R250): the request arrives again. -/
def execRetryResend (agent line : Nat) (s : State) : Out :=
  match takeFirst (fun (r : PoolReq) => r.agent == agent && r.line == line) s.pool.resend with
  | none => .next s
  | some (r, rest) => if s.poolOpen then .next ((s.modPool fun p => { p with resend := rest }).request r) else .next s

/-- VICTIM_RETRY (R259): the request looks for a victim again, before any later one of its line (R250). -/
def execVictimRetry (agent line : Nat) (s : State) : Out :=
  match takeFirst (fun (r : PoolReq) => r.agent == agent && r.line == line) s.pool.noVictim with
  | none => .next s
  | some (r, rest) => if s.poolOpen then .next (((s.modPool fun p => { p with noVictim := rest }).serve r).serveQueue) else .next s

/-- LINKACK (R253): the neighbour acknowledges, and the station releases, the oldest message that it keeps on a ring. -/
def execLinkAck (station : Nat) (ring : Ring) (s : State) : Out :=
  if 84 ≤ station then .refused .illFormed
  else if s.pool.ringUp ring then .next (s.modPool fun p => { p with flights := releaseCopy station ring p.flights })
  else .next s

/-- LINK_CRC_ERROR (R253): the station sends a message that it keeps again, which is a CORRECTED event of the hop's source; the receiver tells a duplicate by its sequence number. -/
def execLinkCrcError (station : Nat) (ring : Ring) (s : State) : Out :=
  if 84 ≤ station then .refused .illFormed
  else if s.pool.ringUp ring && !(s.pool.retryBuffer station ring).isEmpty then .next (s.report (hopSource station ring) .corrected none 0)
  else .next s

/-- The reasons for filtered mode (R255). -/
def Pool.filterReason (p : Pool) : Bool := p.start || p.atest.isSome || p.spare || p.deg || p.force

/-- A line drained from a core's L2 through Hedgerow (R256): M data return into the Pool copy, which is poisoned where they could not be read (R264). -/
def State.drainCopy (s : State) (core : Nat) (bad : List Nat) (line : Nat) : State :=
  let dirty := s.agentState core line == some .m
  let s := s.evictCopy core line
  if dirty && bad.contains line then s.poisonCopy line else s

/-- The lines that one way of a core's L2 holds. -/
def State.linesOfL2Way (s : State) (core way : Nat) : List Nat :=
  (s.pool.agents.filter (fun x => x.agent == core && x.way == way)).map AgentLine.line

/-- The drain of the way under test (R256): the lines whose transactions are open follow when they close. -/
def State.drainTested (s : State) (bad : List Nat) : State :=
  match s.pool.atest with
  | none => s
  | some t => ((s.linesOfL2Way t.core t.way).filter (fun l => !s.lineBusy l)).foldl (fun s l => s.drainCopy t.core bad l) s

/-- An array test of a way of the L2 of a core in service begins (R255, R256). -/
def State.beginTest (s : State) (core way : Nat) (bad : List Nat) : State :=
  if s.pool.atest.isSome || (s.lcnOfPcn core).isNone || 16 ≤ way then s
  else (s.modPool fun p => { p with atest := some { core := core, way := way } }).drainTested bad

/-- The array test ends once its way has been drained (R256). -/
def State.endTest (s : State) (bad : List Nat) : State :=
  let s := s.drainTested bad
  match s.pool.atest with
  | none => s
  | some t => if (s.linesOfL2Way t.core t.way).isEmpty then s.modPool fun p => { p with atest := none } else s

/-- FILTERED_MODE_CHANGE (R255): an array test begins or ends; or, at the boundary, the mode follows the reasons that hold there. -/
def execFilteredModeChange (e : Sys2Proof.FilterEvent) (s : State) : Out :=
  match e with
  | .atBoundary => .next (s.modPool fun p => { p with filt := p.filtDue })
  | .testBegins core way bad => .next (s.beginTest core way bad)
  | .testEnds bad => .next (s.endTest bad)

/-- HEDGEROW_ERROR (R256): the entry of a core is lost with a SEVERE event, and SnpR to that core, which PV names, rebuilds it. -/
def execHedgerowError (core line : Nat) (s : State) : Out :=
  match s.dirEntry line with
  | none => .next s
  | some e =>
    if core < 52 ∧ e.pv.contains core ∧ s.txnOpen line = false then
      let s := s.modDir line fun e => { e with hedge := e.hedge.filter (fun h => h.core != core) }
      .next ((s.report (0x500 + 32 * sliceOf line + 18) .severe none (BitVec.ofNat 64 (line * 256))).openTxn line none .snpr [core])
    else .next s

/-- The lines of one way of a slice. -/
def State.linesOfWay (s : State) (slice way : Nat) : List Nat :=
  (s.pool.dir.filter (fun e => e.way == way && sliceOf e.line == slice)).map DirEntry.line

/-- The disabled ways of a slice changed. -/
def State.modWays (s : State) (slice : Nat) (f : WayState → WayState) : State :=
  s.modPool fun p => { p with ways := modAt p.ways slice f }

/-- WAY_DRAIN_COMPLETE (R263): the lines of the way are evicted and the way is marked disabled, which completes SPARE of its source (R407). -/
def execWayDrainComplete (slice way : Nat) (s : State) : Out :=
  match s.pool.ways[slice]? with
  | none => .refused .illFormed
  | some v =>
    if !v.drain.contains way then .next s
    else if (s.linesOfWay slice way).any s.lineBusy then .next s
    else
      let s := (s.linesOfWay slice way).foldl State.evictLine s
      let s := s.modWays slice fun v => { dis := v.dis ||| (1 <<< way), drain := v.drain.filter (· != way) }
      .next { s with weir := s.weir.modSource (0x500 + 32 * slice + way) fun x => { x with wcnt := 0, prm := false } }

/-- The disabled ways of a slice (POOLWAY.NDIS), those that still drain counted with them. -/
def WayState.count (v : WayState) : Nat := popLow v.dis.toNat 16 + v.drain.length

/-- A way becomes SEVERE (R263): it is drained, unless four ways are gone already or it is way 15 of the window. -/
def State.disableWay (s : State) (slice way : Nat) : State :=
  match s.pool.ways[slice]? with
  | none => s
  | some v =>
    if way = 15 ∧ (s.pool.lock = true ∧ s.pool.lockFail = false) then s.report (0x500 + 32 * slice + 17) .severe none 0
    else if bitAt v.dis way || v.drain.contains way then s
    else if 4 ≤ v.count then s.report (0x500 + 32 * slice + 16) .severe none 0
    else s.modWays slice fun v => { v with drain := way :: v.drain }

/-- LOCK = 1 written into POOLWIN (R265). -/
def State.lockWindow (s : State) : State := s.modPool fun p => { p with lock := true }

/-- POOLWIN_LOCK (R265): a further write of 1 has no effect. -/
def execPoolwinLock (s : State) : Out := .next s.lockWindow

/-- The slices whose way 15 is disabled. -/
def State.noWindow (s : State) : List Nat :=
  (List.range 16).filter (fun k => match s.pool.ways[k]? with
    | some v => bitAt v.dis 15
    | none => false)

/-- WINDOW_LOCK_COMPLETE (R265): way 15 is emptied and holds zeros, or no slice locks and FAIL is set. -/
def execWindowLockComplete (s : State) : Out :=
  if !s.pool.lock || s.pool.locked || s.pool.lockFail then .next s
  else match s.noWindow with
    | k :: ks =>
      let s := s.modPool fun p => { p with lockFail := true }
      .next (((k :: ks).foldl (fun s k => s.report (0x500 + 32 * k + 17) .fatal none 0) s).serveQueue)
    | [] =>
      let lines := (s.pool.dir.filter (fun e => e.way == 15)).map DirEntry.line
      if lines.any s.lineBusy then .next s
      else
        let s := lines.foldl State.evictLine s
        .next (({ s with mem := s.mem.filter (fun c => decide (c.1 < windowBase)), pool := { s.pool with locked := true } } : State).serveQueue)

/-- A write of GO with OP (R268, R529): OP is stored, GO is ignored while BUSY, and an empty range is done at once. -/
def State.startRange (s : State) (purge : Bool) : State :=
  s.modPool fun p =>
    if p.ricBusy then { p with ricOp := purge }
    else if p.ribLines = 0 then { p with ricOp := purge, ricDone := true }
    else { p with ricOp := purge, ricNow := purge, ricBusy := true }

/-- RANGE_FLUSH (R268). -/
def execRangeFlush (s : State) : Out := portRow .poolric (fun s => .next (s.startRange false)) s

/-- RANGE_PURGE (R268). -/
def execRangePurge (s : State) : Out := portRow .poolric (fun s => .next (s.startRange true)) s

/-- A line of a range flushed (R262, R268). -/
def State.flushLine (s : State) (line : Nat) : State :=
  let s := s.dropOthers line none
  if s.paKind (line * 256) = .window then s else (s.writeBack line).forgetLine line

/-- A line of a range purged (R262, R268): data of agents and of the Pool that nothing else holds are lost. -/
def State.purgeLine (s : State) (line : Nat) : State :=
  let pv := ((s.dirEntry line).map DirEntry.pv).getD []
  let s := pv.foldl (fun s a => s.dropCopy a line false) s
  if s.paKind (line * 256) = .window then s
  else
    let s := { s with mem := restoreLine s.mem s.pool.dramOld line, pool := { s.pool with dramOld := dropLine s.pool.dramOld line } }
    s.forgetLine line

/-- The valid lines of the range in ascending order (R268). -/
def State.rangeLines (s : State) : List Nat :=
  let b := s.pool.ribBase.toNat
  ((s.pool.dir.map DirEntry.line).filter (fun l => decide (b ≤ l) && decide (l < b + s.pool.ribLines.toNat))).mergeSort

/-- RANGE_DONE (R268): every line without an open transaction has been processed and DONE rises. -/
def execRangeDone (s : State) : Out :=
  if !s.pool.ricBusy then .next s
  else if s.rangeLines.any s.lineBusy then .next s
  else
    let s := s.rangeLines.foldl (fun s l => if s.pool.ricNow then s.purgeLine l else s.flushLine l) s
    .next (s.modPool fun p => { p with ricBusy := false, ricDone := true })

end Sys2Proof.Machine
end

