-- ==== Sys2Proof/Machine/MemoryControl.lean ====
section
/-! DEFINITION. The memory controllers: reads, writes, scrubbing and channel failure (11 R275-R286). -/

namespace Sys2Proof.Machine

/-- Parity group g of the controllers (R283). -/
def State.group (s : State) (g : Nat) : MemGroup :=
  s.mc.groups.getD g { deg := false, fch := 0, lost := false, scrubAt := 0, passes := 0 }

/-- A group changed. -/
def State.modGroup (s : State) (g : Nat) (f : MemGroup → MemGroup) : State :=
  { s with mc := { s.mc with groups := modAt s.mc.groups g f } }

/-- The channel that stores burst b of a group's lines (R269, R275). -/
def channelOf (g b : Nat) : Nat := 5 * g + b

/-- The source of a channel (R401). -/
def channelSource (n : Nat) : Nat := 0x800 + n

/-- MEMCH.CAUSE (R281). -/
def causeCode : ChannelCause → Byte
  | .training => 1
  | .mismatch => 2
  | .link => 3
  | .promotion => 4

/-- Whether a channel has failed. -/
def State.channelFailed (s : State) (n : Nat) : Bool := ((s.mc.channels[n]?).map MemChannel.failed).getD true

/-- A channel fails (R281, R283): out of use, its group degraded, or lost when it was degraded; promotion is itself the SEVERE event (log 22). -/
def State.failChannel (s : State) (n : Nat) (cause : ChannelCause) : State :=
  if s.channelFailed n then s
  else
    let g := n / 5
    let s := { s with mc := { s.mc with channels := modAt s.mc.channels n (fun c => { c with failed := true, cause := causeCode cause }) } }
    let s := if cause = .promotion then s else s.report (channelSource n) .severe none 0
    if (s.group g).deg then
      (s.modGroup g fun x => { x with lost := true }).report (0x818 + g) .fatal none 0
    else s.modGroup g fun x => { x with deg := true, fch := BitVec.ofNat 3 (n % 5) }

/-- The link retries of one access (R277): each of the first eight is a CORRECTED event, the ninth failure fails the channel. -/
def State.linkRetries (s : State) (g : Nat) (rs : List (Fin 5 × Nat)) : State :=
  rs.foldl (fun s r =>
    let n := channelOf g r.1.val
    if s.channelFailed n then s
    else
      let s := (List.range (min r.2 8)).foldl (fun s _ => s.report (channelSource n) .corrected none 0) s
      if 8 < r.2 then s.failChannel n .link else s) s

/-- The bursts of a group that stand on channels in use, out of some. -/
def State.inUse (s : State) (g : Nat) (bs : List (Fin 5)) : List (Fin 5) := bs.filter (fun b => !s.channelFailed (channelOf g b.val))

/-- Corrections reported, one CORRECTED event each (R277). -/
def State.reportCorrected (s : State) (g : Nat) (bs : List (Fin 5)) (a : Nat) : State :=
  bs.foldl (fun s b => s.report (channelSource (channelOf g b.val)) .corrected none (BitVec.ofNat 64 a)) s

/-- What reading a line finds (R278, R282): nothing wrong, one burst to rebuild, or a lost line. -/
inductive Verdict where
  | good
  | rebuild (b : Fin 5)
  | lost
  deriving DecidableEq, Repr

/-- The verdict for a line of group g whose uncorrectable bursts among those read are bad. -/
def State.verdict (s : State) (g line : Nat) (bad : List (Fin 5)) : Verdict :=
  if (s.group g).lost || s.mc.poisonCode.contains line then .lost
  else if (s.group g).deg then (if bad.isEmpty then .good else .lost)
  else match bad with
    | [] => .good
    | [b] => .rebuild b
    | _ => .lost

/-- The line carries the poison code in DRAM (R278). -/
def State.markPoison (s : State) (line : Nat) : State :=
  { s with mc := { s.mc with poisonCode := line :: s.mc.poisonCode.filter (· != line) } }

/-- The poison code of a line is replaced by good data. -/
def State.clearPoison (s : State) (line : Nat) : State :=
  { s with mc := { s.mc with poisonCode := s.mc.poisonCode.filter (· != line) } }

/-- A line is lost (R278): poison code, and a SEVERE event of the group source with the address. -/
def State.loseLine (s : State) (g line : Nat) : State :=
  (s.markPoison line).report (0x818 + g) .severe none (BitVec.ofNat 64 (line * 256))

/-- The poison indication of a read reaches the home slice (R278): the Pool copy that the read fills is marked, and so are the data on their way to a master (R257, R264). -/
def State.returnPoison (s : State) (line : Nat) : State :=
  (s.modDir line fun e => { e with p := true }).modPool fun p => { p with
    flights := p.flights.map fun f => match f.body with
      | .dataNa a l _ => if l == line then { f with body := .dataNa a l true } else f
      | _ => f }

/-- Whether a controller reads a line for its home slice: a miss waits for it (R276), or the line is not in the Pool and a master reads it. -/
def State.readsLine (s : State) (line : Nat) : Bool := s.mc.reads.contains line || (s.dirEntry line).isNone

/-- DRAM_LINE_READ (R276-R278, R282): the four data bursts, the parity burst only to rebuild a quarter. Parity is not compared by a read. -/
def execDramLineRead (line : Nat) (e : BurstErrors) (s : State) : Out :=
  if !s.isDram (line * 256) || e.parityOff then .refused .illFormed
  else if !s.poolOpen || !s.readsLine line then .next s
  else
    let g := groupOf line
    let a := line * 256
    let s := { s with mc := { s.mc with reads := s.mc.reads.erase line } }.linkRetries g e.retries
    let dataBad := (s.inUse g e.bad.eraseDups).filter (fun b => b.val != 4)
    let parityRead := (s.group g).deg || !dataBad.isEmpty
    let read := fun (b : Fin 5) => b.val != 4 || parityRead
    let s := s.reportCorrected g ((s.inUse g e.corrected.eraseDups).filter read) a
    match s.verdict g line ((s.inUse g e.bad.eraseDups).filter read) with
    | .good => .next s
    | .rebuild b => .next (s.report (channelSource (channelOf g b.val)) .recoverable none (BitVec.ofNat 64 a))
    | .lost => .next ((s.loseLine g line).returnPoison line)

/-- DRAM_LINE_WRITE (R258, R264, R276, R282, R283): a line that its home slice evicted or flushed goes to DRAM as four data bursts and one of parity; its controller has then completed the write (R285). A lost group discards it. -/
def execDramLineWrite (line : Nat) (e : BurstErrors) (s : State) : Out :=
  if !s.isDram (line * 256) || e.parityOff || !e.bad.isEmpty || !e.corrected.isEmpty then .refused .illFormed
  else if s.mc.writes.contains line then
    .next ({ s with mc := { s.mc with writes := s.mc.writes.erase line } }.linkRetries (groupOf line) e.retries)
  else .next s

/-- The line that a group's scrubber reads as number i (R275, R279): 16 lines of one 4 KiB block in each 16 KiB, in ascending order. -/
def scrubLineOf (g i : Nat) : Nat :=
  let q := i / 16
  let r := (List.range 4).find? (fun r => groupOf ((4 * q + r) * 16) == g)
  (4 * q + r.getD 0) * 16 + i % 16

/-- The lines of one group. -/
def State.groupLines (s : State) : Nat := s.capacity / 1024

/-- The scrubber goes on to the next line; a completed pass counts (R279). -/
def State.scrubOn (s : State) (g : Nat) : State :=
  s.modGroup g fun x =>
    if x.scrubAt + 1 < s.groupLines then { x with scrubAt := x.scrubAt + 1 } else { x with scrubAt := 0, passes := x.passes + 1 }

/-- What scrubbing does about a lost line (R280): repaired from a good Pool copy, or lost. -/
def State.scrubLost (s : State) (g line : Nat) : State :=
  match s.dirEntry line with
  | some d =>
    if d.p then s.loseLine g line
    else if (s.group g).lost then s
    else (s.clearPoison line).modPool fun p => { p with dramOld := dropLine p.dramOld line }
  | none => s.loseLine g line

/-- SCRUB_LINE (R279, R280): all five bursts, or the four that survive, corrected and compared. -/
def execScrubLine (group : Nat) (e : BurstErrors) (s : State) : Out :=
  if 4 ≤ group then .refused .illFormed
  else if !s.poolOpen then .next s
  else
    let line := scrubLineOf group (s.group group).scrubAt
    let a := line * 256
    let s := s.linkRetries group e.retries
    let bad := s.inUse group e.bad.eraseDups
    let s := s.reportCorrected group (s.inUse group e.corrected.eraseDups) a
    let t := match s.verdict group line bad with
      | .good =>
        if e.parityOff && !(s.group group).deg then s.report (channelSource (channelOf group 4)) .corrected none (BitVec.ofNat 64 a) else s
      | .rebuild b => s.report (channelSource (channelOf group b.val)) .recoverable none (BitVec.ofNat 64 a)
      | .lost => s.scrubLost group line
    .next (t.scrubOn group)

/-- CHANNEL_FAIL (R281, R283). Weir's promotion is a cause only once the counting has made the source SEVERE (R405). -/
def execChannelFail (channel : Nat) (cause : ChannelCause) (s : State) : Out :=
  if 20 ≤ channel then .refused .illFormed
  else if s.channelFailed channel || (cause == .promotion && !(s.weir.source (channelSource channel)).sev) then .next s
  else .next (s.failChannel channel cause)

/-! Start-up (R270, R271, R286). -/

/-- The population that most channels share, the lowest-numbered of such where two do: bit i of the first component tells a DIMM in slot i, the second is the capacity code. -/
def majority (ds : List (BitVec 2 × BitVec 2)) : BitVec 2 × BitVec 2 :=
  ds.foldl (fun m d => if ds.count m < ds.count d then d else m) (ds.headD (1, 0))

/-- The DIMMs of a channel. -/
def dimmCount (pres : BitVec 2) : Nat := if pres = 3 then 2 else 1

/-- Why a channel is failed from the start (R271): a population that differs, or training; a channel without a DIMM cannot be trained. -/
def startCause (r : StartTest) (n : Nat) : Option ChannelCause :=
  let d := r.dimms.getD n (0, 0)
  if d ≠ majority r.dimms then some .mismatch
  else if r.training.contains n || d.1 == 0 then some .training
  else none

/-- The controllers as a cold reset finds them (R270, R271, R284): every channel read and trained again, main memory not yet zeroed. -/
def MemCtl.trained (r : StartTest) : MemCtl :=
  let m := majority r.dimms
  { MemCtl.reset with
    ready := false, zeroing := true, dpc := dimmCount m.1 == 2, size := m.2,
    capG := BitVec.ofNat 16 (16 * dimmCount m.1 * 32 * 2 ^ m.2.toNat),
    channels := (List.range 20).map fun n => { failed := false, cause := 0, pres := (r.dimms.getD n (0, 0)).1 } }

/-- The failed channels of a group. -/
def State.failedIn (s : State) (g : Nat) : Nat := ((List.range 5).filter (fun b => s.channelFailed (channelOf g b))).length

/-- A channel that starts out failed (R271, R281): out of use, with its event; its group is degraded. -/
def State.startFailed (s : State) (n : Nat) (cause : ChannelCause) : State :=
  let s := { s with mc := { s.mc with channels := modAt s.mc.channels n (fun c => { c with failed := true, cause := causeCode cause }) } }
  let s := s.report (channelSource n) .severe none 0
  s.modGroup (n / 5) fun x => if x.deg then x else { x with deg := true, fch := BitVec.ofNat 3 (n % 5) }

/-- Training at a cold reset (R271): the channels that fail; a group with two of them keeps main memory from being brought up, with a FATAL event. -/
def State.train (s : State) (r : StartTest) : State :=
  let s := { s with mc := .trained r }
  let s := (List.range 20).foldl (fun s n => match startCause r n with
    | some c => s.startFailed n c
    | none => s) s
  (List.range 4).foldl (fun s g =>
    if 2 ≤ s.failedIn g then { s with mc := { s.mc with zeroing := false } }.report (0x818 + g) .fatal none 0 else s) s

/-- Every group has finished zeroing (R286). -/
def State.memoryUp (s : State) : State :=
  if s.mc.zeroing then { s with mc := { s.mc with zeroing := false, ready := true } } else s

/-- MEMSCRUB.PASSES (R279): the passes that every group has completed. -/
def MemCtl.passes (m : MemCtl) : Nat := (m.groups.map MemGroup.passes).foldl min (2 ^ 32 - 1)

end Sys2Proof.Machine
end

