-- ==== Sys2Proof/Machine/Device.lean ====
section
/-! DEFINITION. What CPs, ports and engines share: non-allocating memory access (R190, R257), CP stores in the window (R193, R290), and the transmission of frames (14). -/

namespace Sys2Proof.Machine

/-! Memory accesses of masters. -/

/-- n bytes that the spec leaves open (log 8). -/
def State.freeBytes (s : State) (n : Nat) : List Byte × State :=
  ((List.range n).map (fun i => (Config.freeValue (s.free + i)).setWidth 8), { s with free := s.free + n })

/-- Whether a range of addresses meets a poisoned line or a hole, so that an RdNA of it returns the poison indication (R264, R273). -/
def State.readPoison (s : State) (a n : Nat) : Bool :=
  n != 0 && (List.range ((a + n - 1) / 256 - a / 256 + 1)).any (fun i =>
    s.paKind ((a / 256 + i) * 256) == .hole || s.poisoned (a / 256 + i))

/-- The bytes that RdNAs of a range return. -/
def State.devBytes (s : State) (a n : Nat) : List Byte := s.mem.readN a n

/-- RdNAs of a range by a master whose source is src (R257, R264, R273): each line in a hole is recorded against it; none on the poison indication. -/
def State.devRead (s : State) (src a n : Nat) : Option (List Byte) × State :=
  let lines := if n = 0 then [] else (List.range ((a + n - 1) / 256 - a / 256 + 1)).map (fun i => (a / 256 + i) * 256)
  (if s.readPoison a n then none else some (s.devBytes a n),
   lines.foldl (fun t l => if s.paKind l = .hole then t.holeAccess src l else t) s)

/-- One WrNA of bytes of one line by a master whose source is src (R257, R273, R435). None while it has to wait at its slice. -/
def State.devWriteLine (s : State) (src a : Nat) (bs : List Byte) : Option State :=
  if s.windowForming a then none
  else if s.paKind a = .hole then some (s.holeAccess src a)
  else if s.lineBusy (lineOf a) then none
  else if s.isDram a && s.guarded a then s.guardedStore a bs
  else s.wrNa a bs

/-- The WrNAs of a byte string, line by line; fuel counts the lines. -/
def State.devWriteLines (s : State) (src a : Nat) (bs : List Byte) : Nat → Option State
  | 0 => some s
  | fuel + 1 =>
    if bs.isEmpty then some s
    else
      let n := 256 - a % 256
      match s.devWriteLine src a (bs.take n) with
      | none => none
      | some s => State.devWriteLines s src (a + n) (bs.drop n) fuel

/-- A master's store of bytes (R190). None while a line of it has to wait. -/
def State.devWrite (s : State) (src a : Nat) (bs : List Byte) : Option State := s.devWriteLines src a bs (bs.length / 256 + 2)

/-- CP stores into the window (R193, R290), which their home slices perform at once. -/
def State.tableStore (s : State) (a : Nat) (v : Word) : State :=
  let line := lineOf a
  ((s.dropOthers line none).putBytes a false (wordBytes v)).loseResvs line (fun _ => true)

/-- A doubleword of the window. -/
def State.tableWord (s : State) (a : Nat) : Word := wordOf (s.mem.readN a 8)

/-! Ports. -/

/-- Port p of the Ethernet complex. -/
def State.port (s : State) (p : Nat) : EthPort := s.eth.ports.getD p (EthPort.reset p)

/-- A port changed. -/
def State.modPort (s : State) (p : Nat) (f : EthPort → EthPort) : State :=
  { s with eth := { s.eth with ports := modAt s.eth.ports p f } }

/-- Whether p is the management port (R354). -/
def State.isMgmt (s : State) (p : Nat) : Bool := p == 15 && (s.port p).mgmt

/-- Whether p is a client port (R355). -/
def State.isClient (s : State) (p : Nat) : Bool := !(s.port p).leat && !s.isMgmt p

/-- ETHSTAT.STBY (R355). -/
def State.isStandby (s : State) (p : Nat) : Bool := s.isClient p && s.ct.role == .standby

/-- A counter of a port raised; it saturates (R362). -/
def State.count (s : State) (p i n : Nat) : State :=
  s.modPort p fun x => { x with cnt := modAt x.cnt i (fun v => BitVec.ofNat 64 (min (v.toNat + n) (2 ^ 64 - 1))) }

/-- The effective MTU (ETHCFG). -/
def EthPort.mtuBytes (x : EthPort) : Nat := if 1500 ≤ x.mtu.toNat ∧ x.mtu.toNat ≤ 9216 then x.mtu.toNat else 9216

/-- The effective MODE of port p (R349): a reserved mode, or one that the port does not list, behaves as off; a Leat port runs 0b001 (R353). -/
def EthPort.modeAt (x : EthPort) (p : Nat) : Nat :=
  if x.leat then 1
  else match x.mode.toNat with
    | 1 => 1
    | 2 => 2
    | 3 => if p = 12 ∨ p = 13 then 0 else 3
    | 4 => if p = 15 then 4 else 0
    | 5 => if p = 15 then 5 else 0
    | _ => 0

/-- Whether a port may start a frame of a priority (R351, R355, R359, R414); a Leat port carries nothing but the Leat link (R353). -/
def State.mayTransmit (s : State) (p prio : Nat) : Bool :=
  (s.port p).link && !(s.port p).leat && !s.isStandby p && !(s.isClient p && s.weir.safe) && !(s.port p).paused.any (fun x => x.1 == prio)

/-- The MAC client data of an SCP frame with its headers (R321, R325). -/
def scpLength (ip : Option IpHead) (payload : Nat) : Nat :=
  40 + payload + (match ip with | none => 0 | some h => if h.v6 then 48 else 28)

/-- The bytes of a segment's options, whole words (R341): MSS, SACK-permitted, timestamps, window scale and SACK blocks. -/
def tcpOptions (g : TcpSegment) : Nat :=
  (if g.mss.isSome then 4 else 0) + (if g.sackOk then 4 else 0) + (if g.ts.isSome then 12 else 0) + (if g.wscale.isSome then 4 else 0) +
  (if g.sack.isEmpty then 0 else 4 + 8 * g.sack.length)

/-- The bytes of MAC client data of a frame; the lengths of MACsec and of announcements are those of their protocols (log 25). -/
def OutBody.length : OutBody → Nat
  | .scp ip f => scpLength ip f.payload.length
  | .tcp ip g => g.payload.length + tcpOptions g + (if ip.v6 then 60 else 40)
  | .announce _ _ => 46
  | .answer _ _ => 46
  | .pfc _ _ => 46
  | .leat _ _ => 46

/-- The sublink on which the frames of subchannel k leave (R350): sublink k[1:0], or the next one upward that is up. -/
def EthPort.sublink (x : EthPort) (p k : Nat) : Nat :=
  if x.modeAt p = 3 then (((List.range 4).map (fun i => (k + i) % 4)).find? (fun i => bitAt x.subup i)).getD (k % 4) else 0

/-- The bytes of a frame on the wire: MAC header, tag, data and FCS, at least 64 (R362). -/
def wireBytes (n : Nat) : Nat := max 64 (14 + 4 + n + 4)

/-- A frame of connection k on port p, with the port's own address (R322, R350, R355). -/
def State.outFrame (s : State) (p k prio : Nat) (dmac : Option (BitVec 48)) (vid : BitVec 12) (body : OutBody) : OutFrame :=
  { port := p, sub := (s.port p).sublink p k, smac := (s.port p).mac, dmac := dmac, prio := prio, vid := vid, body := body }

/-- A frame leaves its port and is counted (R362). -/
def State.emit (s : State) (f : OutFrame) : State :=
  let s := { s with eth := { s.eth with sent := s.eth.sent ++ [f] } }
  (s.count f.port 2 1).count f.port 3 (wireBytes f.body.length)

end Sys2Proof.Machine
end

