-- ==== Sys2Proof/Machine/Journal.lean ====
section
/-! DEFINITION. The Stillwater journal: records, reservations, writing, retirement, the control area and replay (18 R427-R433). -/

namespace Sys2Proof.Machine

/-- The continuity unit changed. -/
def State.modCt (s : State) (f : Ct → Ct) : State := { s with ct := f s.ct }

/-- The units of a record of n data bytes (R429). -/
def unitsFor (n : Nat) : Nat := (n + 68 + 255) / 256

/-- Bytes 0x00 to 0x3B of a record (R429). -/
def JRec.fields (r : JRec) : List Byte :=
  bytesOf 4 0x5A4A524E ++ [byteN r.kind, (if r.guarded then 1 else 0) ||| (if r.mirror then 2 else 0)] ++ bytesOf 2 0 ++
  bytesOf 4 r.gen.toNat ++ bytesOf 4 r.sch ++ wordBytes r.key ++ wordBytes r.pos ++ wordBytes r.beat ++
  bytesOf 4 r.total ++ bytesOf 4 r.units ++ wordBytes r.parm ++ bytesOf 4 0

/-- A record as it stands in Stillwater (R429). -/
def JRec.bytes (r : JRec) : List Byte :=
  let head := r.fields ++ bytesOf 4 (crc32c r.fields).toNat
  let body := head ++ r.data
  padTo (256 * r.units - 4) body ++ bytesOf 4 (crc32c body).toNat

/-- The bytes of a record that can have been written: all of them once the data are complete. -/
def JRec.size (r : JRec) : Nat := if r.data.length = r.total then 256 * r.units else 64 + r.data.length

/-- A record of the ring by generation, among those that are not retired. -/
def State.record (s : State) (g : Word32) : Option JRec := s.ct.recs.find? (fun r => r.gen == g && !r.retired)

/-- A record changed. -/
def State.modRec (s : State) (g : Word32) (f : JRec → JRec) : State :=
  s.modCt fun c => { c with recs := c.recs.map (fun r => if r.gen == g && !r.retired then f r else r) }

/-- The live records in order of reservation (R432). -/
def Ct.live (c : Ct) : List JRec := c.recs.filter (fun r => !r.retired)

/-- Free units (JSTAT.FREEU). -/
def Ct.freeUnits (c : Ct) : Nat :=
  if c.live.isEmpty then ringUnits
  else
    let used := (c.head + ringUnits - c.tail) % ringUnits
    ringUnits - (if used = 0 then ringUnits else used)

/-- The tail after retirements (R432, R433): the oldest live record, or HEAD and NEXTGEN. -/
def Ct.retail (c : Ct) : Ct :=
  match c.live with
  | [] => { c with tail := c.head, tailgen := c.nextgen }
  | r :: _ => { c with tail := r.unit, tailgen := r.gen }

/-- Where a reservation of some units begins, and the units that it takes with those it skips (R429). -/
def Ct.place (c : Ct) (units : Nat) : Nat × Nat :=
  if c.head + units ≤ ringUnits then (c.head, units) else (0, ringUnits - c.head + units)

/-- Whether a reservation fits (R432). -/
def Ct.fits (c : Ct) (units : Nat) : Bool := decide ((c.place units).2 ≤ c.freeUnits) && decide (units ≤ ringUnits)

/-- What older records keep when units a to a + n are taken. -/
def JRec.overwritten (r : JRec) (a n : Nat) : Option JRec :=
  if a ≤ r.unit ∧ r.unit < a + n then none
  else if r.unit < a ∧ a < r.unit + r.units then some { r with broken := true }
  else some r

/-- A record placed at HEAD (R431); below one eighth of free units the source of Stillwater speaks once (R432). -/
def State.placeRec (s : State) (r : JRec) : State :=
  let (a, _) := s.ct.place r.units
  let s := s.modCt fun c =>
    ({ c with recs := c.recs.filterMap (fun x => x.overwritten a r.units) ++ [{ r with unit := a }], head := (a + r.units) % ringUnits } : Ct).retail
  let low := decide (s.ct.freeUnits < ringUnits / 8)
  let s := if low && !s.ct.lowFree then s.report 0xA02 .recoverable none 0 else s
  s.modCt fun c => { c with lowFree := low }

/-- A new record of kind k with its generation (R430); its data may still be arriving. -/
def State.newRec (s : State) (k sch : Nat) (guarded : Bool) (key pos parm : Word) (total : Nat) (data : List Byte) : Word32 × State :=
  let g := s.ct.nextgen
  let s := s.modCt fun c => { c with nextgen := c.nextgen + 1 }
  (g, s.placeRec
    { gen := g, kind := k, sch := sch, guarded := guarded, mirror := false, key := key, pos := pos, beat := s.beatc, parm := parm,
      total := total, data := data, unit := 0, units := unitsFor total, written := 0, shipped := 0, lastShip := 0, ackBeat := 0,
      durable := false, mirrored := false, released := false, retired := false, broken := false })

/-- The largest number of record bytes that one JREC entry of the model carries, so that a frame holds it (R437, R438, log 50). -/
def jrecMax : Nat := 8160

/-- The record bytes that fit in q bytes of entries (R440). -/
def jrecRoom (q : Nat) : Nat := q - 16 * (q / (jrecMax + 16) + 1)

/-- The bytes of one beat written into the records in progress, in the order of their reservations (R427, R431, log 26); guarded records take no more than what the delta's quota leaves (R440). -/
def writeBeat : List JRec → Nat → Nat → List JRec
  | [], _, _ => []
  | r :: rs, budget, quota =>
    let n := min (min budget (r.size - r.written)) (if r.guarded then quota else budget)
    { r with written := r.written + n } :: writeBeat rs (budget - n) (if r.guarded then quota - n else quota)

/-- What a boundary finds written (R431): nothing while POWER_STABLE is deasserted. -/
def State.writeProgress (s : State) : State :=
  if s.plant.stable then s.modCt fun c => { c with recs := writeBeat c.recs 32000 (if s.gathers then jrecRoom (deltaQuota - s.deltaUsed) else 32000) } else s

/-- The records interrupted by the fall of POWER_STABLE are written again from their first units (R431). -/
def State.rewriteRecs (s : State) : State :=
  s.modCt fun c => { c with recs := c.recs.map (fun r => if r.durable || r.retired then r else { r with written := 0 }) }

/-- Records retired (R432), space freed from the tail, and on a guarded subchannel the delta told. -/
def State.retireRecs (s : State) (f : JRec → Bool) : State :=
  let gone := s.ct.recs.filter (fun r => !r.retired && f r)
  let s := s.modCt fun c => { c with
    retireDirty := if s.gathers then (gone.filter JRec.guarded).map (fun r => (r.sch, r.gen)) ++ c.retireDirty else c.retireDirty }
  let s := s.modCt fun c => ({ c with recs := c.recs.map (fun r => if !r.retired && f r then { r with retired := true } else r) } : Ct).retail
  s.modCt fun c => { c with lowFree := decide (c.freeUnits < ringUnits / 8) }

/-- Whether generation a equals or precedes b (R328). -/
def notAfter (a b : Word32) : Bool := a == b || follows b a

/-- The control area written into the copy that is not in use (R428). -/
def State.writeControl (s : State) : State :=
  let c := s.ct
  let cur := if c.useB then c.copyB else c.copyA
  let new : CtlCopy :=
    { valid := true, cseq := cur.cseq + 1, pairId := c.pairId, fgen := c.fgen, nextgen := c.nextgen, tailgen := c.tailgen,
      tail := c.tail, role := c.role, pstate := c.pstate }
  if c.useB then s.modCt fun c => { c with copyA := new, useB := false }
  else s.modCt fun c => { c with copyB := new, useB := true }

/-- The generations and the tail of the copy in use replaced by what a stage read (R36, R428). -/
def Ct.stageCopy (c : Ct) (i : CtlInput) : Ct :=
  let put := fun (x : CtlCopy) => { x with nextgen := i.nextgen, tailgen := i.tailgen, tail := i.tail }
  if c.useB then { c with copyB := put c.copyB } else { c with copyA := put c.copyA }

/-- Whether one of the stages 1 to 4 of R35 that started at boundary n has not finished. -/
def State.stagesLeft (s : State) (n : Word) : Bool :=
  (n == s.beatc && !s.weir.rollDue.isEmpty) || (!s.weir.safe && s.ct.toShip.any (fun d => d.beat + 1 == n)) || s.ct.hbDue.any (fun h => h.1 == n) ||
  s.plant.loopDue.any (fun i => i.beat == n) || s.plant.holdDue.any (fun i => i.beat == n)

/-- CONTROL_AREA_WRITE (R428): the stage of each boundary that is a multiple of 1,000, after the others of that boundary, with what it read there; FGEN, ROLE, PSTATE and PAIRID stand as they were last written (log 136). -/
def execControlAreaWrite (s : State) : Out :=
  match s.ct.ctlDue with
  | [] => .next s
  | i :: is => if s.stagesLeft i.beat then .next s else .next (s.writeControl.modCt fun c => ({ c with ctlDue := is }).stageCopy i)

/-- RECORD_DURABLE (R312, R431): the first boundary after the DCRC was written. -/
def execRecordDurable (gen : BitVec 32) (s : State) : Out :=
  match s.record gen with
  | none => .next s
  | some r =>
    if r.durable || s.ct.mirIn.any (fun m => m.gen == gen) || r.data.length != r.total || r.written < 256 * r.units then .next s
    else .next (s.modRec gen fun r => { r with durable := true })

/-! Replay (R428, R433). -/

/-- The control area chosen at a reset, and the state after the reports and the repair (R428). -/
def State.chooseControl (s : State) : CtlCopy × State :=
  let a := s.ct.copyA
  let b := s.ct.copyB
  if a.valid && b.valid then
    if follows b.cseq a.cseq then (b, s.modCt fun c => { c with useB := true }) else (a, s.modCt fun c => { c with useB := false })
  else if a.valid then (a, (s.modCt fun c => { c with copyB := a, useB := false }).report 0xA02 .corrected none 0)
  else if b.valid then (b, (s.modCt fun c => { c with copyA := b, useB := true }).report 0xA02 .corrected none 0)
  else (CtlCopy.fresh, (s.modCt fun c => { c with useB := false, recs := [] }).report 0xA02 .severe none 0)

/-- What a reset finds of a record: whether its header stands, and whether its DCRC is good, which no uncorrectable unit leaves it. What was written inside the beat is free (log 26). -/
def State.tornRec (s : State) (spoilt : Bool) (r : JRec) : (Bool × Bool) × State :=
  let (v, s) := s.takeFree
  let whole := !spoilt && !r.broken && (r.durable || (r.data.length == r.total && bitAt v 0))
  ((r.durable || r.broken || decide (256 ≤ r.written) || bitAt v 0 || bitAt v 1, whole), s)

/-- Every record as a reset finds it; uncorrectable units spoil those of some generations. -/
def State.tornRecs (s : State) (spoilt : List Word32) : List JRec → List (JRec × Bool) × State
  | [] => ([], s)
  | r :: rs =>
    let ((hdr, whole), s) := s.tornRec (spoilt.contains r.gen) r
    let (out, s) := State.tornRecs s spoilt rs
    (if hdr then (r, whole) :: out else out, s)

/-- What replay carries from header to header: where it is, the units seen, the header of the highest generation, the records found live. -/
structure Replay where
  u : Nat
  seen : Nat
  top : Option JRec
  live : List JRec
  deriving DecidableEq, Repr

/-- The next header at or after unit u, by distance. -/
def nextHeader (hs : List (JRec × Bool)) (u : Nat) : Option (Nat × JRec × Bool) :=
  hs.foldl (fun best h =>
    let d := (h.1.unit + ringUnits - u) % ringUnits
    match best with
    | some (e, _, _) => if d < e then some (d, h) else best
    | none => some (d, h)) none

/-- The loop of REPLAY, from header to header; units without one count one by one. -/
def replayLoop (hs : List (JRec × Bool)) (lo : Word32) : Nat → Replay → Replay
  | 0, p => p
  | fuel + 1, p =>
    match nextHeader hs p.u with
    | none => p
    | some (d, r, whole) =>
      if ringUnits ≤ p.seen + d then p
      else if r.gen == lo || follows r.gen lo then
        let top := match p.top with
          | none => some r
          | some t => if follows r.gen t.gen then some r else some t
        replayLoop hs lo fuel { u := (r.unit + r.units) % ringUnits, seen := p.seen + d + r.units, top := top,
                                live := if whole then p.live ++ [r] else p.live }
      else replayLoop hs lo fuel { p with u := (r.unit + 1) % ringUnits, seen := p.seen + d + 1 }

/-- The journal after a reset (R433): records found whole are live and durable, and each live one that an uncorrectable unit spoils is a SEVERE event; on a module that is not in a pair they are released (log 27). -/
def State.replay (s : State) (ctl : CtlCopy) (spoilt : List Word32) : State :=
  let lost := s.ct.live.filter (fun r => r.durable && spoilt.contains r.gen)
  let (hs, s) := (lost.foldl (fun s _ => s.report 0xA02 .severe none 0) s).tornRecs spoilt s.ct.recs
  let p := replayLoop hs ctl.tailgen (hs.length + 1) { u := ctl.tail, seen := 0, top := none, live := [] }
  let next := match p.top with
    | some t => if follows (t.gen + 1) ctl.nextgen then t.gen + 1 else ctl.nextgen
    | none => ctl.nextgen
  let head := match p.top with
    | some t => (t.unit + t.units) % ringUnits
    | none => ctl.tail
  let live := p.live.map fun r =>
    { r with durable := true, retired := false, written := 256 * r.units, shipped := 0, mirrored := false, released := !r.guarded || ctl.pstate == .solo }
  let gone := (hs.filter (fun h => !p.live.contains h.1)).map fun h => { h.1 with retired := true, broken := h.1.broken || !h.2 }
  s.modCt fun c => ({ c with recs := gone ++ live, waits := [], head := head, nextgen := next, tail := ctl.tail, tailgen := ctl.tailgen } : Ct).retail

end Sys2Proof.Machine
end

