-- ==== Sys2Proof/Machine/Subchannel.lean ====
section
/-! DEFINITION. The subchannel table in the window (12 R287-R291). -/

namespace Sys2Proof.Machine

/-- An entry of the table: its four doublewords (R289). -/
structure SchEntry where
  status : Word
  cfg : Word
  bind : Word
  journal : Word
  deriving DecidableEq, Repr

/-- The address of an entry (R288). -/
def schAddr (sch : Nat) : Nat := windowBase + 32 * sch

/-- The entry of a subchannel as the table holds it. -/
def State.sch (s : State) (n : Nat) : SchEntry :=
  let a := schAddr n
  { status := s.tableWord a, cfg := s.tableWord (a + 8), bind := s.tableWord (a + 16), journal := s.tableWord (a + 24) }

def SchEntry.v (e : SchEntry) : Bool := bitAt e.status 63
def SchEntry.typ (e : SchEntry) : Nat := (fld e.status 61 2).toNat
def SchEntry.g (e : SchEntry) : Bool := bitAt e.status 60
def SchEntry.state (e : SchEntry) : Nat := (fld e.status 57 3).toNat
def SchEntry.pend (e : SchEntry) : Bool := bitAt e.status 56
def SchEntry.slice (e : SchEntry) : Nat := (fld e.cfg 54 10).toNat
def SchEntry.cq (e : SchEntry) : Nat := (fld e.cfg 52 2).toNat
def SchEntry.lcp (e : SchEntry) : Nat := (fld e.cfg 47 5).toNat
def SchEntry.port (e : SchEntry) : Nat := (fld e.cfg 43 4).toNat
def SchEntry.prio (e : SchEntry) : Nat := (fld e.cfg 40 3).toNat
def SchEntry.jin (e : SchEntry) : Bool := bitAt e.cfg 39
def SchEntry.cb (e : SchEntry) : Nat := (fld e.bind 8 44).toNat

/-- The states of a subchannel (R289). -/
def stIdle : Nat := 0
def stActive : Nat := 1
def stHalting : Nat := 2
def stCompleting : Nat := 3
def stDown : Nat := 4

/-- Whether the subchannel is guarded; a service path never is (R291). -/
def SchEntry.guarded (e : SchEntry) : Bool := e.g && e.typ != 3

/-- Whether inbound messages are journaled (R291). -/
def SchEntry.journals (e : SchEntry) : Bool := e.typ != 3 && (e.jin || (e.g && (e.typ == 1 || e.typ == 2)))

/-- Whether a logical CP is present (CSSLCP). -/
def State.lcpPresent (s : State) (n : Nat) : Bool := (s.ct.lcp.getD n none).isSome

/-- Whether a logical CP runs: it stops while it is being spared (R426). -/
def State.cpRuns (s : State) (n : Nat) : Bool := !s.ct.cpSpar.any (fun x => x.unit == n)

/-- Whether an entry is treated as valid (R290). -/
def State.schValid (s : State) (e : SchEntry) : Bool :=
  s.pool.locked && e.v && e.state ≤ 4 && fld e.cfg 0 39 == 0 && fld e.bind 52 12 == 0 && fld e.bind 0 8 == 0 &&
  fld e.journal 0 16 == 0 && decide (e.cb * 256 < s.capacity) && s.lcpPresent e.lcp

/-- The STATUS doubleword of a subchannel replaced. -/
def State.setStatus (s : State) (n : Nat) (f : Word → Word) : State := s.tableStore (schAddr n) (f (s.sch n).status)

/-- STATE of a subchannel replaced. -/
def State.setSchState (s : State) (n st : Nat) : State := s.setStatus n fun w => putFld w 57 (BitVec.ofNat 3 st)

/-- The subchannels whose entries hold V = 1, in ascending order: V is bit 7 of an entry's first byte. -/
def State.establishedSchs (s : State) : List Nat :=
  (s.mem.filter (fun c => decide (windowBase ≤ c.1) && decide (c.1 < windowBase + 0x2000000) && (c.1 - windowBase) % 32 == 0 && bitAt c.2 7)).map
    (fun c => (c.1 - windowBase) / 32)

/-- The physical CP that serves a subchannel; its source for an access to a hole (R401). -/
def State.cpSource (s : State) (lcp k : Nat) : Nat := 0x340 + 8 * ((s.ct.lcp.getD lcp none).getD 0) + k

end Sys2Proof.Machine
end

