-- ==== Sys2Proof/Machine/Grant.lean ====
section
/-! DEFINITION. Slices and their storage grants (20 R470-R473). -/

namespace Sys2Proof.Machine

/-- Slice k. -/
def State.slice (s : State) (k : Nat) : Slice := lookupD s.slices.tab k Slice.reset

/-- The slice table changed. -/
def State.modSlices (s : State) (f : Slices → Slices) : State := { s with slices := f s.slices }

/-- A slice changed. -/
def State.modSlice (s : State) (k : Nat) (f : Slice → Slice) : State := s.modSlices fun x => { x with tab := assoc x.tab k (f (s.slice k)) }

/-- The slice of a PID (R471): the one, not FREE, that names it. -/
def State.sliceOfPid (s : State) (pid : Half) : Option Nat :=
  (s.slices.tab.find? (fun p => p.2.st != .free && p.2.pid == pid)).map Prod.fst

/-- The first address of a grant. -/
def Grant.lo (g : Grant) : Nat := g.base.toNat * 2 ^ 21

/-- The address behind a grant. -/
def Grant.hi (g : Grant) : Nat := (g.base.toNat + g.size.toNat) * 2 ^ 21

/-- Whether a range lies in a grant (R473). -/
def Grant.covers (g : Grant) (a n : Nat) : Bool := g.en && decide (g.lo ≤ a) && decide (a + n ≤ g.hi)

/-- Whether a range passes the grant check and the check of main memory (R297, R473); an empty range does. -/
def State.granted (s : State) (k a n : Nat) : Bool :=
  n == 0 || (decide (a + n ≤ s.capacity) && (s.slice k).grants.any (fun g => g.covers a n))

end Sys2Proof.Machine
end

