-- ==== Sys2Proof/Machine/Inflate.lean ====
section
/-! DEFINITION. Decoding DEFLATE streams and their wrappers (15 R374; RFC 1950, RFC 1951, RFC 1952). -/

namespace Sys2Proof.Machine

/-- Why decoding stops. -/
inductive InfStop where
  | more
  | full
  | data
  | header
  | check (d : Nat)
  deriving DecidableEq, Repr

/-- The decoder: the input, the bit it has come to, the output so far, and how much output there may be. -/
structure Inf where
  inp : List Byte
  pos : Nat
  out : List Byte
  cap : Nat
  deriving DecidableEq, Repr

/-- A decoding step; a stop keeps what was done. -/
abbrev Dec := EStateM InfStop Inf

/-- One bit, the least significant of a byte first. -/
def Inf.bitAt (x : Inf) (i : Nat) : Nat := if (x.inp.getD (i / 8) 0).getLsbD (i % 8) then 1 else 0

/-- n bits, the first one least significant. -/
def takeBits (n : Nat) : Dec Nat := do
  let x ← get
  if x.pos + n ≤ 8 * x.inp.length then
    set { x with pos := x.pos + n }
    return (List.range n).foldl (fun v i => v + x.bitAt (x.pos + i) * 2 ^ i) 0
  else throw .more

/-- To the next byte boundary. -/
def alignByte : Dec Unit := modify fun x => { x with pos := (x.pos + 7) / 8 * 8 }

/-- One byte at a byte boundary. -/
def takeByte : Dec Byte := return BitVec.ofNat 8 (← takeBits 8)

/-- One byte of output. -/
def putByte (b : Byte) : Dec Unit := do
  let x ← get
  if x.out.length < x.cap then set { x with out := x.out ++ [b] } else throw .full

/-- A canonical Huffman code (RFC 1951): the counts of each length, and the symbols by length and value. -/
structure Huffman where
  counts : List Nat
  symbols : List Nat
  deriving DecidableEq, Repr

/-- The code of a list of lengths. -/
def huffman (lens : List Nat) : Huffman :=
  let idx := (List.range lens.length).zip lens
  { counts := (List.range 16).map (fun l => (idx.filter (fun p => p.2 == l)).length),
    symbols := (List.range 15).flatMap (fun l => (idx.filter (fun p => p.2 == l + 1)).map Prod.fst) }

/-- The code space left over: none where a code is over-subscribed. -/
def Huffman.left (h : Huffman) : Option Nat :=
  (List.range 15).foldl (fun left i => left.bind fun n =>
    let c := h.counts.getD (i + 1) 0
    if c ≤ 2 * n then some (2 * n - c) else none) (some 1)

/-- Whether a code is complete; one code of one bit, or none at all, is let pass where single says so (RFC 1951). -/
def Huffman.ok (h : Huffman) (single : Bool) : Bool :=
  match h.left with
  | none => false
  | some 0 => true
  | some _ => single && (h.symbols.isEmpty || (h.symbols.length == 1 && h.counts.getD 1 0 == 1))

/-- The next symbol of a code: bits are added until a code of that length matches. -/
def decodeSymbol (h : Huffman) : List Nat → Nat → Nat → Nat → Dec Nat
  | [], _, _, _ => throw .data
  | c :: cs, code, first, index => do
    let b ← takeBits 1
    let code := code + b
    if code < first + c then
      match h.symbols[index + (code - first)]? with
      | some v => return v
      | none => throw .data
    else decodeSymbol h cs (2 * code) (2 * (first + c)) (index + c)

/-- A symbol. -/
def symbol (h : Huffman) : Dec Nat := decodeSymbol h (h.counts.drop 1) 0 0 0

/-- The base length and extra bits of length code 257 + i. -/
def lengthCodes : List (Nat × Nat) :=
  [(3, 0), (4, 0), (5, 0), (6, 0), (7, 0), (8, 0), (9, 0), (10, 0), (11, 1), (13, 1), (15, 1), (17, 1), (19, 2), (23, 2), (27, 2), (31, 2)] ++
  [(35, 3), (43, 3), (51, 3), (59, 3), (67, 4), (83, 4), (99, 4), (115, 4), (131, 5), (163, 5), (195, 5), (227, 5), (258, 0)]

/-- The base distance and extra bits of distance code i. -/
def distanceCodes : List (Nat × Nat) :=
  [(1, 0), (2, 0), (3, 0), (4, 0), (5, 1), (7, 1), (9, 2), (13, 2), (17, 3), (25, 3), (33, 4), (49, 4), (65, 5), (97, 5), (129, 6), (193, 6)] ++
  [(257, 7), (385, 7), (513, 8), (769, 8), (1025, 9), (1537, 9), (2049, 10), (3073, 10), (4097, 11), (6145, 11), (8193, 12), (12289, 12)] ++
  [(16385, 13), (24577, 13)]

/-- A match copied byte by byte. -/
def copyMatch (dist : Nat) : Nat → Dec Unit
  | 0 => return ()
  | n + 1 => do
    let x ← get
    putByte (x.out.getD (x.out.length - dist) 0)
    copyMatch dist n

/-- One symbol of a compressed block: false at its end. -/
def blockSymbol (ll dd : Huffman) : Dec Bool := do
  let v ← symbol ll
  if v < 256 then
    putByte (BitVec.ofNat 8 v)
    return true
  else if v = 256 then return false
  else
    match lengthCodes[v - 257]? with
    | none => throw .data
    | some (lb, le) =>
      let len := lb + (← takeBits le)
      let d ← symbol dd
      match distanceCodes[d]? with
      | none => throw .data
      | some (db, de) =>
        let dist := db + (← takeBits de)
        let x ← get
        if 32768 < dist ∨ x.out.length < dist then throw .data
        copyMatch dist len
        return true

/-- The symbols of a block; fuel bounds them by the bits that they take. -/
def blockSymbols (ll dd : Huffman) : Nat → Dec Unit
  | 0 => throw .more
  | fuel + 1 => do if ← blockSymbol ll dd then blockSymbols ll dd fuel

/-- A stored block (RFC 1951). -/
def storedBlock : Dec Unit := do
  alignByte
  let len ← takeBits 16
  let nlen ← takeBits 16
  if len + nlen ≠ 65535 then throw .data
  (List.range len).forM fun _ => do putByte (← takeByte)

/-- The fixed codes. -/
def fixedLengths : List Nat := List.replicate 144 8 ++ List.replicate 112 9 ++ List.replicate 24 7 ++ List.replicate 8 8

/-- The order of the code length codes. -/
def codeOrder : List Nat := [16, 17, 18, 0, 8, 7, 9, 6, 10, 5, 11, 4, 12, 3, 13, 2, 14, 1, 15]

/-- The code lengths of a dynamic block, n in all. -/
def readLengths (h : Huffman) (n : Nat) : Nat → List Nat → Dec (List Nat)
  | 0, _ => throw .data
  | fuel + 1, acc => do
    if n ≤ acc.length then (if acc.length = n then return acc else throw .data)
    else
      let v ← symbol h
      if v < 16 then readLengths h n fuel (acc ++ [v])
      else if v = 16 then
        match acc.getLast? with
        | none => throw .data
        | some p => readLengths h n fuel (acc ++ List.replicate (3 + (← takeBits 2)) p)
      else if v = 17 then readLengths h n fuel (acc ++ List.replicate (3 + (← takeBits 3)) 0)
      else readLengths h n fuel (acc ++ List.replicate (11 + (← takeBits 7)) 0)

/-- The lengths of the code length codes, in their order. -/
def readCodeLengths : List Nat → List (Nat × Nat) → Dec (List (Nat × Nat))
  | [], acc => return acc
  | i :: is, acc => do readCodeLengths is ((i, ← takeBits 3) :: acc)

/-- A dynamic block's codes. -/
def dynamicCodes : Dec (Huffman × Huffman) := do
  let nlen := (← takeBits 5) + 257
  let ndist := (← takeBits 5) + 1
  let ncode := (← takeBits 4) + 4
  if 286 < nlen ∨ 30 < ndist then throw .data
  let cl ← readCodeLengths (codeOrder.take ncode) []
  let hc := huffman ((List.range 19).map (fun i => match cl.find? (fun p => p.1 == i) with | some p => p.2 | none => 0))
  if !hc.ok false then throw .data
  let lens ← readLengths hc (nlen + ndist) (nlen + ndist + 1) []
  let ll := huffman (lens.take nlen)
  let dd := huffman (lens.drop nlen)
  if lens.getD 256 0 = 0 ∨ !ll.ok true ∨ !dd.ok true then throw .data
  return (ll, dd)

/-- One block: whether it is the last. -/
def block : Dec Bool := do
  let final ← takeBits 1
  let typ ← takeBits 2
  let x ← get
  match typ with
  | 0 => storedBlock
  | 1 => blockSymbols (huffman fixedLengths) (huffman (List.replicate 30 5)) (8 * x.inp.length + 1)
  | 2 => do
    let (ll, dd) ← dynamicCodes
    blockSymbols ll dd (8 * x.inp.length + 1)
  | _ => throw .data
  return final == 1

/-- The blocks of a stream; fuel bounds them. -/
def blocks : Nat → Dec Unit
  | 0 => throw .more
  | fuel + 1 => do if !(← block) then blocks fuel

/-- Bytes to and with a zero byte are skipped. -/
def skipString : Nat → Dec Unit
  | 0 => throw .more
  | fuel + 1 => do if (← takeByte) ≠ 0 then skipString fuel

/-- Bytes skipped. -/
def skipBytes (n : Nat) : Dec Unit := (List.range n).forM fun _ => do let _ ← takeByte

/-- The header of a zlib stream (R374). -/
def zlibHeader : Dec Unit := do
  let cmf ← takeBits 8
  let flg ← takeBits 8
  if cmf % 16 ≠ 8 ∨ 7 < cmf / 16 ∨ (256 * cmf + flg) % 31 ≠ 0 ∨ flg / 32 % 2 = 1 then throw .header

/-- The header of a gzip stream (R374). -/
def gzipHeader : Dec Unit := do
  let id1 ← takeBits 8
  let id2 ← takeBits 8
  let cm ← takeBits 8
  let flg ← takeBits 8
  if id1 ≠ 0x1F ∨ id2 ≠ 0x8B ∨ cm ≠ 8 ∨ 32 ≤ flg then throw .header
  skipBytes 6
  if flg / 4 % 2 = 1 then skipBytes (← takeBits 16)
  let n := (← get).inp.length + 1
  if flg / 8 % 2 = 1 then skipString n
  if flg / 16 % 2 = 1 then skipString n
  if flg / 2 % 2 = 1 then
    let x ← get
    let c := crc32 (x.inp.take (x.pos / 8))
    let h ← takeBits 16
    if h ≠ c.toNat % 65536 then throw .header

/-- The trailer of a stream (R374): a zlib check is most significant byte first, those of gzip least significant first. -/
def trailer (fmt : Nat) : Dec Unit := do
  alignByte
  match fmt with
  | 1 => do
    let a ← takeBits 8
    let b ← takeBits 8
    let c ← takeBits 8
    let d ← takeBits 8
    let x ← get
    if ((a * 256 + b) * 256 + c) * 256 + d ≠ (adler32 x.out).toNat then throw (.check 1)
  | 2 => do
    let c ← takeBits 32
    let x ← get
    if c ≠ (crc32 x.out).toNat then throw (.check 1)
    let n ← takeBits 32
    if n ≠ x.out.length % 2 ^ 32 then throw (.check 2)
  | _ => pure ()

/-- A whole stream in a format: 0 raw, 1 zlib, 2 gzip. -/
def stream (fmt : Nat) : Dec Unit := do
  match fmt with
  | 1 => zlibHeader
  | 2 => gzipHeader
  | _ => pure ()
  blocks (8 * (← get).inp.length + 1)
  trailer fmt

/-- The outcome of decoding: why it stopped, if the stream has not ended, and where. -/
def inflate (fmt : Nat) (inp : List Byte) (cap : Nat) : Option InfStop × Inf :=
  match stream fmt { inp := inp, pos := 0, out := [], cap := cap } with
  | .ok _ x => (none, x)
  | .error e x => (some e, x)

end Sys2Proof.Machine
end

