-- ==== Sys2Proof/Machine/Rings.lean ====
section
/-! DEFINITION. The descriptor and completion rings that the compression and cipher units share (15 R365-R368, 16 R387). -/

namespace Sys2Proof.Machine

/-- The first address of the descriptor ring. -/
def RingPair.sqAddr (r : RingPair) : Nat := r.sqBase.toNat * 4096

/-- The first address of the completion ring. -/
def RingPair.cqAddr (r : RingPair) : Nat := r.cqBase.toNat * 4096

/-- Whether both rings lie in main memory and within the grants of the slice (R365). -/
def State.ringsOk (s : State) (k : Nat) (r : RingPair) : Bool :=
  s.granted k r.sqAddr (64 * ringEntries r.sqSize) && s.granted k r.cqAddr (32 * ringEntries r.cqSize)

/-- A write of the control port with EN = 1 (R365); rings that are enabled already keep their pointers (log 29). -/
def State.enableRings (s : State) (k : Nat) (r : RingPair) (v : Word) : RingPair :=
  let r := { r with lcn := fld v 8 8, irq := bitAt v 1 }
  if r.en then r
  else if s.ringsOk k r then { r with en := true, sqHead := 0, sqTail := 0, cqHead := 0, cqTail := 0, phase := true, err := false, taken := 0 }
  else { r with err := true }

/-- A write of the control port with EN = 0 (R380): descriptors that have not been fetched are discarded. -/
def RingPair.disable (r : RingPair) (v : Word) : RingPair :=
  { r with lcn := fld v 8 8, irq := bitAt v 1, en := false, sqHead := if r.en then r.tailAt else r.sqHead }

/-- A write of the control port. -/
def State.writeRingCtl (s : State) (k : Nat) (r : RingPair) (v : Word) : RingPair :=
  if bitAt v 0 then s.enableRings k r v else r.disable v

/-- Whether a completion slot is free that no fetched descriptor has reserved (R366). -/
def RingPair.slotFree (r : RingPair) : Bool :=
  let n := ringEntries r.cqSize
  decide ((r.cqTail + n - r.headAt) % n + r.taken + 1 < n)

/-- Whether a slice has a descriptor to fetch (R366). -/
def RingPair.hasWork (r : RingPair) : Bool := r.en && r.sqHead != r.tailAt && r.slotFree

/-- Whether the engines fetch for a slice (R476, R478): not while it is frozen or freezing, and after a THAW from the next boundary on. -/
def State.sliceFetches (s : State) (k : Nat) : Bool :=
  match (s.slice k).st with
  | .freezing => false
  | .frozen => false
  | .saved => false
  | .free => true
  | .running =>
    match (s.slice k).thawAt with
    | some b => decide (1 ≤ s.since b)
    | none => true

/-- The next slice in round-robin order after the one served last (R367). -/
def nextSlice (rings : List (Nat × RingPair)) (last : Nat) (ok : Nat → RingPair → Bool) : Option Nat :=
  ((rings.filter (fun p => ok p.1 p.2)).map (fun p => ((p.1 + 1024 - (last + 1) % 1024) % 1024, p.1))).foldl
    (fun (best : Option (Nat × Nat)) p => match best with
      | some b => if p.1 < b.1 then some p else some b
      | none => some p) none |>.map Prod.snd

/-- The descriptor at HEAD (R369, R388), as it stands in memory. -/
def State.headDesc (s : State) (r : RingPair) : List Byte := s.devBytes (r.sqAddr + 64 * r.sqHead) 64

/-- That descriptor as an engine's RdNA reads it: free bytes where its line is poisoned, since neither unit states what follows (R264, log 163). -/
def State.readDesc (s : State) (r : RingPair) : List Byte × State :=
  if s.readPoison (r.sqAddr + 64 * r.sqHead) 64 then s.freeBytes 64 else (s.headDesc r, s)

/-- HEAD past a descriptor, its completion slot reserved (R366). -/
def RingPair.fetch (r : RingPair) : RingPair := { r with sqHead := (r.sqHead + 1) % ringEntries r.sqSize, taken := r.taken + 1 }

/-- TAIL past a record (R368). -/
def RingPair.push (r : RingPair) : RingPair :=
  let t := (r.cqTail + 1) % ringEntries r.cqSize
  { r with cqTail := t, taken := r.taken - 1, phase := if t = 0 then !r.phase else r.phase }

/-- A number of n bytes of a descriptor. -/
def dnum (d : List Byte) (off n : Nat) : Nat := natOf ((d.drop off).take n)

/-- Whether two ranges share a byte. -/
def overlap (a b : Nat × Nat) : Bool := decide (0 < a.2) && decide (0 < b.2) && decide (a.1 < b.1 + b.2) && decide (b.1 < a.1 + a.2)

/-- Whether any two ranges of a list share a byte. -/
def anyOverlap : List (Nat × Nat) → Bool
  | [] => false
  | r :: rs => rs.any (overlap r) || anyOverlap rs

/-- Bytes that the spec leaves undefined, over a range (log 8). -/
def State.scramble (s : State) (src a n : Nat) : Option State :=
  let (bs, s) := s.freeBytes n
  s.devWrite src a bs

/-- The numbers of the checks of a descriptor that fail, the lowest first (log 38). -/
def lowest (xs : List (Bool × Nat)) : Option Nat := (xs.find? Prod.fst).map Prod.snd

end Sys2Proof.Machine
end

