-- ==== Sys2Proof/Machine/Keys.lean ====
section
/-! DEFINITION. Key pages (16 R383, R384, R396) and the MACsec associations of Leat (16 R399, R400). -/

namespace Sys2Proof.Machine

/-- The unit changed. -/
def State.modCx (s : State) (f : Cx → Cx) : State := { s with cx := f s.cx }

/-- Every descriptor in progress changed, those that wait to be run again among them. -/
def Cx.mapJobs (c : Cx) (f : CxJob → CxJob) : Cx := { c with engines := c.engines.map (Option.map f), reruns := c.reruns.map f }

/-- The descriptors in progress. -/
def Cx.jobs (c : Cx) : List CxJob := c.engines.filterMap id ++ c.reruns

/-- The key ports of a slice. -/
def State.keyPorts (s : State) (k : Nat) : KeyPorts := lookupD s.cx.ports k KeyPorts.reset

/-- The key ports of a slice changed. -/
def State.modKeyPorts (s : State) (k : Nat) (f : KeyPorts → KeyPorts) : State := s.modCx fun c => { c with ports := assoc c.ports k (f (s.keyPorts k)) }

/-- A key slot: none when it is empty. -/
def State.keySlot (s : State) (k slot : Nat) : Option KeySlot := (s.cx.keys.find? (fun p => p.1 == 64 * k + slot)).map Prod.snd

/-- TYPE of KATTR: the reserved values act as none. -/
def KeyPorts.typ (p : KeyPorts) : Nat := let t := (fld p.attr 0 4).toNat; if t ≤ 6 then t else 0

/-- HLEN of KATTR. -/
def KeyPorts.hlen (p : KeyPorts) : Byte := fld p.attr 16 8

/-- The bytes of a key of a type (R383). -/
def keyBytes (typ hlen : Nat) : Nat :=
  match typ with
  | 1 => 16
  | 2 => 24
  | 3 => 32
  | 4 => 32
  | 5 => 64
  | 6 => hlen
  | _ => 0

/-- The key that KDATA holds. -/
def KeyPorts.key (p : KeyPorts) : List Byte := (p.data.flatMap wordBytes).take (keyBytes p.typ p.hlen.toNat)

/-- RESULT of a LOAD (R383). -/
def KeyPorts.loadResult (p : KeyPorts) : Byte :=
  let h := p.key.length / 2
  if p.typ = 0 ∨ (p.typ = 6 ∧ (p.hlen.toNat = 0 ∨ 64 < p.hlen.toNat)) then 1
  else if (p.typ = 4 ∨ p.typ = 5) ∧ p.key.take h = p.key.drop h then 2
  else 0

/-- LOAD (R383): KDATA is cleared whatever the result. -/
def State.loadKey (s : State) (k slot : Nat) : State :=
  let p := s.keyPorts k
  let r := p.loadResult
  let s := s.modKeyPorts k fun p => { p with slot := BitVec.ofNat 6 slot, result := r, data := List.replicate 8 0 }
  if r = 0 then
    let v : KeySlot := { typ := p.typ, hlen := p.hlen, use := fld p.attr 12 4, fixed := fld p.attr 32 32, key := p.key, invoc := 0 }
    s.modCx fun c => { c with keys := assoc c.keys (64 * k + slot) v }
  else s

/-- The slot that a descriptor names. -/
def CxJob.slot (j : CxJob) : Nat := dnum j.desc 3 1

/-- Operations latched from a slot end (R396). -/
def State.endLatched (s : State) (k slot : Nat) : State :=
  s.modCx fun c => c.mapJobs fun j => if j.slice == k && j.key.isSome && j.slot == slot then { j with erased := true } else j

/-- A slot emptied. -/
def State.emptySlot (s : State) (k slot : Nat) : State := s.modCx fun c => { c with keys := unassoc c.keys (64 * k + slot) }

/-- ERASE (R383, R396). -/
def State.eraseKey (s : State) (k slot : Nat) : State :=
  ((s.endLatched k slot).emptySlot k slot).modKeyPorts k fun p => { p with slot := BitVec.ofNat 6 slot, result := 0 }

/-- ERASE_ALL (R383): the 64 slots of the slice. -/
def State.eraseAll (s : State) (k slot : Nat) : State :=
  let s := s.modCx fun c =>
    ({ c with keys := c.keys.filter (fun p => p.1 / 64 != k) } : Cx).mapJobs fun j => if j.slice == k && j.key.isSome then { j with erased := true } else j
  s.modKeyPorts k fun p => { p with slot := BitVec.ofNat 6 slot, result := 0 }

/-- A key command of a slice: a write of its KCMD. -/
def keyRow (run : State → State) (slice : Nat) (s : State) : Out :=
  if 1024 ≤ slice then .refused .illFormed else portRow (.kcmd slice) (fun s => .next (run s)) s

/-- LOAD (R383). -/
def execKeyLoad (slice : Nat) (slot : Fin 64) (s : State) : Out := keyRow (fun s => s.loadKey slice slot) slice s

/-- ERASE (R383, R396). -/
def execKeyErase (slice : Nat) (slot : Fin 64) (s : State) : Out := keyRow (fun s => s.eraseKey slice slot) slice s

/-- ERASE_ALL (R383). -/
def execKeyEraseAll (slice : Nat) (slot : Fin 64) (s : State) : Out := keyRow (fun s => s.eraseAll slice slot) slice s

/-- KEY_SLOT_ECC_ERROR (R384): the slot is empty; operations latched from it go on. -/
def execKeySlotEccError (slice : Nat) (slot : Fin 64) (s : State) : Out :=
  if 1024 ≤ slice then .refused .illFormed else .next ((s.emptySlot slice slot).report (0xC00 + slice) .recoverable none 0)

/-! Leat associations. -/

/-- The datapath of Leat port p: 0 is port 12, 1 is port 13. -/
def State.leatSec (s : State) (p : Nat) : LeatSec := s.cx.leat.getD p LeatSec.reset

/-- The datapath of a port changed. -/
def State.modLeat (s : State) (p : Nat) (f : LeatSec → LeatSec) : State := s.modCx fun c => { c with leat := modAt c.leat p f }

/-- What a write of LKCMD stores: DIR, PORT and AN. -/
def State.setLk (s : State) (sa : SaName) : State :=
  s.modCx fun c => { c with lkRx := sa.rx, lkPort := sa.port == 1, lkAn := BitVec.ofNat 2 sa.an }

/-- RESULT of LKCMD. -/
def State.lkDone (s : State) (r : Byte) : State := s.modCx fun c => { c with lkResult := r }

/-- The association that a name means. -/
def State.sa (s : State) (sa : SaName) : Option Sa := (if sa.rx then (s.leatSec sa.port).rx else (s.leatSec sa.port).tx).getD sa.an none

/-- The association that a name means replaced. -/
def State.setSa (s : State) (sa : SaName) (v : Option Sa) : State :=
  s.modLeat sa.port fun l => if sa.rx then { l with rx := l.rx.set sa.an v } else { l with tx := l.tx.set sa.an v }

/-- Whether a name means the transmitting association (LKCMD.RESULT 2). -/
def State.saInUse (s : State) (sa : SaName) : Bool := !sa.rx && (s.leatSec sa.port).txOn && (s.leatSec sa.port).txAn == sa.an.val

/-- INSTALL (R400): a transmit PN starts at 1; LKDATA is cleared by every INSTALL. -/
def State.installSa (s : State) (sa : SaName) : State :=
  let s := s.setLk sa
  let data := s.cx.lkData
  let s := s.modCx fun c => { c with lkData := List.replicate 6 0 }
  if s.saInUse sa then s.lkDone 2
  else (s.setSa sa (some { material := data, pn := if sa.rx then 0 else 1 })).lkDone 0

/-- INSTALL (R400). -/
def execSaInstall (sa : SaName) (s : State) : Out := portRow .lkcmd (fun s => .next (s.installSa sa)) s

/-- ACTIVATE (R400): it acts as no command for a receive association. -/
def State.activateSa (s : State) (sa : SaName) : State :=
  let s := s.setLk sa
  if sa.rx then s
  else if (s.sa sa).isNone then s.lkDone 1
  else (s.modLeat sa.port fun l => { l with switchTo := some (sa.an, s.beatc) }).lkDone 0

/-- SA_ACTIVATE (R400). -/
def execSaActivate (sa : SaName) (s : State) : Out := portRow .lkcmd (fun s => .next (s.activateSa sa)) s

/-- TX_AN_SWITCH (R400): at the first boundary after ACTIVATE. -/
def execTxAnSwitch (p : Fin 2) (s : State) : Out :=
  match (s.leatSec p).switchTo with
  | none => .next s
  | some (an, b) =>
    if s.since b < 1 then .next s
    else .next (s.modLeat p fun l =>
      if (l.tx.getD an none).isSome then { l with switchTo := none, txOn := true, txAn := an } else { l with switchTo := none })

/-- RETIRE (R400). -/
def State.retireSa (s : State) (sa : SaName) : State :=
  let s := s.setLk sa
  if (s.sa sa).isNone then s.lkDone 1
  else if s.saInUse sa then s.lkDone 2
  else (s.setSa sa none).lkDone 0

/-- SA_RETIRE (R400). -/
def execSaRetire (sa : SaName) (s : State) : Out := portRow .lkcmd (fun s => .next (s.retireSa sa)) s

/-- A saturating count of 32 bits. -/
def satWord32 (v : Word32) : Word32 := if v = 0xFFFFFFFF then v else v + 1

/-- MACsec of a frame that arrives on a Leat port (R399): the port's datapath after it, and whether it is accepted. -/
def State.leatAccepts (s : State) (p an : Nat) (pn : Word) (icvOk : Bool) : Bool × State :=
  match (s.leatSec p).rx.getD an none with
  | some sa =>
    if icvOk ∧ sa.pn.toNat < pn.toNat then (true, s.modLeat p fun l => { l with rx := l.rx.set an (some { sa with pn := pn }) })
    else (false, (s.modLeat p fun l => { l with vfail := satWord32 l.vfail }).report (0x910 + p) .corrected none 0)
  | none => (false, (s.modLeat p fun l => { l with vfail := satWord32 l.vfail }).report (0x910 + p) .corrected none 0)

/-- MACsec of a frame that leaves a Leat port (R399, R400): none when no association may send. -/
def State.leatSends (s : State) (p : Nat) : Option State :=
  let l := s.leatSec p
  match l.tx.getD l.txAn none with
  | some sa =>
    if !l.txOn || sa.pn == 0xFFFFFFFFFFFFFFFF then none
    else
      let s := s.modLeat p fun l => { l with tx := l.tx.set l.txAn (some { sa with pn := sa.pn + 1 }) }
      some (if sa.pn + 1 = 0xFFFFFFFFFFFFFFFF then s.report (0x910 + p) .severe none 0 else s)
  | none => none

end Sys2Proof.Machine
end

