-- ==== Sys2Proof/Machine/Cipher.lean ====
section
/-! DEFINITION. The cipher engines (16 R381-R398). -/

namespace Sys2Proof.Machine

/-- The rings of a slice. -/
def State.cxRing (s : State) (k : Nat) : RingPair := lookupD s.cx.rings k RingPair.reset

/-- The rings of a slice replaced. -/
def State.setCxRing (s : State) (k : Nat) (r : RingPair) : State := s.modCx fun c => { c with rings := assoc c.rings k r }

/-- The job of an engine. -/
def State.cxJob (s : State) (i : Nat) : Option CxJob := s.cx.engines.getD i none

/-- The job of an engine replaced. -/
def State.setCxJob (s : State) (i : Nat) (j : Option CxJob) : State := s.modCx fun c => { c with engines := c.engines.set i j }

/-- TAIL of CXSQP written (R387). -/
def State.writeCxTail (s : State) (k : Nat) (tail : Half) : State := s.setCxRing k { s.cxRing k with sqTail := tail }

/-- CX_SUBMIT (R387). -/
def execCxSubmit (slice : Nat) (tail : BitVec 16) (s : State) : Out :=
  if 1024 ≤ slice then .refused .illFormed else portRow (.cx slice 1) (fun s => .next (s.writeCxTail slice tail)) s

/-- CXCTL written (R387, R398): EN = 0 stops the slice's descriptors. -/
def State.writeCxCtl (s : State) (k : Nat) (v : Word) : State :=
  let s := s.setCxRing k (s.writeRingCtl k (s.cxRing k) v)
  if bitAt v 0 then s
  else s.modCx fun c => c.mapJobs fun j => if j.slice == k then { j with aborted := true } else j

/-- CX_ENABLE (R387). -/
def execCxEnable (slice : Nat) (v : Word) (s : State) : Out :=
  if decide (1024 ≤ slice) || !bitAt v 0 then .refused .illFormed else portRow (.cx slice 4) (fun s => .next (s.writeCxCtl slice v)) s

/-- CX_DISABLE (R398). -/
def execCxDisable (slice : Nat) (v : Word) (s : State) : Out :=
  if decide (1024 ≤ slice) || bitAt v 0 then .refused .illFormed else portRow (.cx slice 4) (fun s => .next (s.writeCxCtl slice v)) s

/-! The descriptor (R388, R389). -/

/-- A cipher descriptor. -/
structure CxDesc where
  op : Nat
  alg : Nat
  flags : Nat
  kslot : Nat
  tagLen : Nat
  src : Nat
  srcLen : Nat
  aadLen : Nat
  dst : Nat
  aux : Nat
  iva : Nat
  dstLen : Nat
  zeros : Bool
  deriving DecidableEq, Repr

def CxDesc.first (d : CxDesc) : Bool := d.flags % 2 == 1
def CxDesc.last (d : CxDesc) : Bool := d.flags / 2 % 2 == 1

/-- The descriptor that 64 bytes spell (R388). -/
def cxDesc (b : List Byte) : CxDesc :=
  { op := dnum b 0 1, alg := dnum b 1 1, flags := dnum b 2 1, kslot := dnum b 3 1, tagLen := dnum b 4 1, src := dnum b 8 8, srcLen := dnum b 0x10 4,
    aadLen := dnum b 0x14 4, dst := dnum b 0x18 8, aux := dnum b 0x20 8, iva := dnum b 0x28 8, dstLen := dnum b 0x38 4,
    zeros := dnum b 5 3 == 0 && dnum b 0x3C 4 == 0 }

/-- The families of algorithms (R381). -/
def CxDesc.isSha (d : CxDesc) : Bool := d.alg == 8 || d.alg == 9 || d.alg == 10
def CxDesc.isHmac (d : CxDesc) : Bool := d.alg == 0xB || d.alg == 0xC || d.alg == 0xD
def CxDesc.isAead (d : CxDesc) : Bool := d.alg == 4 || d.alg == 5
def CxDesc.isMac (d : CxDesc) : Bool := d.alg == 7 || d.isHmac

/-- The hash of an algorithm (R381). -/
def CxDesc.hash (d : CxDesc) : ShaKind := if d.alg = 8 ∨ d.alg = 0xB then sha256 else if d.alg = 9 ∨ d.alg = 0xC then sha384 else sha512

/-- Whether ALG is assigned and OP is permitted for it (R381). -/
def CxDesc.algOk (d : CxDesc) : Bool :=
  if d.isSha then d.op == 5
  else if d.isMac then d.op == 3 || d.op == 4
  else decide (1 ≤ d.alg) && decide (d.alg ≤ 6) && (d.op == 1 || d.op == 2)

/-- Whether ALG takes a descriptor of its own (R388). -/
def CxDesc.single (d : CxDesc) : Bool := d.isAead || d.alg == 6 || d.isMac

/-- Whether TAGLEN is permitted (R381). -/
def CxDesc.tagOk (d : CxDesc) : Bool :=
  if d.alg = 4 then [4, 8, 12, 13, 14, 15, 16].contains d.tagLen
  else if d.alg = 5 then [4, 6, 8, 10, 12, 14, 16].contains d.tagLen
  else if d.alg = 7 then decide (4 ≤ d.tagLen) && decide (d.tagLen ≤ 16)
  else if d.isHmac then decide (4 ≤ d.tagLen) && decide (d.tagLen ≤ d.hash.out)
  else d.tagLen == 0

/-- Whether the tag stands behind the message in SRC (R381). -/
def CxDesc.tagged (d : CxDesc) : Bool := (d.isAead && d.op == 2) || (d.isMac && d.op == 4)

/-- The message without its tag. -/
def CxDesc.msgLen (d : CxDesc) : Nat := if d.tagged then d.srcLen - d.tagLen else d.srcLen

/-- Whether the lengths are permitted (R381, R389). -/
def CxDesc.lengthsOk (d : CxDesc) : Bool :=
  decide (d.srcLen ≤ 0x1000000) && decide (d.aadLen ≤ 0x1000000) && (!d.tagged || decide (d.tagLen ≤ d.srcLen)) &&
  (if d.alg = 1 ∨ d.alg = 2 then d.srcLen % 16 == 0 || (d.op == 1 && d.last)
   else if d.alg = 3 then d.srcLen % 16 == 0 || d.last
   else if d.alg = 5 then decide (d.msgLen < 0x1000000)
   else if d.alg = 6 then decide (16 ≤ d.srcLen)
   else true)

/-- The output length that DSTLEN must hold (R389). -/
def CxDesc.outLen (d : CxDesc) : Nat :=
  if (d.alg = 1 ∨ d.alg = 2) ∧ d.op = 1 ∧ d.last then 16 * (d.srcLen / 16 + 1)
  else if d.isAead ∧ d.op = 1 then d.srcLen + d.tagLen
  else if d.op = 2 then d.srcLen - d.tagLen
  else if d.op = 3 then d.tagLen
  else if d.op = 4 then 0
  else if d.op = 5 then (if d.last then d.hash.out else 0)
  else d.srcLen

/-- Whether the IV block is used (R381). -/
def CxDesc.usesIv (d : CxDesc) : Bool := d.alg == 2 || d.alg == 3 || (d.isAead && d.op == 2) || d.alg == 6

/-- Whether a SHA descriptor has a context block: one that carries its whole stream and names none has not (log 42). -/
def CxDesc.usesCtx (d : CxDesc) : Bool := d.isSha && !(d.first && d.last && d.aux == 0)

/-- The ranges of a descriptor: source, destination, additional data or context, and IV. -/
def CxDesc.ranges (d : CxDesc) : List (Nat × Nat) :=
  [(d.src, d.srcLen), (d.dst, d.dstLen), (d.aux, if d.usesCtx then 256 else if d.isAead then d.aadLen else 0), (d.iva, if d.usesIv then 16 else 0)]

/-- The checks of R389, with their DETAIL. The output of HASH with LAST = 0 and of VERIFY is empty (log 42). -/
def CxDesc.checks (d : CxDesc) : List (Bool × Nat) :=
  [(decide (d.op = 0) || decide (5 < d.op), 1), (!d.algOk, 2), (decide (4 ≤ d.flags) || (d.single && !(d.first && d.last)), 3),
   (decide (64 ≤ d.kslot) || (d.isSha && d.kslot != 0), 4), (!d.tagOk, 5), (!d.lengthsOk, 6), (decide (d.dstLen < d.outLen), 7),
   (anyOverlap d.ranges, 8),
   (!d.zeros || (!d.usesIv && d.iva != 0) || (!d.isAead && !d.isSha && d.aux != 0) || (!d.isAead && d.aadLen != 0), 9)]

/-- A result without output. -/
def cxFail (status : Byte) (detail : Nat) : CxResult := { status := status, produced := 0, detail := BitVec.ofNat 32 detail, tail := none }

/-- BAD_DESC, then ADDRESS (R389). -/
def State.cxCheck (s : State) (k : Nat) (d : CxDesc) : Option CxResult :=
  match lowest d.checks with
  | some n => some (cxFail 7 n)
  | none => (lowest ((d.ranges.zip [1, 2, 3, 4]).map (fun p => (!s.granted k p.1.1 p.1.2, p.2)))).map (cxFail 8)

/-! Latching (R385, R386) and staging (R391). -/

/-- The staging chunks that a descriptor needs (R391). -/
def CxDesc.chunks (d : CxDesc) : Nat := if d.isAead ∧ d.op = 2 then max 1 ((d.msgLen + 65535) / 65536) else 0

/-- The first address of a staging chunk (R288, R391). -/
def chunkAt (c : Nat) : Nat := windowBase + 0x2000000 + 65536 * c

/-- The staging chunks that are taken. -/
def Cx.chunksTaken (c : Cx) : List Nat := c.jobs.flatMap CxJob.chunks

/-- The free staging chunks (CXENG.SFREE). -/
def Cx.chunksFree (c : Cx) : Nat := 512 - c.chunksTaken.length

/-- n free chunks, from a number on: which free ones are allocated is left open (log 164). -/
def Cx.pickChunks (c : Cx) (v n : Nat) : List Nat := (((List.range 512).map (fun i => (v + i) % 512)).filter (fun i => !c.chunksTaken.contains i)).take n

/-- Whether a key's TYPE serves an algorithm (R381). -/
def CxDesc.typeOk (d : CxDesc) (typ : Nat) : Bool :=
  if d.alg = 6 then typ == 4 || typ == 5 else if d.isHmac then typ == 6 else typ == 1 || typ == 2 || typ == 3

/-- Whether USE permits an operation (KATTR.USE). -/
def useOk (use : BitVec 4) (op : Nat) : Bool := decide (1 ≤ op) && decide (op ≤ 4) && bitAt use (4 - op)

/-- The latch of a descriptor that has passed its checks (R385, R386): the key, the counter taken, and why it ends, if it does. -/
def State.latch (s : State) (k : Nat) (d : CxDesc) : Option KeySlot × Option Word × Option CxResult × State :=
  if d.isSha then (none, none, none, s)
  else match s.keySlot k d.kslot with
    | none => (none, none, some (cxFail 3 0), s)
    | some key =>
      if !d.typeOk key.typ then (none, none, some (cxFail 4 1), s)
      else if !useOk key.use d.op then (none, none, some (cxFail 4 2), s)
      else if d.isAead ∧ d.op = 1 then
        if key.invoc = 0xFFFFFFFFFFFFFFFF then (some key, some key.invoc, some (cxFail 2 0), s)
        else (some key, some key.invoc, none, s.modCx fun c => { c with keys := assoc c.keys (64 * k + d.kslot) { key with invoc := key.invoc + 1 } })
      else (some key, none, none, s)

/-- Whether the context that a descriptor names is in use (R367, R387). -/
def State.shaBusy (s : State) (d : CxDesc) : Bool :=
  d.usesCtx && s.cx.jobs.any (fun j => (cxDesc j.desc).usesCtx && (cxDesc j.desc).aux == d.aux)

/-- The chunks that a slice's next descriptor waits for, when it passes its checks. -/
def State.chunksNeeded (s : State) (k : Nat) (d : CxDesc) : Nat := if (s.cxCheck k d).isSome then 0 else d.chunks

/-- Whether a slice has a cipher descriptor whose turn has come (R366, R367). -/
def State.cxReady (s : State) (k : Nat) (r : RingPair) : Bool := r.hasWork && s.sliceFetches k && !s.shaBusy (cxDesc (s.headDesc r))

/-- The slices that still wait for chunks, in the order of their requests (R391). -/
def State.chunkWaits (s : State) : List Nat :=
  s.cx.waits.filter (fun k => s.cxReady k (s.cxRing k) && decide (0 < s.chunksNeeded k (cxDesc (s.headDesc (s.cxRing k)))))

/-- The slice that an engine serves, in round-robin order, and the slices that wait for chunks after it (R367, R391): one that has none to take waits for those that asked before it. -/
def State.cxPick (s : State) : Nat → List Nat → List Nat → Option Nat × List Nat
  | 0, _, w => (none, w)
  | fuel + 1, tried, w =>
    match nextSlice s.cx.rings s.cx.last (fun k r => s.cxReady k r && !tried.contains k) with
    | none => (none, w)
    | some k =>
      let n := s.chunksNeeded k (cxDesc (s.headDesc (s.cxRing k)))
      if n = 0 then (some k, w)
      else
        let w := if w.contains k then w else w ++ [k]
        if w.head? = some k ∧ n ≤ s.cx.chunksFree then (some k, w.tail) else s.cxPick fuel (k :: tried) w

/-- An engine takes the descriptor at HEAD of a slice: it is checked, its chunks are allocated, and it is latched (R385, R389, R391). -/
def State.cxTake (s : State) (i k : Nat) (waits : List Nat) : State :=
  let r := s.cxRing k
  let (b, s) := s.readDesc r
  let d := cxDesc b
  let n := s.chunksNeeded k d
  if s.shaBusy d ∨ s.cx.chunksFree < n then s
  else
    let (v, s) := s.takeFree
    let (key, invoc, res, s) := match s.cxCheck k d with
      | some e => (none, none, some e, s)
      | none => s.latch k d
    let j : CxJob :=
      { slice := k, desc := b, key := key, invoc := invoc, chunks := s.cx.pickChunks v.toNat n, rerun := false, erased := false, aborted := false, beat := s.beatc,
        result := res }
    ((s.setCxRing k r.fetch).setCxJob i (some j)).modCx fun c => { c with last := k, waits := waits }

/-- CX_DESCRIPTOR_FETCH (R366, R385, R389, R391): a descriptor that waits to be run again goes first (R397); where none can be fetched, what is left is the request for chunks. -/
def execCxDescriptorFetch (engine : Fin 8) (s : State) : Out :=
  if s.weir.safe || (s.cxJob engine).isSome || !bitAt s.cx.insvc engine then .next s
  else match s.cx.reruns with
    | j :: js => .next ((s.setCxJob engine (some j)).modCx fun c => { c with reruns := js })
    | [] =>
      match s.cxPick (s.cx.rings.length + 1) [] s.chunkWaits with
      | (none, w) => .next (s.modCx fun c => { c with waits := w })
      | (some k, w) => .next (s.cxTake engine k w)

/-! The operations. -/

/-- The poisoned input of a descriptor (R395). -/
def State.cxPoison (s : State) (d : CxDesc) : Option Nat :=
  lowest [(s.readPoison d.src d.srcLen, 1), (d.isAead && s.readPoison d.aux d.aadLen, 3), (d.usesIv && s.readPoison d.iva 16, 4),
          (d.usesCtx && !d.first && s.readPoison d.aux 256, 5)]

/-- The halves of an XTS key (R383). -/
def KeySlot.halves (k : KeySlot) : List Byte × List Byte := (k.key.take (k.key.length / 2), k.key.drop (k.key.length / 2))

/-- Output written, with what completion still writes. -/
def State.cxWrite (s : State) (i : Nat) (d : CxDesc) (out : List Byte) (tail : Option (Nat × List Byte)) : Option (CxResult × State) :=
  (s.devWrite (0x990 + i) d.dst out).map fun s => ({ status := 0, produced := out.length, detail := 0, tail := tail }, s)

/-- The 16-byte IV block. -/
def State.ivBlock (s : State) (d : CxDesc) : List Byte := s.devBytes d.iva 16

/-- The last 16 bytes of a string, or a block where it is empty. -/
def lastBlock (bs iv : List Byte) : List Byte := if bs.isEmpty then iv else bs.drop (bs.length - 16)

/-- The nonce that hardware forms (R386). -/
def formedNonce (key : KeySlot) (invoc : Word) : List Byte := bytesOf 4 key.fixed.toNat ++ wordBytes invoc

/-- ENCRYPT on a latched descriptor (R381, R386, R390). -/
def State.encryptDesc (s : State) (i : Nat) (d : CxDesc) (key : KeySlot) (invoc : Word) : Option (CxResult × State) :=
  let inp := s.devBytes d.src d.srcLen
  let aad := s.devBytes d.aux d.aadLen
  let iv := s.ivBlock d
  let nonce := formedNonce key invoc
  match d.alg with
  | 1 => s.cxWrite i d (ecbEnc key.key (if d.last then pkcs7 inp else inp)) none
  | 2 =>
    let ct := cbcEnc key.key iv (if d.last then pkcs7 inp else inp)
    s.cxWrite i d ct (some (d.iva, lastBlock ct iv))
  | 3 => s.cxWrite i d (ctrMode key.key iv inp) (some (d.iva, ctrAdd iv ((d.srcLen + 15) / 16)))
  | 4 =>
    let ct := gcmCrypt key.key nonce inp
    s.cxWrite i d (ct ++ (gcmTag key.key nonce aad ct).take d.tagLen) none
  | 5 => s.cxWrite i d (ccmCrypt key.key nonce inp ++ ccmTag key.key nonce aad inp d.tagLen) none
  | _ => s.cxWrite i d (xts true key.halves.1 key.halves.2 iv inp) none

/-- Padding removed at the end of an ECB or CBC message (R381); a bad one is PAD_ERROR. -/
def State.finishPadded (s : State) (i : Nat) (d : CxDesc) (pt : List Byte) (tail : Option (Nat × List Byte)) : Option (CxResult × State) :=
  if d.last then
    match unpad pt with
    | some m => s.cxWrite i d m tail
    | none => some (cxFail 6 0, s)
  else s.cxWrite i d pt tail

/-- Bytes masked as they stand in the staging area from an address on (R392). -/
def masked (key : Word) : Nat → List Byte → List Byte
  | _, [] => []
  | a, b :: bs => (b ^^^ Config.stagingStream key a) :: masked key (a + 1) bs

/-- The staging phase (R392): the plaintext is written, masked, to the chunks in order. -/
def State.stage (s : State) (i : Nat) : List Nat → List Byte → Option State
  | [], _ => some s
  | c :: cs, bs => (s.devWrite (0x990 + i) (chunkAt c) (masked s.cx.stagingKey (chunkAt c) (bs.take 65536))).bind fun s => State.stage s i cs (bs.drop 65536)

/-- The two phases of an authenticated decryption (R392): the plaintext goes to DST only when the tags match. -/
def State.releaseStaged (s : State) (i : Nat) (d : CxDesc) (cs : List Nat) (pt : List Byte) (ok : Bool) : Option (CxResult × State) :=
  (s.stage i cs pt).bind fun s => if ok then s.cxWrite i d pt none else some (cxFail 1 0, s)

/-- DECRYPT on a latched descriptor (R381, R390, R392). -/
def State.decryptDesc (s : State) (i : Nat) (d : CxDesc) (cs : List Nat) (key : KeySlot) : Option (CxResult × State) :=
  let inp := s.devBytes d.src d.srcLen
  let aad := s.devBytes d.aux d.aadLen
  let iv := s.ivBlock d
  let nonce := iv.take 12
  let msg := inp.take d.msgLen
  let tag := inp.drop d.msgLen
  match d.alg with
  | 1 => s.finishPadded i d (ecbDec key.key inp) none
  | 2 => s.finishPadded i d (cbcDec key.key iv inp) (some (d.iva, lastBlock inp iv))
  | 3 => s.cxWrite i d (ctrMode key.key iv inp) (some (d.iva, ctrAdd iv ((d.srcLen + 15) / 16)))
  | 4 => s.releaseStaged i d cs (gcmCrypt key.key nonce msg) ((gcmTag key.key nonce aad msg).take d.tagLen == tag)
  | 5 =>
    let pt := ccmCrypt key.key nonce msg
    s.releaseStaged i d cs pt (ccmTag key.key nonce aad pt d.tagLen == tag)
  | _ => s.cxWrite i d (xts false key.halves.1 key.halves.2 iv inp) none

/-- The MAC of a message (R381). -/
def macOf (d : CxDesc) (key : KeySlot) (msg : List Byte) : List Byte :=
  (if d.alg = 7 then cmac key.key msg else hmac d.hash key.key msg).take d.tagLen

/-- MAC on a latched descriptor (R381). -/
def State.macDesc (s : State) (i : Nat) (d : CxDesc) (key : KeySlot) : Option (CxResult × State) :=
  s.cxWrite i d (macOf d key (s.devBytes d.src d.srcLen)) none

/-- VERIFY on a latched descriptor (R392): it writes nothing. -/
def State.verifyDesc (s : State) (d : CxDesc) (key : KeySlot) : Option (CxResult × State) :=
  let inp := s.devBytes d.src d.srcLen
  let ok := macOf d key (inp.take d.msgLen) == inp.drop d.msgLen
  some ({ status := if ok then 0 else 1, produced := 0, detail := 0, tail := none }, s)

/-- Why a SHA context is refused (R393): DETAIL. -/
def shaCheck (b : List Byte) (d : CxDesc) : Option Nat :=
  lowest [(dnum b 0 4 != 0x5A434853 || BitVec.ofNat 32 (dnum b 0xFC 4) != crc32c (b.take 0xFC), 1), (dnum b 4 1 != d.alg, 2), (dnum b 5 1 != 1, 3),
          (decide (d.hash.blockBytes ≤ dnum b 0x18 4), 4)]

/-- A SHA context block (R393). -/
def shaContext (d : CxDesc) (ended : Bool) (total : Nat) (h : List Nat) (buf : List Byte) : List Byte :=
  let body := bytesOf 4 0x5A434853 ++ [BitVec.ofNat 8 d.alg, if ended then 2 else 1, 0, 0] ++ bytesOf 16 total ++ bytesOf 4 buf.length ++ bytesOf 4 0 ++
    padTo 64 (shaBytes d.hash h) ++ padTo 128 buf ++ List.replicate 28 0
  body ++ bytesOf 4 (crc32c body).toNat

/-- The chaining value of a context block. -/
def shaChain (d : CxDesc) (b : List Byte) : List Nat := (chunks (d.hash.w / 8) ((b.drop 0x20).take (d.hash.w))).map natOf

/-- HASH on a descriptor (R381, R393). -/
def State.hashDesc (s : State) (i : Nat) (d : CxDesc) : Option (CxResult × State) :=
  let b := s.devBytes d.aux 256
  match (if d.first then none else shaCheck b d) with
  | some n => some (cxFail 0xA n, s)
  | none =>
    let k := d.hash
    let (total, h, buf) := if d.first then (0, k.h0, []) else (dnum b 8 16, shaChain d b, (b.drop 0x60).take (dnum b 0x18 4))
    let inp := buf ++ s.devBytes d.src d.srcLen
    let total := total + d.srcLen
    let n := inp.length / k.blockBytes * k.blockBytes
    let h1 := shaBlocks k h (inp.take n)
    let rest := inp.drop n
    let (out, h2, rest2) :=
      if d.last then
        let h2 := shaBlocks k h1 (rest ++ shaPad k total)
        ((shaBytes k h2).take k.out, h2, [])
      else ([], h1, rest)
    s.cxWrite i d out (if d.usesCtx then some (d.aux, shaContext d d.last total h2 rest2) else none)

/-- A row of an operation: it runs when the engine has a latched descriptor of it that has no result yet. -/
def cxRow (op : Nat) (run : CxJob → CxDesc → State → Option (CxResult × State)) (i : Nat) (s : State) : Out :=
  match s.cxJob i with
  | none => .next s
  | some j =>
    let d := cxDesc j.desc
    if s.weir.safe || j.result.isSome || j.erased || j.aborted || d.op != op then .next s
    else
      let r := match s.cxPoison d with
        | some n => some (cxFail 9 n, s)
        | none => run j d s
      orSame s (r.map fun (r, s) => s.setCxJob i (some { j with result := some r }))

/-- The key of a job; the row of a keyed operation meets none without one. -/
def withKey (j : CxJob) (f : KeySlot → Option (CxResult × State)) : Option (CxResult × State) := j.key.bind f

/-- ENCRYPT (R386). -/
def execEncrypt (engine : Fin 8) (s : State) : Out :=
  cxRow 1 (fun j d s => withKey j fun key => s.encryptDesc engine d key (j.invoc.getD 0)) engine s

/-- DECRYPT (R392). -/
def execDecrypt (engine : Fin 8) (s : State) : Out := cxRow 2 (fun j d s => withKey j fun key => s.decryptDesc engine d j.chunks key) engine s

/-- MAC (R381). -/
def execMacTag (engine : Fin 8) (s : State) : Out := cxRow 3 (fun j d s => withKey j fun key => s.macDesc engine d key) engine s

/-- VERIFY (R392). -/
def execMacVerify (engine : Fin 8) (s : State) : Out := cxRow 4 (fun j d s => withKey j fun key => s.verifyDesc d key) engine s

/-- HASH (R393). -/
def execHashSha (engine : Fin 8) (s : State) : Out := cxRow 5 (fun _ d s => s.hashDesc engine d) engine s

/-! Completion (R394-R397). -/

/-- A completion record (R394). -/
def CxResult.bytes (r : CxResult) (j : CxJob) (phase : Bool) (engine : Nat) : List Byte :=
  (j.desc.drop 0x30).take 8 ++ [r.status, (if phase then 1 else 0) ||| (if j.rerun then 2 else 0), BitVec.ofNat 8 engine, j.desc.getD 3 0] ++
  bytesOf 4 r.produced ++ wordBytes (j.invoc.getD 0) ++ bytesOf 4 r.detail.toNat ++ bytesOf 4 0

/-- The chunks of a descriptor zeroed (R392, R396). -/
def State.zeroChunks (s : State) (i : Nat) : List Nat → Option State
  | [] => some s
  | c :: cs => (s.devWrite (0x990 + i) (chunkAt c) (List.replicate 65536 0)).bind fun s => State.zeroChunks s i cs

/-- The chunks zeroed, the record of a descriptor written, its chunks and its engine free (R368, R392); none where its slot is gone with its ring (R483). -/
def State.cxRecord (s : State) (i : Nat) (j : CxJob) (r : CxResult) : Option State :=
  (s.zeroChunks i j.chunks).bind fun s =>
  let q := s.cxRing j.slice
  if q.taken = 0 then some (s.setCxJob i none)
  else (s.devWrite (0x990 + i) (q.cqAddr + 32 * q.cqTail) (r.bytes j q.phase i)).map fun s => (s.setCxRing j.slice q.push).setCxJob i none

/-- Whether the bytes of the destination are undefined after a result (R395): an authenticated decryption and VERIFY write none (R392), nor does a descriptor that has not latched (R385, R386, R389). -/
def CxResult.undefinedOut (r : CxResult) (d : CxDesc) : Bool :=
  (r.status == 6 || r.status == 8 || r.status == 9 || r.status == 0xA) && d.op != 4 && !(d.isAead && d.op == 2)

/-- The bytes of the destination as a result leaves them: free values where they are undefined (R395) and the slice may write them (R389). -/
def State.cxLeave (s : State) (i k : Nat) (d : CxDesc) (r : CxResult) : Option State :=
  if r.undefinedOut d && s.granted k d.dst d.dstLen then s.scramble (0x990 + i) d.dst d.dstLen else some s

/-- A descriptor that is ended: zeros over every byte that it has written (R396). -/
def State.cxEnd (s : State) (i : Nat) (j : CxJob) (status : Byte) : Option State :=
  let n := match j.result with | some r => r.produced | none => 0
  (s.devWrite (0x990 + i) (cxDesc j.desc).dst (List.replicate n 0)).bind fun s => s.cxRecord i j (cxFail status 0)

/-- A descriptor is run again (R397), with its latched key and INVOC: on the same engine, or on the next one in service that is free when that engine has left service. -/
def State.cxAgain (s : State) (i : Nat) (j : CxJob) : State :=
  if bitAt s.cx.insvc i then s.setCxJob i (some j) else (s.setCxJob i none).modCx fun c => { c with reruns := c.reruns ++ [j] }

/-- CX_COMPLETE (R390, R393, R394, R396, R397): check tells of a check failure inside the engine. -/
def execCxComplete (engine : Fin 8) (check : Bool) (s : State) : Out :=
  match s.cxJob engine with
  | none => .next s
  | some j =>
    if s.weir.safe then .next s
    else if j.erased then orSame s (s.cxEnd engine j 5)
    else if j.aborted then orSame s (s.cxEnd engine j 0xC)
    else if check then
      let s' := s.report (0x990 + engine) .corrected none 0
      if j.rerun || !s.mayRetry (0x990 + engine) then orSame s (s'.cxEnd engine j 0xB)
      else .next (s'.cxAgain engine { j with
        rerun := true, result := match j.result with | some r => if r.status.toNat ∈ [2, 3, 4, 7, 8] then some r else none | none => none })
    else match j.result with
      | none => .next s
      | some r =>
        orSame s (((s.cxLeave engine j.slice (cxDesc j.desc) r).bind fun s => match r.tail with
          | some (a, bs) => s.devWrite (0x990 + engine) a bs
          | none => some s).bind fun s => s.cxRecord engine j r)

/-- An engine leaves service (R397, R410). -/
def State.cxWithdraw (s : State) (i : Nat) : State := s.modCx fun c => { c with insvc := putFld c.insvc i (0 : BitVec 1) }

end Sys2Proof.Machine
end

