-- ==== Sys2Proof/Machine/Deflate.lean ====
section
/-! DEFINITION. Writing DEFLATE streams (15 R373; RFC 1951): the symbols of a block, the three kinds of block, and the bits that they take. -/

namespace Sys2Proof.Machine

/-! Symbols. -/

/-- Whether a match of a length and a distance stands at place i of some bytes (R373, RFC 1951). -/
def matchAt (w : List Byte) (i len dist : Nat) : Bool :=
  decide (3 ≤ len) && decide (len ≤ 258) && decide (1 ≤ dist) && decide (dist ≤ 32768) && decide (dist ≤ i) && decide (i + len ≤ w.length) &&
    (w.drop i).take len == (w.drop (i - dist)).take len

/-- The symbols for the bytes of w from place i on: where the engine finds a match it writes that, and a literal otherwise; which matches it finds is a free value (log 41). Fuel counts the bytes. -/
def parseFrom (level : Nat) (w : List Byte) : Nat → Nat → List LzSym
  | 0, _ => []
  | fuel + 1, i =>
    match w[i]? with
    | none => []
    | some b =>
      let m := if level = 0 then (0, 0) else Config.deflateMatch level (w.take i) (w.drop i)
      if matchAt w i m.1 m.2 then .copy m.1 m.2 :: parseFrom level w fuel (i + m.1) else .lit b :: parseFrom level w fuel (i + 1)

/-- The most symbols of a block (R373). -/
def blockMax : Nat := 8192

/-- Blocks of 8,192 symbols, and the block that stays open; fuel counts the symbols. -/
def cutBlocks : Nat → List LzSym → List (List LzSym) × List LzSym
  | 0, xs => ([], xs)
  | fuel + 1, xs =>
    if xs.length < blockMax then ([], xs)
    else
      let (bs, rest) := cutBlocks fuel (xs.drop blockMax)
      (xs.take blockMax :: bs, rest)

/-! Bits. -/

/-- n bits of a number, the least significant first. -/
def lowBits (n v : Nat) : List Bool := (List.range n).map (fun i => v.testBit i)

/-- Bits filled with zeros up to a byte. -/
def padBits (bs : List Bool) : List Bool := bs ++ List.replicate ((8 - bs.length % 8) % 8) false

/-- The bits of bytes. -/
def byteBits (bs : List Byte) : List Bool := bs.flatMap (fun b => lowBits 8 b.toNat)

/-- The number that bits spell, the least significant first. -/
def bitsNat : List Bool → Nat
  | [] => 0
  | b :: bs => (if b then 1 else 0) + 2 * bitsNat bs

/-- The whole bytes of a string of bits, and the bits that are left; fuel counts the bytes. -/
def packBits : Nat → List Bool → List Byte × List Bool
  | 0, bs => ([], bs)
  | fuel + 1, bs =>
    if bs.length < 8 then ([], bs)
    else
      let (ys, rest) := packBits fuel (bs.drop 8)
      (BitVec.ofNat 8 (bitsNat (bs.take 8)) :: ys, rest)

/-! Codes. -/

/-- The length and the value of the k-th symbol of a canonical code, from the counts of its lengths. -/
def codeAt : List Nat → Nat → Nat → Nat → Nat → Option (Nat × Nat)
  | [], _, _, _, _ => none
  | c :: cs, len, first, index, k => if k < index + c then some (len, first + (k - index)) else codeAt cs (len + 1) (2 * (first + c)) (index + c) k

/-- The bits of a symbol in a code, the most significant first (RFC 1951); none for a symbol without a code. -/
def Huffman.bits (h : Huffman) (v : Nat) : Option (List Bool) :=
  (h.symbols.findIdx? (· == v)).bind fun k =>
    (codeAt (h.counts.drop 1) 1 0 0 k).map fun p => (List.range p.1).map (fun i => p.2.testBit (p.1 - 1 - i))

/-- The last code whose base is not above a value: its number, base and extra bits. -/
def codeFor (codes : List (Nat × Nat)) (v : Nat) : Nat × Nat × Nat :=
  (((List.range codes.length).zip codes).filter (fun p => decide (p.2.1 ≤ v))).getLast?.getD (0, 0, 0)

/-- The bits of a symbol of a block. -/
def LzSym.bits (ll dd : Huffman) : LzSym → Option (List Bool)
  | .lit b => ll.bits b.toNat
  | .copy len dist =>
    let l := codeFor lengthCodes len
    let d := codeFor distanceCodes dist
    (ll.bits (257 + l.1)).bind fun x => (dd.bits d.1).map fun y => x ++ lowBits l.2.2 (len - l.2.1) ++ y ++ lowBits d.2.2 (dist - d.2.1)

/-- The bits of a block's symbols and of its end; none when a symbol has no code. -/
def symbolBits (ll dd : Huffman) : List LzSym → Option (List Bool)
  | [] => ll.bits 256
  | x :: xs => (x.bits ll dd).bind fun a => (symbolBits ll dd xs).map fun b => a ++ b

/-! Blocks. -/

/-- The byte of a literal; level 0 has no other symbols. -/
def LzSym.byte : LzSym → Byte
  | .lit b => b
  | .copy _ _ => 0

/-- A stored block after some bits (RFC 1951). -/
def storedAfter (acc : List Bool) (final : Bool) (bs : List Byte) : List Bool :=
  padBits (acc ++ [final, false, false]) ++ lowBits 16 bs.length ++ lowBits 16 (65535 - bs.length) ++ byteBits bs

/-- A block with the fixed codes. -/
def fixedAfter (acc : List Bool) (final : Bool) (xs : List LzSym) : List Bool :=
  acc ++ [final, true, false] ++ (symbolBits (huffman fixedLengths) (huffman (List.replicate 30 5)) xs).getD []

/-- The codes that a dynamic block's header gives, when its bits are those of one (RFC 1951). -/
def headerCodes (hdr : List Bool) : Option (Huffman × Huffman) :=
  match dynamicCodes { inp := (packBits hdr.length (padBits hdr)).1, pos := 0, out := [], cap := 0 } with
  | .ok p x => if x.pos = hdr.length then some p else none
  | .error _ _ => none

/-- A header that gives every symbol a code: 226 codes of 8 bits and 60 of 9, and distance codes of 4 and 5 bits. -/
def plainHeader : List Bool :=
  let lens := List.replicate 226 8 ++ List.replicate 60 9 ++ List.replicate 2 4 ++ List.replicate 28 5
  let cl := (List.range 19).map (fun i => if i = 4 ∨ i = 5 ∨ i = 8 ∨ i = 9 then 2 else 0)
  lowBits 5 29 ++ lowBits 5 29 ++ lowBits 4 8 ++ (codeOrder.take 12).flatMap (fun i => lowBits 3 (cl.getD i 0)) ++
    lens.flatMap (fun l => ((huffman cl).bits l).getD [])

/-- A dynamic block's header and symbols: the header is the engine's where it gives every symbol of the block a code; which codes the engine chooses is a free value (log 41). -/
def dynamicBits (xs : List LzSym) : List Bool :=
  let try_ := fun (hdr : List Bool) => (headerCodes hdr).bind fun p => (symbolBits p.1 p.2 xs).map fun b => hdr ++ b
  match try_ (Config.deflateHeader (xs.map LzSym.pair)) with
  | some bs => bs
  | none => (try_ plainHeader).getD []

/-- A block of a level after some bits (R369): stored, with fixed codes, or with dynamic ones. -/
def blockAfter (level : Nat) (final : Bool) (acc : List Bool) (xs : List LzSym) : List Bool :=
  match level with
  | 0 => storedAfter acc final (xs.map LzSym.byte)
  | 1 => fixedAfter acc final xs
  | _ => acc ++ [final, false, true] ++ dynamicBits xs

/-- What a descriptor adds to a stream (R373): the blocks that are full; with FLUSH the open block, if it holds a symbol, and an empty stored block; with LAST the open block as the final one. The open block's symbols are what is left (log 41). -/
def deflateBits (level : Nat) (flush last : Bool) (acc : List Bool) (xs : List LzSym) : List Bool × List LzSym :=
  let (full, rest) := cutBlocks xs.length xs
  let acc := full.foldl (blockAfter level false) acc
  let (acc, rest) := if flush then (storedAfter (if rest.isEmpty then acc else blockAfter level false acc rest) false [], []) else (acc, rest)
  if last then (padBits (blockAfter level true acc rest), []) else (acc, rest)

end Sys2Proof.Machine
end

