-- ==== Sys2Proof/Machine/Compress.lean ====
section
/-! DEFINITION. The compression unit (15 R363-R380). -/

namespace Sys2Proof.Machine

/-- The unit changed. -/
def State.modCz (s : State) (f : Cz → Cz) : State := { s with cz := f s.cz }

/-- The rings of a slice. -/
def State.czRing (s : State) (k : Nat) : RingPair := lookupD s.cz.rings k RingPair.reset

/-- The rings of a slice replaced. -/
def State.setCzRing (s : State) (k : Nat) (r : RingPair) : State := s.modCz fun c => { c with rings := assoc c.rings k r }

/-- The job of an engine. -/
def State.czJob (s : State) (i : Nat) : Option CzJob := s.cz.engines.getD i none

/-- The job of an engine replaced. -/
def State.setCzJob (s : State) (i : Nat) (j : Option CzJob) : State := s.modCz fun c => { c with engines := c.engines.set i j }

/-- Every descriptor in progress changed, those that wait to be run again among them. -/
def Cz.mapJobs (c : Cz) (f : CzJob → CzJob) : Cz := { c with engines := c.engines.map (Option.map f), reruns := c.reruns.map f }

/-- TAIL of CZSQP written (R366). -/
def State.writeCzTail (s : State) (k : Nat) (tail : Half) : State := s.setCzRing k { s.czRing k with sqTail := tail }

/-- CZ_SUBMIT (R366). -/
def execCzSubmit (slice : Nat) (tail : BitVec 16) (s : State) : Out :=
  if 1024 ≤ slice then .refused .illFormed else portRow (.cz slice 1) (fun s => .next (s.writeCzTail slice tail)) s

/-- CZCTL written (R365, R380): EN = 0 stops the slice's descriptors. -/
def State.writeCzCtl (s : State) (k : Nat) (v : Word) : State :=
  let s := s.setCzRing k (s.writeRingCtl k (s.czRing k) v)
  if bitAt v 0 then s
  else s.modCz fun c => c.mapJobs fun j => if j.slice == k then { j with aborted := true } else j

/-- CZ_ENABLE (R365). -/
def execCzEnable (slice : Nat) (v : Word) (s : State) : Out :=
  if decide (1024 ≤ slice) || !bitAt v 0 then .refused .illFormed else portRow (.cz slice 4) (fun s => .next (s.writeCzCtl slice v)) s

/-- CZ_DISABLE (R380). -/
def execCzDisable (slice : Nat) (v : Word) (s : State) : Out :=
  if decide (1024 ≤ slice) || bitAt v 0 then .refused .illFormed else portRow (.cz slice 4) (fun s => .next (s.writeCzCtl slice v)) s

/-! The descriptor (R369, R370). -/

/-- A compression descriptor. -/
structure CzDesc where
  op : Nat
  fmt : Nat
  flags : Nat
  level : Nat
  ngth : Nat
  src : Nat
  srcLen : Nat
  dstLen : Nat
  dst : Nat
  ctxa : Nat
  zeros : Bool
  deriving DecidableEq, Repr

def CzDesc.first (d : CzDesc) : Bool := d.flags % 2 == 1
def CzDesc.last (d : CzDesc) : Bool := d.flags / 2 % 2 == 1
def CzDesc.flush (d : CzDesc) : Bool := d.flags / 4 % 2 == 1
def CzDesc.ctx (d : CzDesc) : Bool := d.flags / 8 % 2 == 1

/-- The descriptor that 64 bytes spell (R369). -/
def czDesc (b : List Byte) : CzDesc :=
  { op := dnum b 0 1, fmt := dnum b 1 1, flags := dnum b 2 1, level := dnum b 3 1, ngth := dnum b 4 2, src := dnum b 8 8, srcLen := dnum b 0x10 4,
    dstLen := dnum b 0x14 4, dst := dnum b 0x18 8, ctxa := dnum b 0x20 8, zeros := dnum b 6 2 == 0 && dnum b 0x30 16 == 0 }

/-- The size of a context block (R371). -/
def ctxBytes : Nat := 69632

/-- The checks of R370, with their DETAIL. -/
def CzDesc.checks (d : CzDesc) : List (Bool × Nat) :=
  let whole := d.first && d.last
  [(d.op != 1 && d.op != 2, 1), (decide (2 < d.fmt), 2), (decide (2 < d.level) || (d.op == 2 && d.level != 0), 3),
   (decide (16 ≤ d.flags) || (!d.ctx && !whole) || (d.op == 2 && d.flush), 4),
   (decide (256 < d.ngth) || (d.ngth != 0 && (d.op == 2 || !whole)), 5),
   (decide (0x1000000 < d.srcLen) || decide (0x1000000 < d.dstLen), 6),
   (anyOverlap [(d.src, d.srcLen), (d.dst, d.dstLen), (d.ctxa, if d.ctx then ctxBytes else 0)], 7), (!d.zeros, 8)]

/-- The ranges of a descriptor (R370). -/
def State.czRanges (s : State) (k : Nat) (d : CzDesc) : List (Bool × Nat) :=
  [(!s.granted k d.src d.srcLen, 1), (!s.granted k d.dst d.dstLen, 2), (d.ctx && !s.granted k d.ctxa ctxBytes, 3)]

/-- A result without data. -/
def czFail (status : Byte) (detail : Nat) : CzResult :=
  { status := status, ended := false, consumed := 0, produced := 0, crc := 0, wchk := 0, detail := BitVec.ofNat 32 detail, ctx := none }

/-- What the checks before any input say: BAD_DESC, then ADDRESS (R370). -/
def State.czCheck (s : State) (k : Nat) (d : CzDesc) : Option CzResult :=
  match lowest d.checks with
  | some n => some (czFail 7 n)
  | none => (lowest (s.czRanges k d)).map (czFail 8)

/-- Whether the context that a descriptor names is in use (R367). -/
def State.ctxBusy (s : State) (d : CzDesc) : Bool :=
  d.ctx && (s.cz.engines.filterMap id ++ s.cz.reruns).any (fun j => (czDesc j.desc).ctx && (czDesc j.desc).ctxa == d.ctxa)

/-- An engine takes the descriptor at HEAD of a slice (R366, R370). -/
def State.czTake (s : State) (i k : Nat) : State :=
  let r := s.czRing k
  let (b, s) := s.readDesc r
  if s.ctxBusy (czDesc b) then s
  else
    let j : CzJob := { slice := k, desc := b, rerun := false, aborted := false, beat := s.beatc, result := s.czCheck k (czDesc b), input := [], syms := [] }
    ((s.setCzRing k r.fetch).setCzJob i (some j)).modCz fun c => { c with last := k }

/-- CZ_DESCRIPTOR_FETCH (R366, R367, R370): a descriptor that waits to be run again goes first (R379). -/
def execCzDescriptorFetch (engine : Fin 4) (s : State) : Out :=
  if s.weir.safe || (s.czJob engine).isSome || !bitAt s.cz.insvc engine then .next s
  else match s.cz.reruns with
    | j :: js => .next ((s.setCzJob engine (some j)).modCz fun c => { c with reruns := js })
    | [] =>
      match nextSlice s.cz.rings s.cz.last (fun k r => r.hasWork && s.sliceFetches k && !s.ctxBusy (czDesc (s.headDesc r))) with
      | none => .next s
      | some k => .next (s.czTake engine k)

/-! Contexts (R371, R372). -/

/-- Why a context block is refused (R372): DETAIL. -/
def ctxCheck (b : List Byte) (d : CzDesc) : Option Nat :=
  lowest
    [(dnum b 0 4 != 0x5A437478 || BitVec.ofNat 32 (dnum b 0x30 4) != crc32c (b.take 0x30), 1),
     (dnum b 4 1 != d.op || dnum b 5 1 != d.fmt || dnum b 6 1 != d.level, 2), (dnum b 7 1 != 1, 3),
     (decide (32768 < dnum b 0x1C 4) || decide (63 < dnum b 0x20 4) || decide (8192 < dnum b 0x24 4), 4)]

/-- The check value of a wrapper over bytes, continued (R376). -/
def wchkFrom (fmt : Nat) (v : Word32) (bs : List Byte) : Word32 := if fmt = 1 then adlerFrom v bs else if fmt = 2 then crc32From v bs else 0

/-- The check value before any byte. -/
def wchkStart (fmt : Nat) : Word32 := if fmt = 1 then 1 else 0

/-- A context block (R371): the fields that the spec gives, around WORK and SYMS, which the engine keeps for itself. -/
def ctxBlock (d : CzDesc) (ended : Bool) (totIn totOut : Nat) (wchk : Word32) (hist : List Byte) (pend : List Bool) (nsym : Nat) (work : List Byte) : List Byte :=
  let head := bytesOf 4 0x5A437478 ++ [BitVec.ofNat 8 d.op, BitVec.ofNat 8 d.fmt, BitVec.ofNat 8 d.level, if ended then 2 else 1] ++
    bytesOf 8 totIn ++ bytesOf 8 totOut ++ bytesOf 4 wchk.toNat ++ bytesOf 4 hist.length ++ bytesOf 4 pend.length ++ bytesOf 4 nsym ++
    bytesOf 8 (bitsNat pend)
  head ++ bytesOf 4 (crc32c head).toNat ++ padTo 4044 work ++ padTo 32768 hist ++ padTo 32768 (work.drop 4044)

/-- The history of a block. -/
def ctxHist (b : List Byte) : List Byte := (b.drop 0x1000).take (dnum b 0x1C 4)

/-- The last 32,768 bytes. -/
def lastWindow (bs : List Byte) : List Byte := bs.drop (bs.length - 32768)

/-! COMPRESS (R373, R375, R376). -/

/-- The header of a wrapper (R373). -/
def wrapHeader (d : CzDesc) : List Byte :=
  match d.fmt with
  | 1 => if d.level = 0 then [0x78, 0x01] else if d.level = 1 then [0x78, 0x5E] else [0x78, 0x9C]
  | 2 => [0x1F, 0x8B, 8, 0, 0, 0, 0, 0, 0, 0xFF]
  | _ => []

/-- The trailer of a wrapper (R373). -/
def wrapTrailer (fmt : Nat) (wchk : Word32) (isize : Nat) : List Byte :=
  match fmt with
  | 1 => bytesOf 4 wchk.toNat
  | 2 => (bytesOf 4 wchk.toNat).reverse ++ (bytesOf 4 (isize % 2 ^ 32)).reverse
  | _ => []

/-- The context block that a descriptor starts from: none for a fresh stream. -/
def State.czContext (s : State) (d : CzDesc) : Option (List Byte) := if d.ctx && !d.first then some (s.devBytes d.ctxa ctxBytes) else none

/-- Poison of the source, then of the context (R378). -/
def State.czPoison (s : State) (d : CzDesc) : Option CzResult :=
  if s.readPoison d.src d.srcLen then some (czFail 9 1)
  else if d.ctx && !d.first && s.readPoison d.ctxa ctxBytes then some (czFail 9 3)
  else none

/-- What stops a descriptor before its data are worked on: poison, or its context (R372). -/
def State.czBlocked (s : State) (d : CzDesc) : Option CzResult :=
  match s.czPoison d with
  | some r => some r
  | none => (s.czContext d).bind (fun b => (ctxCheck b d).map (czFail 0xA))

/-- The bits and the open block that a compression goes on from: those of the context block as the engine wrote it, none for a fresh stream; and none at all for a block that something else has stored into (R372). -/
def State.openBlock (s : State) (ctx : List Byte) : Option (List Bool × List LzSym) :=
  if ctx.isEmpty then some ([], [])
  else (s.cz.streams.find? (fun x => x.block == ctx)).map fun x => (lowBits (dnum ctx 0x20 4) (dnum ctx 0x28 8), x.syms)

/-- What a compression produces: its bytes, the bits that are pending, and the open block (R373). -/
structure Deflated where
  out : List Byte
  pend : List Bool
  syms : List LzSym
  nsym : Nat
  deriving DecidableEq, Repr

/-- The wrapper's header, the blocks and the trailer for an input (R373). A block that something else has stored into gives bytes that the spec leaves open (R372). -/
def State.deflated (s : State) (d : CzDesc) (ctx inp trailer : List Byte) : Deflated :=
  let head := if ctx.isEmpty then wrapHeader d else []
  match s.openBlock ctx with
  | some (pend, syms) =>
    let w := ctxHist ctx ++ inp
    let new := parseFrom d.level w inp.length (ctxHist ctx).length
    let (bits, rest) := deflateBits d.level d.flush d.last (byteBits head ++ pend) (syms ++ new)
    let (out, left) := packBits bits.length bits
    { out := out ++ trailer, pend := left, syms := rest, nsym := rest.length }
  | none =>
    let v := Config.deflateState ctx d.level inp d.flush d.last
    { out := Config.deflate ctx d.level inp d.flush d.last ++ trailer, pend := lowBits (natOf (v.take 1) % 64) (natOf ((v.drop 1).take 8)), syms := [],
      nsym := natOf ((v.drop 9).take 2) % 8193 }

/-- COMPRESS on a descriptor (R373), with the symbols of the block that stays open. -/
def State.compress (s : State) (i : Nat) (d : CzDesc) : Option (CzResult × List LzSym × State) :=
  match s.czBlocked d with
  | some r => some (r, [], s)
  | none =>
    let ctx := (s.czContext d).getD []
    let inp := s.devBytes d.src d.srcLen
    let fresh := ctx.isEmpty
    let totIn := (if fresh then 0 else dnum ctx 8 8) + d.srcLen
    let wchk := wchkFrom d.fmt (if fresh then wchkStart d.fmt else BitVec.ofNat 32 (dnum ctx 0x18 4)) inp
    let x := s.deflated d ctx inp (if d.last then wrapTrailer d.fmt wchk totIn else [])
    let p := x.out.length
    let r := { czFail 0 0 with consumed := d.srcLen, crc := crc32c inp, wchk := wchk }
    if d.ngth ≠ 0 ∧ d.srcLen * d.ngth < p * 256 then some ({ r with status := 1 }, [], s)
    else if d.dstLen < p then some ({ r with status := 2 }, [], s)
    else
      let totOut := (if fresh then 0 else dnum ctx 16 8) + p
      let block := ctxBlock d d.last totIn totOut wchk (lastWindow (ctxHist ctx ++ inp)) x.pend x.nsym (Config.deflateState ctx d.level inp d.flush d.last)
      (s.devWrite (0x980 + i) d.dst x.out).map fun s => ({ r with produced := p, ctx := if d.ctx then some block else none }, x.syms, s)

/-! DECOMPRESS (R374). -/

/-- What a decompression stream has consumed before (R371): that of the block as the engine wrote it, or free bytes for a block that something else has stored into (R372). -/
def State.streamInput (s : State) (b : List Byte) : List Byte × State :=
  match s.cz.streams.find? (fun x => x.block == b) with
  | some x => (x.input, s)
  | none => s.freeBytes (dnum b 8 8)

/-- The status of a stop (R374, R378), for a stop inside the bytes of this descriptor. -/
def stopStatus (last : Bool) (base pos : Nat) : Option InfStop → Byte × Nat
  | none => (0, 0)
  | some .more => (if last then 6 else 0, 0)
  | some .full => (2, 0)
  | some .data => (3, pos / 8 - base)
  | some .header => (4, 0)
  | some (.check n) => (5, n)

/-- DECOMPRESS on a descriptor (R374). How far the engine reads ahead of the bits it has used is left to it, up to 63 bits (R371). -/
def State.decompress (s : State) (i : Nat) (d : CzDesc) : Option (CzResult × List Byte × State) :=
  match s.czBlocked d with
  | some r => some (r, [], s)
  | none =>
    let ctx := (s.czContext d).getD []
    let (old, s) := if ctx.isEmpty then ([], s) else s.streamInput ctx
    let (ahead, s) := s.takeFree
    let inp := s.devBytes d.src d.srcLen
    let skip := if ctx.isEmpty then 0 else dnum ctx 16 8
    let (stop, x) := inflate d.fmt (old ++ inp) (skip + d.dstLen)
    let used := (x.pos + 7) / 8 - old.length
    let consumed := match stop with
      | none => used
      | some .more => d.srcLen
      | _ => min d.srcLen (used + ahead.toNat % 8)
    let new := x.out.drop skip
    let wchk := wchkFrom d.fmt (wchkStart d.fmt) x.out
    let (status, detail) := stopStatus d.last old.length x.pos stop
    let r := { czFail status detail with ended := stop.isNone, consumed := consumed, crc := crc32c new, wchk := wchk }
    if status ≠ 0 ∧ status ≠ 2 then some (r, [], s)
    else
      let all := old ++ inp.take consumed
      let (v, s) := s.takeFree
      let (p, s) := s.takeFree
      let (work, s) := s.freeBytes (4044 + 32768)
      let block := ctxBlock d stop.isNone all.length (skip + new.length) wchk (lastWindow x.out) (lowBits (v.toNat % 64) p.toNat) ((v >>> 32).toNat % 8193) work
      (s.devWrite (0x980 + i) d.dst new).map fun s => ({ r with produced := new.length, ctx := if d.ctx then some block else none }, all, s)

/-- A row of an operation: it runs when the engine has a checked descriptor of it that has no result yet. -/
def czRow (op : Nat) (run : CzDesc → State → Option (CzResult × List Byte × List LzSym × State)) (i : Nat) (s : State) : Out :=
  match s.czJob i with
  | none => .next s
  | some j =>
    let d := czDesc j.desc
    if s.weir.safe || j.result.isSome || j.aborted || d.op != op then .next s
    else orSame s ((run d s).map fun (r, inp, syms, s) => s.setCzJob i (some { j with result := some r, input := inp, syms := syms }))

/-- COMPRESS (R373). -/
def execCompress (engine : Fin 4) (s : State) : Out :=
  czRow 1 (fun d s => (s.compress engine d).map (fun p => (p.1, [], p.2))) engine s

/-- DECOMPRESS (R374). -/
def execDecompress (engine : Fin 4) (s : State) : Out := czRow 2 (fun d s => (s.decompress engine d).map (fun p => (p.1, p.2.1, [], p.2.2))) engine s

/-! Completion (R368, R377, R379). -/

/-- A completion record (R377). -/
def CzResult.bytes (r : CzResult) (tag : List Byte) (phase rerun : Bool) (engine : Nat) : List Byte :=
  tag ++ [r.status, (if phase then 1 else 0) ||| (if r.ended then 2 else 0) ||| (if rerun then 4 else 0), BitVec.ofNat 8 engine, 0] ++
  bytesOf 4 r.consumed ++ bytesOf 4 r.produced ++ bytesOf 4 r.crc.toNat ++ bytesOf 4 r.wchk.toNat ++ bytesOf 4 r.detail.toNat

/-- The context block written back (R372), and what the engine reads back from it kept beside it. -/
def State.writeContext (s : State) (i : Nat) (j : CzJob) (r : CzResult) : Option State :=
  match r.ctx with
  | none => some s
  | some b => (s.devWrite (0x980 + i) (czDesc j.desc).ctxa b).map fun s =>
      s.modCz fun c => { c with streams := { block := b, input := j.input, syms := j.syms } :: c.streams.filter (fun x => x.block != b) }

/-- The record of a descriptor written, and its engine free (R366, R368); none where its slot is gone with its ring (R483). -/
def State.czRecord (s : State) (i : Nat) (j : CzJob) (r : CzResult) : Option State :=
  let q := s.czRing j.slice
  if q.taken = 0 then some (s.setCzJob i none)
  else (s.devWrite (0x980 + i) (q.cqAddr + 32 * q.cqTail) (r.bytes ((j.desc.drop 0x28).take 8) q.phase j.rerun i)).map fun s =>
    (s.setCzRing j.slice q.push).setCzJob i none

/-- Whether the output bytes are undefined after a result (R378): a descriptor that fails its checks writes none (R370). -/
def CzResult.undefinedOut (r : CzResult) (op : Nat) : Bool := r.status != 0 && r.status != 7 && !(r.status == 2 && op == 2)

/-- The output bytes as a result leaves them: free values where they are undefined (R375, R378) and the slice may write them (R370). -/
def State.czLeave (s : State) (i k : Nat) (d : CzDesc) (r : CzResult) : Option State :=
  if r.undefinedOut d.op && s.granted k d.dst d.dstLen then s.scramble (0x980 + i) d.dst d.dstLen else some s

/-- A descriptor that ends without a valid output: its bytes are undefined, and the record says why (R378-R380). -/
def State.czEnd (s : State) (i : Nat) (j : CzJob) (status : Byte) : Option State :=
  let d := czDesc j.desc
  let bad := match j.result with | some r => r.status == 7 || r.status == 8 | none => false
  (if bad || !s.granted j.slice d.dst d.dstLen then some s else s.scramble (0x980 + i) d.dst d.dstLen).bind fun s => s.czRecord i j (czFail status 0)

/-- A descriptor is run again (R379): on the same engine, or on the next one in service that is free when that engine has left service. -/
def State.czAgain (s : State) (i : Nat) (j : CzJob) : State :=
  if bitAt s.cz.insvc i then s.setCzJob i (some j) else (s.setCzJob i none).modCz fun c => { c with reruns := c.reruns ++ [j] }

/-- CZ_COMPLETE (R368, R379): check tells of a check failure inside the engine. -/
def execCzComplete (engine : Fin 4) (check : Bool) (s : State) : Out :=
  match s.czJob engine with
  | none => .next s
  | some j =>
    if s.weir.safe then .next s
    else if check then
      let s' := s.report (0x980 + engine) .corrected none 0
      if j.rerun || !s.mayRetry (0x980 + engine) then orSame s (s'.czEnd engine j 0xB)
      else .next (s'.czAgain engine { j with rerun := true, input := [], syms := [], result := s.czCheck j.slice (czDesc j.desc) })
    else if j.aborted then orSame s (s.czEnd engine j 0xC)
    else match j.result with
      | none => .next s
      | some r => orSame s (((s.czLeave engine j.slice (czDesc j.desc) r).bind fun s => s.writeContext engine j r).bind fun s => s.czRecord engine j r)

/-- An engine leaves service (R379, R410). -/
def State.czWithdraw (s : State) (i : Nat) : State := s.modCz fun c => { c with insvc := putFld c.insvc i (0 : BitVec 1) }

end Sys2Proof.Machine
end

