-- ==== Sys2Proof/Machine/Link.lean ====
section
/-! DEFINITION. Connections: the connection block, SCP frames that leave, and commitment (13 R323-R333). -/

namespace Sys2Proof.Machine

/-- The key of the witness connection (R446). -/
def witnessKey : Nat := 2 ^ 20

/-- The connection of a subchannel. -/
def State.conn (s : State) (k : Nat) : Conn := lookupD s.css.conns k Conn.closed

/-- The channel subsystem changed. -/
def State.modCss (s : State) (f : Css → Css) : State := { s with css := f s.css }

/-- A number of n bytes of the configuration copy at an offset (R323). -/
def Conn.cfgNat (c : Conn) (off n : Nat) : Nat := natOf ((c.cfg.drop off).take n)

def Conn.enc (c : Conn) : Nat := c.cfgNat 0 1
def Conn.flags (c : Conn) : Nat := c.cfgNat 1 1
def Conn.passive (c : Conn) : Bool := c.flags % 2 == 1
def Conn.auto (c : Conn) : Bool := c.flags / 2 % 2 == 1
def Conn.prefixBytes (c : Conn) : Nat := if c.flags / 4 % 2 = 1 then 4 else 2
def Conn.vid (c : Conn) : BitVec 12 := BitVec.ofNat 12 (c.cfgNat 2 2)
def Conn.lport (c : Conn) : BitVec 16 := BitVec.ofNat 16 (c.cfgNat 4 2)
def Conn.pport (c : Conn) : BitVec 16 := BitVec.ofNat 16 (c.cfgNat 6 2)
def Conn.pmac (c : Conn) : BitVec 48 := BitVec.ofNat 48 (c.cfgNat 0xA 6)
def Conn.pip (c : Conn) : Pair := BitVec.ofNat 128 (c.cfgNat 0x10 16)
def Conn.lip (c : Conn) : Pair := BitVec.ofNat 128 (c.cfgNat 0x20 16)
def orElse0 (v d : Nat) : Nat := if v = 0 then d else v
def Conn.rtob (c : Conn) : Nat := orElse0 (c.cfgNat 0x30 4) 64
def Conn.rtomax (c : Conn) : Nat := orElse0 (c.cfgNat 0x34 4) 16384
def Conn.ka (c : Conn) : Nat := orElse0 (c.cfgNat 0x38 4) 100000
def Conn.deadt (c : Conn) : Nat := orElse0 (c.cfgNat 0x3C 4) 3000000
def Conn.rxBase (c : Conn) : Nat := c.cfgNat 0x40 8
def Conn.rxSize (c : Conn) : Nat := c.cfgNat 0x48 4
def Conn.pmaxCfg (c : Conn) : Nat := c.cfgNat 0x4C 2
def Conn.minrto (c : Conn) : Nat := orElse0 (c.cfgNat 0x50 4) 1000000
def Conn.wscale (c : Conn) : Nat := c.cfgNat 0x54 1

/-- Whether the connection is message TCP (R321). -/
def Conn.isTcp (c : Conn) : Bool := c.enc == 3 || c.enc == 4

/-- The states of a path (PSTATE, R323). -/
def psClosed : Nat := 0
def psOpening : Nat := 1
def psUp : Nat := 2
def psClosing : Nat := 3
def psFencing : Nat := 4

/-- Whether the path is up for its subchannel. -/
def Conn.isUp (c : Conn) : Bool := c.pstate == psUp || c.pstate == psClosing

/-- Whether the subchannel of the path is out of DOWN: the path is up, or fencing after a take-over (R302, R338, R449). -/
def Conn.isOpen (c : Conn) : Bool := c.isUp || c.pstate == psFencing

/-- Bytes 0x80 to 0xB3 of the connection block (R323). -/
def Conn.statePart (c : Conn) : List Byte :=
  bytesOf 4 c.lcid.toNat ++ bytesOf 4 c.pcid.toNat ++ bytesOf 4 c.sndNxt.toNat ++ bytesOf 4 c.sndUna.toNat ++
  bytesOf 4 c.rcvNxt.toNat ++ bytesOf 4 c.xidOut.toNat ++ bytesOf 4 c.cxidIn.toNat ++ bytesOf 4 c.cxidOut.toNat ++
  bytesOf 4 c.pfgen.toNat ++ bytesOf 4 c.pwin.toNat ++ bytesOf 4 c.rxHead.toNat ++ bytesOf 4 c.rxTail.toNat ++
  bytesOf 2 c.lastReason.toNat ++ [byteN c.pstate, c.shifts]

/-- The whole state part as it was last written: what QUERY and the delta give (R345, R438). Working bytes that were never written are free (log 8). -/
def State.statePartFull (s : State) (k : Nat) : List Byte × State :=
  let c := s.conn k
  if c.work.isEmpty then
    let (w, s) := s.freeBytes 76
    (c.statePart ++ w, s.modCss fun x => { x with conns := assoc x.conns k { c with work := w } })
  else (c.statePart ++ c.work, s)

/-- The source of a connection's own memory accesses: its CP, or the continuity unit for the witness connection (R446). -/
def State.connSource (s : State) (k : Nat) : Nat := if k = witnessKey then 0xA00 else s.cpSource (s.sch k).lcp 4

/-- Whether the complex reads and writes a connection block: it lies in main memory and in the slice's grants (R161); that of the witness connection needs no grant (R446). -/
def State.blockOk (s : State) (k : Nat) (c : Conn) : Bool := k == witnessKey || s.granted c.slice (c.cb * 256) 256

/-- The state part written into the connection block (R323), with new working bytes, which are not architectural and so free; it waits when the line's home slice holds it back. -/
def State.writeBlock (s : State) (k : Nat) : State :=
  let c := s.conn k
  let (w, s) := s.freeBytes 76
  let put := fun (s : State) (b : Bool) => s.modCss fun x => { x with conns := assoc x.conns k { c with stale := b, work := w } }
  if !s.blockOk k c then put s false
  else match s.devWrite (s.connSource k) (c.cb * 256 + 0x80) (c.statePart ++ w) with
    | some s => put s false
    | none => put s true

/-- A connection replaced. A changed state part is written into its block and, on a guarded subchannel, enters the delta (R323). -/
def State.setConn (s : State) (k : Nat) (c : Conn) : State :=
  let old := (s.conn k).statePart
  let s := s.modCss fun x => { x with conns := assoc x.conns k c }
  if old = c.statePart ∨ s.ct.role = .standby ∧ c.guarded then s
  else
    let s := s.writeBlock k
    if c.guarded && s.gathers then s.modCt fun t => { t with cbsDirty := k :: t.cbsDirty.filter (· != k) } else s

/-- A connection changed. -/
def State.modConn (s : State) (k : Nat) (f : Conn → Conn) : State := s.setConn k (f (s.conn k))

/-- The class of a connection's frames (R336). -/
def Conn.cls (c : Conn) : BitVec 2 :=
  match c.typ with
  | 0 => 0
  | 3 => 3
  | _ => 1

/-- WIN (R325, R348): the frames that the free receive area takes. -/
def Conn.win (c : Conn) : BitVec 16 := if c.pmax = 0 then 0 else BitVec.ofNat 16 (min 65535 ((c.rxSize - c.used) / c.pmax))

/-- An SCP frame of a connection with its common fields (R325); the fence generation is zero in the service class. -/
def State.scpFrame (s : State) (c : Conn) (typ : Nat) (payload : List Byte) : ScpFrame :=
  { version := 1, typ := BitVec.ofNat 4 typ, cls := c.cls, first := false, last := false, acknow := false,
    len := BitVec.ofNat 16 payload.length, dcid := c.pcid, scid := c.lcid, seq := c.sndNxt, ack := c.rcvNxt, xid := 0,
    cxid := c.cxidIn, fgen := if c.typ = 3 then 0 else s.ct.fgen, win := c.win, reservedZero := true, crcOk := true, payload := payload }

/-- The IP and UDP headers of an SCP connection's frames (R321, R322); none where they go in Ethernet frames of their own. -/
def Conn.udpHead (c : Conn) : Option IpHead :=
  if c.enc = 0 then none
  else some { v6 := c.enc == 2, sip := c.lip, dip := c.pip, sport := c.lport, dport := c.udpPort, df := c.enc != 2 }

/-- A frame of a connection handed to its port: none when the port may not start it. -/
def State.sendFrame (s : State) (k : Nat) (f : ScpFrame) : State :=
  let c := s.conn k
  if s.mayTransmit c.port c.prio then
    (s.emit (s.outFrame c.port k c.prio (some c.pmac) c.vid (.scp c.udpHead f))).setConn k { c with sentBeat := s.beatc, ackDue := none }
  else s

/-- A frame other than DATA, with its payload. -/
def State.sendCtl (s : State) (k typ : Nat) (payload : List Byte) : State := s.sendFrame k (s.scpFrame (s.conn k) typ payload)

/-- An ACK frame (R330). -/
def State.sendAck (s : State) (k : Nat) : State := s.sendCtl k 4 []

/-- A DATA frame of the queue as it goes out. -/
def State.dataFrame (s : State) (c : Conn) (x : TxFrame) : ScpFrame :=
  { s.scpFrame c 3 x.payload with first := x.first, last := x.last, seq := x.seq, xid := x.xid }

/-- An operation passes its halt point (R303). -/
def State.passHalt (s : State) (id : Nat) : State :=
  s.modCss fun c => { c with ops := c.ops.map (fun o => if o.id == id then { o with past := true } else o) }

/-- The operation that an exchange works for, before its record is accepted or without one. -/
def ExchangeUse.owner : ExchangeUse → Option Nat
  | .command id => some id
  | .background id _ => some id
  | _ => none

/-- The operation whose data a frame is the first to carry (R303): that of a WRITE, a WRITE-COMMITTED or a SEND-MESSAGE. -/
def Conn.dataOp (c : Conn) (x : TxFrame) : Option Nat :=
  match (if x.first then c.outEx.find? (fun e => e.xid == x.xid && (e.xop == 1 || e.xop == 4)) else none) with
  | some e => e.use.owner
  | none => none

/-- A frame that leaves takes its operation past its halt point. -/
def State.passHaltOf (s : State) : Option Nat → State
  | some id => s.passHalt id
  | none => s

/-- The oldest frame of the queue that can go out: not sent, within the partner's window, on a port that may start it, and on a path that is up (R331). -/
def State.nextFrame (s : State) (k : Nat) : Option TxFrame :=
  let c := s.conn k
  match c.tx.find? (fun x => !x.sent) with
  | none => none
  | some x => if decide ((x.seq - c.sndUna).toNat < c.pwin.toNat) && s.mayTransmit c.port c.prio && c.isUp then some x else none

/-- That frame sent (R303, R331). -/
def State.sendNext (s : State) (k : Nat) : State :=
  match s.nextFrame k with
  | none => s
  | some x =>
    let c := s.conn k
    ((s.sendFrame k (s.dataFrame c x)).passHaltOf (c.dataOp x)).modConn k fun c =>
      { c with tx := c.tx.map (fun y => if y.seq == x.seq then { y with sent := true } else y) }

/-- n steps of f. -/
def iterate {α : Type} (f : α → α) : Nat → α → α
  | 0, s => s
  | n + 1, s => iterate f n (f s)

/-- Transmission goes on (R331). -/
def State.pumpScp (s : State) (k : Nat) : State := iterate (fun s => s.sendNext k) (s.conn k).tx.length s

/-- Exchange data with its header (R332). -/
def exchangeBytes (x : OutExchange) : List Byte :=
  [byteN x.xop, 0, 0, 0] ++ bytesOf 4 x.total ++ wordBytes x.aux ++ wordBytes x.tag ++ x.data

/-- The payloads of an exchange's frames, at most m bytes each; fuel counts the frames. -/
def payloads (m : Nat) : Nat → List Byte → List (List Byte)
  | 0, _ => []
  | fuel + 1, bs => if bs.length ≤ m then [bs] else bs.take m :: payloads m fuel (bs.drop m)

/-- The frames of an exchange from a sequence number on (R332). -/
def framesOf (seq : Word32) (xid : Word32) (first : Bool) : List (List Byte) → List TxFrame
  | [] => []
  | [p] => [{ seq := seq, first := first, last := true, xid := xid, payload := p, sent := false }]
  | p :: ps => { seq := seq, first := first, last := false, xid := xid, payload := p, sent := false } :: framesOf (seq + 1) xid false ps

/-- The frames of an exchange from a sequence number on, not sent (R332). -/
def Conn.exchangeFrames (c : Conn) (seq : Word32) (x : OutExchange) : List TxFrame :=
  let bs := exchangeBytes x
  framesOf seq x.xid true (payloads (max 1 c.pmax) (bs.length + 1) bs)

/-- An exchange put at the end of the queue with its frames (R331). -/
def Conn.queueExchange (c : Conn) (x : OutExchange) : Conn :=
  let fs := c.exchangeFrames c.sndNxt x
  { c with tx := c.tx ++ fs, outEx := c.outEx ++ [{ x with seq := c.sndNxt }], sndNxt := c.sndNxt + BitVec.ofNat 32 fs.length }

/-- An outbound exchange under a number that it has (R331): its frames follow those before it. -/
def State.startExchangeAs (s : State) (k : Nat) (x : OutExchange) : State :=
  let c := s.conn k
  (s.setConn k (({ c with ackBeat := if c.tx.isEmpty then s.beatc else c.ackBeat } : Conn).queueExchange x)).pumpScp k

/-- A new outbound exchange (R331): its number is XIDOUT. -/
def State.startExchange (s : State) (k xop total : Nat) (aux tag : Word) (data : List Byte) (use : ExchangeUse) : Word32 × State :=
  let n := (s.conn k).xidOut
  let s := s.modConn k fun c => { c with xidOut := c.xidOut + 1 }
  (n, s.startExchangeAs k { xid := n, seq := 0, xop := xop, total := total, aux := aux, tag := tag, data := data, use := use })

/-- Whether every byte of an outbound exchange's frames has been handed to its port. -/
def Conn.handedOver (c : Conn) (xid : Word32) : Bool := !c.tx.any (fun f => f.xid == xid && !f.sent)

/-- CXID advanced over the inbound exchanges that are committed, in order (R333); messages of an earlier opening hold no area and count for nothing. -/
def advanceCxid (cx : Word32) : List InExchange → Word32
  | [] => cx
  | x :: xs => if x.committed then advanceCxid (if x.area != 0 && follows x.xid cx then x.xid else cx) xs else cx

/-- Bytes freed at the head of the receive area: RXHEAD passes them (R323). -/
def Conn.freeHead (c : Conn) (n : Nat) : Conn :=
  { c with used := c.used - n, rxHead := if c.rxSize = 0 then 0 else BitVec.ofNat 32 ((c.rxHead.toNat + n) % c.rxSize) }

/-- The receive area of exchanges that are delivered and committed is freed from its oldest byte (R323). -/
def Conn.reclaimAll (c : Conn) : Nat → Conn
  | 0 => c
  | fuel + 1 =>
    match c.inEx with
    | x :: xs => if x.complete && x.delivered && x.committed then Conn.reclaimAll (({ c with inEx := xs } : Conn).freeHead x.area) fuel else c
    | [] => c

/-- An inbound exchange met while some are dropped (R323): one that stays follows those before it; the bytes of one that goes are freed with the exchange before it, or at once when there is none. -/
def Conn.keepOrDrop (drop : InExchange → Bool) (c : Conn) (x : InExchange) : Conn :=
  if !drop x then { c with inEx := c.inEx ++ [x] }
  else match c.inEx.getLast? with
    | some y => if y.area = 0 then c.freeHead x.area else { c with inEx := c.inEx.dropLast ++ [{ y with area := y.area + x.area }] }
    | none => c.freeHead x.area

/-- Inbound exchanges dropped, with their bytes of the receive area. -/
def Conn.dropIn (c : Conn) (drop : InExchange → Bool) : Conn := c.inEx.foldl (Conn.keepOrDrop drop) { c with inEx := [] }

/-- The receive area reclaimed. -/
def Conn.reclaim (c : Conn) : Conn := c.reclaimAll c.inEx.length

/-- An inbound exchange changed. -/
def Conn.modIn (c : Conn) (xid : Word32) (f : InExchange → InExchange) : Conn :=
  { c with inEx := c.inEx.map (fun x => if x.xid == xid then f x else x) }

/-- An inbound exchange of SCP is committed, and the partner is told (R333). -/
def State.commitScp (s : State) (k : Nat) (xid : Word32) : State :=
  let c := (s.conn k).modIn xid (fun x => { x with committed := true })
  let cx := advanceCxid c.cxidIn c.inEx
  let moved := cx != c.cxidIn
  let s := s.setConn k { c with cxidIn := cx }.reclaim
  if moved then s.sendAck k else s

end Sys2Proof.Machine
end

