-- ==== Sys2Proof/Machine/TcpLink.lean ====
section
/-! DEFINITION. Message TCP: the segments that leave and commitment (13 R341-R343, log 28). -/

namespace Sys2Proof.Machine

/-- The working state of TCP in a phase, with nothing sent or received, from an initial sequence number at beat b (R341). -/
def Tcp.start (phase : TcpPhase) (iss : Word32) (pport : BitVec 16) (b : Word) : Tcp :=
  { phase := phase, iss := iss, irs := 0, pport := pport, mss := 536, sndEnd := iss + 1, got := 0, timer := b, chunks := [], ahead := [],
    inbound := [], finAt := none, finSent := none, cwnd := 0, ssthresh := 2 ^ 30, dupAcks := 0, srtt := 0, rttvar := 0, timed := none,
    backoffs := 0, tsRecent := 0, tsOn := false, wsOn := false, sackOn := false, recover := none, wl1 := 0, wl2 := 0 }

/-- The working state of a TCP connection; a closed one where there is none. -/
def Conn.tcpState (c : Conn) : Tcp := c.tcp.getD (Tcp.start .closed 0 0 0)

/-- The headers of IP and TCP (R341, R352). -/
def Conn.tcpHeaders (c : Conn) : Nat := if c.enc = 4 then 60 else 40

/-- The MSS offered (R341). -/
def State.mssOffered (s : State) (c : Conn) : Nat := (s.port c.port).mtuBytes - c.tcpHeaders

/-- TSval (R341). -/
def State.tsVal (s : State) : Word32 := BitVec.ofNat 32 ((s.plant.todBase.toNat / 2 ^ 64) / 1000)

/-- The window that is advertised (R343): the free space of the receive area, under the shift of SHIFTS. -/
def Conn.tcpWindow (c : Conn) (syn : Bool) : BitVec 16 :=
  BitVec.ofNat 16 (min 65535 ((c.rxSize - c.used) / (if syn then 1 else 2 ^ (c.shifts.toNat % 16))))

/-- The range of sequence numbers that pieces held out of order make with one of them: every piece that touches it is joined; fuel counts the pieces. -/
def joinPieces (ps : List (Word32 × Word32)) : Nat → Word32 × Word32 → Word32 × Word32
  | 0, r => r
  | fuel + 1, r =>
    joinPieces ps fuel (ps.foldl (fun r p =>
      if follows p.1 r.2 || follows r.1 p.2 then r
      else (if follows r.1 p.1 then p.1 else r.1, if follows p.2 r.2 then p.2 else r.2)) r)

/-- The SACK blocks (R341, R343, RFC 2018): the ranges of bytes held out of order, that of the segment received last first; none where messages are journaled. -/
def Conn.sackBlocks (c : Conn) : List (Word32 × Word32) :=
  let t := c.tcpState
  if t.sackOn && !c.jin then
    let ps := t.ahead.map (fun p => (p.1, p.1 + BitVec.ofNat 32 p.2.length))
    ((ps.map (joinPieces ps ps.length)).eraseDups).take 3
  else []

/-- The bytes that timestamps take of every segment (RFC 7323). -/
def Tcp.tsBytes (t : Tcp) : Nat := if t.tsOn then 12 else 0

/-- The SACK blocks that fit beside n bytes of payload within MTU (R341, R352). -/
def State.sackRoom (s : State) (c : Conn) (n : Nat) : Nat := ((s.port c.port).mtuBytes - c.tcpHeaders - c.tcpState.tsBytes - n - 4) / 8

/-- A segment with the common fields of a connection. -/
def State.segment (s : State) (c : Conn) (seq : Word32) (payload : List Byte) : TcpSegment :=
  let t := c.tcpState
  { seq := seq, ack := c.rcvNxt, syn := false, ackFlag := true, fin := false, rst := false, window := c.tcpWindow false,
    wscale := none, mss := none, sackOk := false, sack := c.sackBlocks.take (s.sackRoom c payload.length),
    ts := if t.tsOn then some (s.tsVal, t.tsRecent) else none, checksumOk := true, payload := payload }

/-- The IP and TCP addresses of a connection's segments (R321, R323). -/
def Conn.tcpHead (c : Conn) : IpHead :=
  { v6 := c.enc == 4, sip := c.lip, dip := c.pip, sport := c.lport, dport := c.tcpState.pport, df := c.enc != 4 }

/-- A segment handed to its port: none when the port may not start it. -/
def State.sendSegment (s : State) (k : Nat) (g : TcpSegment) : State :=
  let c := s.conn k
  if s.mayTransmit c.port c.prio then
    (s.emit (s.outFrame c.port k c.prio (some c.pmac) c.vid (.tcp c.tcpHead g))).setConn k { c with sentBeat := s.beatc, ackDue := none }
  else s

/-- A pure acknowledgement. -/
def State.tcpAck (s : State) (k : Nat) : State :=
  let c := s.conn k
  s.sendSegment k (s.segment c c.sndNxt [])

/-- A SYN, or a SYN with ACK, with its options (R341); the second carries window scale and timestamps only where the SYN that it answers did (RFC 7323). -/
def State.tcpSyn (s : State) (k : Nat) (ack : Bool) : State :=
  let c := s.conn k
  let t := c.tcpState
  s.sendSegment k { s.segment c t.iss [] with
    ack := if ack then c.rcvNxt else 0, syn := true, ackFlag := ack, window := c.tcpWindow true,
    wscale := if ack && !t.wsOn then none else some (BitVec.ofNat 4 (min 14 c.wscale)), mss := some (BitVec.ofNat 16 (s.mssOffered c)),
    sackOk := true, sack := [], ts := if ack && !t.tsOn then none else some (s.tsVal, if ack then t.tsRecent else 0) }

/-- A reset (R342, R345). -/
def State.tcpRst (s : State) (k : Nat) : State :=
  let c := s.conn k
  s.sendSegment k { s.segment c c.sndNxt [] with rst := true }

/-- The bytes in flight. -/
def Conn.flight (c : Conn) : Nat := (c.sndNxt - c.sndUna).toNat

/-- The runs of bytes that SACK has reported among chunks, and how many bytes they are (RFC 6675). -/
def sackedRuns : Bool → List TcpChunk → Nat
  | _, [] => 0
  | prev, x :: xs => (if x.sacked && !prev then 1 else 0) + sackedRuns x.sacked xs
def sackedBytes (xs : List TcpChunk) : Nat := ((xs.filter TcpChunk.sacked).map (fun x => x.data.length)).sum

/-- IsLost of a chunk, by the chunks above it (RFC 6675). -/
def lostBelow (mss : Nat) (above : List TcpChunk) : Bool := decide (3 ≤ sackedRuns false above) || decide (2 * mss < sackedBytes above)

/-- The pipe (RFC 6675): the bytes that are taken to be in the network. -/
def pipeOf (mss : Nat) : List TcpChunk → Nat
  | [] => 0
  | x :: xs =>
    (if x.sent && !x.sacked then (if lostBelow mss xs then 0 else x.data.length) + (if x.resent then x.data.length else 0) else 0) + pipeOf mss xs

/-- The first chunk sent once, not reported by SACK, that a test of the chunks above it selects. -/
def firstHole (f : List TcpChunk → Bool) : List TcpChunk → Option TcpChunk
  | [] => none
  | x :: xs => if x.sent && !x.sacked && !x.resent && f xs then some x else firstHole f xs

/-- A chunk cut after n bytes. -/
def TcpChunk.cutAt (x : TcpChunk) (n : Nat) : List TcpChunk :=
  if x.data.length ≤ n then [x]
  else [{ x with data := x.data.take n }, { x with seq := x.seq + BitVec.ofNat 32 n, data := x.data.drop n }]

/-- The oldest chunk that has not been sent, when it fits in a window from SND.UNA; as much of it as fits when nothing is in flight (RFC 9293). -/
def Conn.fresh (c : Conn) (window : Nat) : Option TcpChunk :=
  match c.tcpState.chunks.find? (fun x => !x.sent) with
  | some x =>
    let room := window - (x.seq - c.sndUna).toNat
    if x.data.length ≤ room then some x else if c.flight = 0 ∧ 0 < room then some { x with data := x.data.take room } else none
  | none => none

/-- The chunk that goes out next (R341): within the partner's window and the congestion window (RFC 5681), and in a loss recovery that SACK steers what NextSeg gives (RFC 6675). -/
def Conn.nextSeg (c : Conn) : Option TcpChunk :=
  let t := c.tcpState
  if t.recover.isSome && t.sackOn then
    if t.cwnd < pipeOf t.mss t.chunks + t.mss then none
    else match firstHole (lostBelow t.mss) t.chunks with
      | some x => some x
      | none => match c.fresh c.pwin.toNat with
        | some x => some x
        | none => firstHole (fun above => above.any TcpChunk.sacked) t.chunks
  else c.fresh (min t.cwnd c.pwin.toNat)

/-- That chunk, when the path is up and the port may start it. -/
def State.nextChunk (s : State) (k : Nat) : Option TcpChunk :=
  let c := s.conn k
  if c.isUp && s.mayTransmit c.port c.prio then c.nextSeg else none

/-- A chunk, or its first bytes, sent (R303): the retransmission timer runs from the first byte in flight, and one segment at a time is timed. -/
def State.sendChunk (s : State) (k : Nat) (x : TcpChunk) : State :=
  let c := s.conn k
  let stop := x.seq + BitVec.ofNat 32 x.data.length
  let again := x.sent || !follows stop c.sndNxt
  let first := c.flight = 0
  ((s.sendSegment k (s.segment c x.seq x.data)).passHaltOf x.op).modConn k fun c =>
    let mark := fun (y : TcpChunk) => if y.seq == x.seq then { y with sent := true, resent := y.sent } else y
    let t := { c.tcpState with chunks := (c.tcpState.chunks.flatMap (fun (y : TcpChunk) => if y.seq == x.seq then y.cutAt x.data.length else [y])).map mark }
    { c with
      sndNxt := if follows stop c.sndNxt then stop else c.sndNxt,
      ackBeat := if first then s.beatc else c.ackBeat,
      tcp := some { t with timer := if first then s.beatc else t.timer,
                           timed := if again then none else if t.timed.isNone then some (stop, s.beatc) else t.timed } }

/-- What can go out next is sent. -/
def State.sendNextChunk (s : State) (k : Nat) : State :=
  match s.nextChunk k with
  | some x => s.sendChunk k x
  | none => s

/-- Whether the FIN can go out: every message is acknowledged (R345). -/
def State.finReady (s : State) (k : Nat) : Bool :=
  let c := s.conn k
  let t := c.tcpState
  (t.phase == .finWait1 || t.phase == .lastAck || t.phase == .closing) && t.finSent.isNone && t.chunks.isEmpty && s.mayTransmit c.port c.prio

/-- The FIN sent when it can be. -/
def State.pumpFin (s : State) (k : Nat) : State :=
  if s.finReady k then
    let c := s.conn k
    (s.sendSegment k { s.segment c c.sndNxt [] with fin := true }).modConn k fun c =>
      { c with sndNxt := c.sndNxt + 1, tcp := some { c.tcpState with finSent := some c.sndNxt, timer := s.beatc } }
  else s

/-- Transmission goes on. -/
def State.pumpTcp (s : State) (k : Nat) : State :=
  (iterate (fun s => s.sendNextChunk k) (2 * (s.conn k).tcpState.chunks.length + 1) s).pumpFin k

/-- Bytes cut into segments from a sequence number on; fuel counts them. -/
def chunksOf (m : Nat) (op : Option Nat) (gen : Option Word32) : Nat → Word32 → List Byte → List TcpChunk
  | 0, _, _ => []
  | fuel + 1, seq, bs =>
    if bs.isEmpty then []
    else { seq := seq, data := bs.take m, sent := false, sacked := false, resent := false, op := op, gen := gen } ::
      chunksOf m op gen fuel (seq + BitVec.ofNat 32 m) (bs.drop m)

/-- The largest payload of a segment (R352, RFC 9293): the options come out of the MSS. -/
def Tcp.segmentMax (t : Tcp) : Nat := max 1 (t.mss - t.tsBytes)

/-- A message with its prefix put at the end of the queue (R342). -/
def State.queueMessage (s : State) (k : Nat) (data : List Byte) (op : Option Nat) (gen : Option Word32) : State :=
  let c := s.conn k
  let t := c.tcpState
  let bs := bytesOf c.prefixBytes data.length ++ data
  let m := t.segmentMax
  let s := s.setConn k { c with tcp := some { t with
    chunks := t.chunks ++ chunksOf m op gen (bs.length + 1) t.sndEnd bs, sndEnd := t.sndEnd + BitVec.ofNat 32 bs.length } }
  s.pumpTcp k

/-- RCV.NXT advanced over the committed messages, in order (R343). -/
def advanceRcv (nxt : Word32) : List InExchange → Word32
  | [] => nxt
  | x :: xs => if x.committed then advanceRcv (if x.xid == nxt then x.xid + BitVec.ofNat 32 x.area else nxt) xs else nxt

/-- The partner's FIN takes effect once every byte before it is acknowledged: the complex then ends its own direction (R341, log 28). -/
def State.reachFin (s : State) (k : Nat) : State :=
  let c := s.conn k
  let t := c.tcpState
  if t.finAt = some c.rcvNxt then
    let phase : TcpPhase := match t.phase with
      | .finWait1 => .closing
      | .finWait2 => .timeWait
      | .established => .lastAck
      | p => p
    ((s.setConn k { c with rcvNxt := c.rcvNxt + 1, tcp := some { t with got := t.got + 1, finAt := none, phase := phase } }).tcpAck k).pumpTcp k
  else s

/-- A journaled inbound message is committed and acknowledged (R343). -/
def State.commitTcp (s : State) (k : Nat) (xid : Word32) : State :=
  let c := (s.conn k).modIn xid (fun x => { x with committed := true })
  let nxt := advanceRcv c.rcvNxt c.inEx
  let moved := nxt != c.rcvNxt
  let s := s.setConn k { c with rcvNxt := nxt }.reclaim
  if moved then (s.tcpAck k).reachFin k else s

/-- The transport acknowledgement of an inbound exchange (R313 item 4, R333). -/
def State.commitInbound (s : State) (k : Nat) (xid : Word32) : State :=
  if (s.conn k).isTcp then s.commitTcp k xid else s.commitScp k xid

end Sys2Proof.Machine
end

