-- ==== Sys2Proof/Machine/Completion.lean ====
section
/-! DEFINITION. Operations, their ends, and the completion queues (12 R301-R317). -/

namespace Sys2Proof.Machine

/-! Operations. -/

/-- An operation by its number. -/
def State.op (s : State) (id : Nat) : Option Operation := s.css.ops.find? (fun o => o.id == id)

/-- An operation changed. -/
def State.modOp (s : State) (id : Nat) (f : Operation → Operation) : State :=
  s.modCss fun c => { c with ops := c.ops.map (fun o => if o.id == id then f o else o) }

/-- Whether an operation occupies its subchannel: not one that only waits with a held entry or a background write (R301, R310). -/
def Operation.inFlight (o : Operation) : Bool := o.phase != .held && o.phase != .background

/-- The operation in flight on a subchannel. -/
def State.opOfSch (s : State) (sch : Nat) : Option Operation := s.css.ops.find? (fun o => o.sch == sch && o.inFlight)

/-- A block is returned when its entry has been written and its background writes have ended (R301). -/
def State.returnBlock (s : State) (id : Nat) : State :=
  s.modCss fun c => { c with ops := c.ops.filter (fun o => !(o.id == id && o.phase == .background && o.bg.isEmpty)) }

/-- A background write has ended (R314). -/
def State.endBackground (s : State) (id : Nat) (gen : Word32) : State :=
  (s.modOp id fun o => { o with bg := o.bg.filter (· != gen) }).returnBlock id

/-! Completion queues. -/

/-- Completion queue q (R304). -/
def State.cq (s : State) (q : Nat) : Cq := lookupD s.css.queues q Cq.reset

/-- A queue changed. -/
def State.modCq (s : State) (q : Nat) (f : Cq → Cq) : State := s.modCss fun c => { c with queues := assoc c.queues q (f (s.cq q)) }

/-- Whether a queue is full (R309). -/
def Cq.isFull (q : Cq) : Bool := (q.tail.toNat + 1) % q.entries == q.headAt

/-- Whether a queue has held completions (CQTAIL.FULL, R310). -/
def Css.holds (c : Css) (q : Nat) : Bool := c.held.any (fun h => h.q == q)

/-- The bytes of a completion entry (R305). -/
def HeldEntry.bytes (h : HeldEntry) (flags : Byte) : List Byte :=
  wordBytes h.parm ++ bytesOf 4 h.sch ++ [h.code, flags] ++ bytesOf 2 h.detail.toNat ++ bytesOf 8 h.ccwpa ++
  bytesOf 4 h.resid.toNat ++ bytesOf 4 (h.jgen.getD 0).toNat

/-- COMPLETING ends (R302): IDLE, or DOWN when the path has failed or no logical CP of its group remains (R320). -/
def State.settle (s : State) (sch : Nat) : State :=
  if (s.sch sch).state = stCompleting then s.setSchState sch (if (s.conn sch).isOpen && s.lcpPresent (s.sch sch).lcp then stIdle else stDown) else s

/-- JGEN of a subchannel advanced (R313 item 3). -/
def State.advanceJgen (s : State) (sch : Nat) (g : Word32) : State :=
  let e := s.sch sch
  if follows g (fld e.journal 32 32) then s.tableStore (schAddr sch + 24) (putFld e.journal 32 g) else s

/-- LCODE, LDETAIL and, at the end of an operation, OPS (R289). -/
def State.noteEntry (s : State) (h : HeldEntry) : State :=
  s.setStatus h.sch fun w =>
    let w := putFld (putFld w 48 h.code) 32 h.detail
    if h.final then putFld w 0 (fld w 0 32 + 1) else w

/-- The generations to which JGEN advances with an entry (R313 item 3): the operation's last, and those of the messages that the entry reports. -/
def HeldEntry.gens (h : HeldEntry) : List Word32 := h.jgen.toList ++ h.acks.map Prod.snd

/-- An entry written at TAIL (R305, R307), with what follows it: JGEN and the transport acknowledgements (R313). None while its line has to wait. -/
def State.writeEntry (s : State) (h : HeldEntry) (late : Bool) : Option State :=
  let q := s.cq h.q
  let flags := h.flags ||| (if q.phase then 1 else 0) ||| (if late then 8 else 0)
  (s.devWrite (s.cpSource (s.sch h.sch).lcp 4) (q.base.toNat + 32 * q.tail.toNat) (h.bytes flags)).map fun s =>
    let t := (q.tail.toNat + 1) % q.entries
    let s := s.modCq h.q fun q => { q with tail := BitVec.ofNat 16 t, phase := if t = 0 then !q.phase else q.phase }
    let s := s.noteEntry h
    if h.final then
      let s := h.gens.foldl (fun s g => s.advanceJgen h.sch g) s
      let s := h.acks.foldl (fun s x => s.commitInbound h.sch x.1) s
      (s.modOp h.op fun o => { o with phase := .background }).returnBlock h.op
    else s

/-- A completion held (R310). -/
def State.holdEntry (s : State) (h : HeldEntry) : State :=
  let s := s.modCss fun c => { c with held := c.held ++ [h] }
  let s := s.setStatus h.sch fun w => putFld w 56 (1 : BitVec 1)
  if h.final then (s.modOp h.op fun o => { o with phase := .held }).settle h.sch else s

/-- An entry written, or held when its queue is disabled or full or holds older ones (R309, R310). -/
def State.addEntry (s : State) (h : HeldEntry) : Option State :=
  let q := s.cq h.q
  if q.en && !q.isFull && !s.css.holds h.q then
    (s.writeEntry h false).map fun s => if h.final then s.settle h.sch else s
  else some (s.holdEntry h)

/-- The final entry of an operation (R305, R315). -/
def Operation.entry (o : Operation) : HeldEntry :=
  { q := o.q, op := o.id, sch := o.sch, final := true, parm := o.parm, code := o.code,
    flags := (if 0 < o.mirrored ∧ o.unmirrored = 0 then 2 else 0) ||| (if 0 < o.unmirrored then 4 else 0),
    detail := o.detail, ccwpa := o.ccwpa, resid := o.resid, jgen := o.jgen, acks := o.acks }

/-- A progress entry (R300). -/
def Operation.markEntry (o : Operation) (ccwpa : Nat) : HeldEntry :=
  { o.entry with final := false, code := 1, flags := 0, detail := 0, ccwpa := ccwpa, resid := 0, jgen := none, acks := [] }

/-- An operation in COMPLETING whose records are all released writes its entry (R302, R313). -/
def State.tryFinish (s : State) (id : Nat) : Option State :=
  match s.op id with
  | none => some s
  | some o => if o.phase = .ended ∧ o.recs = [] then s.addEntry o.entry else some s

/-- An operation ends under a code (R300, R302). -/
def State.endOp (s : State) (id : Nat) (code : Byte) (detail : Half) (resid : Word32) (ccwpa : Nat) : Option State :=
  match s.op id with
  | none => some s
  | some o =>
    let s := s.setSchState o.sch stCompleting
    let s := s.modOp id fun o => { o with phase := .ended, past := true, code := code, detail := detail, resid := resid, ccwpa := ccwpa }
    s.tryFinish id

/-- HALTED (R303): RESID is not defined then, and so is a free value. -/
def State.endHalted (s : State) (id ccwpa : Nat) : Option State :=
  let (v, s) := s.takeFree
  s.endOp id 3 0 (v.setWidth 32) ccwpa

/-- The last CCW of the command that an operation executes, or the next one's address between commands. -/
def Operation.at_ (o : Operation) : Nat :=
  match o.cmd with
  | some c => c.last
  | none => o.ccw

/-- A command ends normally (R299, R300): a shorter transfer counts as LEN says; then the next command, or the end. -/
def State.endCommand (s : State) (id : Nat) (resid : Nat) : Option State :=
  match s.op id with
  | none => some s
  | some o =>
    match o.cmd with
    | none => some s
    | some c =>
      if o.halting then s.endHalted id c.last
      else if 0 < resid ∧ c.short = false then s.endOp id 2 0 (BitVec.ofNat 32 resid) c.last
      else if c.seqNext then some (s.modOp id fun o => { o with phase := .ready, cmd := none, ccw := c.last + 32, ccwpa := c.last })
      else s.endOp id 0 0 (BitVec.ofNat 32 resid) c.last

/-- The length of a command (R299). -/
def Command.length (c : Command) : Nat := (c.data.map Prod.snd).sum

/-- The bytes that an operation's command has not transferred when it ends abnormally (R299): all of them, since no exchange of it is committed, unless a message has been delivered whole (log 31). -/
def State.untransferred (s : State) (o : Operation) : Nat :=
  match o.cmd, o.phase with
  | none, _ => 0
  | some c, .release g => if c.cmd = 0x31 then c.length - ((s.record g).map JRec.total).getD 0 else c.length
  | some c, _ => c.length

/-- A command ends abnormally (R306), with the bytes not transferred in RESID (R299). -/
def State.failCommand (s : State) (id : Nat) (code : Byte) (detail : Half) : Option State :=
  match s.op id with
  | none => some s
  | some o => s.endOp id code detail (BitVec.ofNat 32 (s.untransferred o)) o.at_

/-- The completion codes of R306 that other files name. -/
def codeProgramCheck : Byte := 4
def codePartnerError : Byte := 5
def codePathDown : Byte := 6
def codeFenced : Byte := 7
def codePoison : Byte := 8
def codeTooLong : Byte := 9
def codeJournalFull : Byte := 10

/-- Sense data kept (R346). -/
def State.setSense (s : State) (sch : Nat) (partner : Bool) (reason : Half) (xid : Word32) (pdetail : Word) : State :=
  let x : Sense := { src := if partner then 1 else 0, reason := reason, xid := xid, beat := s.beatc, pdetail := pdetail }
  s.modCss fun c => { c with senses := assoc c.senses sch x }

/-! HELD_COMPLETION_WRITE, CQ_ENABLE and CQ_DISABLE. -/

/-- HELD_COMPLETION_WRITE (R310): the oldest held completion of a queue that has space and is enabled. -/
def execHeldCompletionWrite (q : Nat) (s : State) : Out :=
  if s.weir.safe then .next s
  else match takeFirst (fun (h : HeldEntry) => h.q == q) s.css.held with
    | none => .next s
    | some (h, rest) =>
      if !(s.cq q).en || (s.cq q).isFull then .next s
      else orSame s ((s.writeEntry h true).map fun s =>
        let s := s.modCss fun c => { c with held := rest }
        if rest.any (fun x => x.sch == h.sch) then s else s.setStatus h.sch fun w => putFld w 56 (0 : BitVec 1))

/-- Whether a whole ring lies in main memory (R307). -/
def State.ringInMemory (s : State) (base bytes : Nat) : Bool := decide (base + bytes ≤ s.capacity)

/-- A write of CQCTL (R307): a disabled queue is enabled when its ring lies in main memory; a queue that is enabled already keeps its pointers (log 29). -/
def State.writeCqCtl (s : State) (q : Nat) (v : Word) : State :=
  s.modCq q fun x =>
    let x := { x with lcn := fld v 8 8, irq := bitAt v 1 }
    if !bitAt v 0 then { x with en := false }
    else if x.en then x
    else if s.ringInMemory x.base.toNat (32 * x.entries) then { x with en := true, head := 0, tail := 0, phase := true, err := false }
    else { x with err := true }

/-- CQ_ENABLE (R307). -/
def execCqEnable (q : Nat) (v : Word) (s : State) : Out :=
  if decide (4096 ≤ q) || !bitAt v 0 then .refused .illFormed else portRow (.cq (q / 4) (q % 4) 4) (fun s => .next (s.writeCqCtl q v)) s

/-- CQ_DISABLE (R307): entries are held from then on. -/
def execCqDisable (q : Nat) (v : Word) (s : State) : Out :=
  if decide (4096 ≤ q) || bitAt v 0 then .refused .illFormed else portRow (.cq (q / 4) (q % 4) 4) (fun s => .next (s.writeCqCtl q v)) s

/-! Records released (R313). -/

/-- Whether a record may be released now (R313, R441): locally durable, and a guarded one mirrored at an earlier moment, or released without the standby in SOLO. -/
def State.mayRelease (s : State) (r : JRec) : Bool :=
  r.durable && !r.released && !r.retired &&
  (!r.guarded || (r.mirrored && r.ackBeat != s.beatc) || (s.ct.role == .active && s.ct.pstate == .solo && !s.ct.soloDue))

/-- Item 1 of R313: the frames of a journaled SEND-MESSAGE go out. -/
def State.releaseMessage (s : State) (o : Operation) (c : Command) (r : JRec) : State :=
  if (s.conn o.sch).isTcp then s.queueMessage o.sch r.data (some o.id) (some r.gen)
  else s.startExchangeAs o.sch
    { xid := r.pos.setWidth 32, seq := 0, xop := 4, total := r.data.length, aux := c.aux, tag := c.key, data := r.data, use := .message o.id r.gen }

/-- A SEND-MESSAGE with J = 1 ends when its last frame has been handed to its port after the release (R334). -/
def State.messageHandedOver (s : State) (o : Operation) (gen : Word32) : Bool :=
  let c := s.conn o.sch
  if c.isTcp then !c.tcpState.chunks.any (fun x => x.gen == some gen && !x.sent)
  else match c.outEx.find? (fun x => x.use == .message o.id gen) with
    | some x => c.handedOver x.xid
    | none => true

/-- The operations whose released message has left its port go on (R334). -/
def State.endSent (s : State) : Option State :=
  s.css.ops.foldl (fun (acc : Option State) o =>
    match acc with
    | none => none
    | some s =>
      match o.phase with
      | .release gen =>
        if (o.cmd.map Command.cmd) == some 0x30 && !o.recs.contains gen && s.messageHandedOver o gen then s.endCommand o.id 0 else some s
      | _ => some s) (some s)

/-- What the release of a record does to the operation that it belongs to (R313, R315). -/
def State.releaseFor (s : State) (o : Operation) (r : JRec) : Option State :=
  let s := s.modOp o.id fun o => { o with
    recs := o.recs.filter (· != r.gen),
    mirrored := if r.guarded && r.mirrored then o.mirrored + 1 else o.mirrored,
    unmirrored := if r.guarded && !r.mirrored then o.unmirrored + 1 else o.unmirrored }
  match o.phase, o.cmd with
  | .release g, some c =>
    if g != r.gen then s.tryFinish o.id
    else if c.cmd = 0x30 then (s.releaseMessage o c r).endSent
    else if c.cmd = 0x31 then s.endCommand o.id (c.length - r.total)
    else s.endCommand o.id 0
  | _, _ => s.tryFinish o.id

/-- An inbound message whose record is released and that no operation has taken: JGEN and the acknowledgement follow at once (R313, R333, log 30). -/
def State.releaseInbound (s : State) (r : JRec) : State :=
  match (s.conn r.sch).inEx.find? (fun x => x.gen == some r.gen) with
  | none => s
  | some x =>
    let s := s.modConn r.sch fun c =>
      { c with inEx := c.inEx.map (fun x => if x.gen == some r.gen then { x with released := true } else x) }
    if s.css.ops.any (fun o => o.sch == r.sch && o.acks.contains (x.xid, r.gen)) then s
    else (s.advanceJgen r.sch r.gen).commitInbound r.sch x.xid

/-- Whether the background write of a record has not ended: an operation counts it, or its exchange is not covered (R314). -/
def State.writeOpen (s : State) (g : Word32) : Bool :=
  s.css.ops.any (fun o => o.bg.contains g) ||
  s.css.conns.any (fun p => p.2.outEx.any (fun x => match x.use with | .background _ (some h) => h == g | _ => false))

/-- A record is released (R313, R432): a KIND 0x01 record whose background write has ended is then retired. -/
def State.releaseRec (s : State) (r : JRec) : Option State :=
  let s := s.modRec r.gen fun r => { r with released := true }
  let owner := s.css.ops.find? (fun o => o.recs.contains r.gen)
  let s := if r.kind = 3 then s.releaseInbound r else s
  let s := match owner with
    | some o => s.releaseFor o r
    | none => some s
  s.map fun s =>
    if r.kind = 1 ∧ !s.writeOpen r.gen then s.retireRecs (fun x => x.gen == r.gen) else s

/-- RECORD_RELEASE (R313). -/
def execRecordRelease (gen : BitVec 32) (s : State) : Out :=
  match s.record gen with
  | none => .next s
  | some r => if s.weir.safe || !s.mayRelease r then .next s else orSame s (s.releaseRec r)

end Sys2Proof.Machine
end

