-- ==== Sys2Proof/Machine/Reserve.lean ====
section
/-! DEFINITION. Reservations of journal records that wait their turn (18 R431, 12 R311, R314). -/

namespace Sys2Proof.Machine

/-- POS of an outbound message (R429): on SCP its exchange takes its number here, on TCP it is the sequence number of its first prefix byte. -/
def State.positionOf (s : State) (w : JWait) : Word × State :=
  if w.kind = 1 then (w.pos, s)
  else
    let c := s.conn w.sch
    if c.isTcp then (c.tcpState.sndEnd.setWidth 64, s)
    else (c.xidOut.setWidth 64, s.setConn w.sch { c with xidOut := c.xidOut + 1 })

/-- Whether the continuity unit accepts a record's first byte (R311, R414, R431). -/
def State.journalOpen (s : State) : Bool := s.plant.stable && !s.weir.safe

/-- Whether reservations of these units all fit one after the other from unit head on, in so many free units (R429, R432). -/
def fitInOrder (head free : Nat) : List Nat → Bool
  | [] => true
  | u :: us =>
    let take := if head + u ≤ ringUnits then u else ringUnits - head + u
    decide (take ≤ free) && decide (u ≤ ringUnits) && fitInOrder ((head + take) % ringUnits) (free - take) us

/-- Whether it is certain that a record that joins those that wait is accepted and does not fail with JOURNAL_FULL (R306, R432). -/
def State.willFit (s : State) (n : Nat) : Bool :=
  s.journalOpen && fitInOrder s.ct.head s.ct.freeUnits (s.ct.waits.map (fun w => unitsFor w.data.length) ++ [unitsFor n])

/-- The write of a WRITE-COMMITTED starts (R314): one exchange to the partner. -/
def State.startWrite (s : State) (w : JWait) (gen : Option Word32) : State :=
  (s.startExchange w.sch 1 w.data.length w.pos w.key w.data (.background w.op gen)).2

/-- A record joins those that wait. The write to the partner starts at once where the record will be accepted (R314), so that nothing is sent of a command that ends with JOURNAL_FULL (R306). -/
def State.addWait (s : State) (w : JWait) : State :=
  let start := w.kind == 1 && s.willFit w.data.length
  let s := s.modCt fun t => { t with waits := t.waits ++ [{ w with started := start }] }
  if start then s.startWrite w none else s

/-- The write that has started learns its record. -/
def State.nameWrite (s : State) (w : JWait) (g : Word32) : State :=
  s.modConn w.sch fun c => { c with outEx := c.outEx.map (fun x => if x.use == .background w.op none then { x with use := .background w.op (some g) } else x) }

/-- A waiting record is accepted (R303, R314, R431): its operation passes its halt point, and the background write of a WRITE-COMMITTED goes on, or starts. -/
def State.acceptWait (s : State) (w : JWait) : State :=
  let (pos, s) := s.positionOf w
  let (g, s) := s.newRec w.kind w.sch w.guarded w.key pos w.parm w.data.length w.data
  let s := s.modOp w.op fun o => { o with past := true, recs := o.recs ++ [g], jgen := some g, phase := .release g }
  if w.kind != 1 || w.done then s
  else
    let s := s.modOp w.op fun o => { o with bg := g :: o.bg }
    if w.started then s.nameWrite w g else s.startWrite w (some g)

/-- The oldest waiting record is accepted, or fails with JOURNAL_FULL (R306, R432); one whose operation waits no longer is forgotten. -/
def State.serveWait (s : State) : Option State :=
  match s.ct.waits with
  | [] => some s
  | w :: ws =>
    let s := s.modCt fun c => { c with waits := ws }
    if !(s.css.ops.any (fun o => o.id == w.op && o.phase == .reserve)) then some s
    else if s.ct.fits (unitsFor w.data.length) then some (s.acceptWait w)
    else s.failCommand w.op codeJournalFull 0

/-- JOURNAL_RESERVE (R431). -/
def execJournalReserve (s : State) : Out :=
  if !s.journalOpen || s.ct.waits.isEmpty then .next s else orSame s s.serveWait

/-- Every waiting record is served; fuel counts them. -/
def State.serveWaits (s : State) : Nat → Option State
  | 0 => some s
  | n + 1 => match s.serveWait with
    | none => none
    | some s => State.serveWaits s n

/-- An inbound exchange's record is reserved, after those that wait already (R330, R431); none when it cannot be. -/
def State.reserveInbound (s : State) (k : Nat) (key pos : Word) (total : Nat) : Option (Word32 × State) :=
  if !s.journalOpen then none
  else match s.serveWaits s.ct.waits.length with
    | none => none
    | some s =>
      if s.ct.fits (unitsFor total) then
        let (g, s) := s.newRec 3 k (s.conn k).guarded key pos 0 total []
        some (g, s.modCss fun c => { c with ops := c.ops.map (fun o => if o.sch == k && o.phase == .message then { o with past := true } else o) })
      else none

end Sys2Proof.Machine
end

