-- ==== Sys2Proof/Machine/Path.lean ====
section
/-! DEFINITION. Paths: the check of the configuration, opening, going up, failing and closing (13 R324, R329, R341, R345; 12 R302). -/

namespace Sys2Proof.Machine

/-! Reasons (R347). -/

def rsnNoConn : Half := 0x0001
def rsnFenced : Half := 0x0002
def rsnBadExchange : Half := 0x0004
def rsnRefused : Half := 0x0007
def rsnDead : Half := 0x0008
def rsnReset : Half := 0x0009
def rsnFraming : Half := 0x000A
def rsnClosed : Half := 0x000B
def rsnConfig : Half := 0x000C
def rsnAborted : Half := 0x000D

/-- The payload of CLOSE (R326). -/
def closeBytes (r : Half) : List Byte := bytesOf 2 r.toNat ++ [0, 0]

/-- The payload of ERROR (R326). -/
def errorBytes (r : Half) (xid : Word32) (detail : Word) : List Byte := bytesOf 2 r.toNat ++ [0, 0] ++ bytesOf 4 xid.toNat ++ wordBytes detail

/-! The configuration. -/

/-- The PMAX that fits the MTU of a port (R352). -/
def State.pmaxFits (s : State) (port enc : Nat) : Nat := (s.port port).mtuBytes - (if enc = 1 then 68 else if enc = 2 then 88 else 40)

/-- The PMAX that a connection offers (R352). -/
def State.pmaxOffer (s : State) (c : Conn) : Nat := min c.pmaxCfg (s.pmaxFits c.port c.enc)

/-- An address field holds zeros above an IPv4 address (R323). -/
def Conn.v4Zero (c : Conn) (off : Nat) : Bool := !(c.enc == 1 || c.enc == 3) || c.cfgNat off 12 == 0

/-- What the encapsulation and the type ask (R321, R324, R352, R354). -/
def State.encOk (s : State) (c : Conn) : Bool :=
  decide (c.enc ≤ 4) && !(c.isTcp && c.typ != 2) && !(c.typ == 3 && (decide (1 < c.enc) || !s.isMgmt c.port)) &&
  (if c.isTcp then decide (c.wscale ≤ 14) else decide (1024 ≤ c.pmaxCfg) && decide (c.pmaxCfg ≤ 8192) && decide (1024 ≤ s.pmaxFits c.port c.enc))

/-- The reserved values and bytes of the configuration part (R323, R324). -/
def Conn.reservedOk (c : Conn) : Bool :=
  decide (c.flags < 8) && decide (c.cfgNat 2 2 < 4096) && c.cfgNat 8 2 == 0 && c.v4Zero 0x10 && c.v4Zero 0x20 &&
  c.cfgNat 0x4E 2 == 0 && c.cfgNat 0x55 43 == 0

/-- The receive area (R323, R324); that of the witness connection lies in main memory (R446). -/
def State.areaOk (s : State) (c : Conn) (witness : Bool) : Bool :=
  c.rxBase % 4096 == 0 && c.rxSize % 4096 == 0 && decide (0x10000 ≤ c.rxSize) && decide (c.rxSize ≤ 2 ^ 30) &&
  (if witness then decide (c.rxBase + c.rxSize ≤ s.capacity) else s.granted c.slice c.rxBase c.rxSize)

/-- The checks of R324. -/
def State.configOk (s : State) (c : Conn) (witness : Bool) : Bool :=
  s.encOk c && c.reservedOk && s.areaOk c witness && (c.passive || c.pport != 0)

/-! Opening. -/

/-- The configuration part as it is read (R161, R264, R323): none when the block is not one that the complex may read, or when it is poisoned (log 160). -/
def State.readConfig (s : State) (k : Nat) (c : Conn) : Option (List Byte) × State :=
  if s.blockOk k c then s.devRead (s.connSource k) (c.cb * 256) 128 else (none, s)

/-- The incarnation of a subchannel (R325). -/
def Css.inc (c : Css) (sch : Nat) : Nat := lookupD c.incs sch 0

/-- What an opening carries over: the background writes and messages that the partner has not committed (R314, R333), and the messages that arrived whole and no operation has taken (log 32). -/
def Conn.carried (c : Conn) : List OutExchange × List InExchange :=
  (c.outEx.filter (fun x => match x.use with | .background _ (some _) => true | .message _ _ => true | _ => false),
   (c.inEx.filter (fun x => x.complete && !x.delivered)).map (fun x => { x with committed := true, xid := 0, area := 0 }))

/-- A connection as an opening leaves it, but for its configuration (R323, R329); the fence generation held stays until the next ESTABLISH (R337, log 35). -/
def State.freshConn (s : State) (k : Nat) (e : SchEntry) : Conn :=
  let old := s.conn k
  let (out, inn) := old.carried
  let lcid := BitVec.ofNat 32 (s.css.inc k * 2 ^ 20 + k)
  { Conn.closed with
    pfgen := if old.lcid = lcid then old.pfgen else 0, typ := e.typ, guarded := e.guarded, jin := e.journals, slice := e.slice, port := e.port,
    prio := e.prio, cb := e.cb, lastReason := old.lastReason, lcid := lcid, xidOut := 1, outEx := out, inEx := inn, work := old.work,
    udpPort := s.css.udpPort, rcvdBeat := s.beatc, sentBeat := s.beatc, openBeat := s.beatc }

/-- The payload of OPEN and OPEN_ACK (R326). -/
def State.openBytes (s : State) (c : Conn) : List Byte := wordBytes s.ct.pairId ++ bytesOf 2 (s.pmaxOffer c) ++ List.replicate 6 0

/-- OPEN sent (R329). DCID holds PCID as it stands (log 33). -/
def State.sendOpen (s : State) (k : Nat) : State :=
  (s.sendCtl k 1 (s.openBytes (s.conn k))).modConn k fun c => { c with openBeat := s.beatc }

/-- Opening begins with a checked configuration: SCP sends OPEN and TCP its SYN, unless passive (R329, R341). -/
def State.startOpening (s : State) (k : Nat) (c : Conn) : State :=
  let (v, s) := s.takeFree
  let seq : Word32 := v.setWidth 32
  let c := { c with pstate := psOpening, rto := if c.isTcp then max 1000000 c.minrto else c.rtob, ackBeat := s.beatc }
  if c.isTcp then
    let t := Tcp.start (if c.passive then .listen else .synSent) seq c.pport s.beatc
    let s := s.setConn k { c with tcp := some t, sndUna := seq, sndNxt := if c.passive then seq else seq + 1 }
    if c.passive then s else s.tcpSyn k false
  else
    let s := s.setConn k { c with sndNxt := seq, sndUna := seq, pmax := s.pmaxOffer c }
    if c.passive then s else s.sendOpen k

/-- A path that its configuration keeps closed (R324). -/
def State.refuseOpening (s : State) (k : Nat) (c : Conn) : State := s.setConn k { c with pstate := psClosed, lastReason := rsnConfig, reopenAt := none }

/-- Opening goes on with the configuration as it is read and checked now (R323, R324). -/
def State.openWith (s : State) (k : Nat) (c : Conn) : State :=
  match s.readConfig k c with
  | (some cfg, s) =>
    let c := { c with cfg := cfg }
    if s.configOk c (k == witnessKey) then s.startOpening k c else s.refuseOpening k c
  | (none, s) => s.refuseOpening k c

/-- Opening begins (R329): not on a guarded subchannel of the standby, nor in safe state. -/
def State.beginOpening (s : State) (k : Nat) : State :=
  let e := s.sch k
  if e.guarded && s.ct.role == .standby || s.weir.safe then s else s.openWith k (s.freshConn k e)

/-- The witness connection opens (R446): a service connection on the management port, described by the block at CTWIT.CB. Its LCID and its priority are free values (log 51). -/
def State.openWitness (s : State) : State :=
  if !s.ct.witEn || s.weir.safe then s
  else
    let (v, s) := s.takeFree
    s.openWith witnessKey
      { Conn.closed with
        typ := 3, port := 15, prio := (v.setWidth 3).toNat, cb := s.ct.witCb.toNat, lastReason := (s.conn witnessKey).lastReason,
        lcid := (v >>> 32).setWidth 32, xidOut := 1, udpPort := s.css.udpPort, rcvdBeat := s.beatc, sentBeat := s.beatc, openBeat := s.beatc }

/-- Opening of the connection under key k begins. -/
def State.openKey (s : State) (k : Nat) : State := if k = witnessKey then s.openWitness else s.beginOpening k

/-! Up, failed and closed. -/

/-- The exchanges that were carried over go out again under new numbers, in order (R314, R333). -/
def State.requeue (s : State) (k : Nat) : List OutExchange → State
  | [] => s
  | x :: xs => State.requeue (s.startExchange k x.xop x.total x.aux x.tag x.data x.use).2 k xs

/-- The path is up (R302, R329). -/
def State.pathUp (s : State) (k : Nat) : State :=
  let c := s.conn k
  let s := s.setConn k { c with pstate := psUp, ackBeat := s.beatc, outEx := [] }
  let s := if k < witnessKey ∧ (s.sch k).state = stDown then s.setSchState k stIdle else s
  if c.isTcp then
    c.outEx.foldl (fun s x => match x.use with
      | .message op gen => s.queueMessage k x.data (some op) (some gen)
      | _ => s) s
  else s.requeue k c.outEx

/-- The reservations of inbound exchanges that are dropped before their data are complete are given back (R337, R339). -/
def State.dropReservations (s : State) (xs : List InExchange) : State :=
  xs.foldl (fun s x => match x.gen with
    | some g => if x.complete then s else s.retireRecs (fun r => r.gen == g)
    | none => s) s

/-- The subchannel of a path that is down (R302): IDLE becomes DOWN; an operation in flight is settled by its end. -/
def State.schDown (s : State) (k : Nat) : State :=
  if k < witnessKey ∧ (s.sch k).state = stIdle ∧ (s.sch k).v then s.setSchState k stDown else s

/-- The background writes that a path failure meets raise the event of the path's source (R314). -/
def State.backgroundEvents (s : State) (k : Nat) : State :=
  let c := s.conn k
  c.outEx.foldl (fun s x => match x.use with
    | .background _ _ => s.report (0x890 + c.port) .recoverable none 0
    | _ => s) s

/-- The connection of a path that has ended (R329). -/
def State.closePath (s : State) (k : Nat) (reason : Half) (again : Bool) : State :=
  let c := s.conn k
  let s := s.dropReservations c.inEx
  let (out, inn) := c.carried
  let s := s.setConn k { c with
    pstate := psClosed, lastReason := reason, tx := [], kept := [], naks := [], ackDue := none, outEx := out, inEx := inn, tcp := none, openAck := none,
    reopenAt := if again && c.auto && !c.noReopen then some (s.beatc + BitVec.ofNat 64 c.rtomax) else none }
  s.schDown k

/-- The operation in flight on a subchannel ends under a code of the transport, unless it is COMPLETING already (R302, R335, R346). -/
def State.failOp (s : State) (k : Nat) (code : Byte) (partner : Bool) (reason : Half) (xid : Word32) (pdetail : Word) : Option State :=
  match s.opOfSch k with
  | none => some s
  | some o =>
    if o.phase = .ended then some s
    else (s.setSense k partner reason xid pdetail).failCommand o.id code reason

/-- The path fails (R302, R329). -/
def State.pathFail (s : State) (k : Nat) (reason : Half) : Option State :=
  let s := s.backgroundEvents k
  (s.closePath k reason true).failOp k codePathDown false reason 0 0

/-- The path was closed by CONTROL CLOSE or ABORT: it does not open again before MODIFY (R345). -/
def State.closedByControl (s : State) (k : Nat) (reason : Half) : State :=
  (s.modConn k fun c => { c with noReopen := true }).closePath k reason false

/-! Memory of an operation's data list. -/

/-- Bytes stored over a data list (R294), in order. None while a line has to wait. -/
def State.storeList (s : State) (src : Nat) : List (Nat × Nat) → List Byte → Option State
  | [], _ => some s
  | (a, n) :: xs, bs =>
    if bs.isEmpty then some s
    else match s.devWrite src a (bs.take n) with
      | none => none
      | some s => State.storeList s src xs (bs.drop n)

/-- The bytes of a data list. -/
def State.gatherList (s : State) (xs : List (Nat × Nat)) : List Byte := xs.flatMap (fun p => s.devBytes p.1 p.2)

/-! Delivery of messages (R299, R303, R313). -/

/-- The next message that an operation can take. -/
def Conn.nextMessage (c : Conn) : Option InExchange := c.inEx.find? (fun x => x.xop == 4 && x.complete && !x.delivered)

/-- The oldest undelivered message changed. -/
def markDelivered : List InExchange → List InExchange
  | [] => []
  | x :: xs => if x.xop == 4 && x.complete && !x.delivered then { x with delivered := true } :: xs else x :: markDelivered xs

/-- How an operation accounts for a record that was released before it took the message (R305, R315). -/
def State.accountReleased (s : State) (id : Nat) (g : Word32) : State :=
  let m := s.ct.recs.any (fun r => r.gen == g && r.guarded && r.mirrored)
  let u := s.ct.recs.any (fun r => r.gen == g && r.guarded && !r.mirrored)
  s.modOp id fun o => { o with jgen := some g, mirrored := o.mirrored + (if m then 1 else 0), unmirrored := o.unmirrored + (if u then 1 else 0) }

/-- A RECEIVE-MESSAGE takes a message that fits, whole (R299); one whose record is not released ends the command at its release (R334). -/
def State.takeMessage (s : State) (o : Operation) (c : Command) (x : InExchange) : Option State :=
  (s.storeList (s.cpSource (s.sch o.sch).lcp 4) c.data x.data).bind fun s =>
    let s := s.modConn o.sch fun k => Conn.reclaim { k with inEx := markDelivered k.inEx }
    let rest := c.length - x.total
    match x.gen with
    | none => s.endCommand o.id rest
    | some g =>
      if x.released then (s.accountReleased o.id g).endCommand o.id rest
      else some (s.modOp o.id fun o => { o with past := true, phase := .release g, recs := o.recs ++ [g], jgen := some g, acks := o.acks ++ [(x.xid, g)] })

/-- A message that is longer than the command stays queued (R299). While its record is not released the report waits for the release, and JGEN and the transport acknowledgement follow the report (R313). -/
def State.refuseMessage (s : State) (o : Operation) (c : Command) (x : InExchange) : Option State :=
  let s := match x.gen with
    | some g => if x.released then s else s.modOp o.id fun o => { o with recs := o.recs ++ [g], acks := o.acks ++ [(x.xid, g)] }
    | none => s
  s.endOp o.id codeTooLong 0 (BitVec.ofNat 32 x.total) c.last

/-- A waiting RECEIVE-MESSAGE takes the next message of its connection. -/
def State.deliver (s : State) (k : Nat) : Option State :=
  match s.opOfSch k, (s.conn k).nextMessage with
  | some o, some x =>
    match o.phase, o.cmd with
    | .message, some c => if c.length < x.total then s.refuseMessage o c x else s.takeMessage o c x
    | _, _ => some s
  | _, _ => some s

end Sys2Proof.Machine
end

