-- ==== Sys2Proof/Machine/Scp.lean ====
section
/-! DEFINITION. SCP: the frames that arrive and the timers (13 R326-R340, R345, R348). -/

namespace Sys2Proof

open Machine

/-- The payload of a frame: LEN bytes of what the frame carries (R325). -/
def ScpFrame.data (f : ScpFrame) : List Byte := f.payload.take f.len.toNat

/-- A field of n bytes of a payload. -/
def ScpFrame.num (f : ScpFrame) (off n : Nat) : Nat := natOf ((f.data.drop off).take n)

/-- The payload length that a type asks (R326): none for DATA. -/
def payloadLen (typ : Nat) : Option Nat :=
  match typ with
  | 1 => some 16
  | 2 => some 16
  | 3 => none
  | 5 => some 8
  | 6 => some 4
  | 9 => some 8
  | 10 => some 8
  | 11 => some 16
  | _ => some 0

/-- The zero bytes of a payload (R326), those of an exchange header among them (R332). -/
def ScpFrame.zerosOk (f : ScpFrame) : Bool :=
  match f.typ.toNat with
  | 1 => f.num 10 6 == 0
  | 2 => f.num 10 6 == 0
  | 3 => !f.first || f.num 1 3 == 0
  | 6 => f.num 2 2 == 0
  | 11 => f.num 2 2 == 0
  | _ => true

/-- Whether a frame is discarded as malformed (R326, R327); pmax is the negotiated PMAX. -/
def ScpFrame.malformed (f : ScpFrame) (pmax : Nat) : Bool :=
  f.version != 1 || !f.reservedZero || f.typ == 0 || decide (12 ≤ f.typ.toNat) || decide (f.payload.length < f.len.toNat) ||
  decide (pmax < f.len.toNat) || (match payloadLen f.typ.toNat with | some n => f.len.toNat != n | none => false) || !f.zerosOk

end Sys2Proof

namespace Sys2Proof.Machine

/-- Where a frame came from: what an answer outside a connection is sent with. -/
structure Via where
  port : Nat
  vid : BitVec 12
  mac : BitVec 48
  ip : Option IpHead
  deriving DecidableEq, Repr

/-- The way of a connection. -/
def Conn.via (c : Conn) : Via := { port := c.port, vid := c.vid, mac := c.pmac, ip := c.udpHead }

/-- The class of an answer outside any connection: that of the frame where the port may carry it (R336), else one that the spec leaves open (log 33). -/
def State.answerClass (s : State) (p : Nat) (cls : BitVec 2) : BitVec 2 × State :=
  if cls = 0 ∨ cls = 1 ∨ (cls = 3 ∧ s.isMgmt p = true) then (cls, s)
  else
    let (v, s) := s.takeFree
    (if bitAt v 0 then 1 else 0, s)

/-- An answer to a frame outside any connection (R327). -/
def State.answer (s : State) (v : Via) (k : Nat) (f : ScpFrame) (typ : Nat) (payload : List Byte) : State :=
  let prio := if k < witnessKey then (s.sch k).prio else 0
  if s.mayTransmit v.port prio then
    let (cls, s) := s.answerClass v.port f.cls
    let g : ScpFrame :=
      { version := 1, typ := BitVec.ofNat 4 typ, cls := cls, first := false, last := false, acknow := false, len := BitVec.ofNat 16 payload.length,
        dcid := f.scid, scid := f.dcid, seq := 0, ack := 0, xid := 0, cxid := 0, fgen := if cls = 3 then 0 else s.ct.fgen, win := 0,
        reservedZero := true, crcOk := true, payload := payload }
    s.emit (s.outFrame v.port k prio (some v.mac) v.vid (.scp v.ip g))
  else s

/-- An answer to a frame of a connection, with the fields that every frame of it carries (R325). -/
def State.answerConn (s : State) (k : Nat) (f : ScpFrame) (typ : Nat) (payload : List Byte) : State :=
  s.sendFrame k { s.scpFrame (s.conn k) typ payload with dcid := f.scid }

/-- A saturating count of 16 bits. -/
def satHalf (v : Half) : Half := if v = 0xFFFF then v else v + 1

/-- Whether the frame names the connection that key k holds (R327). OPEN names it by its subchannel alone, since its sender does not know the incarnation (log 33). -/
def State.established (s : State) (k : Nat) (f : ScpFrame) : Bool :=
  let c := s.conn k
  (k == witnessKey || s.schValid (s.sch k)) && c.pstate != psClosed && !c.isTcp && (f.typ == 1 || f.dcid == c.lcid)

/-! Acknowledgement (R331, R333). -/

/-- What the commitment of an outbound exchange does (R314, R334, R432). -/
def State.exchangeDone (s : State) (x : OutExchange) : Option State :=
  match x.use with
  | .command id =>
    match s.op id with
    | some o => if o.phase = .exchange x.xid then s.endCommand id 0 else some s
    | none => some s
  | .background id (some gen) =>
    let s := s.retireRecs (fun r => r.gen == gen && r.released)
    some (s.endBackground id gen)
  | .background id none => some (s.modCt fun t => { t with waits := t.waits.map (fun w => if w.op == id then { w with done := true } else w) })
  | .message _ gen => some (s.retireRecs (fun r => r.gen == gen))
  | .witness => some s
  | .spent => some s

/-- Exchanges done, in order. -/
def State.exchangesDone (s : State) : List OutExchange → Option State
  | [] => some s
  | x :: xs => (s.exchangeDone x).bind (fun s => State.exchangesDone s xs)

/-- The partner's CXID covers the exchanges that it does not precede (R333). -/
def State.applyCxid (s : State) (k : Nat) (cxid : Word32) : Option State :=
  let c := s.conn k
  if follows cxid c.cxidOut then
    let done := c.outEx.filter (fun x => notAfter x.xid cxid)
    (s.setConn k { c with cxidOut := cxid, outEx := c.outEx.filter (fun x => !notAfter x.xid cxid) }).exchangesDone done
  else some s

/-- ACK and WIN of a frame (R330, R331). -/
def State.applyAck (s : State) (k : Nat) (f : ScpFrame) : State :=
  let c := s.conn k
  if follows f.ack c.sndUna && notAfter f.ack c.sndNxt then
    s.setConn k { c with sndUna := f.ack, pwin := f.win.setWidth 32, rto := c.rtob, ackBeat := s.beatc,
                         tx := c.tx.filter (fun x => !follows f.ack x.seq) }
  else s.setConn k { c with pwin := f.win.setWidth 32 }

/-- The CLOSE of an orderly end goes out once every outbound exchange is committed (R345). -/
def State.closeWhenDone (s : State) (k : Nat) : State :=
  let c := s.conn k
  if c.pstate = psClosing ∧ c.outEx = [] ∧ c.closeSent = false ∧ s.mayTransmit c.port c.prio then
    (s.sendCtl k 6 (closeBytes rsnClosed)).modConn k fun c => { c with closeSent := true }
  else s

/-- What the acknowledgement fields of a frame do: commitment, transmission, and the ends that wait for them. -/
def State.acknowledged (s : State) (k : Nat) (f : ScpFrame) : Option State :=
  ((s.applyAck k f).applyCxid k f.cxid).bind fun s => ((s.pumpScp k).closeWhenDone k).endSent

/-! DATA (R330, R332). -/

/-- The exchange that is being received, the newest that is not complete. -/
def Conn.receiving (c : Conn) : Option InExchange := c.inEx.find? (fun x => !x.complete)

/-- Free bytes of the receive area. -/
def Conn.areaFree (c : Conn) : Nat := c.rxSize - c.used

/-- A payload stored in the receive area at RXTAIL, which wraps (R323). -/
def State.storeArea (s : State) (k : Nat) (bs : List Byte) : Option State :=
  let c := s.conn k
  let at_ := c.rxTail.toNat
  let n := min bs.length (c.rxSize - at_)
  ((s.devWrite (0x900 + c.port) (c.rxBase + at_) (bs.take n)).bind (fun s => s.devWrite (0x900 + c.port) c.rxBase (bs.drop n))).map fun s =>
    s.modConn k fun c => { c with used := c.used + bs.length, rxTail := BitVec.ofNat 32 ((at_ + bs.length) % c.rxSize) }

/-- Whether a record of the journal covers an inbound exchange already (R339). -/
def State.coveredIn (s : State) (k : Nat) (xid : Word32) : Bool :=
  s.ct.recs.any (fun r => !r.retired && r.kind == 3 && r.sch == k && r.pos == xid.setWidth 64 && r.data.length == r.total)

/-- An inbound exchange that is not accepted: ERROR, and it is not committed (R332, log 34). -/
def State.refuseInbound (s : State) (k : Nat) (x : InExchange) (reason : Half) : State :=
  ((s.dropReservations [x]).modConn k fun c => c.dropIn (fun y => !y.complete)).sendCtl k 11 (errorBytes reason x.xid 0)

/-- A FIRST frame that comes before the LAST one of the exchange that is being received: that exchange is too short (R332). -/
def State.cutShort (s : State) (k : Nat) : State :=
  match (s.conn k).receiving with
  | some x => s.refuseInbound k x rsnBadExchange
  | none => s

/-- The exchange that a FIRST frame begins (R332). On a journaling subchannel a message needs its reservation; none when Stillwater does not take it (R330). -/
def State.beginInbound (s : State) (k : Nat) (f : ScpFrame) : Option State :=
  let s := s.cutShort k
  let c := s.conn k
  let x : InExchange :=
    { xid := f.xid, xop := f.num 0 1, total := f.num 4 4, aux := BitVec.ofNat 64 (f.num 8 8), tag := BitVec.ofNat 64 (f.num 16 8), data := [],
      complete := false, gen := none, released := false, delivered := false, committed := false, area := 0 }
  let put := fun (s : State) (x : InExchange) => s.modConn k fun c => { c with inEx := c.inEx ++ [x] }
  if x.xop != 4 || !c.jin then some (put s x)
  else if s.coveredIn k x.xid then some (put s { x with delivered := true })
  else (s.reserveInbound k x.aux (x.xid.setWidth 64) x.total).map fun (g, s) => put s { x with gen := some g }

/-- Data of a frame added to the exchange that is being received, and to its record. -/
def State.addInbound (s : State) (k : Nat) (bs : List Byte) (area : Nat) : State :=
  match (s.conn k).receiving with
  | none => s
  | some x =>
    let s := s.modConn k fun c => { c with inEx := c.inEx.map (fun y => if y.complete then y else { y with data := y.data ++ bs, area := y.area + area }) }
    match x.gen with
    | some g => s.modRec g fun r => { r with data := r.data ++ bs }
    | none => s

/-- The data of a READ reply put into the data list of its command (R299, R334). -/
def State.readReply (s : State) (k : Nat) (x : InExchange) : Option State :=
  match s.opOfSch k with
  | none => some s
  | some o =>
    match o.phase, o.cmd with
    | .reply xid, some c =>
      if xid.setWidth 64 != x.aux then some s
      else
        let bs := x.data.take c.length
        (if c.dropData then some s else s.storeList (s.cpSource (s.sch k).lcp 4) c.data bs).bind fun s => s.endCommand o.id (c.length - bs.length)
    | _, _ => some s

/-- The last frame of an exchange has been stored (R332-R334, R339). What a witness message does stands in the rows of the witness's messages (log 52). -/
def State.completeInbound (s : State) (k : Nat) : Option State :=
  match (s.conn k).receiving with
  | none => some s
  | some x =>
    if x.data.length != x.total || !(x.xop == 3 || x.xop == 4 || x.xop == 1 || x.xop == 2 || x.xop == 5) then some (s.refuseInbound k x rsnBadExchange)
    else if x.xop != 3 ∧ x.xop != 4 then some (s.refuseInbound k x rsnRefused)
    else
      let s := s.modConn k fun c => { c with
        inEx := c.inEx.map (fun y => if y.complete then y else { y with complete := true, delivered := y.delivered || y.xop == 3 || k == witnessKey }) }
      if x.xop = 3 then (s.readReply k x).map (fun s => s.commitScp k x.xid)
      else if x.delivered || k == witnessKey then some (s.commitScp k x.xid)
      else if x.gen.isSome then s.deliver k
      else (s.deliver k).map (fun s => s.commitScp k x.xid)

/-- An inbound exchange whose number does not follow those before it is a duplicate: its frames count and nothing else (R328, R348). -/
def Conn.oldExchange (c : Conn) (f : ScpFrame) : Bool :=
  !follows f.xid c.cxidIn || c.inEx.any (fun x => x.complete && x.area != 0 && x.xid == f.xid)

/-- A DATA frame in order (R330): stored, counted in RCVNXT, and taken into its exchange. None when it cannot be stored now. -/
def State.takeData (s : State) (k : Nat) (f : ScpFrame) : Option State :=
  let c := s.conn k
  let next := fun (s : State) => s.modConn k fun c => { c with rcvNxt := c.rcvNxt + 1, ackDue := some (c.ackDue.getD s.beatc) }
  if c.oldExchange f then some (next s)
  else if f.first && decide (f.data.length < 24) then some (((next s).cutShort k).sendCtl k 11 (errorBytes rsnBadExchange f.xid 0))
  else
    (if f.first then s.beginInbound k f else some s).bind fun s =>
    match (s.conn k).receiving with
    | none => some (next s)
    | some x =>
      if x.xid != f.xid then some (next s)
      else (s.storeArea k f.data).bind fun s =>
        let s := (next s).addInbound k (if f.first then f.data.drop 24 else f.data) f.data.length
        if f.last then s.completeInbound k else some s

/-- The frames kept ahead that are now in order. One that cannot be stored is discarded unacknowledged (R330, R348). -/
def State.takeKept (s : State) (k : Nat) : Nat → State
  | 0 => s
  | fuel + 1 =>
    let c := s.conn k
    match c.kept.find? (fun f => f.seq == c.rcvNxt) with
    | none => s
    | some f =>
      let s := s.modConn k fun c => { c with kept := c.kept.filter (fun g => g.seq != f.seq) }
      if c.areaFree < f.data.length then s.count c.port 8 1
      else match s.takeData k f with
        | none => s
        | some s => State.takeKept s k fuel

/-- The range that is missing just below a frame that is ahead. -/
def Conn.missing (c : Conn) (f : ScpFrame) : Word32 × Word32 :=
  let lo := (c.kept.filter (fun g => follows f.seq g.seq)).foldl (fun a g => if follows (g.seq + 1) a then g.seq + 1 else a) c.rcvNxt
  (lo, f.seq - 1)

/-- NAK for a missing range, at most once in RTOB beats (R330). -/
def State.sendNak (s : State) (k : Nat) (p : Word32 × Word32) : State :=
  let c := s.conn k
  if follows p.1 p.2 || c.naks.any (fun n => n.1 == p.1 && n.2.1 == p.2 && decide (s.since n.2.2 < c.rtob)) then s
  else
    let s := s.modConn k fun c => { c with naks := (p.1, p.2, s.beatc) :: c.naks.filter (fun n => !(n.1 == p.1 && n.2.1 == p.2)) }
    s.sendCtl k 5 (bytesOf 4 p.1.toNat ++ bytesOf 4 p.2.toNat)

/-- A DATA frame (R330, R348): in order, ahead within the window, or a duplicate, for which an ACK is sent. -/
def State.receiveData (s : State) (k : Nat) (f : ScpFrame) : Option State :=
  let c := s.conn k
  let d := (f.seq - c.rcvNxt).toNat
  if d = 0 then
    if c.areaFree < f.data.length then some (s.count c.port 8 1)
    else (s.takeData k f).map (fun s => s.takeKept k (s.conn k).kept.length)
  else if d < c.win.toNat ∧ d < 2 ^ 31 then
    let range := c.missing f
    let s := if c.kept.any (fun g => g.seq == f.seq) then s else s.modConn k fun c => { c with kept := c.kept ++ [f] }
    some (s.sendNak k range)
  else some (if f.acknow then s else s.sendAck k)

/-! The other frames. -/

/-- The connection parameters that OPEN and OPEN_ACK give (R329). -/
def State.adopt (s : State) (k : Nat) (f : ScpFrame) : State :=
  s.modConn k fun c => { c with
    pcid := f.scid, rcvNxt := f.seq, pwin := f.win.setWidth 32, pmax := min (f.num 8 2) (s.pmaxOffer c) }

/-- OPEN is answered, and the path is up (R329). -/
def State.acceptOpen (s : State) (k : Nat) (f : ScpFrame) : State :=
  let s := s.adopt k f
  let c := s.conn k
  let a := s.scpFrame c 2 (s.openBytes c)
  ((s.sendFrame k a).modConn k fun c => { c with openAck := some a }).pathUp k

/-- OPEN (R329, R348). -/
def State.receiveOpen (s : State) (k : Nat) (f : ScpFrame) : State :=
  let c := s.conn k
  if c.pstate = psOpening then
    if c.passive then s.acceptOpen k f
    else
      let ours := [c.lcid.toNat, s.ct.pairId.toNat, c.sndNxt.toNat]
      let theirs := [f.scid.toNat, f.num 0 8, f.seq.toNat]
      match (ours.zip theirs).find? (fun p => p.1 != p.2) with
      | none =>
        let (v, s) := s.takeFree
        s.modConn k fun c => { c with sndNxt := v.setWidth 32, sndUna := v.setWidth 32, openBeat := s.beatc }
      | some p => if p.1 < p.2 then s.acceptOpen k f else s
  else match c.openAck with
    | some a => if a.dcid = f.scid ∧ a.ack = f.seq then s.sendFrame k a else s
    | none => s

/-- OPEN_ACK (R329). -/
def State.receiveOpenAck (s : State) (k : Nat) (f : ScpFrame) : State :=
  let c := s.conn k
  if c.pstate = psOpening ∧ c.passive = false then (s.adopt k f).pathUp k else s

/-- The frames that a NAK names are sent again at once (R331). -/
def State.resendRange (s : State) (k : Nat) (lo hi : Word32) : List TxFrame → State
  | [] => s
  | x :: xs =>
    let s := if x.sent && !follows lo x.seq && !follows x.seq hi then s.sendFrame k (s.dataFrame (s.conn k) x) else s
    State.resendRange s k lo hi xs

/-- NAK (R331). -/
def State.receiveNak (s : State) (k : Nat) (f : ScpFrame) : State :=
  s.resendRange k (BitVec.ofNat 32 (f.num 0 4)) (BitVec.ofNat 32 (f.num 4 4)) (s.conn k).tx

/-- CLOSE (R329): answered, and the path fails with its reason. -/
def State.receiveClose (s : State) (k : Nat) (f : ScpFrame) : Option State :=
  (s.sendCtl k 7 []).pathFail k (BitVec.ofNat 16 (f.num 0 2))

/-- The command that waits in a phase ends normally. -/
def State.endPhase (s : State) (k : Nat) (p : OpPhase) : Option State :=
  match s.opOfSch k with
  | some o => if o.phase = p then s.endCommand o.id 0 else some s
  | none => some s

/-- CLOSE_ACK (R345). -/
def State.receiveCloseAck (s : State) (k : Nat) : Option State :=
  let c := s.conn k
  if c.pstate = psClosing ∧ c.closeSent then (s.closedByControl k rsnClosed).endPhase k .close else some s

/-- Every exchange that the partner has not committed goes out again, whole and under new sequence numbers (R339). -/
def State.resendExchanges (s : State) (k : Nat) : State :=
  let c := s.conn k
  let out := c.outEx.filter (fun x => x.use != .spent)
  (s.setConn k (out.foldl Conn.queueExchange { c with sndUna := c.sndNxt, tx := [], outEx := [], ackBeat := s.beatc, rto := c.rtob })).pumpScp k

/-- What a FENCE discards (R339): the frames kept, and the inbound exchanges that are not committed and that no operation has taken (log 36). -/
def State.discardInbound (s : State) (k : Nat) : State :=
  let gone := fun (x : InExchange) => !x.committed && !(x.complete && x.delivered)
  let s := ((s.conn k).inEx.filter gone).foldl (fun s x => match x.gen with
    | some g => s.retireRecs (fun r => r.gen == g)
    | none => s) s
  s.modConn k fun c => ({ c with kept := [], naks := [] } : Conn).dropIn gone |>.reclaim

/-- FENCE (R339): the steps of a partner, which the complex takes as well (R337); on a path that is up, what the partner has not committed is sent again. -/
def State.receiveFence (s : State) (k : Nat) (f : ScpFrame) : Option State :=
  let s := (s.modConn k fun c => { c with pfgen := if c.typ = 3 then c.pfgen else f.fgen }).discardInbound k
  let s := s.modConn k fun c => { c with rcvNxt := f.seq }
  let c := s.conn k
  let s := s.answerConn k f 10 (bytesOf 4 c.cxidIn.toNat ++ bytesOf 4 c.rcvNxt.toNat)
  if c.isUp then (s.applyCxid k (BitVec.ofNat 32 (f.num 0 4))).map (fun s => s.resendExchanges k) else some s

/-- FENCE_ACK (R338, R339): the path is up again. -/
def State.receiveFenceAck (s : State) (k : Nat) (f : ScpFrame) : Option State :=
  let c := s.conn k
  if c.pstate ≠ psFencing then some s
  else
    let s := s.setConn k { c with rcvNxt := f.seq, pstate := psUp }
    let s := if k < witnessKey ∧ (s.sch k).state = stDown then s.setSchState k stIdle else s
    (s.applyCxid k (BitVec.ofNat 32 (f.num 0 4))).bind fun s => (s.resendExchanges k).endSent

/-- Frames numbered in order from seq on. -/
def renumber (seq : Word32) : List TxFrame → List TxFrame
  | [] => []
  | x :: xs => { x with seq := seq } :: renumber (seq + 1) xs

/-- A background write that failed is tried again under its own number (R314): its frames go out before every frame that has not been sent, so that no later transfer passes it (log 34). -/
def Conn.retryExchange (c : Conn) (x : OutExchange) : Conn :=
  let sent := c.tx.filter TxFrame.sent
  let rest := c.tx.filter (fun f => !f.sent)
  let base := (rest.head?.map TxFrame.seq).getD c.sndNxt
  let fresh := renumber base (c.exchangeFrames base x ++ rest.filter (fun f => f.xid != x.xid))
  let place := fun (e : OutExchange) => match fresh.find? (fun f => f.first && f.xid == e.xid) with
    | some f => { e with seq := f.seq }
    | none => e
  { c with tx := sent ++ fresh, sndNxt := base + BitVec.ofNat 32 fresh.length, outEx := c.outEx.map place }

/-- The operation that waits for an exchange ends under the partner's reason (R335). -/
def State.partnerError (s : State) (k : Nat) (f : ScpFrame) (xid : Word32) : Option State :=
  let reason := BitVec.ofNat 16 (f.num 0 2)
  s.failOp k (if reason = rsnFenced then codeFenced else codePartnerError) true reason xid (BitVec.ofNat 64 (f.num 8 8))

/-- Whether the operation in flight waits for an exchange, or for the reply to it. -/
def State.awaits (s : State) (k : Nat) (xid : Word32) : Bool :=
  match s.opOfSch k with
  | some o => o.phase == .exchange xid || o.phase == .reply xid
  | none => false

/-- An outbound exchange whose command has ended: it stays until CXID covers it (R333). -/
def Conn.spend (c : Conn) (xid : Word32) : Conn :=
  { c with outEx := c.outEx.map (fun x => if x.xid == xid then { x with use := .spent } else x) }

/-- ERROR for an exchange (R314, R335): the command that waits for it, or for its reply, ends; a background write is tried again. -/
def State.receiveError (s : State) (k : Nat) (f : ScpFrame) : Option State :=
  let c := s.conn k
  let xid := BitVec.ofNat 32 (f.num 4 4)
  match c.outEx.find? (fun x => x.xid == xid) with
  | none => if s.awaits k xid then s.partnerError k f xid else some s
  | some x =>
    match x.use with
    | .background _ _ => some (((s.report (0x890 + c.port) .recoverable none 0).setConn k (c.retryExchange x)).pumpScp k)
    | .message id _ => if (s.opOfSch k).any (fun o => o.id == id && o.phase != .ended) then s.partnerError k f xid else some s
    | .witness => some s
    | _ => if s.awaits k xid then (s.modConn k fun c => c.spend xid).partnerError k f xid else some s

/-- A frame of an established connection, by its type (R326). -/
def State.byType (s : State) (k : Nat) (f : ScpFrame) : Option State :=
  let live := (s.conn k).isUp
  match f.typ.toNat with
  | 1 => some (s.receiveOpen k f)
  | 2 => some (s.receiveOpenAck k f)
  | 3 => if live then (s.receiveData k f).bind (fun s => s.acknowledged k f) else some s
  | 4 => if live then (s.acknowledged k f).bind (fun s => s.endPhase k .ping) else some s
  | 5 => if live then (s.acknowledged k f).map (fun s => s.receiveNak k f) else some s
  | 6 => s.receiveClose k f
  | 7 => s.receiveCloseAck k
  | 8 => if live then s.acknowledged k f else some s
  | 9 => s.receiveFence k f
  | 10 => s.receiveFenceAck k f
  | 11 => if live then (s.acknowledged k f).bind (fun s => s.receiveError k f) else some s
  | _ => some s

/-- ACKNOW (R325): a frame that asks for it is answered with ACK at once while the path is up. -/
def State.ackNow (s : State) (k : Nat) (f : ScpFrame) : State := if f.acknow && (s.conn k).isUp then s.sendAck k else s

/-- Whether the fence generation of a frame lets it in (R337): the service class ignores it, and only a FENCE may come with one that follows the one held. -/
def Conn.fgenOk (c : Conn) (f : ScpFrame) : Bool := c.typ == 3 || f.typ == 9 || !follows f.fgen c.pfgen

/-- Whether the fence generation of a frame precedes the one held (R337). -/
def Conn.fenced (c : Conn) (f : ScpFrame) : Bool := c.typ != 3 && follows c.pfgen f.fgen

/-- An SCP frame arrives for key k (R327, R336, R337). None when it cannot be taken now: it is then lost. -/
def State.receiveScp (s : State) (v : Via) (k : Nat) (f : ScpFrame) : Option State :=
  let c := s.conn k
  if !f.crcOk then some (s.modCss fun x => { x with crcErr := satHalf x.crcErr })
  else if f.malformed (if c.pstate = psClosed ∨ c.pmax = 0 then 8192 else c.pmax) then some (s.modCss fun x => { x with malform := satHalf x.malform })
  else if !s.established k f then some ((s.modCss fun x => { x with unkConn := satHalf x.unkConn }).answer v k f 6 (closeBytes rsnNoConn))
  else if f.cls != c.cls then some (s.answerConn k f 11 (errorBytes rsnRefused f.xid 0))
  else if c.fenced f then some (s.answerConn k f 11 (errorBytes rsnFenced f.xid 0))
  else if !c.fgenOk f then some s
  else ((s.modConn k fun c => { c with rcvdBeat := s.beatc }).byType k f).map (fun s => s.ackNow k f)

/-! The rows of the frames. -/

/-- Whether a frame can reach a subchannel by its port (R358), or the witness connection on the management port (R354, R446). -/
def State.frameReaches (s : State) (k : Nat) : Bool :=
  if k = witnessKey then s.ct.witEn && s.isMgmt 15
  else
    let p := (s.sch k).port
    decide (k < 2 ^ 20) && s.schValid (s.sch k) && !(s.port p).leat && !s.isStandby p

/-- The port on which the frames of key k arrive. -/
def State.portOf (s : State) (k : Nat) : Nat := if k = witnessKey then 15 else (s.sch k).port

/-- A frame of one type arrives for a subchannel. In safe state it is not taken (R414); one that cannot be stored now is lost (log 37). -/
def scpRow (typ sch : Nat) (f : ScpFrame) (s : State) : Out :=
  if f.typ.toNat ≠ typ ∨ 2 ^ 20 < sch then .refused .illFormed
  else if !s.frameReaches sch then .next s
  else if s.weir.safe then .next s
  else orSame s (s.receiveScp { (s.conn sch).via with port := s.portOf sch } sch f)

/-- OPEN (R329). -/
def execScpOpen (sch : Nat) (f : ScpFrame) (s : State) : Out := scpRow 1 sch f s
/-- OPEN_ACK (R329). -/
def execScpOpenAck (sch : Nat) (f : ScpFrame) (s : State) : Out := scpRow 2 sch f s
/-- DATA (R330). -/
def execScpData (sch : Nat) (f : ScpFrame) (s : State) : Out := scpRow 3 sch f s
/-- ACK (R331). -/
def execScpAck (sch : Nat) (f : ScpFrame) (s : State) : Out := scpRow 4 sch f s
/-- NAK (R331). -/
def execScpNak (sch : Nat) (f : ScpFrame) (s : State) : Out := scpRow 5 sch f s
/-- CLOSE (R329). -/
def execScpClose (sch : Nat) (f : ScpFrame) (s : State) : Out := scpRow 6 sch f s
/-- CLOSE_ACK (R345). -/
def execScpCloseAck (sch : Nat) (f : ScpFrame) (s : State) : Out := scpRow 7 sch f s
/-- KEEPALIVE (R329). -/
def execScpKeepalive (sch : Nat) (f : ScpFrame) (s : State) : Out := scpRow 8 sch f s
/-- FENCE (R339). -/
def execScpFence (sch : Nat) (f : ScpFrame) (s : State) : Out := scpRow 9 sch f s
/-- FENCE_ACK (R339). -/
def execScpFenceAck (sch : Nat) (f : ScpFrame) (s : State) : Out := scpRow 10 sch f s
/-- ERROR (R335). -/
def execScpError (sch : Nat) (f : ScpFrame) (s : State) : Out := scpRow 11 sch f s

/-! The timers. -/

/-- Whether the timers of key k run. -/
def State.timersRun (s : State) (k : Nat) : Bool := decide (k ≤ 2 ^ 20) && !s.weir.safe

/-- OPEN_RESEND (R329): every RTOB beats while opening. -/
def execOpenResend (sch : Nat) (s : State) : Out :=
  let c := s.conn sch
  if s.timersRun sch && c.pstate == psOpening && !c.passive && !c.isTcp && decide (c.rtob ≤ s.since c.openBeat) then .next (s.sendOpen sch)
  else .next s

/-- KEEPALIVE_TIMER (R329): KA beats without a sent frame. -/
def execKeepaliveTimer (sch : Nat) (s : State) : Out :=
  let c := s.conn sch
  if s.timersRun sch && c.isUp && !c.isTcp && decide (c.ka ≤ s.since c.sentBeat) then .next (s.sendCtl sch 8 [])
  else .next s

/-- PATH_DEAD (R329): DEADT beats without a received frame. -/
def execPathDead (sch : Nat) (s : State) : Out :=
  let c := s.conn sch
  if s.timersRun sch && (c.isUp || c.pstate == psFencing) && !c.isTcp && decide (c.deadt ≤ s.since c.rcvdBeat) then orSame s (s.pathFail sch rsnDead)
  else .next s

/-- REOPEN (R329): RTOMAX beats after the failure when AUTO = 1; the configuration part is read as it stands (R348). -/
def execReopen (sch : Nat) (s : State) : Out :=
  match (s.conn sch).reopenAt with
  | some b => if s.timersRun sch && decide (b.toNat ≤ s.beatc.toNat) then .next (s.openKey sch) else .next s
  | none => .next s

/-- The oldest frame again, and RTO doubled up to RTOMAX (R331). -/
def State.retransmitScp (s : State) (sch : Nat) : State :=
  let c := s.conn sch
  match c.tx with
  | [] => s
  | x :: _ =>
    if s.timersRun sch && c.isUp && x.sent && decide (c.rto ≤ s.since c.ackBeat) then
      (s.sendFrame sch (s.dataFrame c x)).modConn sch fun c => { c with rto := min (2 * c.rto) c.rtomax }
    else s

/-- The ACK that is due when no frame has left within 1 beat of RCVNXT advancing (R330); on TCP the acknowledgement that was put off (RFC 9293). -/
def State.delayedAck (s : State) (sch : Nat) : State :=
  let c := s.conn sch
  match c.ackDue with
  | some b => if s.timersRun sch && decide (1 ≤ s.since b) then (if c.isTcp then s.tcpAck sch else s.sendAck sch) else s
  | none => s

/-- FENCE sent (R338). -/
def State.sendFence (s : State) (k : Nat) : State :=
  let c := s.conn k
  (s.sendCtl k 9 (bytesOf 4 c.cxidIn.toNat ++ bytesOf 4 c.rcvNxt.toNat)).modConn k fun c => { c with openBeat := s.beatc }

/-- FENCE_RESEND (R338): every RTOB beats until FENCE_ACK. -/
def execFenceResend (sch : Nat) (s : State) : Out :=
  let c := s.conn sch
  if s.timersRun sch && c.pstate == psFencing && decide (c.rtob ≤ s.since c.openBeat) then .next (s.sendFence sch)
  else .next s

end Sys2Proof.Machine
end

