-- ==== Sys2Proof/Machine/Tcp.lean ====
section
/-! DEFINITION. Message TCP: the segments that arrive and the retransmission timer (13 R341-R343). What the RFCs leave to an implementation is log 28. -/

namespace Sys2Proof.Machine

/-- The working state of TCP changed. -/
def State.modTcp (s : State) (k : Nat) (f : Tcp → Tcp) : State :=
  s.modConn k fun c => { c with tcp := some (f c.tcpState) }

/-- The connection after the options of a SYN (R341): the smaller MSS, both window shifts when both sides offer one, timestamps and SACK. -/
def State.synOptions (s : State) (k : Nat) (g : TcpSegment) : State :=
  let c := s.conn k
  let t := c.tcpState
  let mss := min (match g.mss with | some m => max 1 m.toNat | none => if c.enc = 4 then 1220 else 536) (s.mssOffered c)
  let shifts : Byte := match g.wscale with
    | some w => byteN (16 * min 14 w.toNat + min 14 c.wscale)
    | none => 0
  let iw := if 2190 < mss then 2 * mss else if 1095 < mss then 3 * mss else 4 * mss
  s.setConn k { c with
    rcvNxt := g.seq + 1, shifts := shifts, pwin := g.window.setWidth 32,
    tcp := some { t with irs := g.seq, got := g.seq + 1, mss := mss, cwnd := iw, ssthresh := 2 ^ 30, tsOn := g.ts.isSome, wsOn := g.wscale.isSome,
                         tsRecent := (g.ts.map Prod.fst).getD 0, sackOn := g.sackOk, wl1 := g.seq, wl2 := g.ack } }

/-- ESTABLISHED (R341): the path is up. A SYN that was sent again makes the retransmission time 3 s at least (RFC 6298). -/
def State.tcpEstablished (s : State) (k : Nat) : State :=
  let s := if (s.conn k).tcpState.backoffs = 0 then s else s.modConn k fun c => { c with rto := max 3000000 c.minrto }
  (s.modTcp k fun t => { t with phase := .established, backoffs := 0 }).pathUp k

/-- A reset in answer to a segment that no connection accepts (RFC 9293). -/
def State.tcpReject (s : State) (k : Nat) (g : TcpSegment) : State :=
  let c := s.conn k
  let r := s.segment c (if g.ackFlag then g.ack else 0) []
  s.sendSegment k { r with rst := true, ackFlag := !g.ackFlag, ack := if g.ackFlag then 0 else g.seq + BitVec.ofNat 32 (g.payload.length + (if g.syn then 1 else 0)) }

/-- LISTEN (R341): the first SYN that matches is accepted. -/
def State.tcpListen (s : State) (k : Nat) (g : TcpSegment) : State :=
  if g.rst then s
  else if g.ackFlag then s.tcpReject k g
  else if g.syn then
    let s := s.synOptions k g
    let s := s.modConn k fun c => { c with sndNxt := c.tcpState.iss + 1, sndUna := c.tcpState.iss, ackBeat := s.beatc }
    (s.modTcp k fun t => { t with phase := .synReceived, timer := s.beatc }).tcpSyn k true
  else s

/-- SYN-SENT (RFC 9293). -/
def State.tcpSynSent (s : State) (k : Nat) (g : TcpSegment) : Option State :=
  let c := s.conn k
  let good := g.ack == c.sndNxt
  if g.ackFlag ∧ good = false then some (if g.rst then s else s.tcpReject k g)
  else if g.rst then (if g.ackFlag then s.pathFail k rsnReset else some s)
  else if g.syn then
    let s := s.synOptions k g
    if g.ackFlag then some (((s.modConn k fun c => { c with sndUna := g.ack }).tcpEstablished k).tcpAck k)
    else some ((s.modTcp k fun t => { t with phase := .synReceived }).tcpSyn k true)
  else some s

/-! Acknowledgements. -/

/-- A chunk without the bytes that are acknowledged. -/
def TcpChunk.trim (x : TcpChunk) (ack : Word32) : TcpChunk :=
  let d := (ack - x.seq).toNat
  if follows ack x.seq ∧ d < x.data.length then { x with seq := ack, data := x.data.drop d } else x

/-- The messages of which every byte is acknowledged end (R334) and their records retire (R432). -/
def State.messagesAcked (s : State) (k : Nat) : List TcpChunk → Option State
  | [] => some s
  | x :: xs =>
    let still := (s.conn k).tcpState.chunks.any (fun y => y.op == x.op && y.gen == x.gen)
    let s? := if still then some s
      else match x.gen, x.op with
        | some g, _ => some (s.retireRecs (fun r => r.gen == g))
        | none, some id =>
          (match s.op id with
           | some o => if o.phase = .exchange 0 then s.endCommand id 0 else some s
           | none => some s)
        | none, none => some s
    s?.bind (fun s => State.messagesAcked s k xs)

/-- RTO from a round-trip time (RFC 6298), in beats, at least MINRTO. -/
def Conn.rttSample (c : Conn) (r : Nat) : Conn :=
  let t := c.tcpState
  let (srtt, rttvar) :=
    if t.srtt = 0 then (r, r / 2)
    else ((7 * t.srtt + r) / 8, (3 * t.rttvar + (if t.srtt < r then r - t.srtt else t.srtt - r)) / 4)
  { c with rto := max c.minrto (srtt + max 1 (4 * rttvar)), tcp := some { t with srtt := srtt, rttvar := rttvar, timed := none } }

/-- The congestion window after an acknowledgement of n bytes up to ack (RFC 5681); a loss recovery ends at its recovery point, or without SACK at the first new acknowledgement (RFC 5681, RFC 6675). -/
def Tcp.grow (t : Tcp) (n : Nat) (ack : Word32) : Tcp :=
  match t.recover with
  | some r => if notAfter r ack || !t.sackOn then { t with cwnd := t.ssthresh, dupAcks := 0, recover := none } else t
  | none =>
    if t.cwnd < t.ssthresh then { t with cwnd := t.cwnd + min n t.mss, dupAcks := 0 }
    else { t with cwnd := t.cwnd + max 1 (t.mss * t.mss / max 1 t.cwnd), dupAcks := 0 }

/-- New bytes are acknowledged. -/
def State.newAck (s : State) (k : Nat) (ack : Word32) : Option State :=
  let c := s.conn k
  let n := (ack - c.sndUna).toNat
  let whole := fun (x : TcpChunk) => notAfter (x.seq + BitVec.ofNat 32 x.data.length) ack
  let c := match c.tcpState.timed with
    | some (q, b) => if notAfter q ack then c.rttSample (s.since b) else c
    | none => c
  let t := c.tcpState.grow n ack
  let t := { t with chunks := (t.chunks.filter (fun x => !whole x)).map (fun x => x.trim ack), timer := s.beatc, backoffs := 0 }
  let done := c.tcpState.chunks.filter whole
  (s.setConn k { c with sndUna := ack, ackBeat := s.beatc, tcp := some t }).messagesAcked k done

/-- The oldest chunk that is sent and not reported by SACK goes out again. -/
def State.resendOldest (s : State) (k : Nat) : State :=
  let c := s.conn k
  if s.mayTransmit c.port c.prio then
    match c.tcpState.chunks.find? (fun x => x.sent && !x.sacked) with
    | some x => s.sendChunk k x
    | none => s
  else s

/-- Whether the oldest chunk that SACK does not report counts as lost (RFC 6675). -/
def Tcp.oldestLost (t : Tcp) : Bool :=
  match t.chunks.dropWhile TcpChunk.sacked with
  | _ :: xs => t.sackOn && lostBelow t.mss xs
  | [] => false

/-- A duplicate acknowledgement (RFC 5681, RFC 6675): the third one, or a loss that SACK shows, begins a loss recovery and sends the missing segment again. -/
def State.dupAck (s : State) (k : Nat) : State :=
  let c := s.conn k
  let t := c.tcpState
  let n := t.dupAcks + 1
  if t.recover.isSome then (if t.sackOn then s else s.modTcp k fun t => { t with dupAcks := n, cwnd := t.cwnd + t.mss })
  else if 3 ≤ n ∨ t.oldestLost = true then
    let half := max (c.flight / 2) (2 * t.mss)
    (s.modTcp k fun t => { t with
      dupAcks := n, ssthresh := half, cwnd := if t.sackOn then half else half + 3 * t.mss, recover := some c.sndNxt,
      chunks := t.chunks.map (fun x => { x with resent := false }) }).resendOldest k
  else s.modTcp k fun t => { t with dupAcks := n }

/-- Whether SACK blocks cover a chunk (RFC 2018). -/
def TcpChunk.coveredBy (x : TcpChunk) (bs : List (Word32 × Word32)) : Bool :=
  bs.any (fun b => !follows b.1 x.seq && notAfter (x.seq + BitVec.ofNat 32 x.data.length) b.2)

/-- The chunks that SACK blocks cover are marked (RFC 2018). -/
def State.markSack (s : State) (k : Nat) (bs : List (Word32 × Word32)) : State :=
  if bs = [] then s
  else s.modTcp k fun t => { t with chunks := t.chunks.map (fun x => if x.sent && x.coveredBy bs then { x with sacked := true } else x) }

/-- What the acknowledgement of the FIN ends (R341, R345). -/
def State.finAcked (s : State) (k : Nat) : Option State :=
  let c := s.conn k
  let t := c.tcpState
  match t.finSent with
  | none => some s
  | some q =>
    if !follows c.sndUna q then some s
    else match t.phase with
      | .finWait1 => (((s.closedByControl k rsnClosed).modConn k fun c => { c with tcp := some { t with phase := .finWait2 } })).endPhase k .close
      | .closing => (((s.closedByControl k rsnClosed).modConn k fun c => { c with tcp := some { t with phase := .timeWait } })).endPhase k .close
      | .lastAck => s.pathFail k rsnClosed
      | _ => some s

/-- Whether a segment counts as a duplicate acknowledgement: with SACK by what it newly reports (RFC 6675), else by RFC 5681. -/
def Conn.isDupAck (c : Conn) (g : TcpSegment) (win : Nat) : Bool :=
  decide (0 < c.flight) &&
  (if c.tcpState.sackOn then c.tcpState.chunks.any (fun x => x.sent && !x.sacked && x.coveredBy g.sack)
   else g.ack == c.sndUna && g.payload.isEmpty && !g.fin && win == c.pwin.toNat)

/-- The send window of a segment taken over when the segment is not older than the one that set it (RFC 9293). A peer that answers while its window is closed keeps the connection open. -/
def State.takeWindow (s : State) (k : Nat) (g : TcpSegment) (win : Nat) : State :=
  s.modConn k fun c =>
    let t := c.tcpState
    let c := { c with ackBeat := if win = 0 ∨ c.pwin = 0 then s.beatc else c.ackBeat }
    if follows g.seq t.wl1 || (g.seq == t.wl1 && notAfter t.wl2 g.ack) then
      { c with pwin := BitVec.ofNat 32 win, tcp := some { t with wl1 := g.seq, wl2 := g.ack } }
    else c

/-- The acknowledgement fields of a segment. -/
def State.tcpAcked (s : State) (k : Nat) (g : TcpSegment) : Option State :=
  let c := s.conn k
  let win := g.window.toNat * 2 ^ (c.shifts.toNat / 16)
  let dup := c.isDupAck g win
  let s := s.markSack k g.sack
  let s? :=
    if follows g.ack c.sndUna && notAfter g.ack c.sndNxt then s.newAck k g.ack
    else if dup then some (s.dupAck k)
    else some s
  s?.bind fun s => ((s.takeWindow k g win).finAcked k).bind fun s => (s.pumpTcp k).endSent

/-! Data (R342, R343). -/

/-- Bytes of a message that Stillwater cannot take are discarded (R343): the sequence goes back to the message's first byte. -/
def State.discardMessage (s : State) (k : Nat) (n : Nat) : State :=
  s.modConn k fun c =>
    let t := c.tcpState
    { c with used := c.used - t.inbound.length,
             rxTail := BitVec.ofNat 32 ((c.rxTail.toNat + c.rxSize - t.inbound.length) % c.rxSize),
             tcp := some { t with got := t.got - BitVec.ofNat 32 n, inbound := [], ahead := [] } }

/-- A whole message at the front of the bytes received: prefix of p bytes, length L, first byte at sequence number seq. -/
def State.tcpMessage (s : State) (k p l : Nat) (seq : Word32) : Option State :=
  let c := s.conn k
  let t := c.tcpState
  let data := (t.inbound.drop p).take l
  let x : InExchange :=
    { xid := seq, xop := 4, total := l, aux := 0, tag := 0, data := data, complete := true, gen := none, released := false, delivered := false,
      committed := !c.jin, area := p + l }
  let put := fun (s : State) (x : InExchange) =>
    (s.modConn k fun c => { c with inEx := c.inEx ++ [x], tcp := some { c.tcpState with inbound := c.tcpState.inbound.drop (p + l) } }).deliver k
  if c.jin then
    match s.reserveInbound k 0 (seq.setWidth 64) l with
    | none => some (s.discardMessage k t.inbound.length)
    | some (g, s) => put (s.modRec g fun r => { r with data := data }) { x with gen := some g }
  else put s x

/-- A framing error (R342). -/
def State.framingError (s : State) (k : Nat) : Option State := (s.tcpRst k).pathFail k rsnFraming

/-- The whole messages among the bytes received (R342); fuel counts the bytes. -/
def State.parse (s : State) (k : Nat) : Nat → Option State
  | 0 => some s
  | fuel + 1 =>
    let c := s.conn k
    let t := c.tcpState
    let p := c.prefixBytes
    if t.inbound.length < p then some s
    else
      let l := natOf (t.inbound.take p)
      if 0x1000000 < l ∨ c.rxSize < l then s.framingError k
      else if t.inbound.length < p + l then some s
      else (s.tcpMessage k p l (t.got - BitVec.ofNat 32 t.inbound.length)).bind (fun s => State.parse s k fuel)

/-- Bytes in order are stored in the receive area; RCV.NXT follows unless messages are journaled (R343). -/
def State.takeBytes (s : State) (k : Nat) (bs : List Byte) : Option State :=
  (s.storeArea k bs).bind fun s =>
    let s := s.modConn k fun c =>
      let t := c.tcpState
      let got := t.got + BitVec.ofNat 32 bs.length
      { c with tcp := some { t with got := got, inbound := t.inbound ++ bs }, rcvNxt := if c.jin then c.rcvNxt else got }
    s.parse k ((s.conn k).tcpState.inbound.length + 1)

/-- The bytes kept out of order that are now in order; fuel counts the pieces. -/
def State.takeAhead (s : State) (k : Nat) : Nat → Option State
  | 0 => some s
  | fuel + 1 =>
    let t := (s.conn k).tcpState
    match t.ahead.find? (fun p => !follows p.1 t.got && follows (p.1 + BitVec.ofNat 32 p.2.length) t.got) with
    | none => some (s.modTcp k fun t => { t with ahead := t.ahead.filter (fun p => follows (p.1 + BitVec.ofNat 32 p.2.length) t.got) })
    | some p =>
      let bs := p.2.drop (t.got - p.1).toNat
      if (s.conn k).areaFree < bs.length then some s
      else
        let s := s.modTcp k fun t => { t with ahead := t.ahead.filter (fun q => q.1 != p.1) }
        (s.takeBytes k bs).bind (fun s => State.takeAhead s k fuel)

/-- An acknowledgement of new bytes: at once for every second segment, else put off (RFC 9293). -/
def State.ackLater (s : State) (k : Nat) : State :=
  let c := s.conn k
  if c.jin then s
  else match c.ackDue with
    | some _ => s.tcpAck k
    | none => s.modConn k fun c => { c with ackDue := some s.beatc }

/-- The bytes of a segment (R343, R348). -/
def State.tcpData (s : State) (k : Nat) (g : TcpSegment) : Option State :=
  let c := s.conn k
  let t := c.tcpState
  if g.payload = [] ∨ !(t.phase == .established || t.phase == .finWait1 || t.phase == .finWait2) then some s
  else
    let stop := g.seq + BitVec.ofNat 32 g.payload.length
    if !follows stop t.got then some (s.tcpAck k)
    else
      let (seq, bs) := if follows t.got g.seq then (t.got, g.payload.drop (t.got - g.seq).toNat) else (g.seq, g.payload)
      if c.areaFree < (stop - t.got).toNat then some ((s.count c.port 8 1).tcpAck k)
      else if seq = t.got then
        (s.takeBytes k bs).bind fun s => (s.takeAhead k (t.ahead.length + 1)).map fun s => s.ackLater k
      else some ((s.modTcp k fun t => { t with ahead := (seq, bs) :: t.ahead.filter (fun q => q.1 != seq) }).tcpAck k)

/-- The FIN of a segment (R342): inside a message it is a framing error. -/
def State.tcpFin (s : State) (k : Nat) (g : TcpSegment) : Option State :=
  let t := (s.conn k).tcpState
  if !g.fin ∨ t.phase = .closed then some s
  else if g.seq + BitVec.ofNat 32 g.payload.length = t.got then
    if t.inbound ≠ [] then s.framingError k
    else some ((s.modTcp k fun t => { t with finAt := some t.got }).reachFin k)
  else some s

/-- Whether a segment is acceptable (RFC 9293): some of its sequence space lies in the window. -/
def Conn.acceptable (c : Conn) (g : TcpSegment) : Bool :=
  let win := c.areaFree + (c.tcpState.got - c.rcvNxt).toNat
  let len := g.payload.length + (if g.fin then 1 else 0) + (if g.syn then 1 else 0)
  let inWin := fun (q : Word32) => decide ((q - c.rcvNxt).toNat < win) || (win == 0 && q == c.rcvNxt)
  if len = 0 then inWin g.seq else inWin g.seq || (decide (0 < win) && inWin (g.seq + BitVec.ofNat 32 (len - 1)))

/-- Whether timestamps refuse a segment (RFC 7323). -/
def Tcp.stale (t : Tcp) (g : TcpSegment) : Bool :=
  match g.ts with
  | some (v, _) => t.tsOn && follows t.tsRecent v
  | none => false

/-- A segment in a synchronised state (RFC 9293). -/
def State.tcpSynchronised (s : State) (k : Nat) (g : TcpSegment) : Option State :=
  let c := s.conn k
  let t := c.tcpState
  if !c.acceptable g ∨ (t.stale g ∧ !g.rst) then
    some (if g.rst then s else s.tcpAck k)
  else if g.rst then
    if g.seq = c.rcvNxt ∨ g.seq = t.got then
      if c.pstate = psClosed then some (s.modConn k fun c => { c with tcp := none }) else s.pathFail k rsnReset
    else some (s.tcpAck k)
  else if g.syn then some (s.tcpAck k)
  else if !g.ackFlag then some s
  else
    let s := match g.ts with
      | some (v, _) => if t.tsOn ∧ !follows g.seq c.rcvNxt then s.modTcp k fun t => { t with tsRecent := v } else s
      | none => s
    let s? :=
      if t.phase = .synReceived then
        if follows g.ack c.sndUna && notAfter g.ack c.sndNxt then
          some ((s.modConn k fun c => { c with sndUna := g.ack }).tcpEstablished k)
        else some (s.tcpReject k g)
      else if follows g.ack c.sndNxt then some (s.tcpAck k)
      else some s
    s?.bind fun s => (s.tcpAcked k g).bind fun s => (s.tcpData k g).bind fun s => (s.tcpFin k g).bind fun s => s.endPhase k .ping

/-- A segment arrives for subchannel k. None when its bytes cannot be stored now: it is then lost (log 37). -/
def State.receiveTcp (s : State) (k : Nat) (g : TcpSegment) : Option State :=
  if !g.checksumOk then some s
  else
    let s := s.modConn k fun c => { c with rcvdBeat := s.beatc }
    match (s.conn k).tcpState.phase with
    | .closed => some s
    | .listen => some (s.tcpListen k g)
    | .synSent => s.tcpSynSent k g
    | _ => s.tcpSynchronised k g

/-- TCP_SEGMENT (R341). -/
def execTcpSegment (sch : Nat) (g : TcpSegment) (s : State) : Out :=
  if 2 ^ 20 ≤ sch then .refused .illFormed
  else if !s.frameReaches sch || (s.conn sch).tcp.isNone then .next s
  else if s.weir.safe then .next s
  else orSame s (s.receiveTcp sch g)

/-- The retransmission limit of RFC 9293 in beats: 100 s, and 3 minutes for a SYN (log 28). -/
def tcpLimit (p : TcpPhase) : Nat := if p == .synSent || p == .synReceived then 180000000 else 100000000

/-- A probe of a closed window (RFC 9293): the first byte that is not acknowledged. -/
def State.windowProbe (s : State) (k : Nat) : State :=
  match (s.conn k).tcpState.chunks with
  | x :: _ => if s.mayTransmit (s.conn k).port (s.conn k).prio then s.sendChunk k { x with data := x.data.take 1 } else s
  | [] => s

/-- The state of the sender after its timer has run out (RFC 5681, RFC 6298): RTO doubled, and but for a SYN or a closed window everything in flight goes out again from a window of one segment. -/
def Conn.timedOut (c : Conn) (b : Word) (opening : Bool) : Conn :=
  let t := { c.tcpState with timer := b, backoffs := c.tcpState.backoffs + 1, timed := none }
  { c with
    rto := 2 * c.rto,
    tcp := some (if opening || c.pwin == 0 then t
      else { t with
        ssthresh := max (c.flight / 2) (2 * t.mss), cwnd := t.mss, dupAcks := 0, recover := none,
        chunks := t.chunks.map (fun x => { x with sent := false, sacked := false, resent := false }) }) }

/-- TCP_RETRANSMIT_TIMEOUT (R341, RFC 6298): the oldest segment again, or a probe of a closed window; the path fails at the limit. -/
def execTcpRetransmitTimeout (sch : Nat) (s : State) : Out :=
  let c := s.conn sch
  let t := c.tcpState
  let opening := t.phase == .synSent || t.phase == .synReceived
  let waits := opening || c.flight != 0 || (t.chunks.any (fun x => !x.sent) && c.pwin == 0)
  if !s.timersRun sch || c.tcp.isNone || c.pstate == psClosed || !waits || decide (s.since t.timer < c.rto) then .next s
  else if tcpLimit t.phase ≤ s.since c.ackBeat then orSame s (s.pathFail sch rsnDead)
  else
    let s := s.modConn sch fun c => c.timedOut s.beatc opening
    .next (match t.phase, t.finSent with
      | .synSent, _ => s.tcpSyn sch false
      | .synReceived, _ => s.tcpSyn sch true
      | _, some q => s.sendSegment sch { s.segment (s.conn sch) q [] with fin := true }
      | _, none => if c.pwin = 0 then s.windowProbe sch else s.sendNextChunk sch)

end Sys2Proof.Machine
end

