-- ==== Sys2Proof/Machine/Ccw.lean ====
section
/-! DEFINITION. Channel command words: their checks and what each command does (12 R293-R300, 13 R334, R345, R346). -/

namespace Sys2Proof.Machine

/-- A CCW as it stands in memory (R293, R294). -/
structure Ccw where
  addr : Nat
  count : Nat
  cmd : Nat
  ctl : Byte
  reserved : Nat
  aux : Word
  key : Word
  deriving DecidableEq, Repr

def Ccw.seq (c : Ccw) : Nat := c.ctl.toNat / 64
def Ccw.len (c : Ccw) : Nat := c.ctl.toNat / 16 % 4
def Ccw.j (c : Ccw) : Bool := bitAt c.ctl 3
def Ccw.mark (c : Ccw) : Bool := bitAt c.ctl 2
def Ccw.drop (c : Ccw) : Bool := bitAt c.ctl 1
/-- The function code of CONTROL (R345). -/
def Ccw.func (c : Ccw) : Nat := (fld c.aux 0 8).toNat

/-- The CCW at an address (R293). -/
def State.ccwAt (s : State) (a : Nat) : Ccw :=
  let b := s.devBytes a 32
  let n := fun off len => natOf ((b.drop off).take len)
  { addr := n 0 8, count := n 8 4, cmd := n 12 1, ctl := b.getD 13 0, reserved := n 14 2, aux := wordOf ((b.drop 16).take 8), key := wordOf ((b.drop 24).take 8) }

/-- The commands of R295 with the types that take them: storage, peer, message, service. -/
def ccwTypes (cmd : Nat) : List Bool :=
  match cmd with
  | 0x10 => [true, true, false, false]
  | 0x11 => [true, true, false, false]
  | 0x20 => [true, true, false, false]
  | 0x21 => [true, true, true, false]
  | 0x30 => [false, true, true, true]
  | 0x31 => [false, true, true, true]
  | 0x40 => [true, true, true, true]
  | 0x41 => [true, true, true, true]
  | 0x50 => [true, true, true, true]
  | 0x51 => [true, true, true, true]
  | _ => []

/-- The commands with a data list that holds at least one byte (R298). -/
def ccwData (cmd : Nat) : Bool := cmd == 0x10 || cmd == 0x11 || cmd == 0x20 || cmd == 0x21 || cmd == 0x30 || cmd == 0x31 || cmd == 0x41

/-- Whether a command moves data: CONTROL does so for QUERY and PARTNER (R345). -/
def Ccw.moves (c : Ccw) : Bool := ccwData c.cmd || (c.cmd == 0x40 && (c.func == 3 || c.func == 5))

/-- Whether a leading CCW holds a command (R295, R345). -/
def Ccw.isCommand (c : Ccw) : Bool := !(ccwTypes c.cmd).isEmpty && (c.cmd != 0x40 || (decide (1 ≤ c.func) && decide (c.func ≤ 5)))

/-- Commands that take no extension CCW (R298). -/
def Ccw.noExtend (c : Ccw) : Bool := c.cmd == 0x21 || c.cmd == 0x41 || c.cmd == 0x50 || c.cmd == 0x51 || (c.cmd == 0x40 && !c.moves)

/-- The checks of R298 that one CCW shows, each with its DETAIL in ascending order; ok says whether its data pass R297, ext whether it must be an extension. COUNT binds only where it is used (log 38). -/
def Ccw.checks (c : Ccw) (ext : Bool) (moves ok : Bool) (typ : Nat) : List (Bool × Nat) :=
  [(if ext then c.cmd != 0 else !c.isCommand, 1),
   (c.seq == 3 || decide (2 ≤ c.len) || bitAt c.ctl 0 || (ext && (c.len != 0 || c.j || c.mark || c.drop)) || (c.drop && c.cmd != 0x20) ||
      (c.seq == 2 && !ext && c.noExtend), 2),
   (c.reserved != 0 || (ext && (c.aux != 0 || c.key != 0)), 3),
   (((ext || moves) && decide (0x1000000 < c.count)) || (c.count == 0 && (ext || ccwData c.cmd)), 4),
   (!ok, 5),
   (!ext && c.cmd == 0x50 && c.addr % 32 != 0, 6),
   (!ext && !((ccwTypes c.cmd).getD typ false), 7),
   (!ext && c.j && !(c.cmd == 0x11 || (c.cmd == 0x30 && typ != 3)), 9)]

/-- The lowest DETAIL of the checks that fail (log 38). -/
def firstFail (xs : List (Bool × Nat)) : Option Nat := (xs.find? Prod.fst).map Prod.snd

/-- Why a command's CCWs end the program: code, DETAIL and the failing CCW. -/
structure CcwStop where
  code : Byte
  detail : Half
  at_ : Nat
  deriving DecidableEq, Repr

/-- PROGRAM_CHECK at a CCW. -/
def check (detail at_ : Nat) : CcwStop := { code := codeProgramCheck, detail := BitVec.ofNat 16 detail, at_ := at_ }

/-- The data list of a command from one CCW on (R294, R297, R298): the CCWs, the last one's SEQ, and the number of CCWs that the program has reached. -/
def State.readChain (s : State) (sl typ : Nat) (lead : Option Ccw) (reached : Nat) : Nat → Nat → Except (Nat × CcwStop) (List (Nat × Ccw) × Nat)
  | 0, a => .error (reached, check 8 a)
  | fuel + 1, a =>
    if 65536 ≤ reached then .error (reached + 1, check 8 a)
    else if !s.granted sl a 32 then .error (reached + 1, check 5 a)
    else if s.readPoison a 32 then .error (reached + 1, { code := codePoison, detail := 0, at_ := a })
    else
      let c := s.ccwAt a
      let moves := (lead.getD c).moves
      match firstFail (c.checks lead.isSome moves (!moves || s.granted sl c.addr c.count) typ) with
      | some d => .error (reached + 1, check d a)
      | none =>
        if c.seq = 2 then
          match State.readChain s sl typ (some (lead.getD c)) (reached + 1) fuel (a + 32) with
          | .ok (xs, n) => .ok ((a, c) :: xs, n)
          | .error e => .error e
        else .ok ([(a, c)], reached + 1)

/-- The first CCW at which a running total of counts exceeds a limit. -/
def overLimit (limit : Nat) (sum : Nat) : List (Nat × Ccw) → Option Nat
  | [] => none
  | (a, c) :: xs => if limit < sum + c.count then some a else overLimit limit (sum + c.count) xs

/-- Whether a command journals its data (R295, R311, R344). -/
def State.journals (s : State) (o : Operation) (c : Ccw) : Bool :=
  c.cmd == 0x11 || (c.cmd == 0x30 && (c.j || ((s.conn o.sch).isTcp && (s.sch o.sch).guarded)))

/-- The checks that need the whole data list or a BRANCH target (R297, R298, R342). -/
def State.commandChecks (s : State) (o : Operation) (lead : Ccw) (xs : List (Nat × Ccw)) : Option CcwStop :=
  let c := s.conn o.sch
  match (if s.journals o lead then overLimit 0x100000 0 xs else none) with
  | some a => some (check 0xA a)
  | none =>
    match (if lead.cmd = 0x30 ∧ c.isTcp then overLimit (2 ^ (8 * c.prefixBytes) - 1) 0 xs else none) with
    | some a => some (check 4 a)
    | none =>
      if lead.cmd ≠ 0x50 then none
      else if !s.granted o.slice lead.addr 32 then some (check 5 o.ccw)
      else if (s.ccwAt lead.addr).cmd = 0x50 then some (check 6 o.ccw)
      else none

/-- The command that an operation has reached, or why it ends the program; with it the number of CCWs reached. -/
def State.fetchCommand (s : State) (o : Operation) : Except (Nat × CcwStop) (Command × Ccw × Nat) :=
  match s.readChain o.slice (s.sch o.sch).typ none o.reached 65537 o.ccw with
  | .error e => .error e
  | .ok (xs, n) =>
    let lead := (xs.head?.map Prod.snd).getD (s.ccwAt o.ccw)
    match s.commandChecks o lead xs with
    | some e => .error (n, e)
    | none =>
      let last := (xs.getLast?.map Prod.fst).getD o.ccw
      let seq := (xs.getLast?.map (fun p => p.2.seq)).getD 0
      .ok ({ lead := o.ccw, last := last, seqNext := seq == 1, cmd := lead.cmd, short := lead.len == 1, mark := lead.mark,
             journal := s.journals o lead, dropData := lead.drop, aux := lead.aux, key := lead.key,
             data := if lead.moves then xs.map (fun p => (p.2.addr, p.2.count)) else [] }, lead, n)

/-- A program check counts in PCHK, which saturates (R289, R298). -/
def State.countCheck (s : State) (sch : Nat) : State :=
  let e := s.sch sch
  let n : Half := fld e.journal 16 16
  s.tableStore (schAddr sch + 24) (putFld e.journal 16 (satHalf n))

/-- The length of the data list that begins at a CCW (R299), as far as its CCWs can be read; fuel counts them. -/
def State.listLength (s : State) (sl : Nat) : Nat → Nat → Nat
  | 0, _ => 0
  | fuel + 1, a =>
    if !s.granted sl a 32 || s.readPoison a 32 then 0
    else
      let c := s.ccwAt a
      c.count + (if c.seq = 2 then State.listLength s sl fuel (a + 32) else 0)

/-- The program ends at a CCW that fails (R298): nothing of its command is transferred, so RESID is the command's length (R299, log 31). -/
def State.stopProgram (s : State) (o : Operation) (e : CcwStop) : Option State :=
  let n := if !s.granted o.slice o.ccw 32 || s.readPoison o.ccw 32 || !(s.ccwAt o.ccw).moves then 0 else s.listLength o.slice (65536 - o.reached) o.ccw
  (if e.code = codeProgramCheck then s.countCheck o.sch else s).endOp o.id e.code e.detail (BitVec.ofNat 32 n) e.at_

/-- A command starts: the operation names it, and MARK writes its progress entry (R300). -/
def State.startCommand (s : State) (o : Operation) (c : Command) (n : Nat) : Option State :=
  let s := s.modOp o.id fun o => { o with cmd := some c, reached := n, ccwpa := c.last }
  if c.mark then s.addEntry (o.markEntry c.lead) else some s

/-- The first CCW of a command whose data are poisoned. -/
def State.poisonedCcw (s : State) (c : Command) : Option Nat :=
  ((List.range c.data.length).find? (fun i => match c.data[i]? with | some p => s.readPoison p.1 p.2 | none => false)).map (fun i => c.lead + 32 * i)

/-- A row of a CCW command: it runs when the operation of the subchannel has reached such a command. A CCW that holds no command ends the program whichever row meets it. A halt that was accepted ends the operation here at the latest (R302). A command that would start an exchange waits for FENCE_ACK (R338). -/
def ccwRow (cmd : Nat) (func : Option Nat) (waits : Bool) (run : Operation → Command → State → Option State) (sch : Nat) (s : State) : Out :=
  match s.opOfSch sch with
  | none => .next s
  | some o =>
    if s.weir.safe ∨ s.cpRuns (s.sch sch).lcp = false then .next s
    else if o.halting ∧ o.phase ≠ .ended then orSame s (s.endHalted o.id o.at_)
    else if o.phase ≠ .ready then .next s
    else match s.fetchCommand o with
      | .error (n, e) =>
        let c := s.ccwAt o.ccw
        if c.isCommand && s.granted o.slice o.ccw 32 && (c.cmd != cmd || (func.isSome && func != some c.func)) then .next s
        else orSame s ((s.modOp o.id fun o => { o with reached := n }).stopProgram o e)
      | .ok (c, lead, n) =>
        if lead.cmd != cmd || (func.isSome && func != some lead.func) || (waits && (s.conn sch).pstate == psFencing) then .next s
        else orSame s ((s.startCommand o c n).bind fun s => run o c s)

/-- A command that needs its path: the program ends with PATH_DOWN when it is gone (R302). -/
def needPath (run : Operation → Command → State → Option State) (o : Operation) (c : Command) (s : State) : Option State :=
  if (s.conn o.sch).isOpen then run o c s else s.failOp o.sch codePathDown false (s.conn o.sch).lastReason 0 0

/-- The operation waits in a phase. -/
def State.setPhase (s : State) (id : Nat) (p : OpPhase) : State := s.modOp id fun o => { o with phase := p }

/-- The bytes of a data list before the first poisoned line (R264, R317). -/
def State.cleanBytes (s : State) : List (Nat × Nat) → List Byte
  | [] => []
  | (a, n) :: xs =>
    if n = 0 then State.cleanBytes s xs
    else match (List.range ((a + n - 1) / 256 - a / 256 + 1)).find? (fun i => s.readPoison ((a / 256 + i) * 256) 1) with
    | some i => s.devBytes a ((a / 256 + i) * 256 - a)
    | none => s.devBytes a n ++ State.cleanBytes s xs

/-- The frames of an SCP exchange before its poisoned one are sent, with a number of the exchange; when there is none, no exchange begins (R317, log 162). -/
def State.sendCleanScp (s : State) (o : Operation) (c : Command) (xop : Nat) : State :=
  let k := s.conn o.sch
  let m := max 1 k.pmax
  let bs := exchangeBytes { xid := k.xidOut, seq := 0, xop := xop, total := c.length, aux := c.aux, tag := c.key, data := s.cleanBytes c.data, use := .spent }
  let n := bs.length / m
  if n = 0 then s
  else
    let fs := (framesOf k.sndNxt k.xidOut true (payloads m n (bs.take (n * m)))).map (fun f => { f with last := false })
    (s.setConn o.sch { k with
      tx := k.tx ++ fs, sndNxt := k.sndNxt + BitVec.ofNat 32 n, xidOut := k.xidOut + 1, ackBeat := if k.tx.isEmpty then s.beatc else k.ackBeat }).pumpScp o.sch

/-- The segments of a message before its poisoned one are sent (R317). -/
def State.sendCleanTcp (s : State) (o : Operation) (c : Command) : State :=
  let k := s.conn o.sch
  let t := k.tcpState
  let bs := bytesOf k.prefixBytes c.length ++ s.cleanBytes c.data
  let n := bs.length / t.segmentMax * t.segmentMax
  (s.setConn o.sch { k with tcp := some { t with
    chunks := t.chunks ++ chunksOf t.segmentMax none none (n + 1) t.sndEnd (bs.take n), sndEnd := t.sndEnd + BitVec.ofNat 32 n } }).pumpTcp o.sch

/-- A command whose unjournaled data are poisoned ends with DATA_POISON (R306, R317). -/
def State.poisonEnd (s : State) (o : Operation) (c : Command) (at_ : Nat) : Option State :=
  s.endOp o.id codePoison 0 (BitVec.ofNat 32 c.length) at_

/-- Unjournaled data go to the partner in one exchange, up to what is poisoned (R306, R317, R332). The function data of a CONTROL exchange are free (log 40). -/
def sendExchange (xop : Nat) (o : Operation) (c : Command) (s : State) : Option State :=
  let (f, s) := if xop = 5 then s.takeFree else (c.aux, s)
  let c := { c with aux := f }
  match s.poisonedCcw c with
  | some a => (s.sendCleanScp o c xop).poisonEnd o c a
  | none =>
    let (xid, s) := s.startExchange o.sch xop c.length f c.key (s.gatherList c.data) (.command o.id)
    some (s.setPhase o.id (.exchange xid))

/-- Journaled data wait for their record (R311, R431); poisoned data end the program (R298). -/
def journalData (kind : Nat) (o : Operation) (c : Command) (s : State) : Option State :=
  match s.poisonedCcw c with
  | some a => s.stopProgram o (check 0xB a)
  | none =>
    some ((s.setPhase o.id .reserve).addWait
      { op := o.id, kind := kind, sch := o.sch, guarded := (s.sch o.sch).guarded, key := c.key, pos := if kind = 1 then c.aux else 0, parm := o.parm,
        data := s.gatherList c.data, started := false, done := false })

/-- WRITE (R334). -/
def execCcwWrite (sch : Nat) (s : State) : Out := ccwRow 0x10 none true (needPath (sendExchange 1)) sch s

/-- WRITE_COMMITTED (R314). -/
def execCcwWriteCommitted (sch : Nat) (s : State) : Out := ccwRow 0x11 none true (needPath (journalData 1)) sch s

/-- READ (R332, R334). -/
def execCcwRead (sch : Nat) (s : State) : Out :=
  ccwRow 0x20 none true (needPath fun o c s =>
    let (xid, s) := s.startExchange o.sch 2 c.length c.aux c.key [] (.command o.id)
    some (s.setPhase o.id (.reply xid))) sch s

/-- The records that READ-JOURNALED selects, in generation order (R430): those of the subchannel that are released (log 39). -/
def State.journaled (s : State) (sch : Nat) (gen : Word32) : List JRec :=
  ((s.ct.recs.filter (fun r => !r.retired && r.released && r.sch == sch && notAfter gen r.gen)).map (fun r => ((r.gen - gen).toNat, r))).mergeSort
    (fun a b => decide (a.1 ≤ b.1)) |>.map Prod.snd

/-- The whole records that fit (R299). -/
def wholeRecords (n : Nat) : List JRec → List Byte
  | [] => []
  | r :: rs => if 256 * r.units ≤ n then r.bytes ++ wholeRecords (n - 256 * r.units) rs else []

/-- Bytes stored over a command's data list, then its end with what was not used (R299). -/
def State.storeAndEnd (s : State) (o : Operation) (c : Command) (bs : List Byte) : Option State :=
  (s.storeList (s.cpSource (s.sch o.sch).lcp 4) c.data bs).bind fun s => s.endCommand o.id (c.length - bs.length)

/-- READ_JOURNALED (R299, R430): it ends with OK whatever LEN holds. -/
def execCcwReadJournaled (sch : Nat) (s : State) : Out :=
  ccwRow 0x21 none false (fun o c s =>
    let s := s.modOp o.id fun o => { o with cmd := some { c with short := true } }
    s.storeAndEnd o c (wholeRecords c.length (s.journaled sch (fld c.aux 0 32)))) sch s

/-- SEND_MESSAGE (R311, R334, R342, R344). -/
def execCcwSendMessage (sch : Nat) (s : State) : Out :=
  ccwRow 0x30 none true (needPath fun o c s =>
    if c.journal then journalData 2 o c s
    else if (s.conn o.sch).isTcp then
      match s.poisonedCcw c with
      | some a => (s.sendCleanTcp o c).poisonEnd o c a
      | none => some ((s.setPhase o.id (.exchange 0)).queueMessage o.sch (s.gatherList c.data) (some o.id) none)
    else sendExchange 4 o c s) sch s

/-- Whether a record of a message that no operation has taken is accepted already: the halt point of a RECEIVE-MESSAGE that would wait for it is passed (R303). -/
def Conn.accepted (c : Conn) : Bool := c.inEx.any (fun x => x.xop == 4 && x.gen.isSome && !x.delivered)

/-- RECEIVE_MESSAGE (R299, R303, R334). -/
def execCcwReceiveMessage (sch : Nat) (s : State) : Out :=
  ccwRow 0x31 none false (needPath fun o _ s =>
    (s.modOp o.id fun o => { o with phase := .message, past := o.past || (s.conn sch).accepted }).deliver sch) sch s

/-- CONTROL CLOSE (R345): after every outbound exchange is committed, or every message acknowledged. -/
def execControlClose (sch : Nat) (s : State) : Out :=
  ccwRow 0x40 (some 1) true (needPath fun o _ s =>
    let s := s.setPhase o.id .close
    let s := s.modConn sch fun c => { c with pstate := psClosing, closeSent := false }
    if (s.conn sch).isTcp then some ((s.modTcp sch fun t => { t with phase := if t.phase == .established then .finWait1 else t.phase }).pumpTcp sch)
    else some (s.closeWhenDone sch)) sch s

/-- CONTROL ABORT (R345): at once. -/
def execControlAbort (sch : Nat) (s : State) : Out :=
  ccwRow 0x40 (some 2) false (needPath fun o _ s =>
    let s := if (s.conn sch).isTcp then s.tcpRst sch else s.sendCtl sch 6 (closeBytes rsnAborted)
    ((s.backgroundEvents sch).closedByControl sch rsnAborted).endCommand o.id 0) sch s

/-- CONTROL QUERY (R345): 64 bytes of the state part, from the transport's own copy. -/
def execControlQuery (sch : Nat) (s : State) : Out :=
  ccwRow 0x40 (some 3) false (fun o c s =>
    let (bs, s) := s.statePartFull sch
    s.storeAndEnd o c ((bs.take 64).take c.length)) sch s

/-- A TCP keepalive probe (R345, RFC 9293). -/
def State.tcpProbe (s : State) (k : Nat) : State :=
  let c := s.conn k
  s.sendSegment k (s.segment c (c.sndNxt - 1) [])

/-- The frame of a PING (R345). -/
def State.sendPing (s : State) (k : Nat) : State :=
  if (s.conn k).isTcp then s.tcpProbe k else s.sendFrame k { s.scpFrame (s.conn k) 8 [] with acknow := true }

/-- CONTROL PING (R345). -/
def execControlPing (sch : Nat) (s : State) : Out :=
  ccwRow 0x40 (some 4) true (needPath fun o _ s => some ((s.setPhase o.id .ping).sendPing sch)) sch s

/-- CONTROL PARTNER (R345): refused on TCP and on a service path. The function data of its header are not stated, and so free (log 40). -/
def execControlPartner (sch : Nat) (s : State) : Out :=
  ccwRow 0x40 (some 5) true (needPath fun o c s =>
    if (s.conn sch).isTcp || (s.sch sch).typ == 3 then s.failOp sch codePartnerError false rsnRefused 0 0
    else sendExchange 5 o c s) sch s

/-- The 32 bytes of sense data (R346). -/
def Sense.bytes (x : Sense) : List Byte :=
  [x.src, 0] ++ bytesOf 2 x.reason.toNat ++ bytesOf 4 x.xid.toNat ++ wordBytes x.beat ++ wordBytes x.pdetail ++ List.replicate 8 0

/-- SENSE (R346). -/
def execCcwSense (sch : Nat) (s : State) : Out :=
  ccwRow 0x41 none false (fun o c s =>
    let x := lookupD s.css.senses sch { src := 0, reason := 0, xid := 0, beat := 0, pdetail := 0 }
    s.storeAndEnd o c (x.bytes.take c.length)) sch s

/-- BRANCH (R300): the program goes on at ADDR whatever SEQ holds. -/
def execCcwBranch (sch : Nat) (s : State) : Out :=
  ccwRow 0x50 none false (fun o c s =>
    let target := (s.ccwAt c.lead).addr
    some (s.modOp o.id fun o => { o with cmd := none, phase := .ready, ccw := target })) sch s

/-- NOP (R295). -/
def execCcwNop (sch : Nat) (s : State) : Out := ccwRow 0x51 none false (fun o _ s => s.endCommand o.id 0) sch s

/-! Subchannel commands (R292). -/

/-- RESULT of a command (R292). -/
def State.setResult (s : State) (r : BitVec 3) : State := s.modCss fun c => { c with result := r }

/-- Whether a SAVE or RESTORE runs on a slice (R485). -/
def State.sliceBusy (s : State) (k : Nat) : Bool :=
  match s.slices.job with
  | some (.save n _) => n == k
  | some (.restore n _) => n == k
  | none => false

/-- The slice that MSCHCFG names. -/
def Css.cfgSlice (c : Css) : Nat := (fld c.cfg 15 10).toNat

/-- CONFIG and BIND from the ports (R292): MSCHCFG holds CONFIG[63:39]. -/
def State.writeConfig (s : State) (k : Nat) : State :=
  (s.tableStore (schAddr k + 8) (fieldAt s.css.cfg 39)).tableStore (schAddr k + 16) (fieldAt s.css.bind 8)

/-- The refusals that ESTABLISH and MODIFY share: the queue, then the logical CP. -/
def State.queueResult (s : State) : BitVec 3 :=
  if !(s.cq (4 * s.css.cfgSlice + (fld s.css.cfg 13 2).toNat)).en then 4
  else if !s.lcpPresent (fld s.css.cfg 8 5).toNat then 5
  else 0

/-- Whether a subchannel may not be changed (R292): its STATE is neither IDLE nor DOWN, or its slice is saved or restored. -/
def State.schBusy (s : State) (e : SchEntry) : Bool := (e.state != stIdle && e.state != stDown) || s.sliceBusy e.slice

/-- ESTABLISH (R292, R325, R329, R346). -/
def State.establish (s : State) (typ : BitVec 2) (g : Bool) : State :=
  let k := s.css.sel.toNat
  if !s.pool.locked then s.setResult 3
  else if s.sliceBusy s.css.cfgSlice then s.setResult 1
  else if (s.sch k).v then s.setResult 2
  else if s.queueResult ≠ 0 then s.setResult s.queueResult
  else
    let s := s.tableStore (schAddr k) (at_ true 63 ||| fieldAt typ 61 ||| at_ g 60 ||| fieldAt (BitVec.ofNat 3 stDown) 57)
    let s := (s.writeConfig k).tableStore (schAddr k + 24) 0
    let s := s.modCss fun c => { c with
      incs := assoc c.incs k ((c.inc k + 1) % 4096), senses := unassoc c.senses k, conns := unassoc c.conns k }
    (s.beginOpening k).setResult 0

/-- The connection follows the entry that MODIFY replaced: port, priority, slice, JIN and block (R292). -/
def State.rebind (s : State) (k : Nat) : State :=
  let e := s.sch k
  s.modCss fun x => { x with conns := assoc x.conns k { s.conn k with slice := e.slice, port := e.port, prio := e.prio, jin := e.journals, cb := e.cb } }

/-- AUTO in a configuration part (R323). -/
def autoOf (cfg : List Byte) : Bool := bitAt (cfg.getD 1 0) 1

/-- What MODIFY does to the path (R324, R345): the configuration part is read again; a closed path opens when AUTO = 1 or when CONTROL had closed it, and on an open one with AUTO = 1 a configuration that does not check is recorded, while the path keeps its copy until its next opening (log 157). -/
def State.recheck (s : State) (k : Nat) : State :=
  let c := s.conn k
  let fresh := s.freshConn k (s.sch k)
  match s.readConfig k fresh with
  | (cfg, s) =>
    let auto := (cfg.map autoOf).getD false
    if c.pstate = psClosed then (if auto || c.noReopen then s.beginOpening k else s)
    else match cfg with
      | some b => if auto && !s.configOk { fresh with cfg := b } false then s.modConn k fun c => { c with lastReason := rsnConfig } else s
      | none => s

/-- MODIFY (R292). -/
def State.modify (s : State) : State :=
  let k := s.css.sel.toNat
  let e := s.sch k
  if !s.pool.locked || !e.v then s.setResult 3
  else if s.schBusy e || s.sliceBusy s.css.cfgSlice then s.setResult 1
  else if s.queueResult ≠ 0 then s.setResult s.queueResult
  else (((s.writeConfig k).rebind k).recheck k).setResult 0

/-- The background writes of a subchannel end with their path (R314); their records stay live. -/
def State.endBackgrounds (s : State) (k : Nat) : State :=
  (s.css.ops.filter (fun o => o.sch == k && !o.bg.isEmpty)).foldl (fun s o => (s.modOp o.id fun o => { o with bg := [] }).returnBlock o.id) s

/-- REMOVE (R292): the path ends with its subchannel; the journal records stay. -/
def State.remove (s : State) : State :=
  let k := s.css.sel.toNat
  let e := s.sch k
  if !s.pool.locked || !e.v then s.setResult 3
  else if s.schBusy e || e.pend then s.setResult 1
  else
    let s := ((s.backgroundEvents k).endBackgrounds k).dropReservations (s.conn k).inEx
    let s := s.modCss fun c => { c with conns := unassoc c.conns k }
    (s.setStatus k fun w => putFld w 63 (0 : BitVec 1)).setResult 0

/-- What a write of MSCHCMD stores: TYPE and G. -/
def State.setCmdFields (s : State) (typ : BitVec 2) (g : Bool) : State := s.modCss fun c => { c with typ := typ, g := g }

/-- A command of MSCHCMD. -/
def mschRow (run : State → State) (typ : BitVec 2) (g : Bool) (s : State) : Out :=
  portRow .mschcmd (fun s => .next (run (s.setCmdFields typ g))) s

/-- ESTABLISH (R292). -/
def execEstablish (typ : BitVec 2) (g : Bool) (s : State) : Out := mschRow (fun s => s.establish typ g) typ g s

/-- MODIFY (R292). -/
def execModify (typ : BitVec 2) (g : Bool) (s : State) : Out := mschRow State.modify typ g s

/-- REMOVE (R292). -/
def execRemove (typ : BitVec 2) (g : Bool) (s : State) : Out := mschRow State.remove typ g s

end Sys2Proof.Machine
end

