-- ==== Sys2Proof/Machine/Leat.lean ====
section
/-! DEFINITION. The SCP of the Leat link: the frames of the mirror class, their sequence, acknowledgement and retransmission (13 R330, R331, R336, 14 R353, 18 R437). -/

namespace Sys2Proof.Machine

/-- The key of the Leat link in the rows of SCP's timers. -/
def leatKey : Nat := 2 ^ 20 + 1

/-- The Leat link's state changed. -/
def State.modLink (s : State) (f : LeatLink → LeatLink) : State := { s with eth := { s.eth with link := f s.eth.link } }

/-- Whether a port, or its Leat datapath while it carries Leat, is out of use (R410). -/
def State.portOut (s : State) (p : Nat) : Bool :=
  s.weir.outOfUse.contains (0x900 + p) || ((s.port p).leat && s.weir.outOfUse.contains (0x910 + (p - 12)))

/-- Whether a port can carry a frame of the Leat link. -/
def State.leatPort (s : State) (p : Nat) : Bool := (s.port p).leat && (s.port p).link && !s.portOut p

/-- Whether a mirror message can arrive: some Leat port is up. -/
def State.leatUp (s : State) : Bool := [12, 13].any s.leatPort

/-! Frames that leave. -/

/-- A frame of the mirror class on one Leat port, at priority 7 (R353, R437): none when that port cannot carry it. It acknowledges what has come in order. -/
def State.leatEmit (s : State) (p : Nat) (seq : Word32) (b : MirrorBody) : Option State :=
  if s.leatPort p then
    (s.leatSends (p - 12)).map fun s =>
      let h : MirrorHead := { seq := seq, ack := s.eth.link.rcvNxt, win := Config.leatWin, acknow := false }
      (s.emit (s.outFrame p 0 7 none 0 (.leat h b))).modLink fun l => { l with ackDue := none }
  else none

/-- A frame on port 12 or 13, the one with the parity of i first (R437); none when neither carries it. -/
def State.leatEither (s : State) (i : Nat) (seq : Word32) (b : MirrorBody) : Option State :=
  match s.leatEmit (12 + i % 2) seq b with
  | some s => some s
  | none => s.leatEmit (12 + (i + 1) % 2) seq b

/-- A frame on the port whose turn it is (R437); nothing leaves when neither port carries it. -/
def State.leatSend (s : State) (seq : Word32) (b : MirrorBody) : State :=
  match s.leatEither s.eth.link.turn seq b with
  | some s => s.modLink fun l => { l with turn := l.turn + 1 }
  | none => s

/-- A message that is not sequenced, with SEQ 0 (R437): none when neither port carries it. -/
def State.leatOnce (s : State) (m : MirrorMsg) : Option State := s.leatEither s.eth.link.turn 0 (.msg m)

/-- A message that is not sequenced on each Leat port that carries it. -/
def State.leatBoth (s : State) (m : MirrorMsg) : State :=
  [12, 13].foldl (fun s p => (s.leatEmit p 0 (.msg m)).getD s) s

/-- The oldest sequenced message that has not been sent, within the peer's window (R331). -/
def LeatLink.next (l : LeatLink) : Option LeatTx :=
  match l.tx.find? (fun x => !x.sent) with
  | some x => if (x.seq - l.sndUna).toNat < l.pwin.toNat then some x else none
  | none => none

/-- That message sent. -/
def State.leatNext (s : State) : State :=
  match s.eth.link.next with
  | none => s
  | some x =>
    match s.leatEither s.eth.link.turn x.seq (.msg x.msg) with
    | none => s
    | some s => s.modLink fun l => { l with turn := l.turn + 1, tx := l.tx.map (fun y => if y.seq == x.seq then { y with sent := true } else y) }

/-- Transmission on the Leat link goes on. -/
def State.pumpLeat (s : State) : State := iterate State.leatNext s.eth.link.tx.length s

/-- A sequenced message put at the end of the queue (R331, R437). -/
def State.queueMirror (s : State) (m : MirrorMsg) : State :=
  s.modLink fun l => { l with
    ackBeat := if l.tx.isEmpty then s.beatc else l.ackBeat, tx := l.tx ++ [{ seq := l.sndNxt, msg := m, sent := false }], sndNxt := l.sndNxt + 1 }

/-- An ACK frame of the Leat link (R330). -/
def State.leatAck (s : State) : State := s.leatSend s.eth.link.sndNxt .ack

/-! Frames that arrive. -/

/-- ACK and WIN of a frame of the Leat link (R330, R331). -/
def State.leatAcked (s : State) (ack : Word32) (win : BitVec 16) : State :=
  (s.modLink fun l =>
    let l := { l with pwin := win }
    if follows ack l.sndUna && notAfter ack l.sndNxt then
      { l with sndUna := ack, ackBeat := s.beatc, tx := l.tx.filter (fun x => !follows ack x.seq) }
    else l).pumpLeat

/-- A sequenced message in order (R330): RCVNXT advances, and what the message does follows. -/
def State.leatTake (s : State) (take : MirrorMsg → State → State) (m : MirrorMsg) : State :=
  take m (s.modLink fun l => { l with rcvNxt := l.rcvNxt + 1, ackDue := some (l.ackDue.getD s.beatc) })

/-- The messages kept ahead that are now in order; fuel counts them. -/
def State.leatKept (s : State) (take : MirrorMsg → State → State) : Nat → State
  | 0 => s
  | fuel + 1 =>
    match s.eth.link.kept.find? (fun x => x.1 == s.eth.link.rcvNxt) with
    | none => s
    | some x =>
      State.leatKept ((s.modLink fun l => { l with kept := l.kept.filter (fun y => y.1 != x.1) }).leatTake take x.2) take fuel

/-- The range that is missing just below a message that is ahead. -/
def LeatLink.missing (l : LeatLink) (seq : Word32) : Word32 × Word32 :=
  ((l.kept.filter (fun g => follows seq g.1)).foldl (fun a g => if follows (g.1 + 1) a then g.1 + 1 else a) l.rcvNxt, seq - 1)

/-- NAK for a missing range, at most once in a beat (R330, R437). -/
def State.leatNak (s : State) (p : Word32 × Word32) : State :=
  let l := s.eth.link
  if follows p.1 p.2 || l.naks.any (fun n => n.1 == p.1 && n.2.1 == p.2 && n.2.2 == s.beatc) then s
  else
    (s.modLink fun l => { l with naks := (p.1, p.2, s.beatc) :: l.naks.filter (fun n => !(n.1 == p.1 && n.2.1 == p.2)) }).leatSend l.sndNxt (.nak p.1 p.2)

/-- A sequenced message of the mirror class arrives (R330, R437): in order, ahead within the window, or a duplicate. What a message taken in order does is the argument. -/
def State.leatReceive (s : State) (take : MirrorMsg → State → State) (h : MirrorHead) (m : MirrorMsg) : State :=
  let s := s.leatAcked h.ack h.win
  let d := (h.seq - s.eth.link.rcvNxt).toNat
  let s :=
    if d = 0 then
      let s := s.leatTake take m
      s.leatKept take s.eth.link.kept.length
    else if d < Config.leatWin.toNat then
      let range := s.eth.link.missing h.seq
      (s.modLink fun l => { l with kept := if l.kept.any (fun x => x.1 == h.seq) then l.kept else l.kept ++ [(h.seq, m)] }).leatNak range
    else if h.acknow then s else s.leatAck
  if h.acknow then s.leatAck else s

/-- The messages that a NAK names go out again at once (R331). -/
def State.leatResend (s : State) (lo hi : Word32) : State :=
  (s.eth.link.tx.filter (fun x => x.sent && !follows lo x.seq && !follows x.seq hi)).foldl (fun s x => s.leatSend x.seq (.msg x.msg)) s

/-- Whether a frame of the mirror class is one that R437 knows: its identifiers are zero, and a DATA frame carries a message of a known kind with its zero bytes. -/
def mirrorForm (f : ScpFrame) : Bool :=
  f.typ != 3 || (decide (16 ≤ f.data.length) && decide (1 ≤ f.num 0 1) && decide (f.num 0 1 ≤ 6) && f.num 1 1 == 0 && f.num 4 4 == 0)

/-- A frame that a secure association has verified (R327, R353, R437): what is not a mirror message acts here, and a message in its own row. -/
def State.leatArrives (s : State) (f : ScpFrame) : State :=
  if !f.crcOk then s.modCss fun x => { x with crcErr := satHalf x.crcErr }
  else if f.malformed 8192 || !mirrorForm f then s.modCss fun x => { x with malform := satHalf x.malform }
  else if f.cls != 2 || f.dcid != 0 || f.scid != 0 then s.modCss fun x => { x with unkConn := satHalf x.unkConn }
  else if f.typ = 4 then s.leatAcked f.ack f.win
  else if f.typ = 5 then (s.leatAcked f.ack f.win).leatResend (BitVec.ofNat 32 (f.num 0 4)) (BitVec.ofNat 32 (f.num 4 4))
  else s

/-! The timers. -/

/-- The oldest sequenced message again, at each beat boundary after one without an acknowledgement (R331, R437). -/
def State.leatRetransmit (s : State) : State :=
  match s.eth.link.tx with
  | x :: _ => if x.sent && decide (1 ≤ s.since s.eth.link.ackBeat) then s.leatSend x.seq (.msg x.msg) else s.pumpLeat
  | [] => s

/-- SCP_RETRANSMIT (R331, R437). -/
def execScpRetransmit (sch : Nat) (s : State) : Out :=
  if sch = leatKey then .next (if s.weir.safe then s else s.leatRetransmit) else .next (s.retransmitScp sch)

/-- DELAYED_ACK (R330, R437). -/
def execDelayedAck (sch : Nat) (s : State) : Out :=
  if sch = leatKey then
    .next (match s.eth.link.ackDue with
      | some b => if !s.weir.safe && decide (1 ≤ s.since b) then s.leatAck else s
      | none => s)
  else .next (s.delayedAck sch)

end Sys2Proof.Machine
end

