-- ==== Sys2Proof/Machine/Eth.lean ====
section
/-! DEFINITION. The Ethernet ports: classification, links, priority flow control and announcements (14). -/

namespace Sys2Proof.Machine

/-! Transmission that goes on. -/

/-- What a connection can send now, and the ends that wait for it (R331, R334, R345). -/
def State.pumpConn (s : State) (k : Nat) : Option State :=
  let c := s.conn k
  if c.pstate = psClosed then some s
  else if c.isTcp then (s.pumpTcp k).endSent
  else ((s.pumpScp k).closeWhenDone k).endSent

/-! The transmit scheduler (R360). -/

/-- Whether a connection has a frame ready. -/
def State.hasFrame (s : State) (k : Nat) : Bool :=
  if (s.conn k).isTcp then (s.nextChunk k).isSome || s.finReady k else (s.nextFrame k).isSome

/-- One frame of a connection sent. -/
def State.sendOne (s : State) (k : Nat) : State :=
  if (s.conn k).isTcp then (if (s.nextChunk k).isSome then s.sendNextChunk k else s.pumpFin k) else s.sendNext k

/-- The subchannels of a port that have frames ready at its highest such priority, with that priority; none when no frame is ready. -/
def State.readyOn (s : State) (p : Nat) : Option (Nat × List Nat) :=
  let ready := (s.css.conns.filter (fun q => q.2.port == p && s.hasFrame q.1)).map (fun q => (q.2.prio, q.1))
  match ready with
  | [] => none
  | _ =>
    let top := ready.foldl (fun m q => max m q.1) 0
    some (top, (ready.filter (fun q => q.1 == top)).map Prod.snd)

/-- Round robin: the next key above the one served last, or the lowest. -/
def nextTurn (last : Option Nat) (ks : List Nat) : Nat :=
  let low := fun (xs : List Nat) => xs.foldl min (xs.headD 0)
  match last with
  | some l => if ks.any (fun k => decide (l < k)) then low (ks.filter (fun k => decide (l < k))) else low ks
  | none => low ks

/-- One frame of the port: the highest priority first, and its subchannels in turn. -/
def State.serveTurn (s : State) (p : Nat) : State :=
  match s.readyOn p with
  | none => s
  | some (prio, ks) =>
    let k := nextTurn (((s.port p).turn.find? (fun t => t.1 == prio)).map Prod.snd) ks
    (s.sendOne k).modPort p fun x => { x with turn := (prio, k) :: x.turn.filter (fun t => t.1 != prio) }

/-- The frames that a connection holds at most. -/
def Conn.queued (c : Conn) : Nat := c.tx.length + 2 * c.tcpState.chunks.length + 1

/-- The frames that wait for a port go out, and the ends that wait for them follow (R331, R334, R345, R351). -/
def State.pumpPort (s : State) (p : Nat) : Option State :=
  let here := s.css.conns.filter (fun q => q.2.port == p)
  let s := iterate (fun s => s.serveTurn p) (here.map (fun q => q.2.queued)).sum s
  ((here.filter (fun q => !q.2.isTcp)).foldl (fun s q => s.closeWhenDone q.1) s).endSent

/-! Links. -/

/-- The link of a port goes down (R351). -/
def State.dropLink (s : State) (p : Nat) : State :=
  if (s.port p).link then (s.modPort p fun x => { x with link := false, subup := 0, fec := 0, paused := [], pausing := [] }).report (0x900 + p) .recoverable none 0 else s

/-- LINK_DOWN (R350, R351): in breakout mode the link is up while any sublink is; otherwise sub names nothing. -/
def execLinkDown (port : Nat) (sub : Fin 4) (s : State) : Out :=
  if 16 ≤ port then .refused .illFormed
  else if !(s.port port).link then .next s
  else if (s.port port).modeAt port = 3 then
    if bitAt (s.port port).subup sub then
      let up := (s.port port).subup &&& ~~~((1 : BitVec 4) <<< sub.val)
      .next (if up = 0 then s.dropLink port else s.modPort port fun x => { x with subup := up })
    else .next s
  else .next (s.dropLink port)

/-- ETHSTAT.FEC of a mode (R349); fec is what Clause 73 negotiates on the 25 and 10 Gb/s modes. -/
def fecOf (mode : Nat) (fec : Bool) : BitVec 2 :=
  match mode with
  | 4 => if fec then 2 else 0
  | 5 => if fec then 1 else 0
  | _ => 3

/-- LINK_UP (R349, R350): negotiation and training end, in every mode but off; frames that waited go out (R351). -/
def execLinkUp (port : Nat) (sub : Fin 4) (fec : Bool) (s : State) : Out :=
  let x := s.port port
  let m := x.modeAt port
  if 16 ≤ port then .refused .illFormed
  else if m = 0 ∨ s.portOut port = true then .next s
  else if m = 3 then
    if bitAt x.subup sub then .next s
    else orSame s ((s.modPort port fun x => { x with link := true, fec := 3, subup := x.subup ||| ((1 : BitVec 4) <<< sub.val) }).pumpPort port)
  else if x.link then .next s
  else orSame s ((s.modPort port fun x => { x with link := true, fec := fecOf m fec, subup := 0 }).pumpPort port)

/-- A write of ETHCFG (R361): a change of MODE or MTU while the link is up drops the link, which then retrains. -/
def State.writeEthcfg (s : State) (p : Nat) (v : Word) : State :=
  let old := s.port p
  let s := s.modPort p fun x => { x with mtu := fld v 16 14, mgmt := if p = 15 then bitAt v 4 else false, mode := fld v 0 3 }
  let new := s.port p
  if (old.leat || old.mode == new.mode) && old.mtu == new.mtu then s else s.dropLink p

/-- ETHCFG_WRITE (R361). -/
def execEthcfgWrite (port : Nat) (v : Word) (s : State) : Out :=
  if 16 ≤ port then .refused .illFormed else portRow (.ethcfg port) (fun s => .next (s.writeEthcfg port v)) s

/-- LEAT of ports 12 and 13 (R353): a change of the mode in effect drops the link; the paths of subchannels stay as R351 says. The Leat link begins when LEAT rises and ends when it falls (log 158). -/
def State.setLeat (s : State) (on : Bool) : State :=
  let s := if (s.port 12).leat = on then s else s.modLink fun _ => if on then LeatLink.start s.beatc else LeatLink.off
  [12, 13].foldl (fun s p =>
    let old := s.port p
    let s := s.modPort p fun x => { x with leat := on }
    if old.modeAt p = (s.port p).modeAt p then s else s.dropLink p) s

/-! Priority flow control. -/

/-- PFC frames received (R359): counted; an enabled priority is paused for the quanta given, and no quanta end the pause. A Leat port discards every frame that MACsec does not verify (R353). -/
def execPfcFrame (port : Nat) (prio : Fin 8) (quanta : BitVec 16) (s : State) : Out :=
  let x := s.port port
  if 16 ≤ port then .refused .illFormed
  else if !x.link then .next s
  else
    let s := (s.count port 0 1).count port 1 (wireBytes 46)
    if x.leat then .next s
    else if s.isStandby port then .next (s.count port 11 1)
    else
      let s := s.count port 9 1
      if prio.val = 7 ∨ bitAt x.pfcEn prio.val = false then .next s
      else
        let rest := x.paused.filter (fun q => q.1 != prio.val)
        if quanta = 0 then orSame s ((s.modPort port fun x => { x with paused := rest }).pumpPort port)
        else .next (s.modPort port fun x => { x with paused := rest ++ [(prio.val, quanta)] })

/-- PFC_PAUSE_EXPIRY (R359): the quanta have run out. -/
def execPfcPauseExpiry (port : Nat) (prio : Fin 8) (s : State) : Out :=
  if 16 ≤ port then .refused .illFormed
  else if (s.port port).paused.any (fun q => q.1 == prio.val) then
    orSame s ((s.modPort port fun x => { x with paused := x.paused.filter (fun q => q.1 != prio.val) }).pumpPort port)
  else .next s

/-- A priority's share of receive buffering (R359). -/
def pfcShare : Nat := 2097152

/-- A PFC frame sent; the quanta of a pause are not stated, and so free (log 161). -/
def State.sendPfc (s : State) (p prio : Nat) (quanta : BitVec 16) : State :=
  (s.emit (s.outFrame p 0 7 (some 0x0180C2000001) 0 (.pfc prio quanta))).count p 10 1

/-- The receive buffering of a priority as a frame finds it (R359): above 75 % of its share the port pauses it at the partner, below 50 % it releases it. -/
def State.watchBuffer (s : State) (p prio backlog : Nat) : State :=
  let x := s.port p
  let on := x.pausing.contains prio
  if prio = 7 ∨ bitAt x.pfcEn prio = false ∨ s.mayTransmit p 7 = false then s
  else if 3 * pfcShare < 4 * backlog ∧ on = false then
    let (v, s) := s.takeFree
    (s.sendPfc p prio (v.setWidth 16)).modPort p fun x => { x with pausing := prio :: x.pausing }
  else if 2 * backlog < pfcShare ∧ on = true then (s.sendPfc p prio 0).modPort p fun x => { x with pausing := x.pausing.filter (· != prio) }
  else s

/-! Announcements (R356). -/

/-- The distinct pairs of VID and LIP of a port's subchannels whose path is up or fencing, IPv6 or not; ENC 0 has no IP address (log 43). -/
def State.identities (s : State) (p : Nat) : List (BitVec 12 × Bool × Pair) :=
  ((s.css.conns.filter (fun q => q.1 != witnessKey && q.2.port == p && q.2.isOpen && q.2.enc != 0)).map
    (fun q => (q.2.vid, (q.2.enc == 2 || q.2.enc == 4), q.2.lip))).eraseDups

/-- The destination of an announcement: broadcast for ARP, all nodes for IPv6 (log 25). -/
def announceTo (v6 : Bool) : BitVec 48 := if v6 then 0x333300000001 else 0xFFFFFFFFFFFF

/-- The announcement frames of a port leave at priority 7 (R356, R360). -/
def State.announce (s : State) (p : Nat) : State :=
  if s.mayTransmit p 7 then
    (s.identities p).foldl (fun s i => s.emit (s.outFrame p 0 7 (some (announceTo i.2.1)) i.1 (.announce i.2.1 i.2.2))) s
  else s

/-- Every client port announces at once, and 1,000 and 2,000 beats later (R356). -/
def State.announceAll (s : State) : State :=
  (List.range 16).foldl (fun s p =>
    if s.isClient p then (s.announce p).modPort p fun x => { x with announce := [s.beatc + 1000, s.beatc + 2000] } else s) s

/-- ANNOUNCE_REPEAT (R356). -/
def execAnnounceRepeat (port : Nat) (s : State) : Out :=
  match (s.port port).announce with
  | b :: bs =>
    if port < 16 ∧ b.toNat ≤ s.beatc.toNat ∧ s.weir.safe = false then .next ((s.announce port).modPort port fun x => { x with announce := bs })
    else .next s
  | [] => .next s

/-! Classification (R358). -/

/-- The connections of a port whose entries stand, with their keys. -/
def State.connsOn (s : State) (p : Nat) : List (Nat × Conn) :=
  s.css.conns.filter (fun q => q.2.port == p && !q.2.cfg.isEmpty && (q.1 == witnessKey || (s.sch q.1).v))

/-- Whether an address is a LIP of the port's subchannels (R357). -/
def State.localIp (s : State) (p : Nat) (ip : Pair) : Bool := (s.connsOn p).any (fun q => q.2.enc != 0 && q.2.lip == ip)

/-- The key that a DCID names (R325, R358): the witness connection by its identifier, or the subchannel DCID[19:0]. -/
def State.keyOf (s : State) (dcid : Word32) : Nat :=
  let w := s.conn witnessKey
  if w.pstate != psClosed && w.lcid == dcid then witnessKey else dcid.toNat % 2 ^ 20

/-- A frame that R358 does not let reach its subchannel is discarded under R327: CRC, form, then no established connection. -/
def State.strayScp (s : State) (v : Via) (k : Nat) (f : ScpFrame) : State :=
  if !f.crcOk then s.modCss fun x => { x with crcErr := satHalf x.crcErr }
  else if f.malformed 8192 then s.modCss fun x => { x with malform := satHalf x.malform }
  else (s.modCss fun x => { x with unkConn := satHalf x.unkConn }).answer v k f 6 (closeBytes rsnNoConn)

/-- Whether a frame came in a connection's encapsulation: on its port with its VID, and under SCP over UDP to the UDP port that it opened with (R322, R358). -/
def Via.fits (v : Via) (c : Conn) : Bool :=
  c.port == v.port && c.vid == v.vid && (match v.ip with
    | none => c.enc == 0
    | some h => c.enc == (if h.v6 then 2 else 1) && c.udpPort == h.sport)

/-- An SCP frame classified by its DCID (R358). None when it cannot be taken now. -/
def State.classifyScp (s : State) (v : Via) (f : ScpFrame) : Option State :=
  let k := s.keyOf f.dcid
  let c := s.conn k
  if c.pstate = psClosed ∧ k ≠ witnessKey ∨ v.fits c = true ∧ (k = witnessKey ∨ (s.sch k).port = v.port) then s.receiveScp v k f
  else some (s.strayScp v k f)

/-- Whether UDP to a port is SCP (R322, R358): the one that SCPCFG holds, or one that an open connection took from it (log 156). -/
def State.scpPort (s : State) (dport : BitVec 16) : Bool :=
  dport == s.css.udpPort || s.css.conns.any (fun q => q.2.pstate != psClosed && (q.2.enc == 1 || q.2.enc == 2) && q.2.udpPort == dport)

/-- The TCP connection of a segment (R358 row 6): an open one by its four-tuple, else a passive one that waits for a SYN. -/
def State.tcpKey (s : State) (p : Nat) (vid : BitVec 12) (v6 : Bool) (sip dip : Pair) (sport dport : BitVec 16) (g : TcpSegment) : Option Nat :=
  let here := (s.connsOn p).filter (fun q => q.2.enc == (if v6 then 4 else 3) && q.2.vid == vid && q.2.tcp.isSome && q.2.lip == dip && q.2.lport == dport)
  match here.find? (fun q => q.2.tcpState.phase != .listen && q.2.pip == sip && q.2.tcpState.pport == sport) with
  | some q => some q.1
  | none =>
    if !g.syn then none
    else (here.find? (fun q => q.2.tcpState.phase == .listen && q.2.pip == sip && (q.2.pport == 0 || q.2.pport == sport))).map Prod.fst

/-- A TCP segment classified (R341, R358). -/
def State.classifyTcp (s : State) (p : Nat) (vid : BitVec 12) (v6 : Bool) (sip dip : Pair) (sport dport : BitVec 16) (g : TcpSegment) : Option State :=
  match s.tcpKey p vid v6 sip dip sport dport g with
  | none => some (s.count p 7 1)
  | some k =>
    let s := if (s.conn k).tcpState.phase == .listen then s.modTcp k fun t => { t with pport := sport } else s
    s.receiveTcp k g

/-- A frame discarded under R322 (SCPSTAT.MALFORM). -/
def State.malformed (s : State) : State := s.modCss fun x => { x with malform := satHalf x.malform }

/-- A frame with a correct FCS, by the rows of R358. -/
def State.classify (s : State) (p : Nat) (f : EthFrame) : Option State :=
  if (s.port p).leat then
    match f.body with
    | .leat an pn icvOk g => some (match s.leatAccepts (p - 12) an pn icvOk with
      | (true, s) => s.leatArrives g
      | (false, s) => s)
    | _ => some s
  else if s.isStandby p then some (s.count p 11 1)
  else match f.body with
    | .macControl => some s
    | .scp g => s.classifyScp { port := p, vid := f.vid, mac := f.smac, ip := none } g
    | .scpUdp v6 sip dip dport fragment sum g =>
      if !s.localIp p dip then some (s.count p 7 1)
      else if fragment then some s.malformed
      else if !s.scpPort dport then some (s.count p 7 1)
      else match sum with
        | .zero => if v6 then some s.malformed else s.classifyScp { port := p, vid := f.vid, mac := f.smac, ip := some { v6 := v6, sip := dip, dip := sip, sport := dport, dport := dport, df := !v6 } } g
        | .good => s.classifyScp { port := p, vid := f.vid, mac := f.smac, ip := some { v6 := v6, sip := dip, dip := sip, sport := dport, dport := dport, df := !v6 } } g
        | .bad => some s
    | .tcp v6 sip dip sport dport fragment g =>
      if fragment && s.localIp p dip then some s.malformed
      else if fragment then some (s.count p 7 1)
      else s.classifyTcp p f.vid v6 sip dip sport dport g
    | .query q lip =>
      if !s.localIp p lip then some (s.count p 7 1)
      else if s.mayTransmit p 7 && s.ct.role == .active then some (s.emit (s.outFrame p 0 7 (some f.smac) f.vid (.answer q lip)))
      else some s
    | .leat _ _ _ _ => some (s.count p 7 1)
    | .other => some (s.count p 7 1)

/-- The FEC codewords of a frame's time (R351, R362), on a port that runs with FEC. -/
def State.countFec (s : State) (p : Nat) (f : EthFrame) : State :=
  if (s.port p).fec = 0 then s
  else iterate (fun s => s.report (0x900 + p) .corrected none 0) f.fecLost ((s.count p 5 f.fecCorrected).count p 6 f.fecLost)

/-- FRAME_RECEIVE (R351, R352, R358, R359, R362). In safe state a client port takes nothing (R414). -/
def execFrameReceive (port : Nat) (f : EthFrame) (s : State) : Out :=
  if 16 ≤ port then .refused .illFormed
  else if !(s.port port).link then .next s
  else
    let s := s.countFec port f
    if !f.fcsOk then .next ((s.count port 4 1).report (0x900 + port) .corrected none 0)
    else if (s.port port).mtuBytes < f.len then .next (s.count port 4 1)
    else
      let s := ((s.count port 0 1).count port 1 (wireBytes f.len)).watchBuffer port f.prio f.backlog
      if s.weir.safe ∧ s.isClient port then .next s else orSame s (s.classify port f)

end Sys2Proof.Machine
end

