-- ==== Sys2Proof/Machine/Spare.lean ====
section
/-! DEFINITION. Sparing: the Coppice, cores and CPs (18 R420-R426, 12 R320). -/

namespace Sys2Proof.Machine

/-! The Coppice. -/

/-- A Coppice slot. -/
def State.slot (s : State) (i : Nat) : Slot := s.ct.slots.getD i { st := .empty, phys := 0, passes := 0, fails := 0, since := 0 }

/-- A slot changed. -/
def State.modSlot (s : State) (i : Nat) (f : Slot → Slot) : State := s.modCt fun c => { c with slots := modAt c.slots i f }

/-- The number under which a unit that is out of use until the next cold reset is kept: PCNs, and physical CPs from 64 on. -/
def spentCp (c : Nat) : Nat := 64 + c

/-- The unit of a slot as it is kept. -/
def State.slotUnit (s : State) (i : Nat) : Nat := if i < 4 then (s.slot i).phys else spentCp (s.slot i).phys

/-- A unit is out of use until the next cold reset. -/
def State.spend (s : State) (u : Nat) : State := s.modCt fun c => { c with spent := u :: c.spent.filter (· != u) }

/-- A slot fails, until the next cold reset (R421). -/
def State.slotFails (s : State) (i : Nat) : State := (s.spend (s.slotUnit i)).modSlot i fun x => { x with st := .failed }

/-- The lowest-numbered READY slot of a core spare (R421). -/
def State.readySlot (s : State) : Option Nat := (List.range 4).find? (fun i => (s.slot i).st == .ready)

/-- SPARE of a source has completed (R407). -/
def State.spareDone (s : State) : Option Nat → State
  | some n => { s with weir := s.weir.modSource n fun x => { x with wcnt := 0, prm := false } }
  | none => s

/-! Cores. -/

/-- No spare is left: the logical core is absent, and its checkpoint is kept (R425). -/
def State.loseCore (s : State) (lcn : Nat) : State :=
  let c := s.core lcn
  let s := s.reportAt 0xA00 .severe 82 0xFF (BitVec.ofNat 8 lcn) none 0
  let s := (s.spend c.pcn).modCt fun t => { t with kept := assoc t.kept lcn c }
  ((s.modCore lcn fun c => { c with run := .absent, sparing := false }).mclGone lcn).forgetInvals lcn

/-- A READY spare is claimed for a core, with the beat from which R423 counts; or the core is lost. -/
def State.claimFor (s : State) (lcn : Nat) (src : Option Nat) : State :=
  match s.readySlot with
  | none => s.loseCore lcn
  | some i =>
    (s.modSlot i fun x => { x with st := .claimed }).modCt fun t => { t with coreSpar := t.coreSpar ++ [{ unit := lcn, slot := i, since := s.beatc, src := src }] }

/-- Whether SPARE of a logical core is ignored (R422). -/
def State.spareIgnored (s : State) (lcn : Nat) : Bool :=
  let c := s.core lcn
  c.run == .stalled || c.run == .checkstopped || c.run == .absent || c.sparing

/-- SPARE of a logical core is decided (R422, R423 rows 1 and 2): it pauses, and a spare is claimed. -/
def State.startSpareCore (s : State) (lcn : Nat) (src : Option Nat) : State :=
  if s.spareIgnored lcn then s.reportAt 0xA00 .recoverable 82 0xFF (BitVec.ofNat 8 lcn) none 0
  else
    let s := ((s.endHold lcn).dropInval lcn).modCore lcn fun c => { c with run := .paused, sparing := true, resv := none, due := [], ioWait := none, waits := c.waits || c.run == .waiting }
    s.claimFor lcn src

/-- The lines that an agent holds. -/
def State.linesOf (s : State) (agent : Nat) : List Nat := (s.pool.agents.filter (fun x => x.agent == agent)).map AgentLine.line

/-- Whether the L2 of a core can be drained through Hedgerow now (R256): no transaction or message of it is under way. -/
def State.drainable (s : State) (p : Nat) : Bool :=
  !(s.linesOf p).any s.lineBusy && !s.pool.flights.any (fun f => f.dests.contains p || (f.src == p && !f.dests.isEmpty)) &&
    !s.pool.evict.any (fun e => e.agent == p)

/-- The L2 of a core drained (R256): modified lines go into the Pool copy, those named as unreadable as poison. -/
def State.drainL2 (s : State) (p : Nat) (bad : List Nat) : State := (s.linesOf p).foldl (fun s l => s.drainCopy p bad l) s

/-- The machine check of an IN that had issued when the core paused (R424): INFO names the source that was spared; a free value where a command spared it (log 45). -/
def State.sparedIo (s : State) (lcn : Nat) (src : Option Nat) (a : PortAccess) : Option State :=
  let (v, s) := match src with
    | some n => (BitVec.ofNat 64 n, s)
    | none => s.takeFree
  let s := s.modCore lcn fun c => { c with devRead := none }
  s.raiseSync lcn { Exc.plain 1 7 (s.core lcn).pc with cause := 1, nr := true, info := v, opc := [if a.wide then 0xA1 else 0xA0], ilen := 1 }

/-- The logical core goes on, on the spare (R423 rows 7 to 9, R424), under the master copy (R244) and by the restore sequence (R238); one whose reset waits stays paused (R509). -/
def State.resumeOn (s : State) (x : Sparing) (bad : List Nat) : Option State :=
  let old := (s.core x.unit).pcn
  let s := (((s.drainL2 old bad).spend old).spareDone x.src).modCt fun t => { t with coreSpar := t.coreSpar.filter (fun y => y.unit != x.unit) }
  let held := s.life.coreResets.any (fun r => r.lcn == x.unit)
  let s := s.modCore x.unit fun c =>
    { c with
      pcn := (s.slot x.slot).phys, run := if held then .paused else if c.waits then .waiting else .running, waits := false, sparing := false, resv := none,
      hold := none, withdrawn := [], retries := 0, tlb := .empty, l1i := [], l1d := [] }
  let s := (s.modSlot x.slot fun y => { y with st := .empty }).takeMaster x.unit
  if held then some (s.modCore x.unit fun c => { c with devRead := none }) else
  s.withSequence x.unit 0x0C00 fun s =>
    match (s.core x.unit).devRead with
    | some a => s.sparedIo x.unit x.src a
    | none => some s

/-- CORE_SPARING (R423, R424): the checkpoint is read, the buffer and the L2 are drained and the spare is confirmed, 259 beats after the claim at the earliest. -/
def execCoreSparing (lcn : Nat) (bad : List Nat) (s : State) : Out :=
  match s.ct.coreSpar.find? (fun x => x.unit == lcn) with
  | none => .next s
  | some x =>
    let c := s.core lcn
    if s.weir.safe || decide (s.since x.since < 259) || c.devStore.isSome || !s.drainable c.pcn then .next s
    else orSame s ((s.drain lcn).bind fun s => s.resumeOn x bad)

/-! CPs. -/

/-- The logical CPs of a group (R27). -/
def groupCps (g : Nat) : List Nat := (List.range 8).map (fun i => 8 * g + i)

/-- The present logical CP that follows n in its group, ascending modulo 8 (R320). -/
def State.nextCp (s : State) (n : Nat) : Option Nat :=
  ((List.range 7).map (fun i => 8 * (n / 8) + (n + 1 + i) % 8)).find? s.lcpPresent

/-! The restart of the CCW in progress (R319, log 167). -/

/-- An exchange's frames again under the numbers that they had, with its data as read again; those that have not left keep their place (R319). -/
def State.resendExchange (s : State) (k : Nat) (x : OutExchange) : State :=
  let c := s.conn k
  let fs := c.exchangeFrames x.seq x
  let again := fun (y : TxFrame) => match fs.find? (fun f => f.seq == y.seq) with
    | some f => { f with sent := y.sent }
    | none => y
  let left := fs.filter (fun f => !c.tx.any (fun y => y.seq == f.seq && !y.sent))
  let s := s.setConn k { c with outEx := c.outEx.map (fun y => if y.xid == x.xid then x else y), tx := c.tx.map again }
  if c.isUp then left.foldl (fun s f => s.sendFrame k (s.dataFrame (s.conn k) f)) s else s

/-- The chunks of a message that has no record, with its bytes as read again: its last byte is that of the last chunk. -/
def rereadChunks (id : Nat) (bs : List Byte) (xs : List TcpChunk) : List TcpChunk :=
  match (xs.filter (fun x => x.op == some id && x.gen.isNone)).getLast? with
  | none => xs
  | some z =>
    let start := z.seq + BitVec.ofNat 32 z.data.length - BitVec.ofNat 32 bs.length
    xs.map fun x => if x.op == some id && x.gen.isNone then { x with data := (bs.drop (x.seq - start).toNat).take x.data.length } else x

/-- The segments of such a message again. -/
def State.resendMessage (s : State) (k id : Nat) (data : List Byte) : State :=
  let c := s.conn k
  let s := s.modTcp k fun t => { t with chunks := rereadChunks id (bytesOf c.prefixBytes data.length ++ data) t.chunks }
  if c.isUp then
    ((s.conn k).tcpState.chunks.filter (fun x => x.op == some id && x.gen.isNone && x.sent)).foldl (fun s x => s.sendSegment k (s.segment (s.conn k) x.seq x.data)) s
  else s

/-- The data of a command read again for its exchange (R319): data poisoned by then end the command (R306, R317). -/
def State.rereadExchange (s : State) (o : Operation) (c : Command) (xid : Word32) : Option State :=
  match s.poisonedCcw c with
  | some a => (s.modConn o.sch fun k => k.spend xid).poisonEnd o c a
  | none =>
    let bs := s.gatherList c.data
    if (s.conn o.sch).isTcp then some (s.resendMessage o.sch o.id bs)
    else match (s.conn o.sch).outEx.find? (fun x => x.xid == xid) with
      | some x => some (s.resendExchange o.sch { x with data := bs })
      | none => some s

/-- The background write of a command that has a record or waits for one goes out again as it stands (R314, R319): no record is made twice. -/
def State.resendWrite (s : State) (o : Operation) : State :=
  match (s.conn o.sch).outEx.find? (fun x => match x.use with
    | .background id g => id == o.id && (o.phase == .reserve || g.any (fun g => o.phase == .release g))
    | .message id g => id == o.id && o.phase == .release g
    | _ => false) with
  | some x => s.resendExchange o.sch x
  | none => s

/-- A message that its operation has taken is stored again (R319). -/
def State.restoreMessage (s : State) (o : Operation) (c : Command) (g : Word32) : Option State :=
  match (s.conn o.sch).inEx.find? (fun x => x.gen == some g && x.delivered) with
  | some x => s.storeList (s.cpSource (s.sch o.sch).lcp 4) c.data x.data
  | none => some s

/-- An operation resumes at the start of the CCW that was in progress (R319): its memory reads and stores are repeated and its frames go out again; halt points that are passed stay passed (log 167). -/
def State.restartOp (s : State) (o : Operation) : Option State :=
  match o.cmd, o.phase with
  | some c, .exchange xid => s.rereadExchange o c xid
  | some _, .reply xid => some (match (s.conn o.sch).outEx.find? (fun x => x.xid == xid) with
    | some x => s.resendExchange o.sch x
    | none => s)
  | some c, .reserve =>
    let bs := s.gatherList c.data
    some ((s.modCt fun t => { t with waits := t.waits.map (fun w => if w.op == o.id then { w with data := bs } else w) }).resendWrite o)
  | some c, .release g => if c.cmd = 0x31 then s.restoreMessage o c g else some (s.resendWrite o)
  | some _, .ping => some (s.sendPing o.sch)
  | some _, .close => some (if (s.conn o.sch).closeSent then s.sendCtl o.sch 6 (closeBytes rsnClosed) else s)
  | _, _ => some s

/-- Every operation of some subchannels resumes; none while a store has to wait. -/
def State.restartSchs (s : State) (ks : List Nat) : Option State :=
  (s.css.ops.filter (fun o => ks.contains o.sch)).foldl (fun (a : Option State) o => a.bind (fun s => s.restartOp o)) (some s)

/-- The subchannels that a logical CP serves. -/
def State.schsOfCp (s : State) (n : Nat) : List Nat := s.establishedSchs.filter (fun k => (s.sch k).lcp == n)

/-- The LCP field of a subchannel replaced. -/
def State.setLcp (s : State) (k n : Nat) : State := s.tableStore (schAddr k + 8) (putFld (s.sch k).cfg 47 (BitVec.ofNat 5 n))

/-- The operations of subchannels without a CP end with PATH_DOWN, and the subchannels are DOWN (R320). -/
def State.downSchs (s : State) : List Nat → Option State
  | [] => some s
  | k :: ks => ((s.schDown k).failOp k codePathDown false 0 0 0).bind fun s => State.downSchs s ks

/-- A logical CP becomes absent (R320). -/
def State.loseCp (s : State) (n : Nat) : Option State :=
  let s := match s.ct.lcp.getD n none with
    | some p => s.spend (spentCp p)
    | none => s
  let schs := s.schsOfCp n
  let s := (s.reportAt 0xA00 .severe 82 0xFF (BitVec.ofNat 8 n) none 0).modCt fun t =>
    { t with lcp := t.lcp.set n none, cpSpar := t.cpSpar.filter (fun y => y.unit != n) }
  match s.nextCp n with
  | some m => (schs.foldl (fun s k => s.setLcp k m) s).restartSchs schs
  | none => s.downSchs schs

/-- SPARE of a logical CP is decided (R426): the CP stops, and the slot of its group is claimed. -/
def State.startSpareCp (s : State) (n : Nat) (src : Option Nat) : Option State :=
  if !s.lcpPresent n || !s.cpRuns n then some s
  else if (s.slot (4 + n / 8)).st = .ready then
    some ((s.modSlot (4 + n / 8) fun x => { x with st := .claimed }).modCt fun t =>
      { t with cpSpar := t.cpSpar ++ [{ unit := n, slot := 4 + n / 8, since := s.beatc, src := src }] })
  else s.loseCp n

/-- CP_SPARING (R319, R426): after the confirmation test of 256 beats the spare takes the logical number, and its operations go on. -/
def execCpSparing (lcp : Nat) (s : State) : Out :=
  let s0 := s
  match s.ct.cpSpar.find? (fun x => x.unit == lcp) with
  | none => .next s
  | some x =>
    if s.weir.safe || decide (s.since x.since < 256) then .next s
    else
      let s := match s.ct.lcp.getD lcp none with
        | some p => s.spend (spentCp p)
        | none => s
      let s := (s.spareDone x.src).modCt fun t =>
        { t with lcp := t.lcp.set lcp (some (s.slot x.slot).phys), cpSpar := t.cpSpar.filter (fun y => y.unit != lcp) }
      orSame s0 ((s.modSlot x.slot fun y => { y with st := .empty }).restartSchs (s.schsOfCp lcp))

/-! Failures of spares. -/

/-- A slot fails; a sparing that had claimed it goes on with the next spare, or its unit is lost (R423, R425, R426). -/
def State.failSlot (s : State) (i : Nat) : Option State :=
  let s := s.slotFails i
  match s.ct.coreSpar.find? (fun x => x.slot == i) with
  | some x =>
    let s := s.modCt fun t => { t with coreSpar := t.coreSpar.filter (fun y => y.unit != x.unit) }
    some (s.claimFor x.unit x.src)
  | none =>
    match s.ct.cpSpar.find? (fun x => x.slot == i) with
    | some x => s.loseCp x.unit
    | none => some s

/-- SPARE_CONFIRMATION_FAIL (R421, R423, R426): within 257 beats of the claim. -/
def execSpareConfirmationFail (slot : Fin 8) (s : State) : Out :=
  if (s.slot slot).st = .claimed ∧ s.weir.safe = false then orSame s (s.failSlot slot) else .next s

/-- SELF_TEST_PASS (R421): a pass of 500,000 beats of a READY spare ends; one that fails is counted as found in error and does not complete (log 46). -/
def execSelfTestPass (slot : Fin 8) (r : SelfTest) (s : State) : Out :=
  let x := s.slot slot
  if x.st ≠ .ready then .next s
  else
    let found := fun (y : Slot) => { y with fails := min (y.fails + 1) 0xFFFF }
    let ended := fun (y : Slot) => { y with passes := min (y.passes + 1) 0xFFFFFFFF, since := s.beatc }
    match r with
    | .failed => .next (((s.slotFails slot).modSlot slot found).report (0xA10 + slot) .severe none 0)
    | .clean => if s.since x.since < 500000 then .next s else .next (s.modSlot slot ended)
    | .corrected =>
      if s.since x.since < 500000 then .next s
      else .next ((s.modSlot slot (fun y => ended (found y))).report (0xA10 + slot) .corrected none 0)

end Sys2Proof.Machine
end

