-- ==== Sys2Proof/Machine/Weir.lean ====
section
/-! DEFINITION. Weir: counting, promotion, actions, status, safe state and the log (17). -/

namespace Sys2Proof.Machine

/-! Windows and thresholds (R404, R405). -/

/-- The window exponent in effect (WSRCCFG.K): 41 to 63 behave as the reset value. -/
def WeirSource.kAt (x : WeirSource) (n : Nat) : Nat := if x.k.toNat ≤ 40 then x.k.toNat else (srcReset n).k.toNat

/-- The threshold in effect (WSRCCFG.N): 0 behaves as the reset value. -/
def WeirSource.nAt (x : WeirSource) (n : Nat) : Nat := if x.n = 0 then (srcReset n).n.toNat else x.n.toNat

/-- The boundary at which the open window of a source began, at a beat (R404): a multiple of W, or what stands since a change of K. -/
def WeirSource.opened (x : WeirSource) (n : Nat) (beat : Word) : Nat :=
  match x.since with
  | some b => b.toNat
  | none => beat.toNat / 2 ^ x.kAt n * 2 ^ x.kAt n

/-- The window of a source rolls (R404). -/
def WeirSource.roll (x : WeirSource) : WeirSource := { x with wcnt := 0, prm := false, since := none }

/-- The window roll that a source owes at the present boundary, done (R404, R419). -/
def State.rollNow (s : State) (n : Nat) : State :=
  if s.weir.rollDue.contains n then
    { s with weir := { s.weir.modSource n WeirSource.roll with rollDue := s.weir.rollDue.filter (· != n) } }
  else s

/-- WINDOW_ROLL (R404): at a boundary that is a multiple of W. -/
def execWindowRoll (src : Nat) (s : State) : Out :=
  if !srcAssigned src then .refused .illFormed else .next (s.rollNow src)

/-- The rolls that the last boundary left are done, and those of the new one are due (R35, R404). -/
def State.rollsAtBoundary (s : State) : State :=
  let s := s.weir.rollDue.foldl State.rollNow s
  { s with weir := { s.weir with rollDue := (s.weir.sources.filter (fun p => s.beatc.toNat % 2 ^ p.2.kAt p.1 == 0)).map Prod.fst } }

/-! Actions (R408, R410, R411). -/

/-- Whether a source's unit can retry (R408). -/
def srcRetries (n : Nat) : Bool :=
  (decide (n < 0x340) && decide (n % 16 ≤ 8)) || (decide (0x340 ≤ n) && decide (n < 0x460) && decide ((n - 0x340) % 8 ≤ 3)) ||
  (decide (0x980 ≤ n) && decide (n < 0x984)) || (decide (0x990 ≤ n) && decide (n < 0x998))

/-- Whether R410 lists the unit of a source. -/
def srcSpares (n : Nat) : Bool :=
  (decide (n < 0x340) && decide (n % 16 ≤ 9)) || (decide (0x340 ≤ n) && decide (n < 0x460) && decide ((n - 0x340) % 8 ≤ 3)) ||
  (decide (0x460 ≤ n) && decide (n < 0x470) && (n - 0x460) % 4 == 0) ||
  (decide (0x500 ≤ n) && decide (n < 0x700) && decide ((n - 0x500) % 32 < 16)) || (decide (0x700 ≤ n) && decide (n < 0x7A8)) ||
  (decide (0x800 ≤ n) && decide (n < 0x814)) || (decide (0x900 ≤ n) && decide (n < 0x912)) ||
  (decide (0x980 ≤ n) && decide (n < 0x984)) || (decide (0x990 ≤ n) && decide (n < 0x998)) || (decide (0xA10 ≤ n) && decide (n < 0xA18))

/-- What an action field starts (R408). -/
structure Actions where
  log : Bool
  retry : Bool
  spare : Bool
  int : Bool
  level : Nat
  safe : Bool
  takeover : Bool
  deriving DecidableEq, Repr

/-- The LEVEL in effect of a field: 0 behaves as the LEVEL of the field's reset value when that holds INT, else as 1 (R408). -/
def levelOf (f reset : Half) : Nat :=
  let l := (fld f 8 3).toNat
  if l ≠ 0 then l else if bitAt reset 11 then max 1 (fld reset 8 3).toNat else 1

/-- The actions of a class at a source (R408). -/
def WeirSource.actions (x : WeirSource) (n : Nat) (cls : FaultClass) : Actions :=
  let f := x.act cls
  let work := cls == .corrected || cls == .recoverable
  { log := bitAt f 7, retry := bitAt f 12 && work && srcRetries n, spare := bitAt f 13 && srcSpares n, int := bitAt f 11,
    level := levelOf f ((srcReset n).act cls), safe := bitAt f 14, takeover := bitAt f 15 }

/-- The union of two fields' actions, the notification at the higher LEVEL (R405). -/
def Actions.union (a b : Actions) : Actions :=
  { log := a.log || b.log, retry := a.retry || b.retry, spare := a.spare || b.spare, int := a.int || b.int,
    level := max (if a.int then a.level else 0) (if b.int then b.level else 0), safe := a.safe || b.safe, takeover := a.takeover || b.takeover }

/-- The ACT byte of a record (R417). -/
def Actions.byte (a : Actions) : Byte :=
  (if a.log then 0x80 else 0) ||| (if a.retry then 0x40 else 0) ||| (if a.spare then 0x20 else 0) ||| (if a.int then 0x10 else 0) |||
  (if a.safe then 0x08 else 0) ||| (if a.takeover then 0x04 else 0)

/-- The actions that start after a parity error: the log goes on, and no other action starts (R416, R419). -/
def Actions.afterParity (a : Actions) : Actions := { a with retry := false, spare := false, int := false, safe := false, takeover := false }

/-! The log (R417, R418). -/

/-- The number of a class (R417). -/
def classCode : FaultClass → Byte
  | .corrected => 0
  | .recoverable => 1
  | .severe => 2
  | .fatal => 3

/-- The bytes of a record (R417). -/
def WeirRecord.bytes (r : WeirRecord) : List Byte :=
  wordBytes r.beat ++ bytesOf 4 r.seq.toNat ++ bytesOf 2 r.src ++ [r.flags, r.act, r.pcn, r.lcn, r.wcnt, r.station] ++
  bytesOf 4 r.detail.toNat ++ wordBytes r.addr

/-- A record written (R417): the ring keeps the 4,096 newest. -/
def State.logRecord (s : State) (r : WeirRecord) : State :=
  let w := s.weir
  let log := w.log ++ [{ r with seq := w.next, flags := r.flags ||| (if w.safe then 0x20 else 0) }]
  { s with weir := { w with log := log.drop (log.length - 4096), next := w.next + 1 } }

/-- A record omitted or lost (R416, R418). -/
def State.dropRecord (s : State) : State := { s with weir := { s.weir with drop := satHalf s.weir.drop } }

/-- A write of WLOGSEL copies the selected record (R418). -/
def State.selectLog (s : State) (v : Word) : State :=
  let i := fld v 0 12
  let bs := match s.weir.log.reverse.find? (fun r => r.seq.toNat % 4096 == i.toNat) with
    | some r => r.bytes
    | none => List.replicate 32 0
  { s with weir := { s.weir with logSel := i, logD := (List.range 4).map (fun j => wordOf ((bs.drop (8 * j)).take 8)) } }

/-- LOG_SELECT (R418). -/
def execLogSelect (v : Word) (s : State) : Out := .next (s.selectLog v)

/-! Withdrawal (R410). -/

/-- A unit is out of use until the next cold reset (R410), and its SPARE is complete. -/
def State.outOfUse (s : State) (n : Nat) : State :=
  { s with weir := { s.weir with outOfUse := n :: s.weir.outOfUse.filter (· != n) } }.spareDone (some n)

/-- SPARE of a source (R410). None while it has to wait. -/
def State.withdraw (s : State) (n : Nat) : Option State :=
  if n < 0x340 then
    some (match s.lcnOfPcn (n / 16) with
      | some l => s.startSpareCore l (some n)
      | none => s.report 0xA00 .recoverable none 0)
  else if n < 0x460 then
    match s.lcpOf ((n - 0x340) / 8) with
    | some l => s.startSpareCp l (some n)
    | none => some s
  else if n < 0x470 then some ((s.drainL2 (52 + (n - 0x460) / 4) []).outOfUse n)
  else if n < 0x700 then some (s.disableWay ((n - 0x500) / 32) ((n - 0x500) % 32))
  else if n < 0x7A8 then some ((s.withdrawRing ((n - 0x700) / 2) (if n % 2 = 0 then .cw else .ccw)).spareDone (some n))
  else if n < 0x814 then some ((s.failChannel (n - 0x800) .promotion).spareDone (some n))
  else if n < 0x910 then some ((s.dropLink (n - 0x900)).outOfUse n)
  else if n < 0x912 then some ((if (s.port (12 + (n - 0x910))).leat then s.dropLink (12 + (n - 0x910)) else s).outOfUse n)
  else if n < 0x984 then some ((s.czWithdraw (n - 0x980)).spareDone (some n))
  else if n < 0x998 then some ((s.cxWithdraw (n - 0x990)).spareDone (some n))
  else if (s.slot (n - 0xA10)).st = .ready ∨ (s.slot (n - 0xA10)).st = .claimed then (s.failSlot (n - 0xA10)).map (fun s => s.spareDone (some n))
  else some (s.spareDone (some n))

/-! Safe state and take-over requests (R414, R415). -/

/-- Safe state is decided; it is entered at the first boundary after (R414). -/
def State.decideSafe (s : State) : State :=
  if s.weir.safe || s.weir.safeNext.isSome then s else { s with weir := { s.weir with safeNext := some s.beatc } }

/-- TAKEOVER (R415): a dying gasp is due when the module is in a pair, and safe state follows. -/
def State.requestTakeover (s : State) (reason : Half) : State :=
  let due := if s.ct.pstate = .solo then s.weir.gaspDue else some reason
  ({ s with weir := { s.weir with tkreq := true, gaspDue := due } }).decideSafe

/-! Events (R403-R408). -/

/-- NPEND set by a notification (R412): the highest LEVEL since it was last cleared. -/
def WeirSource.notify (x : WeirSource) (level : Nat) (lcn : Option Nat) : WeirSource :=
  { x with npend := true, level := if x.npend then max x.level level else level, hitLcn := lcn }

/-- The LCN that a core source's event names for LCN = 0xFF (R412). -/
def hitOf (e : WeirReport) : Option Nat := if e.src < 0x340 ∧ e.lcn.toNat < 48 then some e.lcn.toNat else none

/-- The status bit of a class (R405). -/
def WeirSource.mark (x : WeirSource) : FaultClass → WeirSource
  | .corrected => { x with cor := true }
  | .recoverable => { x with recov := true }
  | .severe => { x with sev := true }
  | .fatal => { x with fat := true }

/-- Whether an event counts in a window: its class does, and it is not late (R405, R406). -/
def counts (cls : FaultClass) (late : Bool) : Bool := !late && (cls == .corrected || cls == .recoverable)

/-- Counting (R405, R406): the source after the event, and whether it is promoted. -/
def WeirSource.counted (x : WeirSource) (n : Nat) (cls : FaultClass) (late : Bool) : WeirSource × Bool :=
  let x := { x with total := satWord32 x.total }
  if counts cls late then
    let c : Byte := if x.wcnt = 0xFF then 0xFF else x.wcnt + 1
    let up := !x.prm && decide (x.nAt n ≤ c.toNat)
    let x := { x with wcnt := c }
    (if up then { x with prm := true, sev := true } else x, up)
  else (x, false)

/-- The FLAGS of a record, SAFE aside (R417). -/
def flagsOf (cls : FaultClass) (promoted reset late : Bool) : Byte :=
  classCode cls ||| (if promoted then 4 else 0) ||| (if reset then 8 else 0) ||| (if late then 0x10 else 0)

/-- Whether an event's beat lies in a window that has rolled (R406): it precedes the start of the open one. -/
def State.isLate (s : State) (e : WeirReport) : Bool :=
  decide (e.beat.toNat < (s.weir.source e.src).opened e.src s.beatc)

/-- The station of a report (R524). -/
def stationAt (e : WeirReport) : Byte :=
  if e.src = 0x7A8 ∨ e.src = 0x880 ∨ e.src = 0x881 then e.station else BitVec.ofNat 8 (srcStation e.src)

/-- The actions that an event starts, with those of its promotion (R405). -/
def State.actionsOf (s : State) (x : WeirSource) (e : WeirReport) (promoted : Bool) : Actions :=
  let a := x.actions e.src e.cls
  let a := if promoted then a.union (x.actions e.src .severe) else a
  if s.weir.parity then a.afterParity else a

/-- An event is processed (R404-R408): counted, promoted, recorded, and its actions started in the order of R408. None while its withdrawal has to wait. -/
def State.weirProcess (s : State) (e : WeirReport) (full : Bool) : Option State :=
  let s := s.rollNow e.src
  let late := s.isLate e
  let (x, promoted) := (s.weir.source e.src).counted e.src e.cls late
  let x := { x.mark e.cls with station := (stationAt e) }
  let a := s.actionsOf x e promoted
  let x := if a.int then x.notify a.level (hitOf e) else x
  let s := { s with weir := s.weir.modSource e.src fun _ => x }
  let s :=
    if !a.log then s
    else if full && e.cls == .corrected && !promoted then s.dropRecord
    else s.logRecord
      { beat := e.beat, seq := 0, src := e.src, flags := flagsOf e.cls promoted false late, act := a.byte, pcn := e.pcn, lcn := e.lcn,
        wcnt := x.wcnt, station := (stationAt e), detail := e.detail, addr := e.addr }
  (if a.spare then s.withdraw e.src else some s).map fun s =>
    let s := if a.safe then s.decideSafe else s
    if a.takeover then s.requestTakeover (BitVec.ofNat 16 e.src) else s

/-- Whether an event is that of a microcode sequencing error (R235): FATAL, of a core's microcode source. -/
def isSequencing (e : WeirReport) : Bool := decide (e.src < 0x340) && e.src % 16 == 9 && e.cls == .fatal

/-- What a checker outside the model does to its unit: a core that meets a microcode sequencing error is checkstopped without a TSB (R235); a patch-RAM word with a single-bit error is written again (R236), ADDR naming its microaddress (log 151). -/
def State.checkerActs (s : State) (e : WeirReport) : State :=
  if isSequencing e then
    match s.lcnOfPcn (e.src / 16) with
    | some l => ((s.endHold l).dropInval l).modCore l fun c => { c with run := .checkstopped, resv := none, due := [], ioWait := none, devRead := none }
    | none => s
  else if decide (e.src < 0x340) && e.src % 16 == 8 && e.cls == .corrected then s.modLife fun l => l.rewriteWord (e.src / 16) (fld e.addr 0 16)
  else s

/-- WEIR_EVENT (R405): the oldest event on its way, or one whose checker the model does not hold (log 47). -/
def execWeirEvent (r : Option WeirReport) (s : State) : Out :=
  match r with
  | none =>
    match s.weir.inFlight with
    | [] => .next s
    | e :: es => orSame s (({ s with weir := { s.weir with inFlight := es } }).weirProcess e (decide (1024 < s.weir.inFlight.length)))
  | some e =>
    if srcAssigned e.src && decide (e.beat.toNat ≤ s.beatc.toNat) && decide (e.station.toNat < 84) then
      orSame s ((s.checkerActs e).weirProcess e (decide (1024 < s.weir.inFlight.length)))
    else .refused .illFormed

/-! Status (R413, R525). -/

/-- The conditions that R525 lists for SEV. -/
def State.sevPresent (s : State) (n : Nat) : Bool :=
  if 0x800 ≤ n ∧ n < 0x814 then s.channelFailed (n - 0x800)
  else if 0x500 ≤ n ∧ n < 0x700 then
    decide ((n - 0x500) % 32 < 16) && (match s.pool.ways[(n - 0x500) / 32]? with | some v => bitAt v.dis ((n - 0x500) % 32) | none => false)
  else if 0x700 ≤ n ∧ n < 0x7A8 then !s.pool.ringUp (if n % 2 = 0 then .cw else .ccw)
  else if 0x980 ≤ n ∧ n < 0x984 then !bitAt s.cz.insvc (n - 0x980)
  else if 0x990 ≤ n ∧ n < 0x998 then !bitAt s.cx.insvc (n - 0x990)
  else if 0xA10 ≤ n ∧ n < 0xA18 then (s.slot (n - 0xA10)).st == .failed
  else s.weir.outOfUse.contains n || s.weir.present.contains (n, false)

/-- The conditions that R525 lists for FAT. -/
def State.fatPresent (s : State) (n : Nat) : Bool :=
  if 0x818 ≤ n ∧ n < 0x81C then (s.group (n - 0x818)).lost
  else if 0x500 ≤ n ∧ n < 0x700 then
    (n - 0x500) % 32 == 17 && s.pool.lockFail && (match s.pool.ways[(n - 0x500) / 32]? with | some v => bitAt v.dis 15 | none => false)
  else if n = 0x7A8 then !s.pool.cw && !s.pool.ccw
  else s.weir.present.contains (n, true)

/-- SEV or FAT set again after a clear (R413): a record with RESET = 1, and NPEND when the class's field holds INT. What R413 does not give the record's DETAIL is free. -/
def State.setAgain (s : State) (n : Nat) (cls : FaultClass) : State :=
  let x := (s.weir.source n).mark cls
  let a := x.actions n cls
  let x := if a.int then x.notify a.level x.hitLcn else x
  let s := { s with weir := s.weir.modSource n fun _ => x }
  let (d, s) := s.takeFree
  s.logRecord
    { beat := s.beatc, seq := 0, src := n, flags := flagsOf cls false true false, act := ({ a with log := true, retry := false, spare := false, safe := false, takeover := false } : Actions).byte,
      pcn := srcPcn n, lcn := s.srcLcn n, wcnt := x.wcnt,
      station := if x.total = 0 then BitVec.ofNat 8 (srcStation n) else x.station, detail := d.setWidth 32, addr := 0 }

/-- A write of WSRCSTAT (R413): the bits written 1 are cleared; those whose cause holds are set again, whether or not they were set before (log 168). -/
def State.clearStatus (s : State) (n : Nat) (v : Word) : State :=
  let s := s.rollNow n
  let s := { s with weir := s.weir.modSource n fun x =>
    { x with cor := x.cor && !bitAt v 0, recov := x.recov && !bitAt v 1, sev := x.sev && !bitAt v 2, fat := x.fat && !bitAt v 3, npend := x.npend && !bitAt v 4,
             level := if bitAt v 4 then 0 else x.level } }
  let x := s.weir.source n
  let s := if bitAt v 2 && (s.sevPresent n || decide (x.nAt n ≤ x.wcnt.toNat)) then s.setAgain n .severe else s
  if bitAt v 3 && s.fatPresent n then s.setAgain n .fatal else s

/-- STATUS_CLEAR (R413). -/
def execStatusClear (src : Nat) (v : Word) (s : State) : Out :=
  if srcAssigned src then .next (s.clearStatus src v) else .refused .illFormed

/-! Parity and overruns. -/

/-- WEIR_PARITY_ERROR (R416): safe state without a dying gasp; FAT of source 0xB00, and a record when the log is intact. -/
def execWeirParityError (logIntact : Bool) (s : State) : Out :=
  let s := { s with weir := { (s.weir.modSource 0xB00 fun x => { x with total := satWord32 x.total, fat := true, station := 83 }) with parity := true, gaspDue := none } }
  let s := s.decideSafe
  let (d, s) := s.takeFree
  .next (if logIntact then
      s.logRecord
        { beat := s.beatc, seq := 0, src := 0xB00, flags := flagsOf .fatal false false false, act := 0x88, pcn := 0xFF, lcn := 0xFF,
          wcnt := (s.weir.source 0xB00).wcnt, station := 83, detail := d.setWidth 32, addr := 0 }
    else s.dropRecord)

/-- The overrun source of a unit (R401). -/
def OverrunUnit.source : Sys2Proof.OverrunUnit → Nat
  | .cpGroup g => 0x461 + 4 * g
  | .poolSlice k => 0x514 + 32 * k
  | .memController g => 0x81C + g
  | .channelSubsystem => 0x881
  | .ethStation e => 0x918 + e
  | .compression => 0x984
  | .cipher => 0x998
  | .continuity => 0xA20
  | .plant => 0xA81
  | .weir => 0xB01

/-- An overrun recorded (R37): a CORRECTED event of the unit's overrun source, with the stage in DETAIL and n in ADDR (log 48); the CP group that speaks for the channel subsystem is free. -/
def State.recordOverrun (s : State) (u : Sys2Proof.OverrunUnit) (stage : Byte) (n : Word) : State :=
  let src := OverrunUnit.source u
  if src = 0x881 then s.takeFree.2.reportAt src .corrected (68 + s.takeFree.1.toNat % 4) 0xFF 0xFF (some (stage.setWidth 32)) n
  else s.reportAt src .corrected (srcStation src) 0xFF 0xFF (some (stage.setWidth 32)) n

/-- Whether R35 lists stages of a unit: the others have none whose lateness the model could tell. -/
def hasStages : Sys2Proof.OverrunUnit → Bool
  | .continuity => true
  | .plant => true
  | .weir => true
  | _ => false

/-- BEAT_OVERRUN (R37): the overrun of a stage of R35 that has missed its limit, or of another unit's work. -/
def execBeatOverrun (u : Sys2Proof.OverrunUnit) (stage : BitVec 8) (n : Word) (s : State) : Out :=
  if s.beatc.toNat < n.toNat then .refused .illFormed
  else if s.weir.late.contains (u, stage, n) then
    .next ({ s with weir := { s.weir with late := s.weir.late.erase (u, stage, n) } }.recordOverrun u stage n)
  else if hasStages u then .next s
  else .next (s.recordOverrun u stage n)

/-- The stages of R35 that miss their limit at the present boundary. -/
def State.lateStages (s : State) : List (Sys2Proof.OverrunUnit × Byte × Word) :=
  let b := s.beatc
  ((s.ct.toShip.filter (fun d => d.beat + 2 == b)).map (fun d => (.continuity, 2, d.beat + 1))) ++
  ((s.ct.hbDue.filter (fun h => h.1 + 1 == b)).map (fun h => (.continuity, 3, h.1))) ++
  ((s.plant.loopDue.filter (fun i => i.beat + 1000 == b)).map (fun i => (.plant, 4, i.beat))) ++
  ((s.plant.holdDue.filter (fun i => i.beat + 1000 == b)).map (fun i => (.plant, 4, i.beat))) ++
  ((s.ct.healthDue.filter (fun h => h.beat + 1 == b)).map (fun h => (.continuity, 5, h.beat))) ++
  ((s.ct.ctlDue.filter (fun i => i.beat + 1 == b)).map (fun i => (.continuity, 6, i.beat)))

/-- Overruns at a boundary (R37): those of the last one that no BEAT_OVERRUN has recorded are recorded, and the new ones are noted. -/
def State.overrunBoundary (s : State) : State :=
  let s := s.weir.late.foldl (fun s x => s.recordOverrun x.1 x.2.1 x.2.2) s
  { s with weir := { s.weir with late := s.lateStages.eraseDups } }

end Sys2Proof.Machine
end

