-- ==== Sys2Proof/Machine/Mirror.lean ====
section
/-! DEFINITION. The mirror: deltas gathered, shipped, applied and acknowledged over Leat (18 R434-R443). -/

namespace Sys2Proof.Machine

/-! Entries (R438). -/

/-- A 256-bit mask as 32 bytes, bit i for byte i of the line (log 53). -/
def maskBytes (bs : List (Nat × Byte)) : List Byte := bytesOf 32 (bs.foldl (fun m p => m + 2 ^ p.1) 0)

end Sys2Proof.Machine

namespace Sys2Proof

open Machine

/-- The bytes of an entry (R438). -/
def DeltaEntry.raw : DeltaEntry → List Byte
  | .jrec gen off bs => [1, 0] ++ bytesOf 2 (16 + bs.length) ++ bytesOf 4 gen.toNat ++ bytesOf 4 off.toNat ++ bytesOf 4 bs.length ++ bs
  | .mem pa bs => [2, 0] ++ bytesOf 2 (44 + bs.length) ++ bytesOf 8 pa ++ maskBytes bs ++ bs.map Prod.snd
  | .cbs pa bs => [3, 0] ++ bytesOf 2 (12 + bs.length) ++ bytesOf 8 pa ++ bs
  | .retire sch gen => [4, 0] ++ bytesOf 2 12 ++ bytesOf 4 sch.toNat ++ bytesOf 4 gen.toNat
  | .reserved t => [t, 0] ++ bytesOf 2 4

/-- The length of an entry (ELEN). -/
def DeltaEntry.length : DeltaEntry → Nat
  | .jrec _ _ bs => 16 + bs.length
  | .mem _ bs => 44 + bs.length
  | .cbs _ bs => 12 + bs.length
  | .retire _ _ => 12
  | .reserved _ => 4

/-- Whether an entry's type is reserved (R438). -/
def DeltaEntry.isReserved : DeltaEntry → Bool
  | .reserved _ => true
  | .jrec _ _ _ => false
  | .mem _ _ => false
  | .cbs _ _ => false
  | .retire _ _ => false

end Sys2Proof

namespace Sys2Proof.Machine

/-- The bytes of entries. -/
def entriesLength (es : List DeltaEntry) : Nat := (es.map (fun e => e.length)).sum

/-- The MEM entry of some bytes of a line, at their present values. -/
def State.memEntry (s : State) (line : Nat) (offs : List Nat) : DeltaEntry := .mem (line * 256) (offs.map (fun i => (i, s.mem.read (line * 256 + i))))

/-- The MEM entries of the gathered bytes. -/
def State.memEntries (s : State) : List DeltaEntry :=
  ((s.ct.dirty.map lineOf).eraseDups).map (fun l => s.memEntry l ((List.range 256).filter (fun i => s.ct.dirty.contains (l * 256 + i))))

/-- The CBS entry of a subchannel: its state part, or what stands in the block of a connection that has never been opened. -/
def State.cbsEntry (s : State) (k : Nat) : DeltaEntry :=
  let c := s.conn k
  let cb := (s.sch k).cb
  .cbs (cb * 256) (if c.cfg.isEmpty then s.devBytes (cb * 256 + 0x80) 128 else c.statePart ++ (if c.work.isEmpty then s.devBytes (cb * 256 + 0xB4) 76 else c.work))

/-- Bytes of a record from an offset on as JREC entries; fuel counts them. -/
def jrecEntries (gen : Word32) : Nat → Nat → List Byte → List DeltaEntry
  | 0, _, _ => []
  | fuel + 1, off, bs =>
    if bs.isEmpty then []
    else .jrec gen (BitVec.ofNat 32 off) (bs.take jrecMax) :: jrecEntries gen fuel (off + min jrecMax bs.length) (bs.drop jrecMax)

/-- At most n of the written bytes of a record that no delta has held. -/
def JRec.unshipped (r : JRec) (n : Nat) : List DeltaEntry :=
  let k := min n (r.written - r.shipped)
  jrecEntries r.gen (k / jrecMax + 1) r.shipped ((r.bytes.drop r.shipped).take k)

/-- Whether the deltas carry a record's bytes as they are written: it is guarded and live, and the baseline does not owe it (log 49). -/
def Ct.ships (c : Ct) (r : JRec) : Bool := r.guarded && !r.retired && !c.baseGens.contains r.gen

/-- The JREC entries of the bytes written in the beat (R312). -/
def State.jrecsOfBeat (s : State) : List DeltaEntry := (s.ct.recs.filter s.ct.ships).flatMap (fun r => r.unshipped (r.written - r.shipped))

/-! The baseline (R443). -/

/-- The guarded subchannels, in ascending order. -/
def State.guardedSchs (s : State) : List Nat := s.establishedSchs.filter (fun k => (s.sch k).guarded)

/-- The lines of a guarded region. -/
def GuardRegion.lines (g : GuardRegion) : Nat := if g.en ∧ g.size.toNat ≤ 32768 then g.size.toNat * 8192 else 0

/-- The baseline's next entries and cursor, within q bytes; fuel counts the steps. -/
def State.baseline (s : State) (beat : Word) : Nat → Nat → BaseCursor → List DeltaEntry → List DeltaEntry × BaseCursor × State
  | 0, _, cur, out => (out, cur, s)
  | fuel + 1, q, cur, out =>
    match cur with
    | .done => (out, .done, s)
    | .region r line =>
      match s.ct.regions[r]? with
      | none => State.baseline s beat fuel q (.record ((s.ct.live.filter (fun x => s.ct.baseGens.contains x.gen)).map JRec.gen)) out
      | some g =>
        if g.lines ≤ line then State.baseline s beat fuel q (.region (r + 1) 0) out
        else if q < 300 then (out, cur, s)
        else State.baseline s beat fuel (q - 300) (.region r (line + 1)) (out ++ [s.memEntry (g.base.toNat * 8192 + line) (List.range 256)])
    | .record [] => State.baseline s beat fuel q (.block s.guardedSchs) out
    | .record (g :: gs) =>
      match s.record g with
      | none => State.baseline s beat fuel q (.record gs) out
      | some r =>
        let n := min (r.written - r.shipped) (jrecRoom q)
        let es := r.unshipped n
        let s := s.modRec g fun r => { r with shipped := r.shipped + n, lastShip := beat }
        if r.written ≤ r.shipped + n then
          State.baseline (s.modCt fun c => { c with baseGens := c.baseGens.filter (· != g) }) beat fuel (q - entriesLength es) (.record gs) (out ++ es)
        else (out ++ es, cur, s)
    | .block [] => State.baseline s beat fuel q .done out
    | .block (k :: ks) => if q < 140 then (out, cur, s) else State.baseline s beat fuel (q - 140) (.block ks) (out ++ [s.cbsEntry k])

/-! Forming and shipping (R35 stage 2, R438, R440). -/

/-- The delta of the beat that has ended (R438). -/
def State.formDelta (s : State) (beat : Word) : State :=
  if !s.gathers then s
  else
    let es := s.memEntries ++ s.jrecsOfBeat ++ s.ct.cbsDirty.map s.cbsEntry ++ s.ct.retireDirty.map (fun p => .retire (BitVec.ofNat 32 p.1) p.2)
    let s := s.modCt fun c => { c with
      dirty := [], cbsDirty := [], retireDirty := [],
      recs := c.recs.map (fun r => if c.ships r && decide (r.shipped < r.written) then { r with shipped := r.written, lastShip := beat } else r) }
    let cur := s.ct.baseline.getD .done
    let (base, cur', s) := s.baseline beat 4096 (deltaQuota - entriesLength es) cur []
    let all := es ++ base
    s.modCt fun c => { c with
      baseline := some cur', toShip := c.toShip ++ [{ beat := beat, entries := all, baseDone := cur != .done && cur' == .done }], dmax := max c.dmax (entriesLength all) }

/-- Gathering begins at the first boundary after PAIR_ACTIVE (R443): what stands then is the baseline's. -/
def State.startGathering (s : State) : State :=
  if s.ct.role == .active && s.ct.pstate == .joining && s.ct.baseline.isSome && !s.ct.gathering then
    s.modCt fun c => { c with gathering := true, baseGens := (c.live.filter JRec.guarded).map JRec.gen, dirty := [], cbsDirty := [], retireDirty := [] }
  else s

/-- Gathering ends (R441, R442). -/
def State.stopGathering (s : State) : State :=
  s.modCt fun c => { c with
    gathering := false, baseline := none, baseGens := [], dirty := [], cbsDirty := [], retireDirty := [], toShip := [], shipped := [], pairedDue := none }

/-- Entries packed into frames of at most 8,192 bytes with their header of 16 (log 50). -/
def packEntries : List DeltaEntry → List DeltaEntry → Nat → List (List DeltaEntry)
  | [], [], _ => []
  | [], cur, _ => [cur]
  | e :: es, cur, n =>
    if cur ≠ [] ∧ 8176 < n + e.length then cur :: packEntries es [e] e.length
    else packEntries es (cur ++ [e]) (n + e.length)

/-- The DELTA_END of a delta (R438). -/
def Delta.ending (d : Delta) : DeltaEndMsg :=
  { nframes := BitVec.ofNat 32 (packEntries d.entries [] 0).length, nbytes := BitVec.ofNat 32 (entriesLength d.entries),
    ecrc := crc32c (d.entries.flatMap (fun e => e.raw)), baseDone := d.baseDone }

/-- The messages of a delta (R437, R438). -/
def Delta.messages (d : Delta) : List MirrorMsg := (packEntries d.entries [] 0).map (MirrorMsg.delta d.beat) ++ [.deltaEnd d.beat d.ending]

/-- Messages handed to the Leat link, which keeps them until they are acknowledged (R437). -/
def State.sendMirror (s : State) (ms : List MirrorMsg) : State := (ms.foldl State.queueMirror s).pumpLeat

/-- The oldest delta that is formed goes out; none while Leat is down. -/
def State.shipDelta (s : State) : Option State :=
  match s.ct.toShip with
  | [] => none
  | d :: ds =>
    if s.leatUp then
      some ((s.sendMirror d.messages).modCt fun c => { c with toShip := ds, shipped := c.shipped ++ [{ beat := d.beat, baseDone := d.baseDone }], lastDelta := d.beat })
    else none

/-- DELTA_SHIP (R438). -/
def execDeltaShip (s : State) : Out :=
  if s.weir.safe then .next s
  else match s.shipDelta with
    | some s => .next s
    | none => .next s

/-- Every delta that is formed goes out, as far as Leat carries them. -/
def State.shipAll (s : State) : Nat → State
  | 0 => s
  | n + 1 => match s.shipDelta with
    | some s => State.shipAll s n
    | none => s

/-! Acknowledgements on the active module (R439, R441, R442). -/

/-- What a DELTA_ACK does on the active module (R439, R442, R452): after boundary n + 4 it is discarded. -/
def State.deltaAcked (s : State) (beat : Word) : State :=
  if !s.gathers || !s.ct.shipped.any (fun d => d.beat == beat) || decide (beat.toNat + 4 ≤ s.beatc.toNat) then s
  else
    let acked := s.ct.shipped.filter (fun d => decide (d.beat.toNat ≤ beat.toNat))
    s.modCt fun c => { c with
      shipped := c.shipped.filter (fun d => decide (beat.toNat < d.beat.toNat)),
      pairedDue := if acked.any Shipped.baseDone && c.pstate == .joining then some (c.pairedDue.getD s.beatc) else c.pairedDue,
      recs := c.recs.map fun r =>
        if c.ships r && !r.mirrored && decide (256 * r.units ≤ r.shipped) && decide (r.lastShip.toNat ≤ beat.toNat) then { r with mirrored := true, ackBeat := s.beatc } else r }

/-- PSTATE changes, and the control area is written (R428, R442). In SOLO the module is not in a pair, and LEAT falls at the next boundary (R353, log 54). -/
def State.setPstate (s : State) (p : PState) : State :=
  if s.ct.pstate = p then s
  else (s.modCt fun c => { c with pstate := p, leatOffDue := p == .solo, soloDue := false, armed := c.armed && p == .paired }).writeControl

/-- PAIRED_ENTRY (R442): at the boundary after the DELTA_ACK of BASEDONE. -/
def execPairedEntry (s : State) : Out :=
  match s.ct.pairedDue with
  | some b => if decide (1 ≤ s.since b) && s.ct.pstate == .joining && !s.weir.safe then .next ((s.modCt fun c => { c with pairedDue := none }).setPstate .paired) else .next s
  | none => .next s

/-! The standby's side (R439). -/

/-- Whether deltas arrive here: a standby in a pair that no take-over has stopped (R449 row 1). -/
def State.takesDeltas (s : State) : Bool := s.leatUp && !s.weir.safe && s.ct.role == .standby && s.ct.pstate != .solo && s.ct.takeOver.isNone

/-- A line's masked bytes performed in memory by the continuity unit (R436, R439). -/
def State.applyMem (s : State) (line : Nat) (bs : List (Nat × Byte)) : Option State :=
  if s.lineBusy line || s.heldByOther 255 line || !s.isDram (line * 256) then (if s.isDram (line * 256) then none else some s)
  else (s.allocate line).map fun s => (s.dropOthers line none).putWrNa line bs

/-- The record that a mirrored header describes (R429), in the standby's own ring. -/
def mirroredRec (gen : Word32) (raw : List Byte) : JRec :=
  let f := fun (off n : Nat) => natOf ((raw.drop off).take n)
  { gen := gen, kind := f 4 1, sch := f 0xC 4 % 2 ^ 20, guarded := f 5 1 % 2 == 1, mirror := true, key := BitVec.ofNat 64 (f 0x10 8),
    pos := BitVec.ofNat 64 (f 0x18 8), beat := BitVec.ofNat 64 (f 0x20 8), parm := BitVec.ofNat 64 (f 0x30 8), total := f 0x28 4,
    data := (raw.drop 64).take (f 0x28 4), unit := 0, units := max 1 (f 0x2C 4), written := 0, shipped := 0, lastShip := 0, ackBeat := 0,
    durable := false, mirrored := true, released := true, retired := false, broken := false }

/-- A JREC entry (R439): the record is reserved once its header is there and units are free; the first wait of a record raises an event of Stillwater. A record that stands whole already is not written again (log 57). -/
def State.applyJrec (s : State) (gen off : Word32) (bs : List Byte) : Bool × State :=
  let m := (s.ct.mirIn.find? (fun m => m.gen == gen)).getD { gen := gen, raw := [], placed := false }
  let raw := m.raw.take off.toNat ++ bs
  let r := mirroredRec gen raw
  if (s.record gen).isSome && !s.ct.mirIn.any (fun x => x.gen == gen) then (true, s.modCt fun c => { c with needs := (gen, off.toNat + bs.length) :: c.needs })
  else if raw.length < 64 then (true, s.modCt fun c => { c with mirIn := { m with raw := raw } :: c.mirIn.filter (fun x => x.gen != gen) })
  else if !m.placed && !s.ct.fits r.units then
    (false, if s.ct.waitRaised then s else (s.modCt fun c => { c with waitRaised := true }).report 0xA02 .recoverable none 0)
  else
    let s := if m.placed then s.modRec gen fun x => { x with data := r.data } else s.placeRec r
    let rest := s.ct.mirIn.filter (fun x => x.gen != gen)
    (true, s.modCt fun c => { c with
      waitRaised := false, mirIn := if 256 * r.units ≤ raw.length then rest else { gen := gen, raw := raw, placed := true } :: rest,
      needs := (gen, off.toNat + bs.length) :: c.needs })

/-- One entry applied; false when it has to wait. -/
def State.applyEntry (s : State) (e : DeltaEntry) : Bool × State :=
  let opt := fun (o : Option State) => match o with
    | some s => (true, s)
    | none => (false, s)
  match e with
  | .jrec gen off bs => s.applyJrec gen off bs
  | .mem pa bs => opt (s.applyMem (lineOf pa) bs)
  | .cbs pa bs => opt (s.applyMem (lineOf pa) (((List.range bs.length).map (0x80 + ·)).zip bs))
  | .retire sch gen => (true, s.retireRecs (fun r => r.sch == sch.toNat && r.gen == gen))
  | .reserved _ => (true, s)

/-- The entries and deltas that can be applied now, in beat order (R439); fuel counts the steps. -/
def State.applyDeltas (s : State) : Nat → State
  | 0 => s
  | fuel + 1 =>
    match s.ct.rxDeltas with
    | [] => s
    | d :: ds =>
      if s.ct.applied.isSome ∧ s.ct.applied ≠ some (d.beat - 1) then s
      else match d.entries with
        | [] =>
          State.applyDeltas (s.modCt fun c => { c with
            rxDeltas := ds, applied := some d.beat, needs := [], acksDue := c.acksDue ++ [{ beat := d.beat, needs := c.needs, since := s.beatc }] }) fuel
        | e :: es =>
          let (ok, s) := s.applyEntry e
          if ok then State.applyDeltas (s.modCt fun c => { c with rxDeltas := { d with entries := es } :: ds }) fuel else s

/-- Everything that can be applied. -/
def State.applyAll (s : State) : State := s.applyDeltas ((s.ct.rxDeltas.map (fun d => d.entries.length + 1)).sum)

/-- A DELTA message on the standby (R437): its entries wait for their DELTA_END. -/
def State.deltaTaken (s : State) (beat : Word) (entries : List DeltaEntry) : State :=
  if s.takesDeltas then s.modCt fun c => { c with rxFrames := c.rxFrames ++ [(beat, entries)] } else s

/-- A DELTA_END message on the standby (R438, R439): the delta is kept when its counts and its CRC check and no entry is reserved; it is refused otherwise. -/
def State.deltaEnded (s : State) (beat : Word) (e : DeltaEndMsg) : State :=
  if !s.takesDeltas then s
  else
    let frames := s.ct.rxFrames.filter (fun f => f.1 == beat)
    let es := frames.flatMap Prod.snd
    let s := s.modCt fun c => { c with rxFrames := c.rxFrames.filter (fun f => f.1 != beat) }
    if frames.length = e.nframes.toNat ∧ entriesLength es = e.nbytes.toNat ∧ crc32c (es.flatMap (fun x => x.raw)) = e.ecrc ∧ es.any (fun x => x.isReserved) = false then
      (s.modCt fun c => { c with rxDeltas := c.rxDeltas ++ [{ beat := beat, entries := es, baseDone := e.baseDone }] }).applyAll
    else s

/-- What a sequenced mirror message does when it is taken in order (R437). -/
def takeMirror (m : MirrorMsg) (s : State) : State :=
  match m with
  | .delta beat es => s.deltaTaken beat es
  | .deltaEnd beat e => s.deltaEnded beat e
  | .deltaAck beat => s.deltaAcked beat
  | _ => s

/-- A sequenced mirror message arrives; in safe state nothing of the pair is taken (R414). -/
def mirrorRow (h : MirrorHead) (m : MirrorMsg) (s : State) : Out :=
  if !s.leatUp || s.weir.safe then .next s else .next (s.leatReceive takeMirror h m)

/-- DELTA (R437). -/
def execDelta (h : MirrorHead) (beat : Word) (entries : List DeltaEntry) (s : State) : Out := mirrorRow h (.delta beat entries) s

/-- DELTA_END (R438, R439). -/
def execDeltaEnd (h : MirrorHead) (beat : Word) (e : DeltaEndMsg) (s : State) : Out := mirrorRow h (.deltaEnd beat e) s

/-- DELTA_ACK (R439). -/
def execDeltaAck (h : MirrorHead) (beat : Word) (s : State) : Out := mirrorRow h (.deltaAck beat) s

/-- Whether bytes of a record are durable. -/
def State.recDurable (s : State) (p : Word32 × Nat) : Bool :=
  match s.record p.1 with
  | some r => r.durable || decide (p.2 ≤ r.written)
  | none => true

/-- DELTA_ACK_SEND (R439): at the first boundary at which the delta's JREC bytes are durable and every other entry is performed. -/
def execDeltaAckSend (s0 : State) : Out :=
  let s := if s0.takesDeltas then s0.applyAll else s0
  match s.ct.acksDue with
  | [] => .next s0
  | a :: as =>
    if s.takesDeltas && decide (1 ≤ s.since a.since) && a.needs.all s.recDurable then
      if s.leatUp then .next ((s.sendMirror [.deltaAck a.beat]).modCt fun c => { c with acksDue := as }) else .next s0
    else .next s0

/-! Guarded regions (R434). -/

/-- The bytes of the enabled regions. -/
def guardedUnits (gs : List GuardRegion) : Nat := (gs.map (fun g => if g.en ∧ g.size.toNat ≤ 32768 then g.size.toNat else 0)).sum

/-- A write of CTGREGr (R434): ignored unless SOLO; EN = 1 is refused outside main memory, for a region that is not empty, or beyond 64 GiB. -/
def State.writeRegion (s : State) (r : Nat) (v : Word) : State :=
  if s.ct.pstate ≠ .solo then s
  else
    let g : GuardRegion := { en := bitAt v 63, err := false, base := fld v 21 31, size := fld v 0 16 }
    let units := if g.size.toNat ≤ 32768 then g.size.toNat else 0
    let bad := g.en && ((units != 0 && decide (s.capacity < (g.base.toNat + units) * 2 ^ 21)) || decide (32768 < guardedUnits (s.ct.regions.set r g)))
    s.modCt fun c => { c with regions := modAt c.regions r (fun old => if bad then { old with err := true } else g) }

/-- GUARDED_REGION_WRITE (R434). -/
def execGuardedRegionWrite (r : Fin 16) (v : Word) (s : State) : Out := portRow (.ctgreg r) (fun s => .next (s.writeRegion r v)) s

end Sys2Proof.Machine
end

