-- ==== Sys2Proof/Machine/Plant.lean ====
section
/-! DEFINITION. The plant controller: time of day, sensors, pumps, hold-up and the power sequence (19 R454-R469, 22 R510-R517). -/

namespace Sys2Proof.Machine

/-- The plant controller changed. -/
def State.modPlant (s : State) (f : Plant → Plant) : State := { s with plant := f s.plant }

/-- An event of a plant source, while Weir is powered (R468). -/
def State.plantEvent (s : State) (src : Nat) (cls : FaultClass) : State :=
  if s.plant.power = .on then s.report src cls none 0 else s

/-- A condition that R525 lists for a plant source, present or not at the last stage. -/
def State.setPresent (s : State) (src : Nat) (fatal there : Bool) : State :=
  let rest := s.weir.present.filter (· != (src, fatal))
  { s with weir := { s.weir with present := if there && s.plant.power == .on then (src, fatal) :: rest else rest } }

/-! Time (R454-R458). -/

/-- The slew in effect (PLSLEW): a reserved magnitude acts as 0. -/
def Plant.slewAt (p : Plant) : Int := if p.slew.toInt.natAbs ≤ 2147483 then p.slew.toInt else 0

/-- A boundary (R32, R455): BEATC advances, and TOD by 100 increments, 16 units and the slew in units of 2^-32 beat. -/
def Plant.boundary (p : Plant) : Plant :=
  { p with beatc := p.beatc + 1, refCycle := 0, todBase := p.todBase + 100 * todStep + 16 + BitVec.ofInt 128 (p.slewAt * 2 ^ 32) }

/-- TOD loaded with what the ports held at the last boundary (R456). -/
def Plant.loadTod (p : Plant) : Plant :=
  match p.loadDue with
  | some (h, l) => { p with loadDue := none, todValid := true, todBase := (h.setWidth 128 <<< 64) ||| l.setWidth 128 }
  | none => p

/-- A load that the last boundary left is done, and the one that SET asks for is due now (R456). -/
def Plant.todBoundary (p : Plant) : Plant :=
  let q := p.loadTod.boundary
  if q.setDue.isSome then { q with setDue := none, loadDue := some (q.setH, q.setL) } else q

/-- SET written 1 (R456): without effect once VALID = 1. -/
def State.todSet (s : State) : State :=
  if s.plant.todValid || s.plant.loadDue.isSome then s else s.modPlant fun p => { p with setDue := some (p.setDue.getD p.beatc) }

/-- TOD_SET (R456). -/
def execTodSet (s : State) : Out := portRow .pltodsetl (fun s => if s.plant.power = .on then .next s.todSet else .next s) s

/-- TOD_LOAD (R456): at the boundary after SET. -/
def execTodLoad (s : State) : Out := .next (s.modPlant Plant.loadTod)

/-- REFERENCE_LOSS (R457): the beat goes on from the oscillator (R33). -/
def execReferenceLoss (s : State) : Out :=
  if s.plant.refOk ∧ s.plant.power ≠ .off then
    .next ((s.modPlant fun p => { p with refOk := false, refLost := p.beatc }).plantEvent 0xA80 .recoverable)
  else .next s

/-- REFERENCE_RETURN (R457): 1,000 beats of presence have passed. -/
def execReferenceReturn (s : State) : Out :=
  if s.plant.refOk = false ∧ 1000 ≤ s.since s.plant.refLost ∧ s.plant.power ≠ .off then
    .next ((s.modPlant fun p => { p with refOk := true }).plantEvent 0xA80 .corrected)
  else .next s

/-- Time passes inside the beat (log 7). -/
def State.passCycle (s : State) : State :=
  let (f, s) := s.takeFree
  s.modPlant fun p => { p with refCycle := p.refCycle + f.toNat % (100 - p.refCycle) }

/-- PPS_EDGE (R458): TOD is captured. -/
def execPpsEdge (s : State) : Out :=
  if s.plant.power = .off then .next s
  else
    let s := s.passCycle
    .next (s.modPlant fun p => { p with ppsH := fld p.tod 64 64, ppsL := fld p.tod 0 64, ppsNew := true, ppsOk := true, lastPps := p.beatc })

/-- PPS_LOSS (R458): no edge for 1,100,000 beats. -/
def execPpsLoss (s : State) : Out :=
  if s.plant.ppsOk ∧ 1100000 ≤ s.since s.plant.lastPps then .next ((s.modPlant fun p => { p with ppsOk := false }).plantEvent 0xA80 .corrected)
  else .next s

/-! Sensors (R461, R462). -/

/-- The quantity of a channel; 0 for one that is not assigned (R461). -/
def sensorType (n : Nat) : Nat :=
  if n ≤ 115 then 1
  else if n = 128 ∨ n = 129 then 1
  else if n = 130 then 4
  else if n = 131 ∨ n = 132 then 5
  else if n = 133 ∨ n = 134 then 6
  else if 144 ≤ n ∧ n ≤ 175 then 2
  else if 176 ≤ n ∧ n ≤ 207 then 3
  else if n = 208 then 7
  else if n = 209 then 3
  else if n = 210 then 8
  else if n = 211 then 9
  else if 212 ≤ n ∧ n ≤ 255 then 1
  else 0

/-- The source that a channel reports to (R462). -/
def sensorSource (n : Nat) : Nat :=
  if 128 ≤ n ∧ n ≤ 134 then 0xA82 else if 144 ≤ n ∧ n ≤ 207 then 0xA85 else if 208 ≤ n ∧ n ≤ 215 then 0xA83 else 0xA84

/-- A channel. -/
def Plant.sensor (p : Plant) (n : Nat) : Sensor := lookupD p.sensors n Sensor.reset

/-- A channel changed. -/
def Plant.modSensor (p : Plant) (n : Nat) (f : Sensor → Sensor) : Plant := { p with sensors := assoc p.sensors n (f (p.sensor n)) }

/-- A channel after a sample (R462). -/
def Sensor.sampled (x : Sensor) (v : BitVec 16) : Sensor :=
  { x with
    valid := true, value := v,
    hi := x.limHi != 0 && decide (x.limHi.toInt < v.toInt),
    lo := x.limLo != 0 && decide (v.toInt < x.limLo.toInt) }

/-- The nominal voltage of a rail in mV (R512). -/
def railNominal (r : Nat) : Nat :=
  if r = 0 then 3300 else if r = 1 then 850 else if r ≤ 5 then 800 else if r ≤ 11 then 750 else if r = 12 then 1100
  else if r ≤ 17 then 750 else if r ≤ 21 then 1100 else if r ≤ 23 then 750 else if r ≤ 25 then 1200 else if r ≤ 27 then 750
  else if r = 28 then 1800 else if r = 29 then 750 else 1800

/-- Whether a voltage lies in a rail's window (R513). -/
def inWindow (r : Nat) (mv : Int) : Bool := decide (95 * (railNominal r : Int) ≤ 100 * mv) && decide (100 * mv ≤ 105 * (railNominal r : Int))

/-- A rail that a sample of its voltage finds inside its window stands in it again (log 55). -/
def State.railBack (s : State) (n : Nat) (v : BitVec 16) : State :=
  if 144 ≤ n ∧ n ≤ 175 ∧ inWindow (n - 144) v.toInt = true then
    let s := s.modPlant fun p => { p with railsOut := p.railsOut.filter (· != n - 144) }
    if s.plant.railsOut.isEmpty then s.setPresent 0xA85 false false else s
  else s

/-- SENSOR_SAMPLE (R461, R462): a crossing from inside the limits is a RECOVERABLE event. -/
def execSensorSample (n : Fin 512) (v : BitVec 16) (s : State) : Out :=
  if sensorType n = 0 then .refused .illFormed
  else if s.plant.power = .off then .next s
  else
    let x := s.plant.sensor n
    let y := x.sampled v
    let s := (s.modPlant fun p => p.modSensor n fun _ => y).railBack n v
    .next (if !x.hi && !x.lo && (y.hi || y.lo) then s.plantEvent (sensorSource n) .recoverable else s)

/-! Pumps and the thermal loop (R463, R464). -/

/-- The sample of a channel, if it holds one. -/
def Plant.sample (p : Plant) (n : Nat) : Option Int := if (p.sensor n).valid then some (p.sensor n).value.toInt else none

/-- The inputs of the loop stage at the next boundary (R36). -/
def State.loopInput (s : State) : LoopInput :=
  let p := s.plant
  { beat := s.beatc + 1, temps := (List.range 116).filterMap p.sample, flow := p.sample 130, speedA := p.sample 133, speedB := p.sample 134,
    tset := p.tset, tcrit := p.tcrit, tshut := p.tshut, fmin := p.fmin, pmin := p.pmin, dmin := p.dmin, man := p.man, safe := s.weir.safe, down := p.downAt.isSome }

/-- The inputs of the hold-up stage at the next boundary (R36). -/
def Plant.holdInput (p : Plant) : HoldInput := { beat := p.beatc + 1, hmin := p.hmin, hstop := p.hstop, hupol := p.hupol, railsIn := p.power == .on && p.railsOut.isEmpty }

/-- Stages in a row at which a pump's speed was below PMIN (R463). -/
def lowStages (n : Nat) (speed : Option Int) (pmin : BitVec 16) : Nat :=
  match speed with
  | some v => if v < (pmin.toNat : Int) then n + 1 else 0
  | none => 0

/-- The pumps at a loop stage (R463): one that stays slow for three stages has failed. -/
def State.pumpStage (s : State) (i : LoopInput) : State :=
  let p := s.plant
  let a := lowStages p.lowA i.speedA i.pmin
  let b := lowStages p.lowB i.speedB i.pmin
  let newA := !p.failA && decide (3 ≤ a)
  let newB := !p.failB && decide (3 ≤ b)
  let s := s.modPlant fun p => { p with lowA := a, lowB := b, failA := p.failA || newA, failB := p.failB || newB }
  let s := if newA then s.plantEvent 0xA82 .recoverable else s
  let s := if newB then s.plantEvent 0xA82 .recoverable else s
  let lowFlow := i.fmin != 0 && (match i.flow with
    | some f => decide (f < (i.fmin.toNat : Int))
    | none => false)
  let bad := (s.plant.failA && s.plant.failB) || lowFlow
  let before := s.weir.present.contains (0xA82, false)
  let s := s.setPresent 0xA82 false bad
  if bad && !before then s.plantEvent 0xA82 .severe else s

/-- The largest of some temperatures; without one, a free value (log 56). -/
def State.hottest (s : State) (ts : List Int) : Int × State :=
  match ts with
  | [] => ((s.takeFree.1.setWidth 16).toInt, s.takeFree.2)
  | t :: ts => (ts.foldl max t, s)

/-- The procedure THERMAL (R464) on the inputs of its boundary. -/
def State.thermal (s : State) (i : LoopInput) : State :=
  let s := s.pumpStage i
  let (t, s) := s.hottest i.temps
  let e := Int.tdiv (t - i.tset.toInt) 10
  let acc := max (-64) (min 64 (s.plant.acc + e))
  let d : Int := if i.man then i.dmin.toNat else max i.dmin.toNat (min 255 (i.dmin.toNat + 8 * e + acc))
  let full := i.safe || s.plant.failA || s.plant.failB || i.down
  let s := s.modPlant fun p => { p with acc := acc, duty := if full then 255 else BitVec.ofNat 8 d.toNat }
  let hot := decide (i.tshut.toInt ≤ t)
  let crit := decide (i.tcrit.toInt ≤ t)
  let s := (s.setPresent 0xA84 true hot).setPresent 0xA84 false crit
  if hot then s.plantEvent 0xA84 .fatal else if crit then s.plantEvent 0xA84 .severe else s

/-- THERMAL_LOOP (R35 stage 4, R464). -/
def execThermalLoop (s : State) : Out :=
  match s.plant.loopDue with
  | i :: is => .next ((s.modPlant fun p => { p with loopDue := is }).thermal i)
  | [] => .next s

/-! POWER_STABLE and hold-up (R466-R468). -/

/-- HSTOP in effect (PLPOWER). -/
def HoldInput.stop (i : HoldInput) : Nat :=
  let m := i.hmin.toNat
  if i.hstop.toNat < m then i.hstop.toNat else if 20 < m then 20 else m - 1

/-- POWER_DOWN (R468): the request goes to every core, and the pumps run at full duty. -/
def State.powerDown (s : State) : State :=
  if s.plant.power = .on ∧ s.plant.downAt = none then
    s.modPlant fun p => { p with downAt := some p.beatc, accepted := [], lastAccept := p.beatc, duty := 255 }
  else s

/-- What the BMU answered, taken in (R465, R466): a change of inp is an event, and so is a stage without an answer. -/
def State.bmuStage (s : State) : Option BmuAnswer → State
  | some a =>
    let inp := bitAt a.source 0
    let changed := s.plant.known && s.plant.inp != inp
    let s := s.modPlant fun p => { p with inp := inp, res := a.reserve, known := true, unread := 0, bmuOk := true }
    if changed then s.plantEvent 0xA83 .recoverable else s
  | none => (s.modPlant fun p => { p with unread := p.unread + 1, bmuOk := false }).plantEvent 0xA83 .recoverable

/-- Whether the hold-up stage finds the conditions good (R466). -/
def Plant.holdOk (p : Plant) (i : HoldInput) : Bool :=
  (if 3 ≤ p.unread then i.hupol else if !p.known then false else p.inp || decide (i.hmin.toNat ≤ p.res.toNat)) && i.railsIn

/-- The change of POWER_STABLE that a stage decides (R466), which falls at the first boundary after it; a rail that has left its window since keeps it 0 (R469). -/
def Plant.decideStable (p : Plant) (ok : Bool) : Plant :=
  let next := if !ok then (if p.stable then some (false, p.beatc) else none)
    else if p.okPrev then (if p.stable || !p.railsOut.isEmpty then none else some (true, p.beatc))
    else p.stableNext
  { p with stableNext := next, okPrev := ok }

/-- The procedure HOLDUP (R466) on the inputs of its boundary. -/
def State.holdup (s : State) (i : HoldInput) (a : Option BmuAnswer) : State :=
  let s := s.bmuStage a
  let blind := decide (3 ≤ s.plant.unread)
  let s := if blind then s.plantEvent 0xA83 .severe else s
  let ok := s.plant.holdOk i
  let s := s.modPlant fun p => p.decideStable ok
  let bat := s.plant.known && !s.plant.inp
  let stop := bat && decide (s.plant.res.toNat < i.stop)
  let low := bat && decide (s.plant.res.toNat < i.hmin.toNat)
  let s := (s.setPresent 0xA83 true stop).setPresent 0xA83 false (low || blind)
  if stop then (s.plantEvent 0xA83 .fatal).powerDown else if low then s.plantEvent 0xA83 .severe else s

/-- HOLDUP (R35 stage 4, R466). -/
def execHoldup (a : Option BmuAnswer) (s : State) : Out :=
  match s.plant.holdDue with
  | i :: is => .next ((s.modPlant fun p => { p with holdDue := is }).holdup i a)
  | [] => .next s

/-- POWER_STABLE takes a value (R466); at its rise the interrupted records are written again (R431). -/
def State.setStable (s : State) (v : Bool) : State :=
  let s := s.modPlant fun p => { p with stable := v, stableNext := none }
  if v then s.rewriteRecs else s

/-- A change that no POWER_STABLE_CHANGE has made at its boundary is made now (R466). -/
def State.stableBoundary (s : State) : State :=
  match s.plant.stableNext with
  | some (v, b) => if 2 ≤ s.since b then s.setStable v else s
  | none => s

/-- POWER_STABLE_CHANGE (R466): at the first boundary after the stage that decided it. -/
def execPowerStableChange (s : State) : Out :=
  match s.plant.stableNext with
  | some (v, b) => if 1 ≤ s.since b then .next (s.setStable v) else .next s
  | none => .next s

/-- The land PSTABLE (R516). -/
def State.pstable (s : State) : Bool := s.plant.stable && s.plant.downAt.isNone

/-- The records of a journal that was being zeroed, as replay will find them (R502): gone, with only a header, or untouched. -/
def State.zeroedRecs (s : State) : List JRec → List JRec × State
  | [] => ([], s)
  | r :: rs =>
    let (v, s) := s.takeFree
    let (out, s) := State.zeroedRecs s rs
    (if bitAt v 0 then out else if bitAt v 1 then { r with broken := true } :: out else r :: out, s)

/-- A change of life-cycle state that is cut off before its fuses are blown (R502): the state does not change, and the journal is partly zeroed once safe state was entered. -/
def State.cutChange (s : State) : State :=
  let none' := fun (s : State) => s.modLife fun l => { l with change := none }
  if s.life.change.isSome && s.weir.safe then
    let (recs, s) := s.zeroedRecs s.ct.recs
    let (v, s) := s.takeFree
    let c := s.ct
    none' (s.modCt fun t => { t with
      recs := recs, copyA := { c.copyA with valid := c.copyA.valid && bitAt v 0 }, copyB := { c.copyB with valid := c.copyB.valid && bitAt v 1 } })
  else none' s

/-- The control area as a loss of power leaves it (R428): a write that a stage still owes may be torn, and the copy that is not in use is then not valid (log 136). -/
def State.tornControl (s : State) : State :=
  if s.ct.ctlDue.isEmpty then s
  else
    let (v, s) := s.takeFree
    if bitAt v 0 then s
    else s.modCt fun c => if c.useB then { c with copyA := { c.copyA with valid := false } } else { c with copyB := { c.copyB with valid := false } }

/-- Everything but rails 0 and 1 loses its power (R468): Stillwater, the fuses and the flash keep theirs. -/
def State.unpowered (s : State) : State :=
  let s := s.cutChange.tornControl
  let c := s.ct
  { s with
    cores := List.replicate 48 Core.absent, mem := [],
    pool := { Pool.reset with lock := false, locked := false, start := true },
    mc := { s.mc with ready := false, zeroing := false, poisonCode := [], reads := [], writes := [] },
    weir := .reset,
    ct := { Ct.reset with slots := [], lcp := List.replicate 32 none, copyA := c.copyA, copyB := c.copyB, useB := c.useB, recs := c.recs },
    css := .reset, eth := .reset, cz := .reset, cx := .reset, slices := .reset,
    life := { Life.reset with fuses := s.life.fuses, flash := s.life.flash, serial := s.life.serial } }

/-- The rails of the sequence groups A to E (R512). -/
def railGroups : List (List Nat) := [[29, 30, 31], [6, 7, 8, 9, 10, 11, 13, 14, 15, 16, 17, 26, 27], [2, 3, 4, 5], [12, 18, 19, 20, 21, 28], [22, 23, 24, 25]]

/-- The first n groups are switched on in their order (R513, R514). -/
def Plant.switchOn (p : Plant) (n : Nat) : Plant :=
  { p with railsSent := p.railsSent ++ (railGroups.take n).flatMap (fun g => g.map (fun r => .vout r (railNominal r)) ++ g.map .on) }

/-- The first n groups are switched off, the last of them first (R516). -/
def Plant.switchOff (p : Plant) (n : Nat) : Plant :=
  { p with railsSent := p.railsSent ++ (railGroups.take n).reverse.flatMap (fun g => g.map .off) }

/-- The regulators are off (R468, R516). -/
def State.regulatorsOff (s : State) : State :=
  s.unpowered.modPlant fun p =>
    { p.switchOff 5 with power := .standby, downAt := none, accepted := [], stable := false, stableNext := none, okPrev := false, attempts := 0 }

/-- The standby rails are lost (R517): the plant controller loses its state too. -/
def State.standbyOff (s : State) : State :=
  { s.unpowered with plant := { Plant.cold 0 with power := .off, pwron := false, refOk := false, last := 0 } }

/-- RAIL_WINDOW_EXIT (R466, R517): POWER_STABLE falls, with a SEVERE event; without rail 0 or 1 the module is unpowered. -/
def execRailWindowExit (rail : Fin 32) (s : State) : Out :=
  if s.plant.power = .off then .next s
  else if rail.val < 2 then .next s.standbyOff
  else if s.plant.power ≠ .on then .next s
  else
    let s := s.modPlant fun p => { p with stable := false, stableNext := none, railsOut := rail.val :: p.railsOut.filter (· != rail.val) }
    .next ((s.setPresent 0xA85 false true).plantEvent 0xA85 .severe)

/-- The cores that a power-down request reaches. -/
def State.presentCores (s : State) : List Nat := (List.range 48).filter (fun n => (s.core n).run != .absent)

/-- Whether FATAL actions of the hold-up stage have still to start (R468). -/
def State.fatalWaits (s : State) : Bool := s.weir.inFlight.any (fun e => e.src == 0xA83 && e.cls == .fatal)

/-- POWER_DOWN_ACCEPT (R188, R468): a core accepts after its buffer and its device store. -/
def execPowerDownAccept (lcn : Nat) (s : State) : Out :=
  if s.plant.downAt.isNone || !s.presentCores.contains lcn || s.plant.accepted.contains lcn || s.weir.safe || s.fatalWaits || (s.core lcn).devStore.isSome then
    .next s
  else orSame s ((s.drain lcn).map fun s => s.modPlant fun p => { p with accepted := lcn :: p.accepted, lastAccept := p.beatc })

/-- REGULATORS_OFF (R468): at the first boundary after every core has accepted, or 10 beats after the request. -/
def execRegulatorsOff (s : State) : Out :=
  match s.plant.downAt with
  | none => .next s
  | some b =>
    if !s.fatalWaits && (decide (10 ≤ s.since b) || (s.presentCores.all (fun n => s.plant.accepted.contains n) && decide (1 ≤ s.since s.plant.lastAccept))) then
      .next s.regulatorsOff
    else .next s

/-! The power sequence (R512-R517). -/

/-- POWER_SEQUENCE (R514): PWRON is high, after a fall, and rails 0 and 1 have been within their windows for 10 ms. -/
def execPowerSequence (s : State) : Out :=
  if s.plant.power = .standby ∧ s.plant.pwron = false ∧ 10000 ≤ s.since s.plant.standbyAt then
    .next (s.modPlant fun p => { p with pwron := true, power := .sequencing, seqAt := p.beatc, attempts := 1 })
  else .next s

/-- SEQUENCE_FAIL (R515): a group was not good within 5 ms; it and those before it go off again. -/
def execSequenceFail (rail : Fin 32) (s : State) : Out :=
  if s.plant.power = .sequencing ∧ 2 ≤ rail.val ∧ 5000 ≤ s.since s.plant.seqAt then
    let n := railGroups.findIdx (·.contains rail.val) + 1
    .next (s.modPlant fun p =>
      { (p.switchOn n).switchOff n with power := .standby, seqAt := p.beatc, fails := if p.fails = 0xFF then p.fails else p.fails + 1, frail := BitVec.ofNat 5 rail.val, last := 2 })
  else .next s

/-- SEQUENCE_RETRY (R515): 1 s after a failure, three tries in all. -/
def execSequenceRetry (s : State) : Out :=
  let p := s.plant
  if p.power = .standby ∧ p.pwron = true ∧ 1 ≤ p.attempts ∧ p.attempts < 3 ∧ 1000000 ≤ s.since p.seqAt then
    .next (s.modPlant fun p => { p with power := .sequencing, seqAt := p.beatc, attempts := p.attempts + 1 })
  else .next s

/-- The groups that a sequence in progress has switched on: a free number; none without one (R517). -/
def State.groupsOn (s : State) : Nat × State :=
  if s.plant.power = .sequencing then (s.takeFree.1.toNat % 6, s.takeFree.2) else (0, s)

/-- PWRON_FALL (R516, R517): a power-down without an event; a sequence in progress stops, and the groups that are on go off. -/
def execPwronFall (s : State) : Out :=
  if s.plant.pwron = false ∨ s.plant.power = .off then .next s
  else
    let (n, s) := s.groupsOn
    let s := s.modPlant fun p => { (p.switchOn n).switchOff n with pwron := false, attempts := 0, power := if p.power = .sequencing then .standby else p.power }
    .next s.powerDown

/-- STANDBY_SUPPLY_LOSS (R517). -/
def execStandbySupplyLoss (_rail : Fin 2) (s : State) : Out :=
  if s.plant.power = .off then .next s else .next s.standbyOff

/-- STANDBY_SUPPLY_ON (R512). -/
def execStandbySupplyOn (s : State) : Out :=
  if s.plant.power = .off then .next (s.modPlant fun p => { p with power := .standby, standbyAt := p.beatc, refLost := p.beatc })
  else .next s

end Sys2Proof.Machine
end

