-- ==== Sys2Proof/Machine/Witness.lean ====
section
/-! DEFINITION. The witness: requests, health records and answers (18 R441, R445, R446, R448, 21 R499). -/

namespace Sys2Proof.Machine

/-- The kinds of witness messages that the model names (R446). -/
def wkHealth : Nat := 1
def wkTakeoverReq : Nat := 2
def wkConfirm : Nat := 3
def wkDeny : Nat := 4
def wkSoloReq : Nat := 5
def wkGrant : Nat := 6
def wkSoloDeny : Nat := 7
def wkSafeReq : Nat := 8

/-- The number of a role and of a pair state (R442, CTPAIR). -/
def roleCode : Role → Nat
  | .active => 0
  | .standby => 1
def pstateCode : PState → Nat
  | .solo => 0
  | .joining => 1
  | .paired => 2
  | .broken => 3

/-- Whether witness messages travel (R446). -/
def State.witUp (s : State) : Bool := s.ct.witEn && (s.conn witnessKey).pstate == psUp

/-- The 32-byte key of CTWKEY. -/
def Ct.witnessKeyBytes (c : Ct) : List Byte := c.witKey.flatMap wordBytes

/-- The header of a witness message (R446). -/
def witHeader (kind : Nat) (role : Byte) (blen : Nat) (fgen : Word32) (pairId beat nonce : Word) : List Byte :=
  [byteN kind, role] ++ bytesOf 2 blen ++ bytesOf 4 fgen.toNat ++ wordBytes pairId ++ wordBytes beat ++ wordBytes nonce

/-- TAG (R446). -/
def witTag (key bs : List Byte) : List Byte := (hmac sha256 key bs).take 16

/-- The tag that a received message without a body must carry. -/
def State.witTagOf (s : State) (kind : Nat) (m : WitnessMsg) : Pair :=
  BitVec.ofNat 128 (natOf (witTag s.ct.witnessKeyBytes (witHeader kind m.role 0 m.fgen m.pairId m.beat m.nonce)))

/-- A witness message leaves as one MESSAGE exchange with AUX zero (R446). -/
def State.sendWitness (s : State) (kind : Nat) (nonce : Word) (body : List Byte) : State :=
  let role := byteN (roleCode s.ct.role)
  let bs := witHeader kind role body.length s.ct.fgen s.ct.pairId s.beatc nonce ++ body
  let tag := witTag s.ct.witnessKeyBytes bs
  let m : WitnessMsg :=
    { role := role, fgen := s.ct.fgen, pairId := s.ct.pairId, beat := s.beatc, nonce := nonce, tag := BitVec.ofNat 128 (natOf tag) }
  let s := (s.startExchange witnessKey 4 (bs.length + 16) 0 0 (bs ++ tag) .witness).2
  s.modCt fun c => { c with witOut := c.witOut ++ [{ kind := kind, msg := m }] }

/-- A request changed by its nonce and kind. -/
def State.sendRequest (s : State) (r : WitReq) : State :=
  (s.sendWitness r.kind r.nonce []).modCt fun c => { c with witReqs := c.witReqs.map (fun x => if x.kind == r.kind then { x with sent := some s.beatc } else x) }

/-- Whether a request of a kind is outstanding. -/
def Ct.asks (c : Ct) (kind : Nat) : Bool := c.witReqs.any (fun r => r.kind == kind)

/-- A request falls due (R446): it is sent when the path is up, and held outstanding otherwise. -/
def State.startRequest (s : State) (kind : Nat) : State :=
  if s.ct.asks kind then s
  else
    let (n, s) := s.takeFree
    let r : WitReq := { kind := kind, nonce := n, sent := none }
    let s := s.modCt fun c => { c with witReqs := c.witReqs ++ [r] }
    if s.witUp then s.sendRequest r else s

/-- Beats after which a request is sent again (R441, R446). -/
def witPeriod (kind : Nat) : Nat := if kind = wkSoloReq then 1000 else 10000

/-- Whether a request goes out now. -/
def State.requestDue (s : State) (r : WitReq) : Bool :=
  match r.sent with
  | none => true
  | some b => decide (witPeriod r.kind ≤ s.since b)

/-- WITNESS_RESEND (R441, R446): a request that is not answered goes out again with its NONCE, or for the first time now that the path is up. -/
def execWitnessResend (s : State) : Out :=
  match s.ct.witReqs.find? s.requestDue with
  | some r => if s.witUp && !s.weir.safe then .next (s.sendRequest r) else .next s
  | none => .next s

/-! Health (R445). -/

/-- The number of sources with a status bit. -/
def State.countSources (s : State) (f : WeirSource → Bool) : Nat := (s.weir.sources.filter (fun p => f p.2)).length

/-- A bit map of the numbers below n that f selects. -/
def bitMap (n : Nat) (f : Nat → Bool) : Nat := (List.range n).foldl (fun m i => if f i then m + 2 ^ i else m) 0

/-- The health record (R445). -/
def State.healthBytes (s : State) : List Byte :=
  let c := s.ct
  let tod := s.plant.tod
  let outlet := (s.plant.sensor 129).value
  [byteN (roleCode c.role), byteN (pstateCode c.pstate), (if s.weir.safe then 1 else 0) ||| (if c.armed then 2 else 0),
   byteN (bitMap 8 (fun i => (c.slots.map Slot.st).getD i .empty == .ready))] ++
  bytesOf 4 c.fgen.toNat ++ bytesOf 4 c.nextgen.toNat ++ bytesOf 4 c.freeUnits ++ wordBytes s.beatc ++ bytesOf 16 tod.toNat ++
  bytesOf 8 (bitMap 48 (fun n => (s.core n).run != .absent)) ++ bytesOf 4 (bitMap 32 s.lcpPresent) ++
  bytesOf 2 (s.countSources WeirSource.sev) ++ bytesOf 2 (s.countSources WeirSource.fat) ++ bytesOf 4 c.dmax ++
  bytesOf 2 outlet.toNat ++ bytesOf 2 s.plant.res.toNat

/-- What a receiver acts on of the health record. -/
def State.healthMsg (s : State) : HealthMsg :=
  { role := s.ct.role, pstate := s.ct.pstate, safe := s.weir.safe, armed := s.ct.armed, fgen := s.ct.fgen, nextgen := s.ct.nextgen }

/-- What the stage of the health record reads at its boundary (R36); the largest delta is counted afresh. -/
def State.healthBoundary (s : State) : State :=
  if s.beatc.toNat % 1000 = 500 then
    s.modCt fun c => { c with healthDue := c.healthDue ++ [{ beat := s.beatc, bytes := s.healthBytes, msg := s.healthMsg }], dmax := 0 }
  else s

/-- HEALTH_SEND (R35 stage 5, R445): to the peer unless in SOLO, and to the witness while its path is up (R446). -/
def execHealthSend (s : State) : Out :=
  match s.ct.healthDue with
  | [] => .next s
  | h :: hs =>
    let s := if h.msg.pstate = .solo then s else (s.leatOnce (.health h.msg)).getD s
    let (n, s) := s.takeFree
    let s := if s.witUp then s.sendWitness wkHealth n h.bytes else s
    .next (s.modCt fun c => { c with healthDue := hs })

/-! Answers. -/

/-- The kind of request that a kind of answer answers. -/
def answers (kind : Nat) : Nat := if kind = wkConfirm ∨ kind = wkDeny then wkTakeoverReq else wkSoloReq

/-- Whether a message passes the checks of R446. -/
def State.witChecks (s : State) (kind : Nat) (m : WitnessMsg) : Bool :=
  m.tag == s.witTagOf kind m && m.pairId == s.ct.pairId &&
  (kind == wkSafeReq || s.ct.witReqs.any (fun r => r.kind == answers kind && r.nonce == m.nonce))

/-- A witness message arrives (R446): not accepted while the path is down; discarded with an event when a check fails; else what it does. -/
def State.witness (s : State) (kind : Nat) (m : WitnessMsg) (f : State → State) : Out :=
  if !s.witUp || s.weir.safe then .next s
  else if !s.witChecks kind m then .next (s.report 0xA00 .recoverable none 0)
  else .next (f (s.modCt fun c => { c with witReqs := c.witReqs.filter (fun r => !(kind != wkSafeReq && r.kind == answers kind)) }))

/-- A take-over is triggered (R448, R449 row 1): what has checked is applied, and the frames of later deltas are discarded. Requests that wait are answered no more (R452). -/
def State.triggerTakeover (s : State) : State :=
  if s.ct.takeOver.isSome || s.weir.safe || s.weir.safeNext.isSome then s
  else s.applyAll.modCt fun c => { c with rxFrames := [], witReqs := [], takeOver := some { t := s.beatc, roleDone := false } }

/-- TAKEOVER_CONFIRM (R448, R451). -/
def execTakeoverConfirm (m : WitnessMsg) (s : State) : Out := s.witness wkConfirm m State.triggerTakeover

/-- TAKEOVER_DENY (R448): the standby is disarmed, in SOLO. -/
def execTakeoverDeny (m : WitnessMsg) (s : State) : Out :=
  s.witness wkDeny m fun s => (s.modCt fun c => { c with armed := false }).setPstate .solo

/-- A BROKEN module moves to SOLO (R441): what waits is released at the next boundary. -/
def State.brokenToSolo (s : State) : State :=
  if s.ct.pstate = .broken then (s.setPstate .solo).modCt fun c => { c with soloDue := true } else s

/-- SOLO_GRANT (R441). -/
def execSoloGrant (m : WitnessMsg) (s : State) : Out := s.witness wkGrant m State.brokenToSolo

/-- SOLO_DENY (R441): safe state without a dying gasp. -/
def execSoloDeny (m : WitnessMsg) (s : State) : Out := s.witness wkSoloDeny m State.decideSafe

/-- SAFE_REQ (R499, R509): safe state at the next boundary; a take-over stops. -/
def execSafeReq (m : WitnessMsg) (s : State) : Out :=
  s.witness wkSafeReq m fun s => (s.modCt fun c => { c with takeOver := none }).decideSafe

end Sys2Proof.Machine
end

