-- ==== Sys2Proof/Machine/Pair.lean ====
section
/-! DEFINITION. The pair: heartbeats, the mirror horizon, the dying gasp, safe state, and the commands of CTCMD (18 R414, R441-R453). -/

namespace Sys2Proof.Machine

/-! Heartbeats (R444). -/

/-- The heartbeat that the stage of a boundary reads (R36). -/
def State.heartbeatMsg (s : State) : HeartbeatMsg :=
  { hseq := s.ct.hseqTx, nextgen := s.ct.nextgen, fgen := s.ct.fgen, role := s.ct.role, pstate := s.ct.pstate, safe := s.weir.safe, armed := s.ct.armed }

/-- HEARTBEAT_SEND (R35 stage 3, R444): one on each Leat port, in JOINING, PAIRED and BROKEN; safe state stops them (R414). -/
def execHeartbeatSend (s : State) : Out :=
  match s.ct.hbDue with
  | [] => .next s
  | h :: hs => if s.weir.safe then .next s else .next ((s.leatBoth (.heartbeat h.2)).modCt fun c => { c with hbDue := hs })

/-- R450: an active peer whose fence generation follows sends an active module to safe state. -/
def State.yieldTo (s : State) (role : Role) (fgen : Word32) : State :=
  if s.ct.role == .active && role == .active && follows fgen s.ct.fgen then s.decideSafe else s

/-- What is heard from the peer (R444, R445). -/
def State.hear (s : State) (fgen nextgen : Word32) (role : Role) (p : PState) : State :=
  (s.modCt fun c => { c with peer := { fgen := fgen, nextgen := nextgen, role := role, pstate := p } }).yieldTo role fgen

/-- A standby follows the active module's pair state (R442), and is armed while it is PAIRED. -/
def State.followPeer (s : State) (h : HeartbeatMsg) : State :=
  if s.ct.role == .standby && s.ct.pstate != .solo && h.role == .active && h.pstate != .solo then
    (s.setPstate h.pstate).modCt fun c => { c with armed := h.pstate == .paired }
  else s

/-- HEARTBEAT (R444): accepted when its HSEQ is 1 above that of the one before it. -/
def execHeartbeat (port : Fin 2) (h : HeartbeatMsg) (s : State) : Out :=
  let p := 12 + port.val
  if !((s.port p).leat && (s.port p).link) || s.portOut p then .next s
  else
    let ok := s.ct.hseqLast == some (h.hseq - 1)
    let s := s.modCt fun c => { c with hseqLast := some h.hseq }
    if ok then .next (((s.modCt fun c => { c with hseqAcc := h.hseq, lost := 0 }).hear h.fgen h.nextgen h.role h.pstate).followPeer h)
    else .next (s.modCt fun c => { c with rej := satHalf c.rej })

/-- HEALTH (R445, R450). -/
def execHealth (h : HealthMsg) (s : State) : Out :=
  if s.leatUp then .next (s.hear h.fgen h.nextgen h.role h.pstate) else .next s

/-- HEARTBEAT_LOSS (R448): an armed standby asks the witness once LOST reaches 2,000. -/
def execHeartbeatLoss (s : State) : Out :=
  if s.ct.armed && decide (2000 ≤ s.ct.lost.toNat) && !s.ct.asks wkTakeoverReq && s.ct.takeOver.isNone && !s.weir.safe then .next (s.startRequest wkTakeoverReq)
  else .next s

/-- DYING_GASP (R448, R452): accepted by an armed standby. -/
def execDyingGasp (g : GaspMsg) (s : State) : Out :=
  if !s.leatUp then .next s
  else if s.ct.armed && s.ct.role == .standby then
    .next (s.modCt fun c => { c with peer := { c.peer with fgen := g.fgen, nextgen := g.nextgen } }).triggerTakeover
  else .next s

/-! The mirror horizon (R441). -/

/-- Whether the delta of a beat waits for its DELTA_ACK. -/
def Ct.unacked (c : Ct) (beat : Word) : Bool := c.shipped.any (fun d => d.beat == beat) || c.toShip.any (fun d => d.beat == beat)

/-- BROKEN under R441: SOLOACT decides. -/
def State.actOnSolo (s : State) : State := if s.ct.soloAct then s.brokenToSolo else s.startRequest wkSoloReq

/-- MIRROR_HORIZON_MISS (R441): no DELTA_ACK for beat n by boundary n + 4. -/
def execMirrorHorizonMiss (beat : Word) (s : State) : Out :=
  if s.ct.role == .active && (s.ct.pstate == .joining || s.ct.pstate == .paired) && s.ct.unacked beat && decide (beat.toNat + 4 ≤ s.beatc.toNat) && !s.weir.safe then
    .next ((s.report 0xA03 .severe none 0).stopGathering.setPstate .broken).actOnSolo
  else .next s

/-- SOLOACT written (CTPAIR, R442). -/
def State.writeSoloAct (s : State) (v : Bool) : State :=
  let s := s.modCt fun c => { c with soloAct := v }
  if v then s.brokenToSolo else s

/-! Safe state (R414, R415, R448). -/

/-- The dying gasp (R448). -/
def State.gaspMsg (s : State) (reason : Half) : GaspMsg := { reason := reason, fgen := s.ct.fgen, nextgen := s.ct.nextgen, lastDelta := s.ct.lastDelta }

/-- The shipment in progress is finished, and the gasp goes out three times on each Leat port. -/
def State.sendGasp (s : State) (reason : Half) : State :=
  let s := s.shipAll s.ct.toShip.length
  let m := MirrorMsg.gasp (s.gaspMsg reason)
  ((s.leatBoth m).leatBoth m).leatBoth m

/-- Safe state is entered (R414). -/
def State.enterSafe (s : State) : State :=
  let s := match s.weir.gaspDue with
    | some r => s.sendGasp r
    | none => s
  { s with weir := { s.weir with safe := true, safeNext := none, gaspDue := none } }

/-- SAFE_STATE (R414): at the first boundary after the decision. -/
def execSafeState (s : State) : Out :=
  match s.weir.safeNext with
  | some b => if 1 ≤ s.since b then .next s.enterSafe else .next s
  | none => .next s

/-! The commands of CTCMD (R453). -/

/-- RESULT and TGT after a command. -/
def State.ctResult (s : State) (tgt r : Byte) : State := s.modCt fun c => { c with tgt := tgt, result := r }

/-- The logical core that TGT names; none for a number that names no core or an absent one. -/
def State.tgtCore (s : State) (tgt : Byte) : Option Nat :=
  if tgt.toNat < 48 ∧ (s.core tgt.toNat).run ≠ .absent then some tgt.toNat else none

/-- SPARE_CORE (R422, R453). -/
def State.cmdSpareCore (s : State) (tgt : Byte) : State :=
  if 48 ≤ tgt.toNat then s.ctResult tgt 2
  else
    let r : Byte := if (s.core tgt.toNat).run = .absent then 2 else if s.spareIgnored tgt.toNat then 1 else 0
    (s.startSpareCore tgt.toNat none).ctResult tgt r

/-- SPARE_CP (R426, R453). -/
def State.cmdSpareCp (s : State) (tgt : Byte) : Option State :=
  if 32 ≤ tgt.toNat ∨ s.lcpPresent tgt.toNat = false then some (s.ctResult tgt 2)
  else if !s.cpRuns tgt.toNat then some (s.ctResult tgt 1)
  else (s.startSpareCp tgt.toNat none).map (fun s => s.ctResult tgt 0)

/-- RESCUE (R154, R453): entry goes on at step 3 with the selected event. -/
def State.cmdRescue (s : State) (tgt : Byte) : Option State :=
  match s.tgtCore tgt with
  | none => some (s.ctResult tgt 2)
  | some n =>
    match (s.core n).stalled with
    | none => some (s.ctResult tgt 1)
    | some e =>
      if !s.tsbUsable s.ct.arg then some (s.ctResult tgt 3)
      else ((s.modCore n fun c => { c with tsbr := s.ct.arg }).enterFrom3 n e e.vec e.orig e.level).map (fun s => s.ctResult tgt 0)

/-- The image of a kept checkpoint (R425). -/
def State.dumpImage (s : State) (c : Core) : List Byte :=
  tsbHeader c (Exc.plain 0 0 c.pc) 0 0 0 s.beatc ++ tsbStack 32 c.ds.cache ++ tsbStack 16 c.rs.cache

/-- DUMP (R425, R453). -/
def State.cmdDump (s : State) (tgt : Byte) : Option State :=
  if 48 ≤ tgt.toNat then some (s.ctResult tgt 2)
  else match s.ct.kept.find? (fun p => p.1 == tgt.toNat) with
    | none => some (s.ctResult tgt 1)
    | some p =>
      if !s.tsbUsable s.ct.arg then some (s.ctResult tgt 3)
      else (s.devWrite 0xA00 s.ct.arg.toNat (s.dumpImage p.2)).map (fun s => s.ctResult tgt 0)

/-- RETIRE (R432): the released records of CTARG's subchannel up to CTARG's generation. -/
def State.cmdRetire (s : State) (tgt : Byte) : State :=
  let sch := (fld s.ct.arg 32 20).toNat
  let g : Word32 := fld s.ct.arg 0 32
  (s.retireRecs (fun r => r.released && r.sch == sch && notAfter r.gen g)).ctResult tgt 0

/-- PAIR_ACTIVE (R442, R443). -/
def State.cmdPairActive (s : State) (tgt : Byte) : State :=
  if s.ct.pstate = .solo ∧ s.ct.role = .active then
    ((((s.stopGathering.modCt fun c => { c with baseline := some (.region 0 0) }).setPstate .joining).setLeat true).ctResult tgt 0)
  else s.ctResult tgt 1

/-- The guarded paths of a module that becomes standby close (R442, R443); what the spec does not give their reason is free. -/
def State.closeGuarded (s : State) : List Nat → Option State
  | [] => some s
  | k :: ks =>
    if (s.conn k).pstate = psClosed then State.closeGuarded s ks
    else
      let (v, s) := s.takeFree
      (s.pathFail k (v.setWidth 16)).bind (fun s => State.closeGuarded s ks)

/-- The deltas of an earlier pair are forgotten. -/
def State.clearRx (s : State) : State :=
  s.modCt fun c => { c with rxFrames := [], rxDeltas := [], needs := [], applied := none, acksDue := [], waitRaised := false }

/-- PAIR_STANDBY (R442). -/
def State.cmdPairStandby (s : State) (tgt : Byte) : Option State :=
  if s.ct.pstate = .solo then
    (s.clearRx.closeGuarded s.guardedSchs).map fun s =>
      (((s.modCt fun c => { c with role := .standby, armed := false }).setPstate .joining).setLeat true).ctResult tgt 0
  else some (s.ctResult tgt 1)

/-- LEAVE (R442, R451): an active module releases what waits. -/
def State.cmdLeave (s : State) (tgt : Byte) : State :=
  if s.ct.pstate = .solo then s.ctResult tgt 1
  else (s.stopGathering.clearRx.setPstate .solo).ctResult tgt 0

/-- PROMOTE (R451). -/
def State.cmdPromote (s : State) (tgt : Byte) : State :=
  if s.ct.pstate = .solo ∧ s.ct.role = .standby then (s.startRequest wkTakeoverReq).ctResult tgt 0 else s.ctResult tgt 1

/-- HANDOVER (R451): a dying gasp with REASON 0xFFFF, and safe state. -/
def State.cmdHandover (s : State) (tgt : Byte) : State :=
  if s.ct.pstate = .paired ∧ s.ct.role = .active then
    ({ s with weir := { s.weir with gaspDue := some 0xFFFF } }).decideSafe.ctResult tgt 0
  else s.ctResult tgt 1

/-- A command of CTCMD: none comes in safe state, in which the cores have stopped. -/
def ctRow (run : State → Option State) (s : State) : Out := portRow .ctcmd (fun s => if s.weir.safe then .next s else orSame s (run s)) s

/-- SPARE_CORE (R422). -/
def execSpareCore (tgt : BitVec 8) (s : State) : Out := ctRow (fun s => some (s.cmdSpareCore tgt)) s
/-- SPARE_CP (R426). -/
def execSpareCp (tgt : BitVec 8) (s : State) : Out := ctRow (fun s => s.cmdSpareCp tgt) s
/-- RESCUE (R154). -/
def execRescue (tgt : BitVec 8) (s : State) : Out := ctRow (fun s => s.cmdRescue tgt) s
/-- DUMP (R425). -/
def execDump (tgt : BitVec 8) (s : State) : Out := ctRow (fun s => s.cmdDump tgt) s
/-- RETIRE (R432). -/
def execRetire (tgt : BitVec 8) (s : State) : Out := ctRow (fun s => some (s.cmdRetire tgt)) s
/-- PAIR_ACTIVE (R443). -/
def execPairActive (tgt : BitVec 8) (s : State) : Out := ctRow (fun s => some (s.cmdPairActive tgt)) s
/-- PAIR_STANDBY (R442). -/
def execPairStandby (tgt : BitVec 8) (s : State) : Out := ctRow (fun s => s.cmdPairStandby tgt) s
/-- LEAVE (R442). -/
def execLeave (tgt : BitVec 8) (s : State) : Out := ctRow (fun s => some (s.cmdLeave tgt)) s
/-- PROMOTE (R451). -/
def execPromote (tgt : BitVec 8) (s : State) : Out := ctRow (fun s => some (s.cmdPromote tgt)) s
/-- HANDOVER (R451). -/
def execHandover (tgt : BitVec 8) (s : State) : Out := ctRow (fun s => some (s.cmdHandover tgt)) s

/-- The effect of a write of CTCMD (R453): a reserved OP acts as none. -/
def State.ctCommand (s : State) (op : Nat) (tgt : Byte) : Option State :=
  match op with
  | 1 => some (s.cmdSpareCore tgt)
  | 2 => s.cmdSpareCp tgt
  | 3 => s.cmdRescue tgt
  | 4 => s.cmdDump tgt
  | 5 => some (s.cmdRetire tgt)
  | 6 => some (s.cmdPairActive tgt)
  | 7 => s.cmdPairStandby tgt
  | 8 => some (s.cmdLeave tgt)
  | 9 => some (s.cmdPromote tgt)
  | 10 => some (s.cmdHandover tgt)
  | _ => some (s.modCt fun c => { c with tgt := tgt })

end Sys2Proof.Machine
end

