-- ==== Sys2Proof/Machine/Takeover.lean ====
section
/-! DEFINITION. Take-over: the roles change, and the guarded paths resume from what was mirrored (18 R449, 13 R338-R344). -/

namespace Sys2Proof.Machine

/-- The later of two numbers by serial comparison (R328). -/
def serialMax (a b : Word32) : Word32 := if follows a b then a else b

/-- The guarded records of a subchannel that are live, of a kind, in order of generation. -/
def State.mirroredRecs (s : State) (k kind : Nat) : List JRec := s.ct.live.filter (fun r => r.sch == k && r.kind == kind && r.guarded)

/-- What stands in the receive area at take-over, as one exchange that is delivered and committed: its records hold its messages, and its bytes are freed at the next reclaim (log 58). -/
def takenArea (xid : Word32) (n : Nat) : List InExchange :=
  if n = 0 then []
  else [{ xid := xid, xop := 4, total := 0, aux := 0, tag := 0, data := [], complete := true, gen := none, released := true, delivered := true, committed := true, area := n }]

/-- The state part that was mirrored, with its working bytes, over a connection that opens afresh (R323, R338, R344). -/
def Conn.mirrored (c : Conn) (bs : List Byte) : Conn :=
  let w := fun (off : Nat) => BitVec.ofNat 32 (natOf ((bs.drop off).take 4))
  let n := ((w 44).toNat + c.rxSize - (w 40).toNat) % c.rxSize
  { c with
    lcid := w 0, pcid := w 4, sndNxt := w 8, sndUna := w 12, rcvNxt := w 16, xidOut := w 20, cxidIn := w 24, cxidOut := w 28, pfgen := w 32, pwin := w 36,
    rxHead := w 40, rxTail := w 44, lastReason := BitVec.ofNat 16 (natOf ((bs.drop 48).take 2)), pstate := natOf ((bs.drop 50).take 1),
    shifts := BitVec.ofNat 8 (natOf ((bs.drop 51).take 1)), work := bs.drop 52, used := n, outEx := [],
    inEx := takenArea (if c.isTcp then w 16 - 1 else w 24) n }

/-- XID of the latest inbound record, or the number mirrored (R338). -/
def latestXid (cx : Word32) (rs : List JRec) : Word32 := rs.foldl (fun a r => serialMax a (r.pos.setWidth 32)) cx

/-- A number below next for the write of a record, given the older records, newest first: a free value above the number of the latest message before it, since a record does not hold it (log 58). -/
def writeNumber (v : Word) (next : Word32) (older : List JRec) : Word32 :=
  let room := match older.find? (fun r => r.kind == 2) with
    | some m => (next - m.pos.setWidth 32).toNat - 1 - (older.takeWhile (fun r => r.kind != 2)).length
    | none => 2 ^ 16
  next - 1 - BitVec.ofNat 32 (v.toNat % max 1 room)

/-- The exchange that a record of a message or of a background write stands for (R339), v being a free value: a message under its own number, with a tag that its record does not hold, and a write under the number that it had. -/
def JRec.exchange (r : JRec) (id : Nat) (v : Word) (next : Word32) (older : List JRec) : OutExchange :=
  if r.kind = 2 then { xid := r.pos.setWidth 32, seq := 0, xop := 4, total := r.total, aux := v, tag := r.key, data := r.data, use := .message id r.gen }
  else { xid := writeNumber v next older, seq := 0, xop := 1, total := r.total, aux := r.pos, tag := r.key, data := r.data, use := .background id (some r.gen) }

/-- The exchanges of records taken newest first, below a number, in the order of their numbers. -/
def State.resumedExchanges (s : State) (id : Nat) (next : Word32) : List JRec → List OutExchange × State
  | [] => ([], s)
  | r :: older =>
    let (v, s) := s.takeFree
    let x := r.exchange id v next older
    let (xs, s) := State.resumedExchanges s id x.xid older
    (xs ++ [x], s)

/-- A guarded SCP connection as take-over leaves it: FENCING (R338); what CXIDOUT covers is committed (R333, R340). The negotiated PMAX stands in working bytes and is a free value (log 58). -/
def State.resumeScp (s : State) (k id : Nat) (c : Conn) : Option State :=
  let recs := s.ct.live.filter (fun r => r.sch == k && r.guarded && (r.kind == 1 || r.kind == 2))
  let (v, s) := s.takeFree
  let (out, s) := s.resumedExchanges id c.xidOut recs.reverse
  let c := { c with
    pstate := psFencing, cxidIn := latestXid c.cxidIn (s.mirroredRecs k 3), outEx := out.filter (fun x => follows x.xid c.cxidOut),
    pmax := max 1 (v.toNat % (s.pmaxOffer c + 1)), rto := c.rtob, ackBeat := s.beatc }
  (s.setConn k c).exchangesDone (out.filter (fun x => !follows x.xid c.cxidOut))

/-- The end of a message in the sequence space of TCP: its prefix and its bytes (R344). -/
def msgEnd (c : Conn) (r : JRec) : Word32 := r.pos.setWidth 32 + BitVec.ofNat 32 (c.prefixBytes + r.total)

/-- The bytes of records from SND.UNA on, as the retransmission queue holds them (R344): those below SND.NXT have been sent. -/
def resumedChunks (c : Conn) (id m : Nat) (msgs : List JRec) : List TcpChunk :=
  (msgs.filter (fun r => follows (msgEnd c r) c.sndUna)).flatMap fun r =>
    let bs := bytesOf c.prefixBytes r.total ++ r.data
    let pos : Word32 := r.pos.setWidth 32
    let d := if follows c.sndUna pos then (c.sndUna - pos).toNat else 0
    (chunksOf m (some id) (some r.gen) (bs.length + 1) (pos + BitVec.ofNat 32 d) (bs.drop d)).flatMap fun x =>
      (if follows c.sndNxt x.seq then x.cutAt (c.sndNxt - x.seq).toNat else [x]).map fun y => { y with sent := follows c.sndNxt y.seq }

/-- A guarded TCP connection as take-over leaves it (R344): established; its MSS, timestamps and SACK stand in working bytes and are free values (log 58). -/
def State.resumeTcp (s : State) (k id : Nat) (c : Conn) : State :=
  let msgs := s.mirroredRecs k 2
  let (v, s) := s.takeFree
  let mss := max 1 (v.toNat % (s.mssOffered c + 1))
  let rcv := (s.mirroredRecs k 3).foldl (fun a r => serialMax a (msgEnd c r)) c.rcvNxt
  let stop := msgs.foldl (fun a r => serialMax a (msgEnd c r)) c.sndNxt
  let t : Tcp :=
    { Tcp.start .established c.sndUna c.pport s.beatc with
      irs := rcv, mss := mss, sndEnd := stop, got := rcv, cwnd := mss, tsRecent := (v >>> 32).setWidth 32, tsOn := bitAt v 16, sackOn := bitAt v 17,
      wsOn := c.shifts != 0, wl1 := rcv, wl2 := c.sndUna }
  let t := { t with chunks := resumedChunks c id t.segmentMax msgs }
  let gone := (msgs.filter (fun r => !follows (msgEnd c r) c.sndUna)).map JRec.gen
  let s := s.retireRecs (fun r => gone.contains r.gen)
  s.setConn k { c with pstate := psUp, rcvNxt := rcv, xidOut := 1, tcp := some t, rto := max 1000000 c.minrto, ackBeat := s.beatc }

/-- A guarded path goes on from its mirrored state part, by its PSTATE. A path that was not open opens when AUTO = 1, or was opening (log 58). -/
def State.resumePath (s : State) (k id : Nat) (c : Conn) : Option State :=
  if !s.configOk c false then some (s.refuseOpening k c)
  else if c.pstate = psClosed then
    let s := s.setConn k { c with tcp := none }
    some (if c.auto then s.beginOpening k else s)
  else if c.pstate = psOpening then some (s.beginOpening k)
  else if c.isTcp then some (s.resumeTcp k id c)
  else s.resumeScp k id c

/-- A guarded subchannel takes up its connection block, and the incarnation that its LCID shows (R323, R325, R449 row 4). -/
def State.resumeSch (s : State) (id k : Nat) : Option State :=
  let c := s.freshConn k (s.sch k)
  match s.readConfig k c with
  | (none, s) => some (s.refuseOpening k c)
  | (some cfg, s) =>
    match s.devRead (s.connSource k) (c.cb * 256 + 0x80) 128 with
    | (none, s) => some (s.refuseOpening k { c with cfg := cfg })
    | (some bs, s) =>
      let c := Conn.mirrored { c with cfg := cfg } bs
      (s.modCss fun x => { x with incs := assoc x.incs k (c.lcid.toNat / 2 ^ 20) }).resumePath k id c

/-- The guarded subchannels take up their state; records that had not come whole go (log 58). -/
def State.resumeAll (s : State) : State :=
  let gens := s.ct.mirIn.map MirRec.gen
  let s := (s.retireRecs (fun r => gens.contains r.gen)).modCt fun c => { c with mirIn := [] }
  let id := s.css.nextOp
  s.guardedSchs.foldl (fun s k => (s.resumeSch id k).getD s) (s.modCss fun c => { c with nextOp := id + 1 })

/-- Rows 2 and 3 of R449, at the first boundary after the trigger at which what has checked is applied. -/
def State.changeRole (s : State) : State :=
  let s := s.modCt fun c => { c with
    fgen := serialMax c.peer.fgen c.fgen + 1, nextgen := c.peer.nextgen + 65536, role := .active, pstate := .solo, armed := false, soloDue := false, leatOffDue := true,
    takeOver := c.takeOver.map fun t => { t with roleDone := true } }
  let s := s.writeControl.clearRx.resumeAll
  s.announceAll

/-- A take-over at a boundary (R449). -/
def State.takeoverBoundary (s : State) : State :=
  match s.ct.takeOver with
  | some t =>
    if t.roleDone then s
    else
      let s := s.applyAll
      if s.ct.rxDeltas.isEmpty && decide (1 ≤ s.since t.t) then s.changeRole else s
  | none => s

/-- Rows 4 and 5 of R449 for one guarded subchannel: it leaves DOWN, and fences or goes on. -/
def State.goOn (s : State) (k : Nat) : Option State :=
  let c := s.conn k
  let s := if c.isOpen && (s.sch k).state == stDown && s.lcpPresent (s.sch k).lcp then s.setSchState k stIdle else s
  if c.pstate = psFencing then some (s.sendFence k) else s.pumpConn k

/-- The unguarded connections open again when AUTO = 1 (R340). -/
def State.reopenUnguarded (s : State) : State :=
  (s.establishedSchs.filter (fun k => !(s.sch k).guarded)).foldl (fun s k =>
    if (s.conn k).pstate ≠ psClosed ∨ (s.conn k).noReopen = true then s
    else match s.readConfig k (s.freshConn k (s.sch k)) with
      | (some cfg, s) => if ({ s.conn k with cfg := cfg } : Conn).auto then s.beginOpening k else s
      | (none, s) => s) s

/-- TAKEOVER (R449 rows 4 to 6): within 1,000 beats of the trigger; R37 lets it end late. -/
def execTakeover (s : State) : Out :=
  match s.ct.takeOver with
  | some t =>
    if !t.roleDone || s.weir.safe then .next s
    else
      orSame s ((s.guardedSchs.foldl (fun (a : Option State) k => a.bind (fun s => s.goOn k)) (some s)).map fun s =>
        (s.reopenUnguarded.modCt fun c => { c with takeOver := none }).report 0xA00 .recoverable (some 1) 0)
  | none => .next s

end Sys2Proof.Machine
end

