-- ==== Sys2Proof/Machine/Beat.lean ====
section
/-! DEFINITION. The boundary of a beat: what changes with BEATC (01 R32-R37), and what it makes due. -/

namespace Sys2Proof.Machine

/-- The comparators keep their ports as they stood at the end of the beat (R36, R459). -/
def Core.snapTimers (c : Core) : Core := { c with timers := c.timers.map (fun t => { t with prevCmp := t.cmp, prevCtl := t.ctl }) }

/-- The reasons of filtered mode at a boundary, and the mode that they ask for (R255). -/
def State.filterBoundary (s : State) : State :=
  s.modPool fun p =>
    let p := { p with spare := !s.ct.coreSpar.isEmpty || !s.life.coreResets.isEmpty }
    { p with filtDue := p.filterReason }

/-- A state part that its home slice has held back is written (R323). -/
def State.writeStale (s : State) : State := (s.css.conns.filter (fun p => p.2.stale)).foldl (fun s p => s.writeBlock p.1) s

/-- The journal and the deltas at the boundary after a beat (R35 stage 2, R431, R438, R443). -/
def State.journalBoundary (s : State) (ended : Word) : State :=
  let s := s.writeProgress
  (if s.weir.safe then s else s.formDelta ended).startGathering

/-- Stages 3 and 6 of R35 start and read their inputs (R36), and LOST counts (R428, R444). -/
def State.heartBoundary (s : State) : State :=
  let s := s.modCt fun c => { c with hseqTx := c.hseqTx + 1 }
  s.modCt fun c => { c with
    hbDue := if s.weir.safe then [] else if c.pstate != .solo then c.hbDue ++ [(s.beatc, s.heartbeatMsg)] else c.hbDue,
    ctlDue := if s.beatc.toNat % 1000 = 0 then c.ctlDue ++ [{ beat := s.beatc, nextgen := c.nextgen, tailgen := c.tailgen, tail := c.tail }] else c.ctlDue,
    lost := satHalf c.lost, soloDue := false, rsthWas := c.rsth }

/-- LEAT falls where the module has left its pair (R353). -/
def State.leatBoundary (s : State) : State :=
  if s.ct.leatOffDue then (s.modCt fun c => { c with leatOffDue := false }).setLeat false else s

/-- Safe state that no SAFE_STATE has entered at its boundary is entered now (R414). -/
def State.safeBoundary (s : State) : State :=
  match s.weir.safeNext with
  | some b => if 2 ≤ s.since b then s.enterSafe else s
  | none => s

/-- The inputs of the loops that start at a boundary, as the beat before left them (R35 stage 4, R36). -/
def State.loopBoundary (s : State) (i : LoopInput) (h : HoldInput) : State :=
  if s.beatc.toNat % 1000 = 0 then s.modPlant fun p => { p with loopDue := p.loopDue ++ [i], holdDue := p.holdDue ++ [h] } else s

/-- The units other than the plant controller at a boundary. The record of stage 5 and the heartbeat of stage 3 read the continuity unit before stage 2 forms a delta (R36). -/
def State.unitsBoundary (s : State) (ended : Word) : State :=
  let s := { s.overrunBoundary with cores := s.cores.map Core.snapTimers }
  let s := s.expireHolds.filterBoundary.rollsAtBoundary
  let s := s.heartBoundary.healthBoundary.journalBoundary ended
  s.leatBoundary.takeoverBoundary.writeStale.safeBoundary

/-- A boundary (R32): BEATC and TOD advance, and what the boundary makes due is due. -/
def State.boundary (s : State) : State :=
  let ended := s.beatc
  let i := s.loopInput
  let h := s.plant.holdInput
  let s := ((s.modPlant Plant.todBoundary).loopBoundary i h).stableBoundary
  if s.plant.power = .on then s.unitsBoundary ended else s

/-- BEAT_BOUNDARY (R32, R455): the plant controller keeps the beat while it has power. -/
def execBeatBoundary (s : State) : Out :=
  if s.plant.power = .off then .next s else .next s.boundary

end Sys2Proof.Machine
end

