-- ==== Sys2Proof/Machine/LoadStore.lean ====
section
/-! DEFINITION. Memory instructions (03 R85-R92, 07 R179-R204). -/

namespace Sys2Proof.Machine

/-- A load opcode: USR and ACQ may precede it (R57). -/
def loadCode (b : Byte) (d : Option (BitVec 16)) : Op :=
  match d with
  | none => { op [b] 1 with usr := true, acq := true }
  | some _ => { op [b + 0x10] 3 with usr := true, acq := true }

/-- A store opcode: USR and REL may precede it (R57). -/
def storeCode (b : Byte) (d : Option (BitVec 16)) : Op :=
  match d with
  | none => { op [b] 1 with usr := true, rel := true }
  | some _ => { op [b + 0x10] 3 with usr := true, rel := true }

/-- The address of an access: a, or a + sext(d16) modulo 2^64 (R85). -/
def effective (a : Word) (d : Option (BitVec 16)) : Word :=
  match d with
  | none => a
  | some v => a + sext v

/-- A load ( a -- x ) of w bytes, extended by f (R85). -/
def load (k : Insn) (b : Byte) (d : Option (BitVec 16)) (w : Nat) (f : Nat → Word) (s : State) : Out :=
  instr k (loadCode b d) 1 1 0 0 (do
    let c ← coreOf k.lcn
    let bs ← loadBytes k (effective (t0 c.ds.cache) d) w
    onCore k.lcn (fun c => c.pushes 1 [f (natOf bs)])
    return .next) s

/-- A number of w bits sign-extended. -/
def sextN (w n : Nat) : Word := sext (BitVec.ofNat w n)

/-- LDB (R85). -/
def execLdb (k : Insn) (d : Option (BitVec 16)) (s : State) : Out := load k 0x30 d 1 (BitVec.ofNat 64) s

/-- LDBS (R85). -/
def execLdbs (k : Insn) (d : Option (BitVec 16)) (s : State) : Out := load k 0x31 d 1 (sextN 8) s

/-- LDH (R85). -/
def execLdh (k : Insn) (d : Option (BitVec 16)) (s : State) : Out := load k 0x32 d 2 (BitVec.ofNat 64) s

/-- LDHS (R85). -/
def execLdhs (k : Insn) (d : Option (BitVec 16)) (s : State) : Out := load k 0x33 d 2 (sextN 16) s

/-- LDW (R85). -/
def execLdw (k : Insn) (d : Option (BitVec 16)) (s : State) : Out := load k 0x34 d 4 (BitVec.ofNat 64) s

/-- LDWS (R85). -/
def execLdws (k : Insn) (d : Option (BitVec 16)) (s : State) : Out := load k 0x35 d 4 (sextN 32) s

/-- LDD (R85). -/
def execLdd (k : Insn) (d : Option (BitVec 16)) (s : State) : Out := load k 0x36 d 8 (BitVec.ofNat 64) s

/-- LDP ( a -- x0 x1 ) (R85). -/
def execLdp (k : Insn) (s : State) : Out :=
  instr k (loadCode 0x37 none) 1 2 0 0 (do
    let c ← coreOf k.lcn
    let bs ← loadBytes k (t0 c.ds.cache) 16
    onCore k.lcn (fun c => c.pushes 1 [wordOf (bs.drop 8), wordOf (bs.take 8)])
    return .next) s

/-- A store ( x a -- ) of the low w bytes of x (R85). -/
def store (k : Insn) (b : Byte) (d : Option (BitVec 16)) (w : Nat) (s : State) : Out :=
  instr k (storeCode b d) 2 0 0 0 (do
    let c ← coreOf k.lcn
    storeBytes k (effective (t0 c.ds.cache) d) ((wordBytes (t1 c.ds.cache)).drop (8 - w))
    onCore k.lcn (fun c => c.pushes 2 [])
    return .next) s

/-- STB (R85). -/
def execStb (k : Insn) (d : Option (BitVec 16)) (s : State) : Out := store k 0x38 d 1 s

/-- STH (R85). -/
def execSth (k : Insn) (d : Option (BitVec 16)) (s : State) : Out := store k 0x39 d 2 s

/-- STW (R85). -/
def execStw (k : Insn) (d : Option (BitVec 16)) (s : State) : Out := store k 0x3A d 4 s

/-- STD (R85). -/
def execStd (k : Insn) (d : Option (BitVec 16)) (s : State) : Out := store k 0x3B d 8 s

/-- The entries of STP (R199): one of 16 bytes at a 16-byte-aligned address of main memory, else two doublewords. -/
def pairEntries (s : State) (va : Word) (as : List Nat) (bs : List Byte) (rel : Bool) : List StoreEntry :=
  if va.toNat % 16 = 0 ∧ s.paKind (as.headD 0) = .dram then [{ addr := as.headD 0, bytes := bs, rel := rel }]
  else storeEntries va (as.take 8) (bs.take 8) rel ++ storeEntries (va + 8) (as.drop 8) (bs.drop 8) rel

/-- STP ( x0 x1 a -- ) (R85). -/
def execStp (k : Insn) (s : State) : Out :=
  instr k (storeCode 0x3C none) 3 0 0 0 (do
    let n := k.lcn
    let c ← coreOf n
    let x := c.ds.cache
    let ps ← storePieces n (t0 x) 16 (dataAcc c (k.pfx.contains .usr) true)
    modify (·.endHold n)
    orWait (fun s => s.commitStore n ps (pairEntries s (t0 x) (ps.flatMap Piece.addrs) (wordBytes (t2 x) ++ wordBytes (t1 x)) (k.pfx.contains .rel)))
    onCore n (fun c => c.pushes 3 [])
    return .next) s

/-- The buffered stores up to the last one that touches a line. -/
def throughLine (sb : List StoreEntry) (line : Nat) : Nat :=
  sb.length - (sb.reverse.takeWhile (fun e => lineOf e.addr != line)).length

/-- LDR takes its line with write permission, its reservation and its hold, which ends at the retirement of the 17th instruction after its own (R88, R200, R202, R261): own older stores to the granule are performed first. A line that stands in E or M already gets its hold mark at the slice by the Hold message. -/
def reserve (n : Nat) (va : Word) (a : Nat) : Run Unit := do
  let s ← get
  if va.toNat % 8 = 0 ∧ s.paKind a = .dram ∧ s.guarded a = false then
    let line := lineOf a
    let pcn := (s.core n).pcn
    orWait (fun s => s.drainFirst n (throughLine (s.core n).sb line))
    orWait (fun s => s.acquire pcn line)
    unless s.agentState pcn line == some .e || s.agentState pcn line == some .m do
      modify fun s => s.modPool fun p => { p with holds := { agent := pcn, line := line, beat := s.beatc } :: p.holds }
    onCore n fun c => { c with resv := some { va := va, granule := line }, hold := some { line := line, left := 18 } }
  else onCore n fun c => { c with resv := none }

/-- LDR ( a -- x ) (R85, R88). -/
def execLdr (k : Insn) (s : State) : Out :=
  instr k (loadCode 0x3D none) 1 1 0 0 (do
    let n := k.lcn
    let c ← coreOf n
    let a := t0 c.ds.cache
    let as ← addresses n a 8 (dataAcc c (k.pfx.contains .usr) false)
    modify (·.endHold n)
    if k.pfx.contains .acq then acquireDrain n
    let bs ← readBytes n as
    reserve n a (as.headD 0)
    onCore n (fun c => c.pushes 1 [wordOf bs])
    return .next) s

/-- The reservation and the hold of a core end. -/
def dropReservation (n : Nat) : Run Unit := do
  modify (·.endHold n)
  onCore n fun c => { c with resv := none }

/-- Whether the reservation lets an STC at va store to physical address a (R88). -/
def Core.mayStore (c : Core) (va : Word) (a : Nat) : Bool :=
  match c.resv with
  | some r => r.va == va && r.granule == lineOf a
  | none => false

/-- The physical address of an STC. -/
def stcAddr (ps : List Piece) : Nat := (ps.flatMap Piece.addrs).headD 0

/-- The store of an STC with its D updates (R88, R166): it stores, and keeps the reservation for its answer, or leaves none. An update to a leaf in the granule loses the reservation (R201). None where it has to wait. -/
def State.storeConditional (s : State) (n : Nat) (va : Word) (ps : List Piece) (bs : List Byte) : Option State :=
  if (s.core n).mayStore va (stcAddr ps) then
    (s.markPieces n ps).bind fun s =>
      if (s.core n).mayStore va (stcAddr ps) then (s.endHold n).performStore n (stcAddr ps) bs
      else some (s.modCore n (fun c => { c with resv := none }))
  else some (s.modCore n (fun c => { c with resv := none }))

/-- STC ( x a -- f ) (R85, R88): tested after the REL wait (R187); every STC clears the reservation. -/
def execStc (k : Insn) (s : State) : Out :=
  instr k (storeCode 0x3E none) 2 1 0 0 (do
    let n := k.lcn
    let c ← coreOf n
    let va := t0 c.ds.cache
    let x := t1 c.ds.cache
    let acc := dataAcc c (k.pfx.contains .usr) true
    match ← translateSpan n va 8 acc with
    | .error e => dropReservation n; xlatThrow n acc e
    | .ok ps =>
      if k.pfx.contains .rel then orWait (fun s => s.drain n)
      if (← coreOf n).mayStore va (stcAddr ps) then
        match ← storeSpan n va 8 acc with
        | .error e => dropReservation n; xlatThrow n acc e
        | .ok ps =>
          orWait (fun s => s.storeConditional n va ps (wordBytes x))
          let f := (← coreOf n).resv.isSome
          dropReservation n
          onCore n (fun c => if f then c.pushes 2 [1] else (c.pushes 2 [0]).note 15)
      else
        dropReservation n
        onCore n (fun c => (c.pushes 2 [0]).note 15)
      return .next) s

/-- ISYNC (R90): what it discards was fetched and not executed, so it only moves on. -/
def execIsync (k : Insn) (s : State) : Out := stackOp k (op [0x98] 1) 0 0 (fun _ p => ([], p)) s

/-- LDI ( a -- x ) (R91): the instruction space, checked as a fetch; the window and holes read ones and are recorded (R273). -/
def execLdi (k : Insn) (s : State) : Out :=
  instr k (op [0xA4] 1) 1 1 0 0 (do
    let n := k.lcn
    let c ← coreOf n
    let acc : Acc := { instr := true, rd := false, wr := false, fetch := true, user := !pswS c.psw, uaOk := false }
    let as ← addresses n (t0 c.ds.cache) 8 acc
    modify (·.endHold n)
    let s ← get
    let bs ← readBytes n (as.filter s.isDram)
    match as.find? (fun a => !s.isDram a) with
    | some a => modify (fun s => s.reportCore n 13 .recoverable none (BitVec.ofNat 64 a))
    | none => pure ()
    let all := as.map (fun a => match ((as.filter s.isDram).zip bs).find? (fun p => p.1 == a) with
      | some p => p.2
      | none => 0xFF)
    onCore n (fun c => c.pushes 1 [wordOf all])
    return .next) s

/-- STI ( x a -- ) (R91): a data store through the instruction side; outside main memory it is discarded and recorded (R273). -/
def execSti (k : Insn) (s : State) : Out :=
  instr k (op [0xA5] 1) 2 0 0 0 (do
    let n := k.lcn
    let c ← coreOf n
    let a := t0 c.ds.cache
    let acc : Acc := { instr := true, rd := false, wr := true, fetch := false, user := !pswS c.psw, uaOk := pswUA c.psw }
    let ps ← storePieces n a 8 acc
    modify (·.endHold n)
    let s ← get
    let es := storeEntries a (ps.flatMap Piece.addrs) (wordBytes (t1 c.ds.cache)) false
    orWait (fun s => s.commitStore n ps (es.filter (fun e => s.isDram e.addr)))
    match es.find? (fun e => !s.isDram e.addr) with
    | some e => modify (fun s => s.reportCore n 13 .recoverable none (BitVec.ofNat 64 e.addr))
    | none => pure ()
    onCore n (fun c => c.pushes 2 [])
    return .next) s

end Sys2Proof.Machine
end

