-- ==== Sys2Proof/Machine/Control.lean ====
section
/-! DEFINITION. Control transfer: branches, SVC, RETT and WAIT (02 R61-R64, 03 R93-R97, 05 R152). -/

namespace Sys2Proof.Machine

/-- A branch-class opcode: bit 0 is the slot bit A, and none may stand in a delay slot (R61, R62). -/
def branchCode (b : Byte) (len : Nat) (a : Bool) : Op := { op [if a then b + 1 else b] len with noSlot := true }

/-- The target of a displacement: the opcode byte's address plus it, modulo 2^64 (R56). No prefix may precede a branch (R57). -/
def relTarget {n : Nat} (c : Core) (disp : BitVec n) : Word := c.pc + sext disp

/-- A conditional branch on the flags (R64, R93): the pair number of its opcode. -/
def condBranch (k : Insn) (i : Nat) (b : Branch16) (s : State) : Out :=
  instr k (branchCode (BitVec.ofNat 8 (0x66 + 2 * i)) 3 b.slotBit) 0 0 0 0 (do
    let c ← coreOf k.lcn
    return .branch (branchCond c.psw i) true (relTarget c b.disp) b.slotBit b.slotLen) s

/-- BR (R93). -/
def execBr (k : Insn) (b : Branch16) (s : State) : Out :=
  instr k (branchCode 0x60 3 b.slotBit) 0 0 0 0 (do
    let c ← coreOf k.lcn
    return .branch true false (relTarget c b.disp) b.slotBit b.slotLen) s

/-- BZ and BNZ pop T0 and test it (R64). -/
def popBranch (k : Insn) (code : Byte) (onZero : Bool) (b : Branch16) (s : State) : Out :=
  instr k (branchCode code 3 b.slotBit) 1 0 0 0 (do
    let c ← coreOf k.lcn
    onCore k.lcn (fun c => c.pushes 1 [])
    return .branch ((t0 c.ds.cache == 0) == onZero) true (relTarget c b.disp) b.slotBit b.slotLen) s

/-- BZ (R64). -/
def execBz (k : Insn) (b : Branch16) (s : State) : Out := popBranch k 0x62 true b s

/-- BNZ (R64). -/
def execBnz (k : Insn) (b : Branch16) (s : State) : Out := popBranch k 0x64 false b s

/-- BEQ: Z = 1 (R64). -/
def execBeq (k : Insn) (b : Branch16) (s : State) : Out := condBranch k 0 b s
/-- BNE: Z = 0 (R64). -/
def execBne (k : Insn) (b : Branch16) (s : State) : Out := condBranch k 1 b s
/-- BLT: N ≠ V (R64). -/
def execBlt (k : Insn) (b : Branch16) (s : State) : Out := condBranch k 2 b s
/-- BGE: N = V (R64). -/
def execBge (k : Insn) (b : Branch16) (s : State) : Out := condBranch k 3 b s
/-- BGT: Z = 0 and N = V (R64). -/
def execBgt (k : Insn) (b : Branch16) (s : State) : Out := condBranch k 4 b s
/-- BLE: Z = 1 or N ≠ V (R64). -/
def execBle (k : Insn) (b : Branch16) (s : State) : Out := condBranch k 5 b s
/-- BLTU: C = 0 (R64). -/
def execBltu (k : Insn) (b : Branch16) (s : State) : Out := condBranch k 6 b s
/-- BGEU: C = 1 (R64). -/
def execBgeu (k : Insn) (b : Branch16) (s : State) : Out := condBranch k 7 b s
/-- BGTU: C = 1 and Z = 0 (R64). -/
def execBgtu (k : Insn) (b : Branch16) (s : State) : Out := condBranch k 8 b s
/-- BLEU: C = 0 or Z = 1 (R64). -/
def execBleu (k : Insn) (b : Branch16) (s : State) : Out := condBranch k 9 b s
/-- BVS: V = 1 (R64). -/
def execBvs (k : Insn) (b : Branch16) (s : State) : Out := condBranch k 10 b s
/-- BVC: V = 0 (R64). -/
def execBvc (k : Insn) (b : Branch16) (s : State) : Out := condBranch k 11 b s

/-- The address that follows the delay slot (R93). -/
def returnAddr (c : Core) (len slotLen : Nat) : Word := c.pc + BitVec.ofNat 64 (len + slotLen)

/-- CALL R:( -- ra ) (R93). -/
def execCall (k : Insn) (b : Branch16) (s : State) : Out :=
  instr k (branchCode 0x7E 3 b.slotBit) 0 0 0 1 (do
    let c ← coreOf k.lcn
    onCore k.lcn (fun c => c.rpushes 0 [returnAddr c 3 b.slotLen])
    return .branch true false (relTarget c b.disp) b.slotBit b.slotLen) s

/-- JMPL (R93). -/
def execJmpl (k : Insn) (b : Branch32) (s : State) : Out :=
  instr k (branchCode 0x80 5 b.slotBit) 0 0 0 0 (do
    let c ← coreOf k.lcn
    return .branch true false (relTarget c b.disp) b.slotBit b.slotLen) s

/-- CALLL R:( -- ra ) (R93). -/
def execCalll (k : Insn) (b : Branch32) (s : State) : Out :=
  instr k (branchCode 0x82 5 b.slotBit) 0 0 0 1 (do
    let c ← coreOf k.lcn
    onCore k.lcn (fun c => c.rpushes 0 [returnAddr c 5 b.slotLen])
    return .branch true false (relTarget c b.disp) b.slotBit b.slotLen) s

/-- JMPI ( t -- ) (R93). -/
def execJmpi (k : Insn) (b : BranchInd) (s : State) : Out :=
  instr k (branchCode 0x88 1 b.slotBit) 1 0 0 0 (do
    let c ← coreOf k.lcn
    onCore k.lcn (fun c => c.pushes 1 [])
    return .branch true false (t0 c.ds.cache) b.slotBit b.slotLen) s

/-- CALLI ( t -- ) R:( -- ra ) (R93). -/
def execCalli (k : Insn) (b : BranchInd) (s : State) : Out :=
  instr k (branchCode 0x8A 1 b.slotBit) 1 0 0 1 (do
    let c ← coreOf k.lcn
    onCore k.lcn (fun c => (c.pushes 1 []).rpushes 0 [returnAddr c 1 b.slotLen])
    return .branch true false (t0 c.ds.cache) b.slotBit b.slotLen) s

/-- RET R:( t -- ) (R93). -/
def execRet (k : Insn) (b : BranchInd) (s : State) : Out :=
  instr k (branchCode 0x8C 1 b.slotBit) 0 0 1 0 (do
    let c ← coreOf k.lcn
    onCore k.lcn (fun c => c.rpushes 1 [])
    return .branch true false c.rtop b.slotBit b.slotLen) s

/-- SVC (R95): Supervisor-Call at level 4, the saved PC that of the next instruction, the immediate in INFO. -/
def execSvc (k : Insn) (imm : BitVec 8) (s : State) : Out :=
  instr k { op [0x58] 2 with noSlot := true } 0 0 0 0 (do
    let c ← coreOf k.lcn
    throwExc { Exc.plain 12 4 (c.pc + 2) with info := zext imm }) s

/-- TSB-Format with a cause of R152; INFO is TSBR − 0x400 (R148). -/
def tsbFormat {α : Type} (n cause : Nat) : Run α := do
  let c ← coreOf n
  throwExc { Exc.plain 22 4 c.pc with cause := BitVec.ofNat 16 cause, info := c.tsbr - 0x400 }

/-- A doubleword of the TSB at a. -/
def tsbWord (bs : List Byte) (off : Nat) : Word := wordOf ((bs.drop off).take 8)

/-- The core as RETT restores it from the header and the entries of the TSB at a (R152 steps 4 and 5, R155). -/
def Core.restore (c : Core) (a : Word) (h : List Byte) (dsc rsc : List Word) : Core :=
  let ds := bitAt (h.getD 2 0) 0
  { c with
    ds := { c.ds with cache := dsc, ptr := tsbWord h 0x20 },
    rs := { c.rs with cache := rsc, ptr := tsbWord h 0x28 },
    pc := tsbWord h 0x10, psw := tsbWord h 0x18 &&& pswMask,
    cnt := tsbWord h 0x30, src := tsbWord h 0x38, dst := tsbWord h 0x40,
    delay := ds, npc := if ds then tsbWord h 0x48 else 0, slotFresh := false,
    tsbr := a, resv := none }

/-- i doublewords of the TSB from physical address a. -/
def readEntries (n a i : Nat) : Run (List Word) := do
  let bs ← readBytes n ((List.range (8 * i)).map (a + ·))
  return (List.range i).map (fun j => tsbWord bs (8 * j))

/-- RETT (R96, R152): the TSB below TSBR is checked and restored. -/
def execRett (k : Insn) (s : State) : Out :=
  instr k { op [0x8E] 1 with noSlot := true, priv := true, entry := some 0x0800 } 0 0 0 0 (do
    let n := k.lcn
    orWait (fun s => s.drain n)
    let c ← coreOf n
    let a := c.tsbr - 0x400
    if c.tsbr.toNat < 0x400 ∨ (← get).tsbUsable a = false then tsbFormat n 0
    let h ← readBytes n ((List.range 0x68).map (a.toNat + ·))
    if h.headD 0 ≠ 1 then tsbFormat n 1
    if 32 < (h.getD 4 0).toNat then tsbFormat n 2
    if 16 < (h.getD 5 0).toNat then tsbFormat n 3
    let dsc ← readEntries n (a.toNat + 0x100) (h.getD 4 0).toNat
    let rsc ← readEntries n (a.toNat + 0x200) (h.getD 5 0).toNat
    modify (·.endHold n)
    onCore n (fun c => c.restore a h dsc rsc)
    return .done) s

end Sys2Proof.Machine
end

