-- ==== Sys2Proof/Machine/Decimal.lean ====
section
/-! DEFINITION. Packed-decimal instructions (04 R118-R122). -/

namespace Sys2Proof.Machine

/-- The 128 bits of a pair ( h l ) (R118). -/
def pairNat (h l : Word) : Nat := h.toNat * 2 ^ 64 + l.toNat

/-- Nibble i of a number; nibble 0 is the sign (R118). -/
def nibble (x i : Nat) : Nat := x / 16 ^ i % 16

/-- Whether nibble i is valid (R119). -/
def nibbleOk (x i : Nat) : Bool := if i = 0 then nibble x 0 == 12 || nibble x 0 == 13 else decide (nibble x i ≤ 9)

/-- The lowest-numbered invalid nibble. -/
def badNibble (x : Nat) : Option Nat := (List.range 32).find? (fun i => !nibbleOk x i)

/-- The magnitude of the digits from nibble i upward, n of them. -/
def digitsFrom (x i : Nat) : Nat → Nat
  | 0 => 0
  | n + 1 => nibble x i + 10 * digitsFrom x (i + 1) n

/-- The value of a valid number. -/
def decValue (x : Nat) : Int :=
  let m := digitsFrom x 1 31
  if nibble x 0 = 13 then -(m : Int) else (m : Int)

/-- n decimal digits of m as nibbles, the least significant lowest. -/
def packDigits (m : Nat) : Nat → Nat
  | 0 => 0
  | n + 1 => m % 10 + 16 * packDigits (m / 10) n

/-- The 128 bits of a result: 31 digits of the magnitude and the sign, plus for all-zero digits (R120). -/
def decPack (neg : Bool) (m : Nat) : Nat :=
  let m := m % 10 ^ 31
  16 * packDigits m 31 + (if neg && decide (m ≠ 0) then 13 else 12)

/-- The two entries of a number, the upper one T0. -/
def decEntries (x : Nat) : List Word := [BitVec.ofNat 64 x, BitVec.ofNat 64 (x / 2 ^ 64)]

/-- PSW for a decimal result (R120). -/
def decFlags (p : Word) (x : Nat) (v c : Bool) : Word := setFlags p (x / 16 == 0) (nibble x 0 == 13) v c

/-- Decimal-Data (R119): operand 0 = A or 1 = B, and the nibble. -/
def decimalData {α : Type} (n operand nib : Nat) : Run α := do
  let c ← coreOf n
  throwExc { Exc.plain 14 4 c.pc with sub := BitVec.ofNat 8 operand, cause := BitVec.ofNat 16 nib }

/-- Every nibble of A, then of B, is checked (R119). -/
def checkDec (n : Nat) (a : Nat) (b : Option Nat) : Run Unit := do
  match badNibble a with
  | some i => decimalData n 0 i
  | none =>
    match b.bind badNibble with
    | some i => decimalData n 1 i
    | none => return ()

/-- An instruction on decimal operands: i entries in, the check of A and B, and f from the entries and PSW. -/
def decOp (k : Insn) (b : Byte) (i j : Nat) (two : Bool) (below : Nat) (f : List Word → Word → List Word × Word) (s : State) : Out :=
  instr k (op [0xF1, b] 2) i j 0 0 (do
    let c ← coreOf k.lcn
    let x := c.ds.cache
    let upper := pairNat (x.getD (below + 1) 0) (x.getD below 0)
    let deeper := pairNat (x.getD 3 0) (x.getD 2 0)
    if two then checkDec k.lcn deeper (some upper) else checkDec k.lcn upper none
    let (r, psw) := f (x.take i) c.psw
    onCore k.lcn (fun c => c.replaceTop i r psw)
    return .next) s

/-- The sum that DADD and DSUB deliver (R121). -/
def decSum (e : Int) (p : Word) : List Word × Word :=
  let r := decPack (decide (e < 0)) e.natAbs
  (decEntries r, decFlags p r (decide (10 ^ 31 ≤ e.natAbs)) false)

/-- The numbers a (deeper) and b of a two-operand decimal instruction. -/
def decA (x : List Word) : Int := decValue (pairNat (t3 x) (t2 x))
def decB (x : List Word) : Int := decValue (pairNat (t1 x) (t0 x))

/-- DADD (R121). -/
def execDadd (k : Insn) (s : State) : Out := decOp k 0x30 4 2 true 0 (fun x p => decSum (decA x + decB x) p) s

/-- DSUB (R121). -/
def execDsub (k : Insn) (s : State) : Out := decOp k 0x31 4 2 true 0 (fun x p => decSum (decA x - decB x) p) s

/-- DCMP (R121). -/
def execDcmp (k : Insn) (s : State) : Out :=
  decOp k 0x32 4 0 true 0 (fun x p => ([], setFlags p (decA x == decB x) (decide (decA x < decB x)) false false)) s

/-- The mask of invalid nibbles (R122). -/
def badMask (x : Nat) : Nat := (List.range 32).foldl (fun m i => if nibbleOk x i then m else m + 2 ^ i) 0

/-- DCHK ( h l -- h l m ) (R122): Z for m = 0, the other flags kept. -/
def execDchk (k : Insn) (s : State) : Out :=
  stackOp k (op [0xF1, 0x33] 2) 2 3 (fun x p =>
    let m := badMask (pairNat (t1 x) (t0 x))
    ([BitVec.ofNat 64 m, t0 x, t1 x], setFlags p (m == 0) (pswN p) (pswV p) (pswC p))) s

/-- DNEG (R121). -/
def execDneg (k : Insn) (s : State) : Out :=
  decOp k 0x34 2 2 false 0 (fun x p =>
    let e := -decB x
    let r := decPack (decide (e < 0)) e.natAbs
    (decEntries r, decFlags p r false false)) s

/-- CVBD ( x -- rh rl ) (R121). -/
def execCvbd (k : Insn) (s : State) : Out :=
  stackOp k (op [0xF1, 0x35] 2) 1 2 (fun x p =>
    let e := (t0 x).toInt
    let r := decPack (decide (e < 0)) e.natAbs
    (decEntries r, decFlags p r false false)) s

/-- CVDB ( h l -- r ) (R121): modulo 2^64, Z and N of the integer delivered. -/
def execCvdb (k : Insn) (s : State) : Out :=
  decOp k 0x36 2 1 false 0 (fun x p =>
    let e := decB x
    let r := BitVec.ofInt 64 e
    ([r], setFlags p (isZ r) (isN r) (decide (e < -(2 ^ 63)) || decide (2 ^ 63 ≤ e)) false)) s

/-- The digits' magnitude and sign of the operand below a shift count. -/
def shiftOperand (x : List Word) : Nat × Bool :=
  let v := pairNat (t2 x) (t1 x)
  (digitsFrom v 1 31, nibble v 0 == 13)

/-- DSHL ( h l n -- rh rl ) (R121). -/
def execDshl (k : Insn) (s : State) : Out :=
  decOp k 0x37 3 2 false 1 (fun x p =>
    let (m, neg) := shiftOperand x
    let n := min (t0 x).toNat 31
    let r := decPack neg (m * 10 ^ n)
    (decEntries r, decFlags p r (decide (10 ^ 31 ≤ m * 10 ^ n)) false)) s

/-- DSHR ( h l n -- rh rl ) (R121). -/
def execDshr (k : Insn) (s : State) : Out :=
  decOp k 0x38 3 2 false 1 (fun x p =>
    let (m, neg) := shiftOperand x
    let n := min (t0 x).toNat 31
    let r := decPack neg (m / 10 ^ n)
    (decEntries r, decFlags p r false (decide (m % 10 ^ n ≠ 0)))) s

end Sys2Proof.Machine
end

