-- ==== Sys2Proof/Machine/Float.lean ====
section
/-! DEFINITION. Floating-point instructions (04 R123-R135), computed exactly on integers and rounded once. -/

namespace Sys2Proof.Machine

/-- A binary format: precision, width of the exponent field, and the width in bits. -/
structure Fmt where
  p : Nat
  ew : Nat
  width : Nat
  deriving DecidableEq, Repr

def fmtD : Fmt := { p := 53, ew := 11, width := 64 }
def fmtS : Fmt := { p := 24, ew := 8, width := 32 }

/-- The format of .D and .S (R129). -/
def fmtOf : FpWidth → Fmt
  | .d => fmtD
  | .s => fmtS

/-- The exponent bias, which is also the largest exponent. -/
def Fmt.bias (f : Fmt) : Nat := 2 ^ (f.ew - 1) - 1

/-- The least exponent of a normal number. -/
def Fmt.emin (f : Fmt) : Int := 1 - (f.bias : Int)

/-- A datum: NaN (signalling or quiet), infinity, zero, or the number m · 2^e; a subnormal one is marked. -/
inductive Fp where
  | nan (signalling : Bool)
  | inf (neg : Bool)
  | zero (neg : Bool)
  | num (neg : Bool) (m : Nat) (e : Int) (subnormal : Bool)
  deriving DecidableEq, Repr

/-- The datum that bits encode. -/
def Fmt.unpack (f : Fmt) (x : Nat) : Fp :=
  let fw := f.p - 1
  let frac := x % 2 ^ fw
  let ex := x / 2 ^ fw % 2 ^ f.ew
  let neg := (x / 2 ^ (f.width - 1)) % 2 == 1
  if ex = 2 ^ f.ew - 1 then
    if frac = 0 then .inf neg else .nan (frac / 2 ^ (fw - 1) % 2 == 0)
  else if ex = 0 then
    if frac = 0 then .zero neg else .num neg frac (f.emin - (fw : Int)) true
  else .num neg (2 ^ fw + frac) ((ex : Int) - (f.bias : Int) - (fw : Int)) false

/-- The sign bit in place. -/
def Fmt.sign (f : Fmt) (neg : Bool) : Nat := if neg then 2 ^ (f.width - 1) else 0

def Fmt.infBits (f : Fmt) (neg : Bool) : Nat := f.sign neg + (2 ^ f.ew - 1) * 2 ^ (f.p - 1)
def Fmt.maxBits (f : Fmt) (neg : Bool) : Nat := f.infBits neg - 1

/-- The canonical NaN (R127). -/
def Fmt.nanBits (f : Fmt) : Nat := f.infBits false + 2 ^ (f.p - 2)

/-- The rounding modes (R124). -/
inductive Rm where
  | rne | rtz | rdn | rup | rna
  deriving DecidableEq, Repr

/-- RM of FPC; reserved values round as RNE (R124). -/
def rmOf (fpc : Word32) : Rm :=
  match (fld fpc 0 3).toNat with
  | 1 => .rtz
  | 2 => .rdn
  | 3 => .rup
  | 4 => .rna
  | _ => .rne

/-- What an operation delivers: its bits and the conditions that it meets (R128). -/
structure FpRes where
  bits : Nat
  nv : Bool
  dz : Bool
  ov : Bool
  tiny : Bool
  ix : Bool
  deriving DecidableEq, Repr

/-- A result without a condition. -/
def FpRes.exact (b : Nat) : FpRes := { bits := b, nv := false, dz := false, ov := false, tiny := false, ix := false }

/-- The canonical NaN, invalid or not. -/
def Fmt.nanRes (f : Fmt) (nv : Bool) : FpRes := { FpRes.exact f.nanBits with nv := nv }

/-- Whether a magnitude q with remainder rem of 2^sh, and more below when sticky, rounds up. -/
def roundsUp (rm : Rm) (neg : Bool) (q rem sh : Nat) (sticky : Bool) : Bool :=
  let half := 2 ^ sh
  let inexact := decide (rem ≠ 0) || sticky
  match rm with
  | .rne => decide (half < 2 * rem) || (decide (2 * rem = half) && decide (sh ≠ 0) && (sticky || q % 2 == 1))
  | .rtz => false
  | .rdn => neg && inexact
  | .rup => !neg && inexact
  | .rna => decide (half ≤ 2 * rem) && decide (sh ≠ 0)

/-- The value that an overflow delivers (R128, R134). -/
def Fmt.overflow (f : Fmt) (rm : Rm) (neg : Bool) : Nat :=
  match rm with
  | .rne => f.infBits neg
  | .rna => f.infBits neg
  | .rtz => f.maxBits neg
  | .rdn => if neg then f.infBits neg else f.maxBits neg
  | .rup => if neg then f.maxBits neg else f.infBits neg

/-- The number m · 2^e (and a little more when sticky; m then has more than p + 1 bits) rounded to the format (R124, R126, R128). A tiny number delivers a zero of its sign, which flush mode uses. -/
def Fmt.round (f : Fmt) (rm : Rm) (neg : Bool) (m : Nat) (e : Int) (sticky : Bool) : FpRes :=
  let len := Nat.log2 m + 1
  let ex := (len : Int) - 1 + e
  if ex < f.emin then { FpRes.exact (f.sign neg) with tiny := true, ix := true }
  else
    let sh := len - f.p
    let q := if len < f.p then m * 2 ^ (f.p - len) else m / 2 ^ sh
    let rem := if len < f.p then 0 else m % 2 ^ sh
    let up := roundsUp rm neg q rem sh sticky
    let q' := if up then q + 1 else q
    let (q2, ex2) := if q' = 2 ^ f.p then (2 ^ (f.p - 1), ex + 1) else (q', ex)
    if (f.bias : Int) < ex2 then { FpRes.exact (f.overflow rm neg) with ov := true, ix := true }
    else
      { FpRes.exact (f.sign neg + (ex2 + (f.bias : Int)).toNat * 2 ^ (f.p - 1) + (q2 - 2 ^ (f.p - 1))) with
        ix := decide (rem ≠ 0) || sticky }

/-- The sign of an exact zero sum (R134). -/
def zeroSign (rm : Rm) (a b : Bool) : Bool := if a = b then a else rm == .rdn

/-- The exact sum of two numbers, rounded. -/
def Fmt.sumNum (f : Fmt) (rm : Rm) (n1 : Bool) (m1 : Nat) (e1 : Int) (n2 : Bool) (m2 : Nat) (e2 : Int) : FpRes :=
  let e := min e1 e2
  let v1 : Int := (m1 * 2 ^ (e1 - e).toNat : Nat)
  let v2 : Int := (m2 * 2 ^ (e2 - e).toNat : Nat)
  let v := (if n1 then -v1 else v1) + (if n2 then -v2 else v2)
  if v = 0 then .exact (f.sign (zeroSign rm n1 n2)) else f.round rm (decide (v < 0)) v.natAbs e false

/-- Signalling NaN. -/
def Fp.isSnan : Fp → Bool
  | .nan true => true
  | _ => false

/-- NaN of either kind. -/
def Fp.isNan : Fp → Bool
  | .nan _ => true
  | _ => false

/-- a + b (R127, R129). -/
def Fmt.add (f : Fmt) (rm : Rm) (a b : Fp) : FpRes :=
  if a.isNan || b.isNan then f.nanRes (a.isSnan || b.isSnan)
  else match a, b with
    | .inf x, .inf y => if x = y then .exact (f.infBits x) else f.nanRes true
    | .inf x, _ => .exact (f.infBits x)
    | _, .inf y => .exact (f.infBits y)
    | .zero x, .zero y => .exact (f.sign (zeroSign rm x y))
    | .zero _, .num y m e _ => f.round rm y m e false
    | .num x m e _, .zero _ => f.round rm x m e false
    | .num x m1 e1 _, .num y m2 e2 _ => f.sumNum rm x m1 e1 y m2 e2
    | _, _ => f.nanRes false

/-- A datum with its sign inverted. -/
def Fp.neg : Fp → Fp
  | .nan s => .nan s
  | .inf n => .inf (!n)
  | .zero n => .zero (!n)
  | .num n m e s => .num (!n) m e s

/-- a × b. -/
def Fmt.mul (f : Fmt) (rm : Rm) (a b : Fp) : FpRes :=
  if a.isNan || b.isNan then f.nanRes (a.isSnan || b.isSnan)
  else match a, b with
    | .inf _, .zero _ => f.nanRes true
    | .zero _, .inf _ => f.nanRes true
    | .inf x, .inf y => .exact (f.infBits (x != y))
    | .inf x, .num y _ _ _ => .exact (f.infBits (x != y))
    | .num x _ _ _, .inf y => .exact (f.infBits (x != y))
    | .zero x, .zero y => .exact (f.sign (x != y))
    | .zero x, .num y _ _ _ => .exact (f.sign (x != y))
    | .num x _ _ _, .zero y => .exact (f.sign (x != y))
    | .num x m1 e1 _, .num y m2 e2 _ => f.round rm (x != y) (m1 * m2) (e1 + e2) false
    | _, _ => f.nanRes false

/-- a ÷ b, from a quotient of more than 66 bits and its remainder. -/
def Fmt.div (f : Fmt) (rm : Rm) (a b : Fp) : FpRes :=
  if a.isNan || b.isNan then f.nanRes (a.isSnan || b.isSnan)
  else match a, b with
    | .inf _, .inf _ => f.nanRes true
    | .zero _, .zero _ => f.nanRes true
    | .inf x, .zero y => .exact (f.infBits (x != y))
    | .inf x, .num y _ _ _ => .exact (f.infBits (x != y))
    | .zero x, .inf y => .exact (f.sign (x != y))
    | .zero x, .num y _ _ _ => .exact (f.sign (x != y))
    | .num x _ _ _, .inf y => .exact (f.sign (x != y))
    | .num x _ _ _, .zero y => { FpRes.exact (f.infBits (x != y)) with dz := true }
    | .num x m1 e1 _, .num y m2 e2 _ =>
      let n := m1 * 2 ^ 120
      f.round rm (x != y) (n / m2) (e1 - e2 - 120) (decide (n % m2 ≠ 0))
    | _, _ => f.nanRes false

/-- The integer square root of x below 2^k, digit by digit. -/
def isqrt (x : Nat) : Nat → Nat → Nat
  | 0, r => r
  | k + 1, r => isqrt x k (if (r + 2 ^ k) * (r + 2 ^ k) ≤ x then r + 2 ^ k else r)

/-- √a (R127). -/
def Fmt.sqrt (f : Fmt) (rm : Rm) (a : Fp) : FpRes :=
  match a with
  | .nan s => f.nanRes s
  | .zero n => .exact (f.sign n)
  | .inf false => .exact (f.infBits false)
  | .inf true => f.nanRes true
  | .num true _ _ _ => f.nanRes true
  | .num false m e _ =>
    let (m, e) := if e % 2 = 0 then (m, e) else (2 * m, e - 1)
    let x := m * 4 ^ 64
    let r := isqrt x 128 0
    f.round rm false r (e / 2 - 64) (decide (r * r ≠ x))

/-- a × b + c, rounded once (R127, R129). -/
def Fmt.fma (f : Fmt) (rm : Rm) (a b c : Fp) : FpRes :=
  let prodNv := match a, b with
    | .inf _, .zero _ => true
    | .zero _, .inf _ => true
    | _, _ => false
  if prodNv then f.nanRes true
  else if a.isNan || b.isNan || c.isNan then f.nanRes (a.isSnan || b.isSnan || c.isSnan)
  else match a, b with
    | .num x m1 e1 _, .num y m2 e2 _ =>
      match c with
      | .num z m3 e3 _ => f.sumNum rm (x != y) (m1 * m2) (e1 + e2) z m3 e3
      | .zero _ => f.round rm (x != y) (m1 * m2) (e1 + e2) false
      | c => .exact (f.infBits (match c with | .inf z => z | _ => false))
    | _, _ =>
      let p : Fp := match a, b with
        | .inf x, .inf y => .inf (x != y)
        | .inf x, .num y _ _ _ => .inf (x != y)
        | .num x _ _ _, .inf y => .inf (x != y)
        | .zero x, .zero y => .zero (x != y)
        | .zero x, .num y _ _ _ => .zero (x != y)
        | .num x _ _ _, .zero y => .zero (x != y)
        | _, _ => .zero false
      f.add rm p c

/-- The four relations (R130). -/
inductive Rel where
  | lt | eq | gt | un
  deriving DecidableEq, Repr

/-- A datum that is no NaN as an integer multiple of 2^−1200; infinities beyond every number. -/
def Fp.key : Fp → Int
  | .nan _ => 0
  | .zero _ => 0
  | .inf n => if n then -(2 ^ 4000) else 2 ^ 4000
  | .num n m e _ =>
    let v : Int := (m * 2 ^ (e + 1200).toNat : Nat)
    if n then -v else v

/-- The relation of two data (R130). -/
def Fp.rel (a b : Fp) : Rel :=
  if a.isNan || b.isNan then .un else if a.key < b.key then .lt else if a.key = b.key then .eq else .gt

/-- Whether a orders before b when −0 is less than +0 (R131). -/
def Fp.before (a b : Fp) : Bool :=
  match a, b with
  | .zero true, .zero false => true
  | _, _ => decide (a.key < b.key)

/-- A datum under flush mode: a subnormal reads as a zero of its sign (R126). -/
def Fp.flush : Fp → Fp
  | .num n _ _ true => .zero n
  | x => x

/-- Whether a datum is subnormal. -/
def Fp.isSub : Fp → Bool
  | .num _ _ _ s => s
  | _ => false

/-- The bits of a datum's operand, zero when it is flushed. -/
def Fmt.bitsOf (f : Fmt) (x : Nat) : Fp → Nat
  | .zero n => f.sign n
  | _ => x

/-- FMIN and FMAX (R131): first holds when the left operand is delivered. -/
def Fmt.pick (f : Fmt) (a b : Nat × Fp) (first : Bool) : FpRes :=
  let nv := a.2.isSnan || b.2.isSnan
  if a.2.isNan && b.2.isNan then f.nanRes nv
  else
    let left := if a.2.isNan then false else if b.2.isNan then true else first
    { FpRes.exact (if left then f.bitsOf a.1 a.2 else f.bitsOf b.1 b.2) with nv := nv }

/-- The class mask (R132). -/
def Fp.classMask : Fp → Nat
  | .inf true => 0x001
  | .num true _ _ false => 0x002
  | .num true _ _ true => 0x004
  | .zero true => 0x008
  | .zero false => 0x010
  | .num false _ _ true => 0x020
  | .num false _ _ false => 0x040
  | .inf false => 0x080
  | .nan true => 0x100
  | .nan false => 0x200

/-- A number rounded to an integer by RM, and whether that is inexact. -/
def roundInt (rm : Rm) (neg : Bool) (m : Nat) (e : Int) : Int × Bool :=
  let sh := (-e).toNat
  let q := if 0 ≤ e then m * 2 ^ e.toNat else m / 2 ^ sh
  let rem := if 0 ≤ e then 0 else m % 2 ^ sh
  let q := if roundsUp rm neg q rem sh false then q + 1 else q
  (if neg then -(q : Int) else (q : Int), decide (rem ≠ 0))

/-- Conversion to a 64-bit integer in [lo, hi], with the values of R133 for what is not representable. -/
def toInteger (rm : Rm) (lo hi : Int) (nanVal : Int) : Fp → FpRes
  | .nan _ => { FpRes.exact (BitVec.ofInt 64 nanVal).toNat with nv := true }
  | .inf n => { FpRes.exact (BitVec.ofInt 64 (if n then lo else hi)).toNat with nv := true }
  | .zero _ => .exact 0
  | .num n m e _ =>
    let (v, ix) := roundInt rm n m e
    if hi < v then { FpRes.exact (BitVec.ofInt 64 hi).toNat with nv := true }
    else if v < lo then { FpRes.exact (BitVec.ofInt 64 lo).toNat with nv := true }
    else { FpRes.exact (BitVec.ofInt 64 v).toNat with ix := ix }

/-- An integer as a datum of the format. -/
def Fmt.fromInteger (f : Fmt) (rm : Rm) (v : Int) : FpRes :=
  if v = 0 then .exact 0 else f.round rm (decide (v < 0)) v.natAbs 0 false

/-- A datum of another format rounded to this one. -/
def Fmt.convert (f : Fmt) (rm : Rm) : Fp → FpRes
  | .nan s => f.nanRes s
  | .inf n => .exact (f.infBits n)
  | .zero n => .exact (f.sign n)
  | .num n m e _ => f.round rm n m e false

/-! FPC and the conditions (R123, R126, R128). -/

def fpcSubm (x : Word32) : Bool := bitAt x 3

/-- The exception that the conditions of a result raise, by vector, in the order of R128; 20 stands for a tiny result in trap mode. -/
def fpRaise (fpc : Word32) (r : FpRes) : Option Nat :=
  let flush := fpcSubm fpc
  if r.nv && bitAt fpc 12 then some 15
  else if r.dz && bitAt fpc 11 then some 16
  else if r.ov && bitAt fpc 10 then some 17
  else if r.tiny && !flush then some 20
  else if r.tiny && flush && bitAt fpc 9 then some 18
  else if r.ix && bitAt fpc 8 then some 19
  else none

/-- FPC with the flags of the conditions set (R128). -/
def fpSet (fpc : Word32) (r : FpRes) : Word32 :=
  fpc ||| (if r.nv then 1 <<< 20 else 0) ||| (if r.dz then 1 <<< 19 else 0) ||| (if r.ov then 1 <<< 18 else 0) |||
  (if r.tiny then 1 <<< 17 else 0) ||| (if r.ix then 1 <<< 16 else 0)

/-- The operands as data: in trap mode the first subnormal one raises Subnormal, in flush mode it reads as zero (R126, R128). -/
def fpOperands (n : Nat) (xs : List Fp) : Run (List Fp) := do
  let c ← coreOf n
  if fpcSubm c.fpc then return xs.map Fp.flush
  match xs.findIdx? Fp.isSub with
  | some i => throwExc { Exc.plain 20 4 c.pc with sub := BitVec.ofNat 8 i }
  | none => return xs

/-- The exception or the flags of a result (R128). -/
def fpConclude (n : Nat) (r : FpRes) : Run Unit := do
  let c ← coreOf n
  match fpRaise c.fpc r with
  | some 20 => throwExc { Exc.plain 20 4 c.pc with sub := 3 }
  | some v => throwExc (Exc.plain v 4 c.pc)
  | none => onCore n (fun c => { c with fpc := fpSet c.fpc r })

/-- The code of a two-byte floating-point instruction; the binary32 forms stand at 0x10 above (R67, R129). -/
def fpCode (w : FpWidth) (b : Byte) : Op := op [0xF1, match w with | .d => b | .s => b + 0x10] 2

/-- The bits of an entry that a format reads (R123). -/
def Fmt.raw (f : Fmt) (x : Word) : Nat := x.toNat % 2 ^ f.width

/-- An arithmetic instruction: i operands of format fi, the deepest first in f's list, one result pushed. -/
def fpOp (k : Insn) (o : Op) (fi : Fmt) (i : Nat) (f : Rm → List Nat → List Fp → FpRes) (s : State) : Out :=
  instr k o i 1 0 0 (do
    let c ← coreOf k.lcn
    let raw := ((c.ds.cache.take i).reverse).map fi.raw
    let xs ← fpOperands k.lcn (raw.map fi.unpack)
    let r := f (rmOf c.fpc) raw xs
    fpConclude k.lcn r
    onCore k.lcn (fun c => c.pushes i [BitVec.ofNat 64 r.bits])
    return .next) s

/-- The data of an operand list. -/
def x0 (xs : List Fp) : Fp := xs.getD 0 (.zero false)
def x1 (xs : List Fp) : Fp := xs.getD 1 (.zero false)
def x2 (xs : List Fp) : Fp := xs.getD 2 (.zero false)

/-- FADD (R129). -/
def execFadd (k : Insn) (w : FpWidth) (s : State) : Out :=
  fpOp k (fpCode w 0x00) (fmtOf w) 2 (fun rm _ xs => (fmtOf w).add rm (x0 xs) (x1 xs)) s

/-- FSUB (R129). -/
def execFsub (k : Insn) (w : FpWidth) (s : State) : Out :=
  fpOp k (fpCode w 0x01) (fmtOf w) 2 (fun rm _ xs => (fmtOf w).add rm (x0 xs) (x1 xs).neg) s

/-- FMUL (R129). -/
def execFmul (k : Insn) (w : FpWidth) (s : State) : Out :=
  fpOp k (fpCode w 0x02) (fmtOf w) 2 (fun rm _ xs => (fmtOf w).mul rm (x0 xs) (x1 xs)) s

/-- FDIV (R129). -/
def execFdiv (k : Insn) (w : FpWidth) (s : State) : Out :=
  fpOp k (fpCode w 0x03) (fmtOf w) 2 (fun rm _ xs => (fmtOf w).div rm (x0 xs) (x1 xs)) s

/-- FSQRT (R129). -/
def execFsqrt (k : Insn) (w : FpWidth) (s : State) : Out :=
  fpOp k (fpCode w 0x04) (fmtOf w) 1 (fun rm _ xs => (fmtOf w).sqrt rm (x0 xs)) s

/-- FMA ( a b c -- r ) (R129). -/
def execFma (k : Insn) (w : FpWidth) (s : State) : Out :=
  fpOp k (fpCode w 0x05) (fmtOf w) 3 (fun rm _ xs => (fmtOf w).fma rm (x0 xs) (x1 xs) (x2 xs)) s

/-- FNEG: the sign bit inverted, even of a NaN or a subnormal (R126, R127). -/
def execFneg (k : Insn) (w : FpWidth) (s : State) : Out :=
  stackOp k (fpCode w 0x06) 1 1 (fun x p => ([BitVec.ofNat 64 ((fmtOf w).raw (t0 x) ^^^ 2 ^ ((fmtOf w).width - 1))], p)) s

/-- FABS: the sign bit cleared (R127). -/
def execFabs (k : Insn) (w : FpWidth) (s : State) : Out :=
  stackOp k (fpCode w 0x07) 1 1 (fun x p => ([BitVec.ofNat 64 ((fmtOf w).raw (t0 x) % 2 ^ ((fmtOf w).width - 1))], p)) s

/-- FCMP ( a b -- ) (R130). -/
def execFcmp (k : Insn) (w : FpWidth) (s : State) : Out :=
  instr k (fpCode w 0x08) 2 0 0 0 (do
    let c ← coreOf k.lcn
    let raw := ((c.ds.cache.take 2).reverse).map (fmtOf w).raw
    let xs ← fpOperands k.lcn (raw.map (fmtOf w).unpack)
    fpConclude k.lcn { FpRes.exact 0 with nv := (x0 xs).isSnan || (x1 xs).isSnan }
    let r := (x0 xs).rel (x1 xs)
    onCore k.lcn (fun c => c.replaceTop 2 [] (setFlags c.psw (r == .eq) (r == .lt) (r == .un) (r == .eq || r == .gt)))
    return .next) s

/-- FMIN (R131). -/
def execFmin (k : Insn) (w : FpWidth) (s : State) : Out :=
  fpOp k (fpCode w 0x09) (fmtOf w) 2 (fun _ raw xs => (fmtOf w).pick (raw.getD 0 0, x0 xs) (raw.getD 1 0, x1 xs) (!(x1 xs).before (x0 xs))) s

/-- FMAX (R131). -/
def execFmax (k : Insn) (w : FpWidth) (s : State) : Out :=
  fpOp k (fpCode w 0x0A) (fmtOf w) 2 (fun _ raw xs => (fmtOf w).pick (raw.getD 0 0, x0 xs) (raw.getD 1 0, x1 xs) (!(x0 xs).before (x1 xs))) s

/-- FCLASS (R132). -/
def execFclass (k : Insn) (w : FpWidth) (s : State) : Out :=
  stackOp k (fpCode w 0x0B) 1 1 (fun x p => ([BitVec.ofNat 64 ((fmtOf w).unpack ((fmtOf w).raw (t0 x))).classMask], p)) s

/-- FCVT.D.S (R129): exact. -/
def execFcvtDS (k : Insn) (s : State) : Out :=
  fpOp k (op [0xF1, 0x20] 2) fmtS 1 (fun rm _ xs => fmtD.convert rm (x0 xs)) s

/-- FCVT.S.D (R129): rounded. -/
def execFcvtSD (k : Insn) (s : State) : Out :=
  fpOp k (op [0xF1, 0x21] 2) fmtD 1 (fun rm _ xs => fmtS.convert rm (x0 xs)) s

/-- An integer converted to a format ( x -- r ). -/
def fromInt (k : Insn) (b : Byte) (f : Fmt) (g : Word → Int) (s : State) : Out :=
  instr k (op [0xF1, b] 2) 1 1 0 0 (do
    let c ← coreOf k.lcn
    let r := f.fromInteger (rmOf c.fpc) (g (t0 c.ds.cache))
    fpConclude k.lcn r
    onCore k.lcn (fun c => c.pushes 1 [BitVec.ofNat 64 r.bits])
    return .next) s

/-- FCVT.D.L (R129). -/
def execFcvtDL (k : Insn) (s : State) : Out := fromInt k 0x22 fmtD (fun x => x.toInt) s

/-- FCVT.D.LU (R129). -/
def execFcvtDLU (k : Insn) (s : State) : Out := fromInt k 0x23 fmtD (fun x => (x.toNat : Int)) s

/-- FCVT.L.D (R133). -/
def execFcvtLD (k : Insn) (s : State) : Out :=
  fpOp k (op [0xF1, 0x24] 2) fmtD 1 (fun rm _ xs => toInteger rm (-(2 ^ 63)) (2 ^ 63 - 1) (-(2 ^ 63)) (x0 xs)) s

/-- FCVT.LU.D (R133). -/
def execFcvtLUD (k : Insn) (s : State) : Out :=
  fpOp k (op [0xF1, 0x25] 2) fmtD 1 (fun rm _ xs => toInteger rm 0 (2 ^ 64 - 1) 0 (x0 xs)) s

/-- FCVT.S.L (R129). -/
def execFcvtSL (k : Insn) (s : State) : Out := fromInt k 0x26 fmtS (fun x => x.toInt) s

/-- FCVT.S.LU (R129). -/
def execFcvtSLU (k : Insn) (s : State) : Out := fromInt k 0x27 fmtS (fun x => (x.toNat : Int)) s

/-- FCVT.L.S (R133). -/
def execFcvtLS (k : Insn) (s : State) : Out :=
  fpOp k (op [0xF1, 0x28] 2) fmtS 1 (fun rm _ xs => toInteger rm (-(2 ^ 63)) (2 ^ 63 - 1) (-(2 ^ 63)) (x0 xs)) s

/-- FCVT.LU.S (R133). -/
def execFcvtLUS (k : Insn) (s : State) : Out :=
  fpOp k (op [0xF1, 0x29] 2) fmtS 1 (fun rm _ xs => toInteger rm 0 (2 ^ 64 - 1) 0 (x0 xs)) s

end Sys2Proof.Machine
end

