-- ==== Sys2Proof/Machine/Microcode.lean ====
section
/-! DEFINITION. The microcode load: verification and activation of a patch image (09 R241-R244). -/

namespace Sys2Proof.Machine

/-- The first MCLLEN bytes of MCLBUF. -/
def Life.buffer (l : Life) : List Byte :=
  ((List.range ((l.mclLen.toNat + 7) / 8)).flatMap (fun k => wordBytes (lookupD l.mclBuf k 0))).take l.mclLen.toNat

/-- VERIFY of MCLCTL: ignored while BUSY or ACTIVE. -/
def State.mclVerify (s : State) : State :=
  if s.life.mclBusy || s.life.mclActive then s else s.modLife fun l => { l with mclBusy := true }

/-- MCL_VERIFY (R241). -/
def execMclVerify (s : State) : Out := portRow .mclctl (fun s => .next s.mclVerify) s

/-- VERIFY_COMPLETE (R241, R243): STATUS and VERIFIED; the buffer has not changed since VERIFY. -/
def execVerifyComplete (s : State) : Out :=
  if !s.life.mclBusy then .next s
  else .next (s.modLife fun l =>
    let st := checkImage l.fuses l.buffer
    { l with mclBusy := false, mclStatus := st, mclVerified := st == 0 })

/-- ACTIVATE of MCLCTL: ignored while VERIFIED is 0 or ACTIVE is 1. The buffer still holds the image that was verified; it is this image that becomes the master copy, whatever is written into the buffer later (R242). -/
def State.mclActivate (s : State) : State :=
  if !s.life.mclVerified || s.life.mclActive then s
  else s.modLife fun l => { l with mclActive := true, mclDue := some s.beatc, mclNext := some { version := imgVersion l.buffer, image := l.buffer } }

/-- MCL_ACTIVATE (R244). -/
def execMclActivate (s : State) : Out := portRow .mclctl (fun s => .next s.mclActivate) s

/-- The image that ACTIVATE named is the master copy, and the spares in the Coppice hold it (R242). -/
def Life.activate (l : Life) (slots : List Slot) : Life :=
  let l := { l with master := l.mclNext, mclNext := none, mclDue := none }
  let held := fun (i : Nat) => match slots[i]? with
    | some x => x.st != .empty
    | none => false
  let l := ((List.range 4).filter held).foldl (fun l i => l.fillCore ((slots.map Slot.phys).getD i 52)) l
  { l with cpStores := ((List.range 4).filter (fun g => held (4 + g))).foldl (fun cs g => modAt cs ((slots.map Slot.phys).getD (4 + g) 36) (fun _ => l.masterStore)) l.cpStores }

/-- MICROCODE_ACTIVATION (R244): at the first boundary after ACTIVATE. The cores that stand at a boundary switch at once; those with an instruction in progress and those that are being spared are waited for; a checkstopped core takes the image at its core reset and is not waited for, and one that is paused without being spared switches at once (DESIGN CHOICE, log 153). -/
def execMicrocodeActivation (s : State) : Out :=
  match s.life.mclDue with
  | none => .next s
  | some b =>
    if s.since b < 1 || s.weir.safe then .next s
    else if s.cores.any (fun c => c.run == .stalled) then .next (s.modLife fun l => { l with mclStatus := 8, mclActive := false, mclDue := none, mclNext := none })
    else
      let s := s.modLife fun l => l.activate s.ct.slots
      let cores := (List.range 48).filter (fun n => (s.core n).run != .absent && (s.core n).run != .checkstopped)
      .next ((cores.foldl State.switchDue (s.modLife fun l => { l with toSwitch := cores })).mclSettle)

end Sys2Proof.Machine
end

