-- ==== Sys2Proof/Machine/Reset.lean ====
section
/-! DEFINITION. Cold and warm reset, from their start to the handover of the cores (01 R28, R29, 10 R267, 11 R284-R286, 18 R420, R428, R433, R528, 21 R486-R495). -/

namespace Sys2Proof.Machine

/-! The boot copies (R489-R491). -/

/-- Bytes off to off + n of the flash. -/
def Flash.bytes (f : Flash) (off n : Nat) : List Byte := (f.data.drop off).take n

/-- A number of the flash, big-endian. -/
def Flash.nat (f : Flash) (off n : Nat) : Nat := natOf (f.bytes off n)

/-- Whether the directory's MAGIC and DCRC are correct (R489, R491). -/
def Flash.dirOk (f : Flash) : Bool := f.nat 0 4 == 0x5A464C53 && decide (64 ≤ f.data.length) && f.nat 0x3C 4 == (crc32c (f.bytes 0 0x3C)).toNat

/-- The image that a directory entry names: its offset in bits [63:32] and its length in bits [31:0]. -/
def Flash.image (f : Flash) (entry : Nat) : List Byte := f.bytes (f.nat entry 4) (f.nat (entry + 4) 4)

/-- The patch image in the flash, none where the directory names none. -/
def Flash.mcode (f : Flash) : List Byte := f.image 0x18

/-- What a boot image asks for (R490). -/
structure BootCopy where
  entry : Word32
  vbrOff : Word32
  payload : List Byte
  deriving DecidableEq, Repr

/-- Whether the header's fixed fields and lengths are right (R490, R491): the two offsets lie in the payload (log 5). -/
def bootForm (bs : List Byte) : Bool :=
  let length := imgNat bs 8 4
  imgNat bs 0 4 == 0x5A424F54 && imgNat bs 4 2 == 1 && imgZero bs 6 2 && imgZero bs 0x16 2 && imgZero bs 0x79 7 &&
  decide (1 ≤ length) && decide (length ≤ 0x3000000) && bs.length == 128 + length + 96 &&
  decide (imgNat bs 0x0C 4 < length) && decide (imgNat bs 0x10 4 < length) && imgNat bs 0x10 4 % 4096 == 0

/-- Whether a boot image is valid in the present state (R491): its form, the digest of its key, its signature, its security version and LCMASK. -/
def bootValid (f : Fuses) (bs : List Byte) : Bool :=
  let key := (bs.drop 0x18).take 97
  bootForm bs && natOf (sha sha384 key) == (if f.state = 0 ∨ f.state = 4 then f.dkeyh else f.okeyh).toNat &&
  ecdsaOk key (bs.take (bs.length - 96)) (bs.drop (bs.length - 96)) &&
  decide (f.bsvn ≤ imgNat bs 0x14 1) && (imgNat bs 0x15 1).testBit f.state

/-- What a boot image asks for. -/
def bootParse (bs : List Byte) : BootCopy :=
  { entry := BitVec.ofNat 32 (imgNat bs 0x0C 4), vbrOff := BitVec.ofNat 32 (imgNat bs 0x10 4), payload := (bs.drop 128).take (imgNat bs 8 4) }

/-- The boot copy that runs: copy A when it is valid, otherwise copy B (R491). -/
def Life.bootCopy (l : Life) : Option BootCopy :=
  let f := l.flash
  if !f.dirOk then none
  else if bootValid l.fuses (f.image 0x08) then some (bootParse (f.image 0x08))
  else if bootValid l.fuses (f.image 0x10) then some (bootParse (f.image 0x10))
  else none

/-- The status of the patch image in the flash, none where the directory names none (R239, R243, R489). -/
def Life.flashPatch (l : Life) : Option Byte :=
  if !l.flash.dirOk || l.flash.mcode.isEmpty then none else some (checkImage l.fuses l.flash.mcode)

/-- The life cycle and the microcode load after a reset: their ports at the reset values, and the master copy reloaded from flash and put into every core and CP (R242, R487, R492 row 9). -/
def Life.restart (l : Life) : Life :=
  let m := { Life.reset with
    fuses := l.fuses, flash := l.flash, serial := l.serial,
    master := if l.flashPatch = some 0 then some { version := imgVersion l.flash.mcode, image := l.flash.mcode } else none }
  { m with coreStores := List.replicate 52 m.masterStore, cpStores := List.replicate 36 m.masterStore }

/-! The maps (R28, R29, R420). -/

/-- The physical cores that pass their self-test: those neither out of use nor failing it. -/
def passingCores (spent : List Nat) : List Nat := (List.range 52).filter (fun p => !spent.contains p)

/-- The physical CPs of a group that pass. -/
def passingCps (spent : List Nat) (g : Nat) : List Nat := ((List.range 9).map (fun i => 9 * g + i)).filter (fun c => !spent.contains (spentCp c))

/-- A slot that a spare fills, or none (R420). -/
def fillSlot (p : Option Nat) (b : Word) : Slot :=
  match p with
  | some p => { st := .ready, phys := p, passes := 0, fails := 0, since := b }
  | none => { st := .empty, phys := 0, passes := 0, fails := 0, since := b }

/-- The Coppice after a reset (R420): slots filled in ascending order, those aside that a warm reset finds FAILED and keeps so (R421), with its counts at 0 (log 169). -/
def slotsFor (failed : List (Option Nat)) (spent : List Nat) (b : Word) : List Slot :=
  let kept := fun (i : Nat) => (failed[i]?).join
  let place := fun (i : Nat) (p : Option Nat) => match kept i with
    | some f => { fillSlot (some f) b with st := .failed }
    | none => fillSlot p b
  (List.range 4).map (fun i => place i ((passingCores spent)[48 + ((List.range i).filter (fun j => (kept j).isNone)).length]?)) ++
    (List.range 4).map (fun g => place (4 + g) ((passingCps spent g)[8]?))

/-- The units of the slots that are FAILED, by slot. -/
def Ct.failedSlots (c : Ct) : List (Option Nat) := c.slots.map (fun x => if x.st == .failed then some x.phys else none)

/-- The logical CPs after a reset. -/
def lcpFor (spent : List Nat) : List (Option Nat) := (List.range 32).map (fun n => (passingCps spent (n / 8))[n % 8]?)

/-- The logical cores before the handover (R28, R493): each present one has its start values and is not released yet. -/
def coresFor (spent : List Nat) (mcver : Word) (rsth : List Word) : List Core :=
  (List.range 48).map fun n =>
    match (passingCores spent)[n]? with
    | some p => { Core.reset p mcver (rsth.getD 0 0) (rsth.getD 1 0) (rsth.getD 2 0 + BitVec.ofNat 64 (0x2000 * n)) with run := .paused }
    | none => Core.absent

/-- The events of missing logical units (R29): one for each. -/
def State.reportMissing (s : State) : State :=
  let s := ((List.range 48).filter (fun n => (s.core n).run == .absent)).foldl (fun s n => s.reportAt 0xA00 .severe 82 0xFF (BitVec.ofNat 8 n) none 0) s
  ((List.range 32).filter (fun n => s.ct.lcp.getD n none == none)).foldl (fun s n => s.reportAt 0xA00 .severe 82 0xFF (BitVec.ofNat 8 n) none 0) s

/-! Memory (R285, R286, R487, R488). -/

/-- Whether an address is one that the boot tree or the boot TSB area rewrites (R488, R493). -/
def inBootArea (a : Nat) : Bool := decide (a < 0x2000) || (decide (0x10000 ≤ a) && decide (a < 0x70000))

/-- Where the payload stands (R493). -/
def payloadAt : Nat := 0x1000000

/-- Main memory with the boot tree, an empty TSB area and the payload (R488, R493); the window's bytes are zero again (R267). -/
def bootMemory (m : Mem) (payload : List Byte) : Mem :=
  Mem.writeN (bootTree.foldl (fun m c => m.write c.1 c.2) (m.filter (fun c => !inBootArea c.1 && decide (c.1 < windowBase)))) payloadAt payload

/-- The lines that the boot region's writes replace whole, which hold no poison after them (R264). -/
def bootLine (payload : List Byte) (line : Nat) : Bool :=
  inBootArea (line * 256) || (decide (payloadAt ≤ line * 256) && decide (line * 256 + 256 ≤ payloadAt + payload.length))

/-- The memory controllers after a warm reset (R284, R285): what failed, the population, the passes and the scrubbers' places are kept, and the accepted writes are complete. -/
def MemCtl.restart (m : MemCtl) : MemCtl := { m with period := 24, reads := [], writes := [] }

/-- A value of a slice's true-random source for its LFSR: free, but never zero (R260). -/
def State.drawLfsr (s : State) : Word32 × State :=
  let (v, s) := s.takeFree
  (if fld v 0 32 = (0 : Word32) then 1 else fld v 0 32, s)

/-- A way that fails the test of a reset is disabled, as far as four of its slice are (R263). -/
def State.bootWay (s : State) (slice way : Nat) : State :=
  match s.pool.ways[slice]? with
  | none => s
  | some v =>
    if bitAt v.dis way then s
    else if 4 ≤ v.count then s.report (0x500 + 32 * slice + 16) .severe none 0
    else s.modWays slice fun v => { v with dis := v.dis ||| (1 <<< way) }

/-- The Pool at a reset (R255, R260, R263, R267): invalidated and wiped, its window unlocked, its ways tested, its LFSRs loaded; a warm reset keeps the disabled ways. Filtered mode holds until the handover. -/
def State.wipePool (s : State) (cold : Bool) (bad : List (Nat × Nat)) : State :=
  let ways := if cold then Pool.reset.ways else s.pool.ways.map (fun w => { w with drain := [] })
  let s := { s with pool := { Pool.reset with ways := ways, lock := false, locked := false, start := true } }
  let s := (List.range 16).foldl (fun s k =>
    let (x, s) := s.drawLfsr
    s.modPool fun p => { p with lfsr := modAt p.lfsr k (fun _ => x) }) s
  bad.foldl (fun s w => s.bootWay w.1 w.2) s

/-! The plant controller (R456, R466, R468, R487). -/

/-- Boundaries passed at once (R32, R455). -/
def Plant.skip (p : Plant) (n : Nat) : Plant :=
  { p with
    beatc := p.beatc + BitVec.ofNat 64 n, refCycle := 0,
    todBase := p.todBase + BitVec.ofNat 128 n * (100 * todStep + 16 + BitVec.ofInt 128 (p.slewAt * 2 ^ 32)) }

/-- The ports of the plant controller after a reset that hands over at beat b: the hold-up stages have gone on with the last answer of the BMU (log 16). -/
def Plant.restart (p : Plant) (b : Word) : Plant :=
  let ok := p.bmuOk && (p.inp || decide (60 ≤ p.res.toNat)) && p.railsOut.isEmpty
  { Plant.cold b with
    refOk := p.refOk, refLost := b, known := p.bmuOk, inp := p.bmuOk && p.inp, res := if p.bmuOk then p.res else 0, bmuOk := p.bmuOk, okPrev := ok, stable := ok,
    railsOut := p.railsOut, downAt := p.downAt.map (fun _ => b), accepted := p.accepted, lastAccept := b, pwron := p.pwron, standbyAt := p.standbyAt,
    seqAt := p.seqAt, attempts := p.attempts, fails := p.fails, frail := p.frail, last := p.last, railsSent := p.railsSent }

/-- The beats of a cold reset (R286, R492, log 61): to its handover, zeroing after at most 500,000 beats of training and about 1,676 beats after it; or, where zeroing has not ended, to a boundary after row 9. The exact number is free. -/
def State.coldBeats (s : State) (zeroed : Bool) : Word × State :=
  let z := (s.capacity / 16 + 57599) / 57600
  let (v, s) := s.takeFree
  (if zeroed then BitVec.ofNat 64 (1001 + z + v.toNat % 501676) else BitVec.ofNat 64 (151000 + v.toNat % (350000 + z)), s)

/-- The beats of a warm reset to its handover (R495, log 61): about 152,600. -/
def State.warmBeats (s : State) : Nat × State := (151000 + s.takeFree.1.toNat % 1701, s.takeFree.2)

/-! The continuity unit (R428, R433, R528). -/

/-- RSTH0 to RSTH2 (R493). -/
def rsthFor (b : Option BootCopy) : List Word :=
  match b with
  | some b => [rsth0 + b.entry.setWidth 64, rsth1 + b.vbrOff.setWidth 64, rsth2]
  | none => [rsth0, rsth1, rsth2]

/-- The continuity unit at its reset values: Stillwater, the maps and the Coppice aside. -/
def Ct.restart (c : Ct) (failed : List (Option Nat)) (spent : List Nat) (b : Word) (rsth : List Word) : Ct :=
  { Ct.reset with
    spent := spent, slots := slotsFor failed spent b, lcp := lcpFor spent, copyA := c.copyA, copyB := c.copyB, useB := c.useB, recs := c.recs, rsth := rsth, rsthWas := rsth }

/-- ROLE and PSTATE after a reset (R528): a module that was in a pair and active stays in it, BROKEN. -/
def State.roleAfterReset (s : State) (ctl : CtlCopy) : State :=
  let s := s.modCt fun c => { c with role := ctl.role, pstate := ctl.pstate, pairId := ctl.pairId, fgen := ctl.fgen }
  match ctl.role, ctl.pstate with
  | _, .solo => s
  | .standby, _ => (s.setPstate .solo).modCt fun c => { c with leatOffDue := false }
  | .active, _ =>
    let s := ((s.setPstate .broken).modLink fun _ => LeatLink.start s.beatc)
    let s := [12, 13].foldl (fun s p => s.modPort p fun x => { x with leat := true }) s
    s.startRequest wkSoloReq

/-- The control area chosen, Stillwater replayed, and the roles (R428, R433, R528). -/
def State.replayAll (s : State) (spoilt : List Word32) : State :=
  let (ctl, s) := s.chooseControl
  (s.replay ctl spoilt).roleAfterReset ctl

/-! The start-up (R492-R495). -/

/-- What the flash makes known at start-up (R243, R494). -/
def State.reportFlash (s : State) : State :=
  let s := match s.life.flashPatch with
    | some st => if st = 0 then s else s.report 0xA01 .recoverable (some (st.setWidth 32)) 0
    | none => s
  if s.life.bootCopy.isNone then s.report 0xA00 .fatal (some 0x10) 0 else s

/-- The units other than the Pool and the memory controllers after a reset, the plant controller being there already (R487, R492 rows 3 to 9), with a new key of the staging areas (R392). -/
def State.resetUnits (s : State) (cold : Bool) (r : StartTest) : State :=
  let life := s.life.restart
  let rsth := rsthFor life.bootCopy
  let spent := if cold then [] else s.ct.spent
  let failing := spent ++ r.cores ++ r.cps.map spentCp
  let (key, s) := s.takeFree
  { s with
    cores := coresFor failing life.masterVersion rsth,
    weir := if cold then .reset else { Weir.reset with outOfUse := s.weir.outOfUse },
    ct := { s.ct.restart (if cold then [] else s.ct.failedSlots) failing s.beatc rsth with spent := spent },
    css := .reset, eth := { Eth.reset with sent := s.eth.sent }, cz := .reset, cx := { Cx.reset with stagingKey := key }, slices := .reset, life := life }

/-- LOCK of POOLWIN written by the start-up, and what comes of it (R265, R492 row 11). -/
def State.formWindow (s : State) : State :=
  let s := s.modPool fun p => { p with lock := true, locked := p.ways.all (fun w => !bitAt w.dis 15), lockFail := p.ways.any (fun w => bitAt w.dis 15) }
  if s.pool.lockFail then s.noWindow.foldl (fun s k => s.report (0x500 + 32 * k + 17) .fatal none 0) s else s

/-- Rows 11 to 13 of R492: the window is formed, the boot region is written, and the cores are released; nothing of it while main memory is not up (R271), and no core without a boot copy (R494) or a window. -/
def State.handOver (s : State) : State :=
  if !s.mc.ready || !s.pool.start then s
  else
    let s := s.formWindow
    match s.life.bootCopy with
    | none => s
    | some b =>
      if s.pool.lockFail then s
      else { s with
        cores := s.cores.map (fun c => if c.run == .paused then { c with run := .running } else c),
        mem := bootMemory s.mem b.payload,
        mc := { s.mc with poisonCode := s.mc.poisonCode.filter (fun l => !bootLine b.payload l) },
        pool := { s.pool with start := false } }

/-- A cold reset (R492): as far as the zeroing of main memory, and to the handover where that has ended. -/
def State.coldReset (s : State) (r : StartTest) : State :=
  let (b, s) := { s.cutChange with mc := .trained r }.coldBeats r.zeroed
  let s := ({ s with plant := s.plant.restart b, mem := [] }.resetUnits true r).wipePool true r.ways
  let s := (s.train r).reportMissing.reportFlash.replayAll r.spoilt
  if r.zeroed then s.memoryUp.handOver else s

/-- A warm reset (R495): BEATC, TOD, VALID and PLSLEW go on; the lines that the Pool holds modified or poisoned are in main memory (R285, log 106). -/
def State.warmReset (s : State) (r : StartTest) : State :=
  let (n, s) := s.cutChange.warmBeats
  let p := s.plant.skip n
  let s := (s.pool.dir.filter (fun e => s.isDram (e.line * 256))).foldl (fun s e => s.writeBack e.line) s
  let s := { s with
    plant := { p.restart p.beatc with todBase := p.todBase, todValid := p.todValid, slew := p.slew },
    mem := s.mem.filter (fun c => decide (c.1 < windowBase)), mc := s.mc.restart }
  (((s.resetUnits false r).wipePool false r.ways).reportMissing.reportFlash.replayAll r.spoilt).handOver

/-- MEMORY_READY (R286): every group has been zeroed, and the start-up goes on to its handover; never after a reset that found two failed channels in one group (R271). -/
def execMemoryReady (s : State) : Out := if s.mc.zeroing && s.plant.power == .on then .next s.memoryUp.handOver else .next s

/-! A change of life-cycle state (R500-R503). -/

/-- The fuses after a change (R501): a fuse that is blown stays blown. -/
def Fuses.blow (f : Fuses) (target : Nat) (okeyh : BitVec 384) : Fuses :=
  if target = 4 then { f with decom := true }
  else if target = 1 then { f with prov := true, okeyh := f.okeyh ||| okeyh }
  else if f.state = 1 then { f with oper := true }
  else { f with svc := f.svc + 1 }

/-- The key group of the life-cycle state (R503). -/
def Fuses.keyGroup (f : Fuses) : Nat := if f.state = 0 then 0 else if f.state = 4 then 2 else 1

/-- The device-unique key, under which Stillwater is sealed (R503): it is derived again when the fuses change the key group, and no port returns it (log 166). -/
def Life.deviceKey (l : Life) : BitVec 512 := Config.deviceKey l.fuses.dseed l.fuses.keyGroup

/-- OKEYH as LCDATA holds it. -/
def Life.okeyh (l : Life) : BitVec 384 := BitVec.ofNat 384 (natOf (l.lcData.flatMap wordBytes))

/-- Steps 2 to 4 of R502: Stillwater zeroed, the keys wiped, the fuses blown, and a cold reset. -/
def State.completeChange (s : State) (target : Nat) (r : StartTest) : State :=
  let s := s.modCt fun c => { c with copyA := { c.copyA with valid := false }, copyB := { c.copyB with valid := false }, recs := [] }
  let s := s.modLife fun l => { l with fuses := l.fuses.blow target l.okeyh, change := none }
  s.coldReset r

/-! The rows. -/

/-- A reset at the board's input (R486, R517): ignored while a power sequence runs, and without power. -/
def boardReset (s : State) (f : State → State) : Out := if s.plant.power = .on then .next (f s) else .next s

/-- Whether a warm or cold reset that RSTCMD asked for begins now: at the next boundary, but no command takes a module out of safe state (R486, R499). -/
def State.resetBegins (s : State) (cold : Bool) : Bool :=
  !s.weir.safe && (match s.life.resetDue with
    | some (.cold b) => cold && decide (1 ≤ s.since b)
    | some (.warm b) => !cold && decide (1 ≤ s.since b)
    | none => false)

/-- The power sequence is complete (R514): each of five groups has waited 1 ms. -/
def State.sequenceDone (s : State) : State := s.modPlant fun p => { p.switchOn 5 with power := .on, last := 1, attempts := 0 }

/-- COLD_RESET (R486, R487, R492, R502). -/
def execColdReset (c : ResetCause) (r : StartTest) (s : State) : Out :=
  match c with
  | .boardInput => boardReset s (State.coldReset · r)
  | .command => if s.resetBegins true then .next (s.coldReset r) else .next s
  | .powerSequence => if s.plant.power = .sequencing ∧ 5000 ≤ s.since s.plant.seqAt then .next (s.sequenceDone.coldReset r) else .next s
  | .lifeCycle =>
    match s.life.change with
    | some x => if s.weir.safe && decide (134000 ≤ s.since x.beat) then .next (s.completeChange x.target r) else .next s
    | none => .next s

/-- WARM_RESET (R486, R487, R495). -/
def execWarmReset (c : ResetCause) (r : StartTest) (s : State) : Out :=
  match c with
  | .boardInput => boardReset s (State.warmReset · r)
  | .command => if s.resetBegins false then .next (s.warmReset r) else .next s
  | .powerSequence => .refused .illFormed
  | .lifeCycle => .refused .illFormed

end Sys2Proof.Machine
end

