-- ==== Sys2Proof/Machine/Lifecycle.lean ====
section
/-! DEFINITION. Core reset and the commands of the life cycle (21 R486, R496, R497, R500-R504, R509). -/

namespace Sys2Proof.Machine

/-! Core reset (R496). -/

/-- Whether a core reset of LCN n is in progress. -/
def State.resetting (s : State) (n : Nat) : Bool := s.life.coreResets.any (fun r => r.lcn == n)

/-- RESULT and TGT of RSTCMD. -/
def State.rstAnswer (s : State) (tgt r : Byte) : State := s.modCt fun c => { c with rstTgt := tgt, rstResult := r }

/-- RSTCMD CORE (R496 step 1, R497): refused, or the core stops fetching. One that is being spared is reset afterwards (R509). -/
def State.startCoreReset (s : State) (issuer : Nat) (tgt : Byte) : State :=
  let n := tgt.toNat
  if 48 ≤ n ∨ (s.core n).run = .absent ∨ n = issuer then s.rstAnswer tgt 2
  else if s.resetting n then s.rstAnswer tgt 1
  else
    let s := (((s.endHold n).dropInval n).rstAnswer tgt 0).modLife fun l => { l with coreResets := l.coreResets ++ [{ lcn := n, beat := s.beatc }] }
    s.modCore n fun c => { c with run := .paused, stalled := none, due := [], ioWait := none, devRead := none }

/-- Whether a core reset can end now: no sparing (R509), no device store of the last 4 beats (R194), nothing of its L2 under way (R256). -/
def State.coreResetReady (s : State) (n : Nat) : Bool :=
  let c := s.core n
  s.resetting n && !c.sparing && s.drainable c.pcn &&
  (match c.devStore with
   | some a => s.overdue a
   | none => true)

/-- The registers of a core after its reset (R493, R496): the RSTH values as they stood at the end of the previous beat (R509). -/
def State.resetCore (s : State) (n p : Nat) : State :=
  let r := fun i => s.ct.rsthWas.getD i 0
  let s := (s.modCore n fun _ => Core.reset p 0 (r 0) (r 1) (r 2 + BitVec.ofNat 64 (0x2000 * n))).takeMaster n
  (s.withSequence n 0 some).getD s

/-- A core reset ends (R189, R256, R496): the buffer and the pending loss of a device store are discarded and the L2 is drained; a core that fails its self-test is replaced by a spare, or its LCN becomes absent. -/
def State.endCoreReset (s : State) (n : Nat) (pass : Bool) (bad : List Nat) : State :=
  let p := (s.core n).pcn
  let s := (s.drainL2 p bad).modLife fun l => { l with coreResets := l.coreResets.filter (fun r => r.lcn != n) }
  let s := s.modCore n fun c => { c with sb := [], devStore := none, dsl := none }
  if pass then s.resetCore n p
  else match s.readySlot with
    | some i => ((s.spend p).resetCore n (s.slot i).phys).modSlot i fun x => { x with st := .empty }
    | none => s.loseCore n

/-- CORE_RESET (R496): the command, and its end as soon as it can come; for a core whose reset an earlier command has begun, its end. -/
def execCoreReset (issuer : Nat) (tgt : BitVec 8) (pass : Bool) (bad : List Nat) (s : State) : Out :=
  let n := tgt.toNat
  if s.weir.safe then .next s
  else
    let t := if s.resetting n then s else s.startCoreReset issuer tgt
    .next (if t.coreResetReady n then t.endCoreReset n pass bad else t)

/-- A write of RSTCMD (R486, R497): a warm or cold reset begins at the next boundary; a reserved OP acts as none. -/
def State.rstCommand (s : State) (issuer op : Nat) (tgt : Byte) : State :=
  match op with
  | 1 => s.startCoreReset issuer tgt
  | 2 => (s.rstAnswer tgt 0).modLife fun l => { l with resetDue := some (l.resetDue.getD (.warm s.beatc)) }
  | 3 => (s.rstAnswer tgt 0).modLife fun l => { l with resetDue := some (.cold s.beatc) }
  | _ => s.modCt fun c => { c with rstTgt := tgt }

/-! The life cycle (R500-R504). -/

/-- The changes that R500 permits. -/
def lcPermitted (a b : Nat) : Bool :=
  (a == 0 && b == 1) || (a == 1 && b == 2) || (a == 2 && b == 3) || (a == 3 && b == 2) || (decide (a < 4) && b == 4)

/-- CONFIRM (LCCTL). -/
def lcConfirm : Word32 := 0x5A4C4331

/-- RESULT and TARGET of LCCTL; a reserved TARGET reads back as written. -/
def State.lcAnswer (s : State) (target : BitVec 3) (r : Byte) : State := s.modLife fun l => { l with lcTarget := target, lcResult := r }

/-- TARGET as it acts: 5 to 7 as 0. -/
def lcTargetAt (t : BitVec 3) : Nat := if t.toNat ≤ 4 then t.toNat else 0

/-- The RESULT of CHANGE (R504), in the order of its table. -/
def State.lcVerdict (s : State) (confirm : Word32) (b : Nat) : Byte :=
  let a := s.life.fuses.state
  if confirm ≠ lcConfirm then 1
  else if !lcPermitted a b || (a == 2 && b == 3 && decide (254 < s.life.fuses.svc)) then 2
  else if (a = 3 ∨ b = 3) ∧ s.ct.pstate ≠ .solo then 3
  else if b = 1 ∧ s.life.okeyh = 0 then 4
  else 0

/-- CHANGE (R502): safe state at the next boundary, and the change after it. One that is under way stands. -/
def State.lcChange (s : State) (confirm : Word32) (target : BitVec 3) : State :=
  let b := lcTargetAt target
  let r := s.lcVerdict confirm b
  let s := s.lcAnswer target r
  if r = 0 ∧ s.life.change = none then (s.modLife fun l => { l with change := some { target := b, beat := s.beatc } }).decideSafe else s

/-- RAISE_BSVN and RAISE_MSVN (R504): one further fuse, up to 64. -/
def State.lcRaise (s : State) (confirm : Word32) (target : BitVec 3) (microcode : Bool) : State :=
  let f := s.life.fuses
  let n := if microcode then f.msvn else f.bsvn
  if confirm ≠ lcConfirm then s.lcAnswer target 1
  else if 64 ≤ n then s.lcAnswer target 5
  else (s.lcAnswer target 0).modLife fun l =>
    { l with fuses := if microcode then { l.fuses with msvn := l.fuses.msvn + 1 } else { l.fuses with bsvn := l.fuses.bsvn + 1 } }

/-- A write of LCCTL: a reserved OP acts as none. -/
def State.lcCommand (s : State) (op : Nat) (confirm : Word32) (target : BitVec 3) : State :=
  match op with
  | 1 => s.lcChange confirm target
  | 2 => s.lcRaise confirm target false
  | 3 => s.lcRaise confirm target true
  | _ => s.modLife fun l => { l with lcTarget := target }

/-- CHANGE (R502). -/
def execLcChange (confirm : BitVec 32) (target : BitVec 3) (s : State) : Out :=
  if s.weir.safe then .next s else .next (s.lcChange confirm target)

/-- RAISE_BSVN (R504). -/
def execRaiseBsvn (confirm : BitVec 32) (target : BitVec 3) (s : State) : Out :=
  if s.weir.safe then .next s else .next (s.lcRaise confirm target false)

/-- RAISE_MSVN (R504). -/
def execRaiseMsvn (confirm : BitVec 32) (target : BitVec 3) (s : State) : Out :=
  if s.weir.safe then .next s else .next (s.lcRaise confirm target true)

end Sys2Proof.Machine
end

