-- ==== Sys2Proof/Machine/Slices.lean ====
section
/-! DEFINITION. Halting of operations (12 R303) and the commands of the slice table (20 R474-R483). -/

namespace Sys2Proof.Machine

/-! Halting. -/

/-- Whether an operation can no longer be halted (R303). -/
def Operation.pastHalt (o : Operation) : Bool := o.past || o.phase == .ended

/-- An exchange none of whose frames has left is taken back: its numbers go to those behind it. -/
def Conn.takeBack (c : Conn) (xid : Word32) : Conn :=
  if c.tx.any (fun f => f.xid == xid && f.first && !f.sent) then
    let n := BitVec.ofNat 32 (c.tx.filter (fun f => f.xid == xid)).length
    let fix := fun (f : TxFrame) => if follows f.xid xid then { f with seq := f.seq - n, xid := f.xid - 1 } else f
    let fixEx := fun (x : OutExchange) => if follows x.xid xid then { x with seq := x.seq - n, xid := x.xid - 1 } else x
    { c with
      tx := (c.tx.filter (fun f => f.xid != xid)).map fix, outEx := (c.outEx.filter (fun x => x.xid != xid)).map fixEx,
      sndNxt := c.sndNxt - n, xidOut := c.xidOut - 1 }
  else c

/-- The bytes of a message none of which has left are taken back on TCP. -/
def Conn.takeBackTcp (c : Conn) (op : Nat) : Conn :=
  let t := c.tcpState
  match t.chunks.find? (fun x => x.op == some op) with
  | some x =>
    if x.sent then c
    else { c with tcp := some { t with chunks := t.chunks.filter (fun x => x.op != some op), sndEnd := x.seq } }
  | none => c

/-- The exchange of an operation's write that has started before its record is accepted (R314). -/
def Conn.earlyWrite (c : Conn) (op : Nat) : Option Word32 := (c.outEx.find? (fun x => x.use == .background op none)).map OutExchange.xid

/-- What an operation that is halted leaves undone (R302, R303): an exchange that has not begun to leave, a record that waits. -/
def State.stopTransfers (s : State) (o : Operation) : State :=
  match o.phase with
  | .exchange xid => s.modConn o.sch fun c => if c.isTcp then c.takeBackTcp o.id else c.takeBack xid
  | .reply xid => s.modConn o.sch fun c => c.takeBack xid
  | .reserve =>
    let s := s.modCt fun c => { c with waits := c.waits.filter (fun w => w.op != o.id) }
    match (s.conn o.sch).earlyWrite o.id with
    | some xid => s.modConn o.sch fun c => c.takeBack xid
    | none => s
  | _ => s

/-- Whether an operation still has a transfer in progress (R302): the partner has its request. -/
def State.transferring (s : State) (o : Operation) : Bool :=
  match o.phase with
  | .exchange xid => (s.conn o.sch).outEx.any (fun x => x.xid == xid)
  | .reply xid => (s.conn o.sch).outEx.any (fun x => x.xid == xid) || notAfter xid (s.conn o.sch).cxidOut
  | _ => false

/-- An operation that is not past its halt point is halted (R302, R303): what has not left is taken back; it ends with HALTED at once, or from HALTING when its transfer in progress has stopped. -/
def State.haltOp (s : State) (o : Operation) : Option State :=
  let s := s.stopTransfers o
  if s.transferring o then some ((s.modOp o.id fun o => { o with halting := true }).setSchState o.sch stHalting) else s.endHalted o.id o.at_

/-! Ports as doublewords. -/

/-- CQHEAD, CQTAIL and CQCTL as they read. -/
def Cq.headWord (q : Cq) : Word := BitVec.ofNat 64 q.headAt
def Cq.tailWord (q : Cq) (full : Bool) : Word := zext q.tail ||| at_ q.phase 16 ||| at_ full 17
def Cq.ctlWord (q : Cq) : Word := at_ q.err 16 ||| fieldAt q.lcn 8 ||| at_ q.irq 1 ||| at_ q.en 0

/-- The five ports of a completion queue. -/
def Cq.words (q : Cq) (full : Bool) : List Word := [q.base, zext q.size, q.headWord, q.tailWord full, q.ctlWord]

/-- The five ports of a ring pair (R365). -/
def RingPair.words (r : RingPair) : List Word :=
  [fieldAt r.sqBase 12 ||| zext r.sqSize,
   fieldAt (BitVec.ofNat 16 r.sqHead) 16 ||| BitVec.ofNat 64 r.tailAt,
   fieldAt r.cqBase 12 ||| zext r.cqSize,
   at_ r.phase 32 ||| fieldAt (BitVec.ofNat 16 r.cqTail) 16 ||| BitVec.ofNat 64 r.headAt,
   at_ r.err 16 ||| fieldAt r.lcn 8 ||| at_ r.irq 1 ||| at_ r.en 0]

/-- A grant's SLGB and SLGS. -/
def Grant.words (g : Grant) : List Word := [at_ g.en 63 ||| fieldAt g.base 21, zext g.size]

/-- The operations in progress that are latched from a slot (KSTAT.LATCH). -/
def State.latched (s : State) (k slot : Nat) : Nat :=
  (s.cx.jobs.filter (fun j => j.slice == k && j.key.isSome && j.slot == slot)).length

/-- KSTAT of a slot. -/
def State.kstat (s : State) (k slot latch : Nat) : Word :=
  fieldAt (BitVec.ofNat 4 latch) 8 |||
  (match s.keySlot k slot with
   | some x => fieldAt x.fixed 32 ||| fieldAt (BitVec.ofNat 4 x.typ) 24 ||| fieldAt x.hlen 16 ||| fieldAt x.use 12 ||| 1
   | none => 0)

/-- KCUR of a slot. -/
def State.kcur (s : State) (k slot : Nat) : Word := match s.keySlot k slot with | some x => x.invoc | none => 0

/-! ENABLE, FREEZE, THAW and RELEASE. -/

/-- Whether another slice, FREE ones excepted, names the PID of slice k (R475). -/
def State.pidInUse (s : State) (k : Nat) : Bool :=
  s.slices.tab.any (fun p => p.1 != k && p.2.st != .free && p.2.pid == (s.slice k).pid)

/-- The result of a slice command. -/
def State.slResult (s : State) (r : Byte) : State := s.modSlices fun x => { x with result := r }

/-- A state of a slice. -/
def State.setSliceState (s : State) (k : Nat) (st : SliceState) : State := s.modSlice k fun x => { x with st := st }

/-- The subchannels of a slice whose entries hold V = 1. -/
def State.sliceSchs (s : State) (k : Nat) : List Nat := s.establishedSchs.filter (fun n => (s.sch n).slice == k)

/-- Whether a valid subchannel names a slice (R475). -/
def State.sliceNamed (s : State) (k : Nat) : Bool := (s.sliceSchs k).any (fun n => s.schValid (s.sch n))

/-- ENABLE (R474). -/
def State.slEnable (s : State) (k : Nat) : State :=
  if (s.slice k).st ≠ .free then s.slResult 1
  else if s.pidInUse k then s.slResult 2
  else (s.setSliceState k .running).slResult 0

/-- The descriptors of a slice that are in progress end with ABORTED (R380, R398, R476). -/
def State.abortJobs (s : State) (k : Nat) : State :=
  { s with
    cz := s.cz.mapJobs (fun j => if j.slice == k then { j with aborted := true } else j),
    cx := s.cx.mapJobs (fun j => if j.slice == k then { j with aborted := true } else j) }

/-- The operations of a slice that occupy their subchannels. -/
def State.sliceOps (s : State) (k : Nat) : List Operation := s.css.ops.filter (fun o => o.inFlight && (s.sch o.sch).slice == k)

/-- Each operation of a list that can be halted is halted. -/
def State.haltAll (s : State) : List Operation → Option State
  | [] => some s
  | o :: os => (if o.pastHalt then some s else s.haltOp o).bind (fun s => State.haltAll s os)

/-- FREEZE (R476). -/
def State.slFreeze (s : State) (k : Nat) : Option State :=
  if (s.slice k).st ≠ .running then some (s.slResult 1)
  else
    let s := s.modSlice k fun x => { x with st := .freezing, since := s.beatc }
    ((s.abortJobs k).haltAll (s.sliceOps k)).map (fun s => s.slResult 0)

/-- THAW (R478): fetching resumes at the next boundary. -/
def State.slThaw (s : State) (k : Nat) : State :=
  if (s.slice k).st = .frozen ∨ (s.slice k).st = .saved then (s.modSlice k fun x => { x with st := .running, thawAt := some s.beatc }).slResult 0 else s.slResult 1

/-- RELEASE (R483). -/
def State.slRelease (s : State) (k : Nat) : State :=
  if (s.slice k).st = .freezing then s.slResult 1
  else if s.sliceNamed k then s.slResult 9
  else
    let s := ((s.eraseAll k 0).abortJobs k).modCss fun c => { c with queues := c.queues.filter (fun p => p.1 / 4 != k) }
    let s := { s with
      cz := { s.cz with rings := unassoc s.cz.rings k },
      cx := { s.cx with rings := unassoc s.cx.rings k, ports := unassoc s.cx.ports k } }
    (s.modSlices fun x => { x with tab := unassoc x.tab k }).slResult 0

/-! SAVE. -/

/-- Whether a slice still holds work (RESULT 3, R479): an operation block, a held completion, or a subchannel that is not in DOWN with PEND = 0. -/
def State.sliceActive (s : State) (k : Nat) : Bool :=
  s.css.ops.any (fun o => o.slice == k) || s.css.held.any (fun h => h.q / 4 == k) ||
  (s.sliceSchs k).any (fun n => (s.sch n).state != stDown || (s.sch n).pend)

/-- Whether a subchannel of a slice is guarded or has a live journal record (RESULT 4, R479). -/
def State.sliceJournaled (s : State) (k : Nat) : Bool :=
  (s.sliceSchs k).any (fun n => (s.sch n).guarded || s.ct.recs.any (fun r => !r.retired && r.sch == n))

/-- The ring pairs of a slice. -/
def State.slicePairs (s : State) (k : Nat) : List RingPair := [lookupD s.cz.rings k RingPair.reset, lookupD s.cx.rings k RingPair.reset]

/-- The addresses that the image carries and that a grant must hold: those of enabled queues and rings, and the connection blocks (R479, R480). -/
def State.carried (s : State) (k : Nat) : List Nat :=
  ((List.range 4).filter (fun j => (s.cq (4 * k + j)).en)).map (fun j => (s.cq (4 * k + j)).base.toNat) ++
  ((s.slicePairs k).filter RingPair.en).flatMap (fun r => [r.sqAddr, r.cqAddr]) ++ (s.sliceSchs k).map (fun n => (s.sch n).cb * 256)

/-- The number of a slice's state in SLCTL. -/
def SliceState.number : SliceState → Nat
  | .free => 0
  | .running => 1
  | .freezing => 2
  | .frozen => 3
  | .saved => 4

/-- The length of an image of n subchannels (R480). -/
def imageLength (n : Nat) : Nat := 0x600 + 32 * n + 8

/-- A subchannel's record (R480). -/
def State.schRecord (s : State) (n : Nat) : List Byte :=
  let e := s.sch n
  [BitVec.ofNat 64 n ||| fieldAt (BitVec.ofNat 2 e.typ) 20, e.cfg, e.bind, e.journal].flatMap wordBytes

/-- The subchannels of a slice in ascending order. -/
def State.sortedSchs (s : State) (k : Nat) : List Nat := (s.sliceSchs k).mergeSort (fun a b => decide (a ≤ b))

/-- The image of a slice without its last doubleword (R480). -/
def State.imageBody (s : State) (k : Nat) (beat : Word) : List Byte :=
  let schs := s.sortedSchs k
  let ws := fun (l : List Word) => l.flatMap wordBytes
  bytesOf 4 0x5A534C43 ++ bytesOf 2 1 ++ bytesOf 2 0 ++ bytesOf 4 (imageLength schs.length) ++ bytesOf 4 schs.length ++
  wordBytes beat ++ bytesOf 2 k ++ bytesOf 2 (s.slice k).pid.toNat ++ List.replicate 4 0 ++
  ws ((s.slice k).grants.flatMap Grant.words) ++ List.replicate 160 0 ++
  ws ((List.range 4).flatMap (fun j => (s.cq (4 * k + j)).words (s.css.holds (4 * k + j)))) ++
  ws ((s.slicePairs k).flatMap RingPair.words) ++ List.replicate 16 0 ++
  ws ((List.range 64).flatMap (fun i => [s.kstat k i 0, s.kcur k i])) ++ schs.flatMap s.schRecord

/-- The image of a slice (R480). -/
def State.image (s : State) (k : Nat) (beat : Word) : List Byte :=
  let b := s.imageBody k beat
  b ++ wordBytes (zext (crc32c b))

/-- The address that SLARG names. -/
def Slices.imageAt (x : Slices) : Nat := x.addr.toNat * 8

/-- RESULT of a SAVE (R475, R479): the first check of the table that fails. -/
def State.saveVerdict (s : State) (k : Nat) : Nat :=
  if (s.slice k).st ≠ .frozen then 1
  else if s.sliceActive k then 3
  else if s.sliceJournaled k then 4
  else if (s.slicePairs k).any (fun r => r.sqHead != r.tailAt) then 5
  else if s.capacity < s.slices.imageAt + imageLength (s.sliceSchs k).length then 6
  else if (s.carried k).any (fun a => !(s.slice k).grants.any (fun g => g.covers a 1)) then 6
  else 0

/-- The end of a SAVE (R479, R480). -/
def State.endSave (s : State) (k : Nat) (beat : Word) : Option State :=
  let r := s.saveVerdict k
  if r ≠ 0 then some (s.slResult (BitVec.ofNat 8 r))
  else
    let img := s.image k beat
    (s.devWrite 0x880 s.slices.imageAt img).map fun s =>
      ((s.setSliceState k .saved).modSlices fun x => { x with len := BitVec.ofNat 32 img.length }).slResult 0

/-! RESTORE. -/

/-- A doubleword of an image. -/
def sliceWord (img : List Byte) (off : Nat) : Word := wordOf ((img.drop off).take 8)

/-- A field of n bytes of an image. -/
def sliceNat (img : List Byte) (off n : Nat) : Nat := natOf ((img.drop off).take n)

/-- The bits of the ports of a queue and of a ring pair that hold fields. -/
def cqMasks : List Word := [0x000FFFFFFFFFF000, 0xF, 0xFFFF, 0x3FFFF, 0x1FF03]
def pairMasks : List Word := [0x000FFFFFFFFFF00F, 0xFFFFFFFF, 0x000FFFFFFFFFF00F, 0x1FFFFFFFF, 0x1FF03]

/-- Whether the doublewords of an image from an offset on hold nothing outside their masks. -/
def masksOk (img : List Byte) (off : Nat) (ms : List Word) : Bool :=
  (ms.zipIdx).all (fun p => sliceWord img (off + 8 * p.2) &&& ~~~p.1 == 0)

/-- The number of subchannel records. -/
def imgSchs (img : List Byte) : Nat := sliceNat img 0xC 4

/-- Whether every reserved field of an image is zero (R480, RESULT 7). -/
def imgReserved (img : List Byte) : Bool :=
  decide (sliceNat img 0x18 2 < 1024) && sliceNat img 0x1C 4 == 0 && sliceNat img 0x60 160 == 0 && sliceNat img 0x1F0 16 == 0 &&
  masksOk img 0x20 [0x800FFFFFFFE00000, 0x7FFFFF, 0x800FFFFFFFE00000, 0x7FFFFF, 0x800FFFFFFFE00000, 0x7FFFFF, 0x800FFFFFFFE00000, 0x7FFFFF] &&
  masksOk img 0x100 (cqMasks ++ cqMasks ++ cqMasks ++ cqMasks ++ pairMasks ++ pairMasks) &&
  (List.range 64).all (fun i => masksOk img (0x200 + 16 * i) [0xFFFFFFFF0FFFF001]) &&
  (List.range (imgSchs img)).all (fun i =>
    masksOk img (0x600 + 32 * i) [0x3FFFFF, 0xFFFFFF8000000000, 0x000FFFFFFFFFFF00, 0xFFFFFFFFFFFF0000])

/-- FORMAT (RESULT 7). -/
def imgFormat (img : List Byte) : Bool :=
  sliceNat img 0 4 == 0x5A534C43 && decide (imgSchs img ≤ 2 ^ 20) && img.length == imageLength (imgSchs img) && imgReserved img &&
  sliceWord img (img.length - 8) == zext (crc32c (img.take (img.length - 8)))

/-- A source grant of an image. -/
def imgGrant (img : List Byte) (g : Nat) : Grant :=
  let b := sliceWord img (0x20 + 16 * g)
  { en := bitAt b 63, base := fld b 21 31, size := fld (sliceWord img (0x28 + 16 * g)) 0 23 }

/-- An address relocated (R481). -/
def State.relocate (s : State) (k : Nat) (img : List Byte) (a : Nat) : Nat :=
  match (List.range 4).find? (fun g => (imgGrant img g).covers a 1) with
  | some g => a - (imgGrant img g).lo + ((s.slice k).grants.getD g { en := false, base := 0, size := 0 }).lo
  | none => a

/-- Whether each enabled source grant has its target (R481). -/
def State.grantsFit (s : State) (k : Nat) (img : List Byte) : Bool :=
  (List.range 4).all fun g =>
    let t := (s.slice k).grants.getD g { en := false, base := 0, size := 0 }
    !(imgGrant img g).en || (t.en && decide ((imgGrant img g).size.toNat ≤ t.size.toNat))

/-- A queue of an image (R480, R482). -/
def State.imgCq (s : State) (k : Nat) (img : List Byte) (j : Nat) : Cq :=
  let w := fun i => sliceWord img (0x100 + 40 * j + 8 * i)
  { base := BitVec.ofNat 64 (s.relocate k img (w 0).toNat), size := fld (w 1) 0 4, head := fld (w 2) 0 16, phase := bitAt (w 3) 16, tail := fld (w 3) 0 16,
    err := false, lcn := fld (w 4) 8 8, irq := bitAt (w 4) 1, en := bitAt (w 4) 0 }

/-- A ring pair of an image (R480, R482). -/
def State.imgPair (s : State) (k : Nat) (img : List Byte) (off : Nat) : RingPair :=
  let w := fun i => sliceWord img (off + 8 * i)
  let base := fun (v : Word) => BitVec.ofNat 40 (s.relocate k img ((fld v 12 40).toNat * 4096) / 4096)
  { sqBase := base (w 0), sqSize := fld (w 0) 0 4, sqHead := (fld (w 1) 16 16).toNat, sqTail := fld (w 1) 0 16,
    cqBase := base (w 2), cqSize := fld (w 2) 0 4, cqHead := fld (w 3) 0 16, cqTail := (fld (w 3) 16 16).toNat, phase := bitAt (w 3) 32,
    err := false, lcn := fld (w 4) 8 8, irq := bitAt (w 4) 1, en := bitAt (w 4) 0, taken := 0 }

/-- Whether the relocated queues and rings pass R307 and R365. -/
def State.relocatedOk (s : State) (k : Nat) (img : List Byte) : Bool :=
  (List.range 4).all (fun j => let q := s.imgCq k img j; !q.en || s.ringInMemory q.base.toNat (32 * q.entries)) &&
  [0x1A0, 0x1C8].all (fun off => let r := s.imgPair k img off; !r.en || s.ringsOk k r)

/-- The number of the subchannel of a record. -/
def imgSchNo (img : List Byte) (i : Nat) : Nat := (sliceWord img (0x600 + 32 * i)).toNat % 2 ^ 20

/-- RESULT of a RESTORE (R475, R482): the first check of the table that fails. -/
def State.restoreVerdict (s : State) (k len : Nat) (img : List Byte) : Nat :=
  if (s.slice k).st ≠ .free then 1
  else if s.pidInUse k then 2
  else if s.capacity < s.slices.imageAt + imageLength 0 ∨ s.capacity < s.slices.imageAt + len then 6
  else if img.length ≠ len ∨ imgFormat img = false then 7
  else if sliceNat img 4 2 ≠ 1 ∨ sliceNat img 6 2 ≠ 0 then 8
  else if (List.range (imgSchs img)).any (fun i => s.schValid (s.sch (imgSchNo img i))) then 9
  else if !s.grantsFit k img || !s.relocatedOk k img then 10
  else 0

/-- The subchannel of a record established (R482). -/
def State.restoreSch (s : State) (k : Nat) (img : List Byte) (i : Nat) : State :=
  let n := imgSchNo img i
  let w := fun j => sliceWord img (0x600 + 32 * i + 8 * j)
  let s := s.tableStore (schAddr n) (at_ true 63 ||| fieldAt (fld (w 0) 20 2) 61 ||| fieldAt (BitVec.ofNat 3 stDown) 57)
  let s := s.tableStore (schAddr n + 8) (putFld (w 1) 54 (BitVec.ofNat 10 k))
  let s := s.tableStore (schAddr n + 16) (fieldAt (BitVec.ofNat 44 (s.relocate k img ((fld (w 2) 8 44).toNat * 256) / 256)) 8)
  let s := s.tableStore (schAddr n + 24) (putFld (w 3) 16 (0 : BitVec 16))
  let s := s.modCss fun c => { c with
    incs := assoc c.incs n ((c.inc n + 1) % 4096), senses := unassoc c.senses n, conns := unassoc c.conns n }
  if s.schValid (s.sch n) then s.beginOpening n else s

/-- LENGTH of the image that SLARG names, and the image, of which LENGTH tells how much is read, up to the longest image there is; nothing of an image that lies outside main memory or holds poison (log 165). -/
def State.readImage (s : State) : Nat × List Byte × State :=
  let a := s.slices.imageAt
  let len := sliceNat (s.devBytes a 16) 8 4
  if s.capacity < a + imageLength 0 ∨ s.capacity < a + len then (len, [], s)
  else match s.devRead 0x880 a (min len (imageLength (2 ^ 20))) with
    | (some bs, s) => (len, bs, s)
    | (none, s) => (len, [], s)

/-- The end of a RESTORE (R482). -/
def State.endRestore (s : State) (k : Nat) : State :=
  let (len, img, s) := s.readImage
  let r := s.restoreVerdict k len img
  if r ≠ 0 then s.slResult (BitVec.ofNat 8 r)
  else
    let queues := (List.range 4).map (fun j => (4 * k + j, s.imgCq k img j))
    let cz := s.imgPair k img 0x1A0
    let cx := s.imgPair k img 0x1C8
    let s := s.modCss fun c => { c with queues := queues ++ c.queues.filter (fun p => p.1 / 4 != k) }
    let s := { s with
      cz := { s.cz with rings := assoc s.cz.rings k cz },
      cx := { s.cx with rings := assoc s.cx.rings k cx, keys := s.cx.keys.filter (fun p => p.1 / 64 != k) } }
    ((List.range (imgSchs img)).foldl (fun s i => s.restoreSch k img i) (s.setSliceState k .frozen)).slResult 0

/-! The command port and the rows. -/

/-- A write of SLCMD (R14, R474): OP and SLICE are ignored while BUSY is 1; reserved values of OP act as 0. None while it has to wait. -/
def State.sliceCommand (s : State) (op k : Nat) : Option State :=
  if s.slices.job.isSome then some s
  else
    let s := s.modSlices fun x => { x with slice := BitVec.ofNat 10 k }
    match op with
    | 1 => some (s.slEnable k)
    | 2 => s.slFreeze k
    | 3 => some (s.slThaw k)
    | 4 => some (s.modSlices fun x => { x with job := some (.save k s.beatc) })
    | 5 => some (s.modSlices fun x => { x with job := some (.restore k s.beatc) })
    | 6 => some (s.slRelease k)
    | _ => some s

/-- A row of SLCMD. -/
def sliceRow (op k : Nat) (s : State) : Out := if 1024 ≤ k then .refused .illFormed else portRow .slcmd (fun s => orSame s (s.sliceCommand op k)) s

/-- ENABLE (R474). -/
def execSliceEnable (slice : Nat) (s : State) : Out := sliceRow 1 slice s

/-- FREEZE (R476). -/
def execSliceFreeze (slice : Nat) (s : State) : Out := sliceRow 2 slice s

/-- THAW (R478): fetching resumes at the next boundary. -/
def execSliceThaw (slice : Nat) (s : State) : Out := sliceRow 3 slice s

/-- SAVE (R474, R479): BUSY until the image is written. -/
def execSliceSave (slice : Nat) (s : State) : Out := sliceRow 4 slice s

/-- RESTORE (R474, R482): BUSY until the state is taken. -/
def execSliceRestore (slice : Nat) (s : State) : Out := sliceRow 5 slice s

/-- RELEASE (R483). -/
def execSliceRelease (slice : Nat) (s : State) : Out := sliceRow 6 slice s

/-- FREEZE_COMPLETE (R476): the first boundary at which no operation of the slice's subchannels is in flight. -/
def execFreezeComplete (slice : Nat) (s : State) : Out :=
  let x := s.slice slice
  if x.st = .freezing ∧ 1 ≤ s.since x.since ∧ s.sliceOps slice = [] ∧ s.weir.safe = false then .next (s.setSliceState slice .frozen)
  else .next s

/-- SLICE_BUSY_END (R474): the SAVE or RESTORE in progress is decided and carried out, and BUSY falls. -/
def execSliceBusyEnd (s : State) : Out :=
  if s.weir.safe then .next s
  else match s.slices.job with
    | none => .next s
    | some (.save k beat) => orSame s ((s.endSave k beat).map fun s => s.modSlices fun x => { x with job := none })
    | some (.restore k _) => .next ((s.endRestore k).modSlices fun x => { x with job := none })

end Sys2Proof.Machine
end

