-- ==== Sys2Proof/Machine/PortRead.lean ====
section
/-! DEFINITION. What a read of each port returns, and what it clears (00 R11-R13, and the port tables of every chapter). -/

namespace Sys2Proof.Machine

/-- A number in a field of w bits from bit lo. -/
def num (w lo n : Nat) : Word := fieldAt (BitVec.ofNat w n) lo

/-- A list of bits, the first in bit lo. -/
def bitsAt (lo : Nat) (bs : List Bool) : Word := (bs.zipIdx).foldl (fun w p => w ||| at_ p.1 (lo + p.2)) 0

/-! The capability chain (R505-R508). -/

/-- A header: ID, VERSION 1, ENABLED, NEXT and LENGTH. -/
def capHeader (id next len : Nat) : Word := num 16 48 id ||| num 8 40 1 ||| num 8 32 1 ||| num 24 8 next ||| num 8 0 len

/-- The life-cycle body (R507). -/
def Fuses.capWord (f : Fuses) : Word :=
  num 8 56 f.state ||| num 8 48 f.bsvn ||| num 8 40 f.msvn ||| num 8 32 (min 255 (256 - f.svc))

/-- The doubleword of the chain at an offset. -/
def State.capAt (s : State) (off : Nat) : Word :=
  match off with
  | 0x00 => capHeader 1 0x30 5
  | 0x08 => 0x53582D393034382D
  | 0x10 => 0x4C43000000000000
  | 0x18 => 0x4230
  | 0x20 => zext Config.macBase
  | 0x28 => s.life.serial
  | 0x30 => capHeader 2 0x10 1
  | 0x38 => s.life.fuses.capWord
  | 0x40 => capHeader 0x10 0x10 1
  | 0x48 => 0xF00000
  | 0x50 => capHeader 0x11 0x10 1
  | 0x58 => 0xA00000
  | 0x60 => capHeader 0x12 0x10 1
  | 0x68 => 0xC00000
  | 0x70 => capHeader 0x13 0x10 1
  | 0x78 => 0xC00100
  | _ => 0

/-! Core-local, Pool and memory ports. -/

/-- INTPEND (R139). -/
def State.intpend (s : State) (n : Nat) : Word :=
  let c := s.core n
  bitsAt 0 [c.swi, c.pmi, c.tmr, s.iocPending n, c.ici, decide (0 < s.weirLevel n), c.dsl.isSome, c.mca.isSome]

/-- A comparator of a core. -/
def Core.timer (c : Core) (i : Nat) : Timer := c.timers.getD i Timer.reset

/-- POOLMODE (R255). -/
def Pool.modeWord (p : Pool) : Word := bitsAt 0 [p.force, false, p.start, p.atest.isSome, p.spare, p.deg, p.filt, p.cw, p.ccw]

/-- POOLWAYk (R263). -/
def Pool.wayWord (p : Pool) (k : Nat) : Word :=
  let v := p.ways.getD k { dis := 0, drain := [] }
  zext v.dis ||| at_ (!v.drain.isEmpty) 16 ||| num 3 17 (popLow v.dis.toNat 16)

/-- MEMCFG (R270). -/
def MemCtl.cfgWord (m : MemCtl) : Word := fieldAt m.capG 16 ||| at_ m.ready 4 ||| at_ m.dpc 2 ||| zext m.size

/-- MEMGRPg (R283). -/
def MemGroup.word (g : MemGroup) : Word := at_ g.lost 4 ||| at_ g.deg 3 ||| zext g.fch

/-- MEMCHn (R281). -/
def MemChannel.word (c : MemChannel) : Word := at_ c.failed 32 ||| fieldAt c.cause 24 ||| zext c.pres

/-! Channel subsystem, slices and Ethernet. -/

/-- SLCTL of a slice (R471). -/
def Slice.ctlWord (x : Slice) : Word := fieldAt x.pid 16 ||| num 3 0 x.st.number

/-- SLCMD (R475). -/
def Slices.cmdWord (x : Slices) : Word := fieldAt x.slice 16 ||| fieldAt x.result 8 ||| at_ x.job.isSome 7

/-- A grant of a slice. -/
def Slice.grant (x : Slice) (g : Nat) : Grant := x.grants.getD g { en := false, base := 0, size := 0 }

/-- ETHCFG. -/
def EthPort.cfgWord (x : EthPort) : Word := fieldAt x.mtu 16 ||| at_ x.mgmt 4 ||| zext x.mode

/-- ETHSTAT. -/
def State.ethStat (s : State) (p : Nat) : Word :=
  let x := s.port p
  at_ x.leat 11 ||| at_ (s.isStandby p) 10 ||| fieldAt x.fec 8 ||| fieldAt x.subup 4 ||| at_ x.link 0

/-- ETHPFC. -/
def EthPort.pfcWord (x : EthPort) : Word :=
  bitsAt 8 ((List.range 8).map (fun i => x.paused.any (fun q => q.1 == i))) ||| zext x.pfcEn

/-! Engines and keys. -/

/-- CZENG and CXENG without INSVC and SFREE: the engines at work. -/
def busyBits {α : Type} (lo : Nat) (xs : List (Option α)) : Word := bitsAt lo (xs.map Option.isSome)

/-- LKSTAT of a Leat port (R399, R400). -/
def LeatSec.word (l : LeatSec) : Word :=
  fieldAt l.vfail 16 ||| bitsAt 12 (l.rx.map Option.isSome) ||| bitsAt 8 (l.tx.map Option.isSome) ||| at_ l.txOn 7 ||| num 2 0 l.txAn

/-- LKCMD. -/
def Cx.lkWord (c : Cx) : Word := fieldAt c.lkResult 16 ||| at_ c.lkRx 9 ||| at_ c.lkPort 8 ||| fieldAt c.lkAn 6

/-! Weir. -/

/-- Sources that f selects. -/
def Weir.howMany (w : Weir) (f : WeirSource → Bool) : Nat := (w.sources.filter (fun p => f p.2)).length

/-- WSTAT. -/
def Weir.statWord (w : Weir) : Word :=
  num 12 32 (w.howMany WeirSource.fat) ||| num 12 16 (w.howMany WeirSource.sev) ||| at_ w.tkreq 2 ||| at_ w.parity 1 ||| at_ w.safe 0

/-- WSUMi. -/
def Weir.sumWord (w : Weir) (i : Nat) : Word :=
  bitsAt 0 ((List.range 64).map (fun j => let x := w.source (64 * i + j); srcAssigned (64 * i + j) && (x.sev || x.fat || x.npend)))

/-- WSRCCFG, WSRCACT, WSRCSTAT and WSRCCNT. -/
def WeirSource.cfgWord (x : WeirSource) : Word := fieldAt x.k 24 ||| fieldAt x.n 16 ||| fieldAt x.lcn 8
def WeirSource.actWord (x : WeirSource) : Word := fieldAt x.actF 48 ||| fieldAt x.actS 32 ||| fieldAt x.actR 16 ||| zext x.actC
def WeirSource.statWord (x : WeirSource) : Word := fieldAt x.wcnt 24 ||| bitsAt 0 [x.cor, x.recov, x.sev, x.fat, x.npend]

/-! Continuity. -/

/-- STATE of COPSLOT. -/
def SlotState.number : SlotState → Nat
  | .empty => 0
  | .ready => 1
  | .failed => 2
  | .claimed => 3

/-- COPSLOTi (R421). -/
def Slot.word (x : Slot) : Word := num 32 32 (min x.passes (2 ^ 32 - 1)) ||| num 16 16 (min x.fails 65535) ||| num 6 8 x.phys ||| num 3 0 x.st.number

/-- CTMAPn; the PCN of an absent LCN is not stated, and free. -/
def State.mapWord (s : State) (n : Nat) : Word × State :=
  let c := s.core n
  if c.run = .absent then (s.takeFree.1 &&& 0x3F, s.takeFree.2) else (at_ true 8 ||| at_ c.sparing 7 ||| num 6 0 c.pcn, s)

/-- CTCPMAPi; the physical CP of an absent logical CP is not stated, and free. -/
def State.cpMapWord (s : State) (i : Nat) : Word × State :=
  match s.ct.lcp.getD i none with
  | none => (s.takeFree.1 &&& 0x3F, s.takeFree.2)
  | some c => (at_ true 8 ||| at_ (!s.cpRuns i) 7 ||| num 6 0 c, s)

/-- CTGREGr (R434). -/
def GuardRegion.word (g : GuardRegion) : Word := at_ g.en 63 ||| at_ g.err 62 ||| fieldAt g.base 21 ||| zext g.size

/-- CTPAIR. -/
def Ct.pairWord (c : Ct) : Word :=
  at_ c.soloAct 11 ||| at_ c.armed 10 ||| num 1 9 (roleCode c.role) ||| at_ (!c.witReqs.isEmpty) 3 ||| num 3 0 (pstateCode c.pstate)

/-! Plant. -/

/-- PLTOD. -/
def Plant.todWord (p : Plant) : Word := bitsAt 1 [p.todValid, p.refOk, p.ppsOk, p.ppsNew]

/-- SNSn (R461). -/
def Plant.snsWord (p : Plant) (n : Nat) : Word :=
  let x := p.sensor n
  at_ x.valid 31 ||| at_ x.hi 30 ||| at_ x.lo 29 ||| num 4 16 (sensorType n) ||| zext x.value

/-- PLPOWER, PLTHERM, PLPUMP and PLSEQ. -/
def Plant.powerWord (p : Plant) : Word :=
  fieldAt p.res 48 ||| fieldAt p.hmin 32 ||| fieldAt p.hstop 16 ||| bitsAt 0 [p.stable, p.inp, p.bmuOk, p.hupol]
def Plant.thermWord (p : Plant) : Word := fieldAt p.tshut 32 ||| fieldAt p.tcrit 16 ||| zext p.tset
def Plant.pumpWord (p : Plant) : Word :=
  fieldAt p.fmin 48 ||| fieldAt p.pmin 32 ||| at_ p.failB 25 ||| at_ p.failA 24 ||| fieldAt p.duty 16 ||| fieldAt p.dmin 8 ||| at_ p.man 0
def Plant.seqWord (p : Plant) : Word := fieldAt p.fails 8 ||| fieldAt p.frail 3 ||| zext p.last

/-! Every port. -/

/-- What a port holds, as a read by core n returns it; some values are free. -/
def State.portValue (s : State) (n : Nat) : Port → Word × State
  | .cap off => (s.capAt off, s)
  | .intpend => (s.intpend n, s)
  | .icisend => (0, s)
  | .icisrc => (zext (s.core n).iciSrc, s)
  | .tcmp i => (((s.core n).timer i).cmp, s)
  | .tctl i => (((s.core n).timer i).ctl, s)
  | .poolmode => (s.pool.modeWord, s)
  | .poolwin => (bitsAt 0 [s.pool.lock, s.pool.locked, s.pool.lockFail], s)
  | .poolrib => (zext s.pool.ribBase, s)
  | .poolril => (zext s.pool.ribLines, s)
  | .poolric => (bitsAt 1 [s.pool.ricOp, s.pool.ricBusy, s.pool.ricDone], s)
  | .poolway k => (s.pool.wayWord k, s)
  | .memcfg => (s.mc.cfgWord, s)
  | .memscrub => (num 32 8 s.mc.passes ||| zext s.mc.period, s)
  | .memgrp g => (((s.mc.groups[g]?).map MemGroup.word).getD 0, s)
  | .memch i => (((s.mc.channels[i]?).map MemChannel.word).getD 0, s)
  | .cssinfl => (num 17 32 s.css.peak ||| num 17 0 s.css.ops.length, s)
  | .mschsel => (zext s.css.sel, s)
  | .mschcfg => (fieldAt s.css.cfg 39, s)
  | .mschbind => (fieldAt s.css.bind 8, s)
  | .mschcmd => (fieldAt s.css.result 8 ||| at_ s.css.g 6 ||| fieldAt s.css.typ 4, s)
  | .csslcp => (bitsAt 0 (s.ct.lcp.map Option.isSome), s)
  | .scpcfg => (zext s.css.udpPort, s)
  | .cssfgen => (zext s.ct.fgen, s)
  | .scpstat => (fieldAt s.css.unkConn 32 ||| fieldAt s.css.malform 16 ||| zext s.css.crcErr, s)
  | .slcmd => (s.slices.cmdWord, s)
  | .slarg => (fieldAt s.slices.addr 3, s)
  | .sllen => (zext s.slices.len, s)
  | .slctl k => ((s.slice k).ctlWord, s)
  | .slgb k g => (((s.slice k).grant g).words.getD 0 0, s)
  | .slgs k g => (((s.slice k).grant g).words.getD 1 0, s)
  | .ethcfg p => ((s.port p).cfgWord, s)
  | .ethstat p => (s.ethStat p, s)
  | .ethmac p => (zext (s.port p).mac, s)
  | .ethpfc p => ((s.port p).pfcWord, s)
  | .ethcnt p i => ((s.port p).cnt.getD i 0, s)
  | .czeng => (busyBits 4 s.cz.engines ||| zext s.cz.insvc, s)
  | .cxeng => (num 10 16 s.cx.chunksFree ||| busyBits 8 s.cx.engines ||| zext s.cx.insvc, s)
  | .lkcmd => (s.cx.lkWord, s)
  | .lkdata _ => (0, s)
  | .lkstat p => ((s.leatSec p).word, s)
  | .wcfg => (zext s.weir.dlcn, s)
  | .wstat => (s.weir.statWord, s)
  | .wlogptr => (fieldAt s.weir.drop 32 ||| zext s.weir.next, s)
  | .wlogsel => (zext s.weir.logSel, s)
  | .wlogd i => (s.weir.logD.getD i 0, s)
  | .wsum i => (s.weir.sumWord i, s)
  | .wsrccfg k => ((s.weir.source k).cfgWord, s)
  | .wsrcact k => ((s.weir.source k).actWord, s)
  | .wsrcstat k => ((s.weir.source k).statWord, s)
  | .wsrccnt k => (zext (s.weir.source k).total, s)
  | .ctcmd => (fieldAt s.ct.result 16 ||| fieldAt s.ct.tgt 8, s)
  | .ctarg => (s.ct.arg, s)
  | .ctpair => (s.ct.pairWord, s)
  | .ctpairid => (s.ct.pairId, s)
  | .jstat => (fieldAt s.ct.nextgen 32 ||| num 24 0 s.ct.freeUnits, s)
  | .jtail => (fieldAt s.ct.tailgen 32 ||| num 24 0 s.ct.tail, s)
  | .cthb => (fieldAt s.ct.hseqAcc 32 ||| fieldAt s.ct.rej 16 ||| zext s.ct.lost, s)
  | .ctwit => (fieldAt s.ct.witCb 8 ||| at_ s.ct.witEn 0, s)
  | .ctmap i => s.mapWord i
  | .ctcpmap i => s.cpMapWord i
  | .copslot i => ((s.slot i).word, s)
  | .ctgreg r => (((s.ct.regions[r]?).map GuardRegion.word).getD 0, s)
  | .ctwkey _ => (0, s)
  | .rstcmd => (fieldAt s.ct.rstResult 16 ||| fieldAt s.ct.rstTgt 8, s)
  | .rsth i => (s.ct.rsth.getD i 0, s)
  | .lcctl => (fieldAt s.life.lcResult 24 ||| fieldAt s.life.lcTarget 8, s)
  | .lcdata _ => (0, s)
  | .pltod => (s.plant.todWord, s)
  | .pltodseth => (s.plant.setH, s)
  | .pltodsetl => (s.plant.setL, s)
  | .plslew => (zext s.plant.slew, s)
  | .plppsh => (s.plant.ppsH, s)
  | .plppsl => (s.plant.ppsL, s)
  | .plpower => (s.plant.powerWord, s)
  | .pltherm => (s.plant.thermWord, s)
  | .plpump => (s.plant.pumpWord, s)
  | .plseq => (s.plant.seqWord, s)
  | .sns i => (s.plant.snsWord i, s)
  | .snslim i => (fieldAt (s.plant.sensor i).limHi 16 ||| zext (s.plant.sensor i).limLo, s)
  | .cq k j r => (((s.cq (4 * k + j)).words (s.css.holds (4 * k + j))).getD r 0, s)
  | .cz k r => ((s.czRing k).words.getD r 0, s)
  | .cx k r => ((s.cxRing k).words.getD r 0, s)
  | .kcmd k => (fieldAt (s.keyPorts k).result 16 ||| fieldAt (s.keyPorts k).slot 8, s)
  | .kattr k => ((s.keyPorts k).attr, s)
  | .kstat k => (s.kstat k (s.keyPorts k).slot.toNat (s.latched k (s.keyPorts k).slot.toNat), s)
  | .kcur k => (s.kcur k (s.keyPorts k).slot.toNat, s)
  | .kdata _ _ => (0, s)
  | .mclbuf _ => (0, s)
  | .mclctl => (0, s)
  | .mcllen => (zext s.life.mclLen, s)
  | .mclstat => (fieldAt s.life.mclStatus 8 ||| bitsAt 0 [s.life.mclBusy, s.life.mclVerified, s.life.mclActive], s)

/-- Whether a port has a field of access RC. -/
def Port.readClears : Port → Bool
  | .icisrc | .tctl _ | .cssinfl | .scpstat | .lkstat _ | .wlogptr | .cthb => true
  | _ => false

/-- What a read clears (R11): the RC fields of the port. -/
def State.afterRead (s : State) (n : Nat) : Port → State
  | .icisrc => s.modCore n fun c => { c with iciSrc := 0 }
  | .tctl i => s.modCore n fun c => { c with timers := modAt c.timers i (fun t => { t with ctl := putFld t.ctl 24 (0 : Byte) }) }
  | .cssinfl => s.modCss fun c => { c with peak := 0 }
  | .scpstat => s.modCss fun c => { c with unkConn := 0, malform := 0, crcErr := 0 }
  | .lkstat p => s.modLeat p fun l => { l with vfail := 0 }
  | .wlogptr => { s with weir := { s.weir with drop := 0 } }
  | .cthb => s.modCt fun c => { c with rej := 0 }
  | _ => s

/-- The window roll that a source owes comes before an access to its ports (R404, R419). -/
def State.settlePort (s : State) : Port → State
  | .wsrccfg k | .wsrcact k | .wsrcstat k | .wsrccnt k => s.rollNow k
  | _ => s

/-- A read of a port by core n (R10, R11): a port that does not live in the life-cycle state reads as zero and is not touched. -/
def State.portRead (s : State) (n : Nat) (p : Port) : Word × State :=
  if s.portLives p then
    let (v, s) := (s.settlePort p).portValue n p
    (v, s.afterRead n p)
  else (0, s)

end Sys2Proof.Machine
end

