-- ==== Sys2Proof/Machine/PortWrite.lean ====
section
/-! DEFINITION. What a write of each port does (00 R11-R14, R529, and the port tables of every chapter). -/

namespace Sys2Proof.Machine

/-! Core-local ports. -/

/-- INTPEND written (R139): ICI is W1C and SWI is RW. -/
def Core.writeIntpend (c : Core) (v : Word) : Core := { c with ici := c.ici && !bitAt v 4, swi := bitAt v 0 }

/-- TCTL written (R459): PERIOD, IE and ARM are stored, MISS stays, and MATCH falls by a 1 in MATCH or in ARM. -/
def Timer.writeCtl (t : Timer) (v : Word) : Timer :=
  let hold := bitAt t.ctl 2 && !bitAt v 2 && !bitAt v 0
  { t with ctl := (v &&& 0xFFFFFFFF00000003) ||| (t.ctl &&& 0xFF000000) ||| at_ hold 2 }

/-- A comparator of core n changed. -/
def State.modTimer (s : State) (n i : Nat) (f : Timer → Timer) : State := s.modCore n fun c => { c with timers := modAt c.timers i f }

/-! The Pool. -/

/-- POOLRIC written (R268, R529): DONE is W1C, OP is stored, and GO starts what OP says. -/
def State.writePoolric (s : State) (v : Word) : State :=
  let s := s.modPool fun p => { p with ricDone := p.ricDone && !bitAt v 3, ricOp := bitAt v 1 }
  if bitAt v 0 then s.startRange (bitAt v 1) else s

/-! The channel subsystem and the slices. -/

/-- MSCHCMD written (R292, R529). -/
def State.writeMschcmd (s : State) (v : Word) : State :=
  let s := s.setCmdFields (fld v 4 2) (bitAt v 6)
  match (fld v 0 3).toNat with
  | 1 => s.establish (fld v 4 2) (bitAt v 6)
  | 2 => s.modify
  | 3 => s.remove
  | _ => s

/-- SLCTL written: PID, unless the slice is not FREE (R471). -/
def Slice.writeCtl (x : Slice) (v : Word) : Slice := if x.st = .free then { x with pid := fld v 16 16 } else x

/-- A grant of a slice changed. -/
def State.modGrant (s : State) (k g : Nat) (f : Grant → Grant) : State := s.modSlice k fun x => { x with grants := modAt x.grants g f }

/-- A register of a completion queue written (R304-R308). -/
def State.writeCq (s : State) (q r : Nat) (v : Word) : State :=
  match r with
  | 0 => s.modCq q fun x => if x.en then x else { x with base := v &&& 0x000FFFFFFFFFF000 }
  | 1 => s.modCq q fun x => if x.en then x else { x with size := fld v 0 4 }
  | 2 => s.modCq q fun x => { x with head := fld v 0 16 }
  | 4 => s.writeCqCtl q v
  | _ => s

/-- The base and size of a descriptor ring or a completion ring written, unless the rings are enabled (R365). -/
def RingPair.writeBase (r : RingPair) (sq : Bool) (v : Word) : RingPair :=
  if r.en then r
  else if sq then { r with sqBase := fld v 12 40, sqSize := fld v 0 4 }
  else { r with cqBase := fld v 12 40, cqSize := fld v 0 4 }

/-- A register of the compression rings written (R365-R368). -/
def State.writeCz (s : State) (k r : Nat) (v : Word) : State :=
  match r with
  | 0 => s.setCzRing k ((s.czRing k).writeBase true v)
  | 1 => s.writeCzTail k (fld v 0 16)
  | 2 => s.setCzRing k ((s.czRing k).writeBase false v)
  | 3 => s.setCzRing k { s.czRing k with cqHead := fld v 0 16 }
  | _ => s.writeCzCtl k v

/-- A register of the cipher rings written (R387). -/
def State.writeCx (s : State) (k r : Nat) (v : Word) : State :=
  match r with
  | 0 => s.setCxRing k ((s.cxRing k).writeBase true v)
  | 1 => s.writeCxTail k (fld v 0 16)
  | 2 => s.setCxRing k ((s.cxRing k).writeBase false v)
  | 3 => s.setCxRing k { s.cxRing k with cqHead := fld v 0 16 }
  | _ => s.writeCxCtl k v

/-- KCMD written (R383, R529). -/
def State.writeKcmd (s : State) (k : Nat) (v : Word) : State :=
  let slot := (fld v 8 6).toNat
  match (fld v 0 3).toNat with
  | 1 => s.loadKey k slot
  | 2 => s.eraseKey k slot
  | 3 => s.eraseAll k slot
  | _ => s.modKeyPorts k fun p => { p with slot := fld v 8 6 }

/-- The association that LKCMD names. -/
def lkName (v : Word) : SaName :=
  { rx := bitAt v 9, port := if bitAt v 8 then 1 else 0, an := ⟨(fld v 6 2).toNat, (fld v 6 2).isLt⟩ }

/-- LKCMD written (R400, R529). -/
def State.writeLkcmd (s : State) (v : Word) : State :=
  match (fld v 0 3).toNat with
  | 1 => s.installSa (lkName v)
  | 2 => s.activateSa (lkName v)
  | 3 => s.retireSa (lkName v)
  | _ => s.setLk (lkName v)

/-! Weir. -/

/-- CTPAIRID written: ignored unless PSTATE is SOLO; a change goes into the control area (R428). -/
def State.writePairId (s : State) (v : Word) : State :=
  if s.ct.pstate = .solo ∧ s.ct.pairId ≠ v then (s.modCt fun c => { c with pairId := v }).writeControl else s

/-- WSRCCFG written (R404, R412): a new W takes effect at the write, and the open window stays open until the first multiple of it (R419). -/
def WeirSource.writeCfg (x : WeirSource) (n : Nat) (beat v : Word) : WeirSource :=
  let y := { x with k := fld v 24 6, n := fld v 16 8, lcn := fld v 8 8 }
  if y.kAt n = x.kAt n then y else { y with since := some (BitVec.ofNat 64 (x.opened n beat)) }

/-- WSRCACT written (R408): the reserved bits of each field stay 0. -/
def WeirSource.writeAct (x : WeirSource) (v : Word) : WeirSource :=
  { x with actF := fld v 48 16 &&& 0xFF80, actS := fld v 32 16 &&& 0xFF80, actR := fld v 16 16 &&& 0xFF80, actC := fld v 0 16 &&& 0xFF80 }

/-- Weir changed. -/
def State.modWeir (s : State) (f : Weir → Weir) : State := { s with weir := f s.weir }

/-! Continuity. -/

/-- The witness connection ends (log 51): CLOSE goes to the witness, and nothing opens it again before EN = 1. -/
def State.closeWitness (s : State) : State :=
  let s := if (s.conn witnessKey).isUp then s.sendCtl witnessKey 6 (closeBytes rsnClosed) else s
  (s.closePath witnessKey rsnClosed false).modCt fun c => { c with witEn := false }

/-- CTWIT written (R446): CB is stored unless EN = 1; EN opens and closes the connection. -/
def State.writeCtwit (s : State) (v : Word) : State :=
  if s.ct.witEn then (if bitAt v 0 then s else s.closeWitness)
  else
    let s := s.modCt fun c => { c with witCb := fld v 8 44, witEn := bitAt v 0 }
    if bitAt v 0 then s.openWitness else s

/-! Plant. -/

/-- PLTOD written (R456, R458): PPSNEW is W1C, and SET asks for a load. -/
def State.writePltod (s : State) (v : Word) : State :=
  let s := s.modPlant fun p => { p with ppsNew := p.ppsNew && !bitAt v 4 }
  if bitAt v 0 then s.todSet else s

/-- PLPUMP written (R463, R464). -/
def Plant.writePump (p : Plant) (v : Word) : Plant := { p with fmin := fld v 48 16, pmin := fld v 32 16, dmin := fld v 8 8, man := bitAt v 0 }

/-- PLTHERM written. -/
def Plant.writeTherm (p : Plant) (v : Word) : Plant := { p with tshut := fld v 32 16, tcrit := fld v 16 16, tset := fld v 0 16 }

/-- PLPOWER written (R466). -/
def Plant.writePower (p : Plant) (v : Word) : Plant := { p with hmin := fld v 32 16, hstop := fld v 16 16, hupol := bitAt v 3 }

/-- SNSLIM of a channel written (R462). -/
def Sensor.writeLimits (x : Sensor) (v : Word) : Sensor := { x with limHi := fld v 16 16, limLo := fld v 0 16 }

/-! Microcode. -/

/-- A write of MCLBUF or MCLLEN (R241): ignored while BUSY; it clears VERIFIED. -/
def State.writeMcl (s : State) (f : Life → Life) : State :=
  if s.life.mclBusy then s else s.modLife fun l => { f l with mclVerified := false }

/-- MCLCTL written (R241, R244). With both bits set VERIFY acts first, and ACTIVATE on VERIFIED as it stood before the write (DESIGN CHOICE, log 153). -/
def State.writeMclctl (s : State) (v : Word) : State :=
  let s := if bitAt v 0 then s.mclVerify else s
  if bitAt v 1 then s.mclActivate else s

/-! Every port. -/

/-- What a write of a port by core n stores and starts. None while it has to wait. -/
def State.portStore (s : State) (n : Nat) (p : Port) (v : Word) : Option State :=
  match p with
  | .intpend => some (s.modCore n fun c => c.writeIntpend v)
  | .icisend => some (s.sendIci n (fld v 0 8).toNat)
  | .tcmp i => some (s.modTimer n i fun t => { t with cmp := v })
  | .tctl i => some (s.modTimer n i fun t => t.writeCtl v)
  | .poolmode => some (s.modPool fun p => { p with force := bitAt v 0 })
  | .poolwin => some (if bitAt v 0 then s.lockWindow else s)
  | .poolrib => some (s.modPool fun p => if p.ricBusy then p else { p with ribBase := fld v 0 44 })
  | .poolril => some (s.modPool fun p => if p.ricBusy then p else { p with ribLines := fld v 0 44 })
  | .poolric => some (s.writePoolric v)
  | .memscrub => some { s with mc := { s.mc with period := fld v 0 8 } }
  | .mschsel => some (s.modCss fun c => { c with sel := fld v 0 20 })
  | .mschcfg => some (s.modCss fun c => { c with cfg := fld v 39 25 })
  | .mschbind => some (s.modCss fun c => { c with bind := fld v 8 44 })
  | .mschcmd => some (s.writeMschcmd v)
  | .scpcfg => some (s.modCss fun c => { c with udpPort := fld v 0 16 })
  | .slcmd => s.sliceCommand (fld v 0 4).toNat (fld v 16 10).toNat
  | .slarg => some (s.modSlices fun x => { x with addr := fld v 3 49 })
  | .slctl k => some (s.modSlice k fun x => x.writeCtl v)
  | .slgb k g => some (s.modGrant k g fun x => { x with en := bitAt v 63, base := fld v 21 31 })
  | .slgs k g => some (s.modGrant k g fun x => { x with size := fld v 0 23 })
  | .ethcfg p => some (s.writeEthcfg p v)
  | .ethmac p => some (s.modPort p fun x => { x with mac := fld v 0 48 })
  | .ethpfc p => some (s.modPort p fun x => { x with pfcEn := fld v 0 7 })
  | .lkcmd => some (s.writeLkcmd v)
  | .lkdata i => some (s.modCx fun c => { c with lkData := c.lkData.set i v })
  | .wcfg => some (s.modWeir fun w => { w with dlcn := fld v 0 8 })
  | .wlogsel => some (s.selectLog v)
  | .wsrccfg k => some (s.modWeir fun w => w.modSource k fun x => x.writeCfg k s.beatc v)
  | .wsrcact k => some (s.modWeir fun w => w.modSource k fun x => x.writeAct v)
  | .wsrcstat k => some (s.clearStatus k v)
  | .ctcmd => s.ctCommand (fld v 0 4).toNat (fld v 8 8)
  | .ctarg => some (s.modCt fun c => { c with arg := v })
  | .ctpair => some (s.writeSoloAct (bitAt v 11))
  | .ctpairid => some (s.writePairId v)
  | .ctwit => some (s.writeCtwit v)
  | .ctgreg r => some (s.writeRegion r v)
  | .ctwkey i => some (s.modCt fun c => { c with witKey := c.witKey.set i v })
  | .rstcmd => some (s.rstCommand n (fld v 0 3).toNat (fld v 8 8))
  | .rsth i => some (s.modCt fun c => { c with rsth := c.rsth.set i v })
  | .lcctl => some (s.lcCommand (fld v 0 3).toNat (fld v 32 32) (fld v 8 3))
  | .lcdata i => some (s.modLife fun l => { l with lcData := l.lcData.set i v })
  | .pltod => some (s.writePltod v)
  | .pltodseth => some (s.modPlant fun p => { p with setH := v })
  | .pltodsetl => some (s.modPlant fun p => { p with setL := v })
  | .plslew => some (s.modPlant fun p => { p with slew := fld v 0 32 })
  | .plpower => some (s.modPlant fun p => p.writePower v)
  | .pltherm => some (s.modPlant fun p => p.writeTherm v)
  | .plpump => some (s.modPlant fun p => p.writePump v)
  | .snslim i => some (s.modPlant fun p => p.modSensor i fun x => x.writeLimits v)
  | .cq k j r => some (s.writeCq (4 * k + j) r v)
  | .cz k r => some (s.writeCz k r v)
  | .cx k r => some (s.writeCx k r v)
  | .kcmd k => some (s.writeKcmd k v)
  | .kattr k => some (s.modKeyPorts k fun p => { p with attr := v &&& 0xFFFFFFFF00FFF00F })
  | .kdata k i => some (s.modKeyPorts k fun p => { p with data := p.data.set i v })
  | .mclbuf i => some (s.writeMcl fun l => { l with mclBuf := assoc l.mclBuf i v })
  | .mcllen => some (s.writeMcl fun l => { l with mclLen := fld v 0 17 })
  | .mclctl => some (s.writeMclctl v)
  | .cap _ | .icisrc | .poolway _ | .memcfg | .memgrp _ | .memch _ | .cssinfl | .csslcp | .cssfgen | .scpstat | .sllen | .ethstat _ | .ethcnt _ _
  | .czeng | .cxeng | .lkstat _ | .wstat | .wlogptr | .wlogd _ | .wsum _ | .wsrccnt _ | .jstat | .jtail | .cthb | .ctmap _ | .ctcpmap _ | .copslot _
  | .plppsh | .plppsl | .plseq | .sns _ | .kstat _ | .kcur _ | .mclstat => some s

/-- A write of a port by core n (R10, R11): a port that does not live in the life-cycle state ignores it. None while it has to wait. -/
def State.portWrite (s : State) (n : Nat) (p : Port) (v : Word) : Option State :=
  if s.portLives p then (s.settlePort p).portStore n p v else some s

end Sys2Proof.Machine
end

