-- ==== Sys2Proof/Machine/InOut.lean ====
section
/-! DEFINITION. FENCE and WAIT, the port instructions, the channel instructions, and what a unit answers (03 R89, R97-R105, 07 R188, R194-R196, 01 R523). -/

namespace Sys2Proof.Machine

/-! The outstanding device store. -/

/-- Whether the unit of a port address answers. -/
def State.unitAnswers (s : State) (a : BitVec 32) : Bool :=
  match portAt a.toNat with
  | some p => s.portAnswers p
  | none => true

/-- A write of core n at the unit of an address. None while it has to wait. -/
def State.writeAt (s : State) (n : Nat) (a : BitVec 32) (v : Word) : Option State :=
  match portAt a.toNat with
  | some p => s.portWrite n p v
  | none => some s

/-- The response of the unit to the device store of core n: the unit has then acted on it (R99). None while the unit has to wait. -/
def State.answerStore (s : State) (n : Nat) (d : PortAccess) : Option State :=
  (s.writeAt n d.port d.value).map fun s => s.modCore n fun c => { c with devStore := none }

/-- The older device store of core n completed by the response that its unit gives in time, if there is one. None while that response is outstanding. -/
def State.settleStore (s : State) (n : Nat) : Option State :=
  match (s.core n).devStore with
  | none => some s
  | some d => if s.unitAnswers d.port && !s.overdue d then s.answerStore n d else none

/-- What FENCE, WAIT and every I/O-space instruction wait for (R89, R99, R188): the store buffer has drained, and an older device store has its response. The instruction with the opcode bytes given then stands as the one that waits (R100). -/
def ioDrain (n : Nat) (code : List Byte) : Run Unit := do
  orWait (fun s => s.drain n)
  match (← get).settleStore n with
  | some s => set s
  | none =>
    onCore n fun c => { c with ioWait := some code }
    throw .wait

/-- FENCE (R89). -/
def execFence (k : Insn) (s : State) : Out :=
  instr k (op [0x3F] 1) 0 0 0 0 (do
    ioDrain k.lcn [0x3F]
    return .next) s

/-- WAIT (R97, R188). -/
def execWait (k : Insn) (s : State) : Out :=
  instr k { op [0xF0, 0x05] 2 with priv := true, entry := some 0x1600 } 0 0 0 0 (do
    let n := k.lcn
    ioDrain n [0xF0, 0x05]
    if ((← get).nextEvent n).isNone then onCore n fun c => { c with run := .waiting }
    return .next) s

/-! Port instructions. -/

/-- The checks of a port instruction (R523): CAUSE of the first that fails, or the port. Every port is a doubleword wide, so a word access fails its check. -/
def State.checkPort (s : State) (c : Core) (p : Word) (wide : Bool) : Sum Nat Port :=
  if fld p 32 32 ≠ 0 then .inl 3
  else match portAt p.toNat with
    | none => .inl 1
    | some q =>
      if !pswS c.psw && !q.userOk then .inl 0
      else if q.page.isSome && s.sliceOfPid c.pid != q.page then .inl 0
      else if !wide then .inl 2
      else .inr q

/-- I/O-Protection (R148): vector 21, level 4. -/
def ioProtection {α : Type} (n cause : Nat) (info : Word) : Run α := do
  let c ← coreOf n
  throwExc { Exc.plain 21 4 c.pc with cause := BitVec.ofNat 16 cause, info := info }

/-- The port that a port instruction may access, after its drain (R99, R523). -/
def openPort (n : Nat) (b : Byte) (p : Word) (wide : Bool) : Run Port := do
  match (← get).checkPort (← coreOf n) p wide with
  | .inl cause => ioProtection n cause p
  | .inr q =>
    modify (·.endHold n)
    ioDrain n [b]
    return q

/-- An access of core n that is outstanding at a unit (R194, R195). -/
def State.access (s : State) (p v : Word) (wide : Bool) : PortAccess := { port := fld p 0 32, value := v, wide := wide, issued := s.beatc, cycle := s.plant.refCycle }

/-- IN (R98, R99): the data of a unit that answers; a unit that does not leaves the access outstanding. -/
def portIn (k : Insn) (b : Byte) (wide : Bool) (s : State) : Out :=
  instr k (op [b] 1) 1 1 0 0 (do
    let n := k.lcn
    let p := t0 (← coreOf n).ds.cache
    let q ← openPort n b p wide
    let s ← get
    if s.portAnswers q then
      set (s.portRead n q).2
      onCore n fun c => c.pushes 1 [(s.portRead n q).1]
      return .next
    else
      onCore n fun c => { c with devRead := some (s.access p 0 wide) }
      return .stay) s

/-- INW (R98). -/
def execInw (k : Insn) (s : State) : Out := portIn k 0xA0 false s

/-- IND (R98). -/
def execInd (k : Insn) (s : State) : Out := portIn k 0xA1 true s

/-- OUT (R98, R99): a device store, issued. -/
def portOut (k : Insn) (b : Byte) (wide : Bool) (s : State) : Out :=
  instr k (op [b] 1) 2 0 0 0 (do
    let n := k.lcn
    let c ← coreOf n
    let p := t0 c.ds.cache
    let x := t1 c.ds.cache
    let _ ← openPort n b p wide
    let s ← get
    onCore n fun c => { c.pushes 2 [] with devStore := some (s.access p x wide) }
    return .next) s

/-- OUTW (R98). -/
def execOutw (k : Insn) (s : State) : Out := portOut k 0xA2 false s

/-- OUTD (R98). -/
def execOutd (k : Insn) (s : State) : Out := portOut k 0xA3 true s

/-! What the units answer, and what they do not. -/

/-- An IN that was left outstanding retires with its value (R99, R195). -/
def State.finishRead (s : State) (n : Nat) (v : Word) : State :=
  (s.modCore n fun c => { c.pushes 1 [v] with devRead := none }).retire n 1 (pswS (s.core n).psw) .next

/-- The value that core n reads at an address, and what the read leaves. -/
def State.readAt (s : State) (n : Nat) (a : BitVec 32) : Word × State :=
  match portAt a.toNat with
  | some p => s.portRead n p
  | none => (0, s)

/-- DEVICE_RESPONSE (R99, R194-R196): the response to the core's outstanding access, discarded once the access counts as lost. -/
def execDeviceResponse (lcn : Nat) (s : State) : Out :=
  match (s.core lcn).devRead with
  | some a => if s.unitAnswers a.port && !s.overdue a then .next ((s.readAt lcn a.port).2.finishRead lcn (s.readAt lcn a.port).1) else .next s
  | none => orSame s (s.settleStore lcn)

/-- The time at which an access has been outstanding for 4 beats (R194), when the present beat contains or follows it: the reference cycles of the beat have come that far. None before. -/
def State.expire (s : State) (a : PortAccess) : Option State :=
  if 5 ≤ s.since a.issued then some s
  else if s.since a.issued = 4 then some { s with plant := { s.plant with refCycle := max s.plant.refCycle a.cycle } }
  else none

/-- A device store that is lost: recorded (R100), and Device-Store-Lost pending (R144). -/
def State.loseStore (s : State) (n : Nat) (a : PortAccess) : State :=
  (s.reportCore n 12 .corrected (some 0) (zext a.port)).modCore n fun c =>
    { c with
      devStore := none,
      dsl := match c.dsl with
        | some d => some { d with more := true }
        | none => some { port := a.port, more := false } }

/-- DEVICE_STORE_LOST (R100, R144, R194), 4 beats after the issue: whether the unit acted on the store is free. The instruction that waits for the store completes before the exception is taken (R100). -/
def execDeviceStoreLost (lcn : Nat) (s : State) : Out :=
  match (s.core lcn).devStore with
  | none => .next s
  | some a =>
    match s.expire a with
    | none => .next s
    | some t =>
      let (v, t) := t.takeFree
      let t := if bitAt v 0 then (t.writeAt lcn a.port a.value).getD t else t
      .next (t.loseStore lcn a)

/-- LOST_READ (R195), 4 beats after the issue: all ones of the access's width. -/
def execLostRead (lcn : Nat) (s : State) : Out :=
  match (s.core lcn).devRead with
  | none => .next s
  | some a =>
    match s.expire a with
    | none => .next s
    | some t => .next ((t.reportCore lcn 12 .recoverable (some 1) (zext a.port)).finishRead lcn (if a.wide then BitVec.allOnes 64 else 0xFFFFFFFF))

/-- ICISEND (R140, R188): a write of core lcn, after its store buffer has drained and an older device store has its response. -/
def execIciSend (lcn : Nat) (v : Word) (s : State) : Out :=
  if (s.core lcn).run = .absent then .next s
  else orSame s (((s.drain lcn).bind (fun s => s.settleStore lcn)).map (fun s => s.sendIci lcn (fld v 0 8).toNat))

/-! Channel instructions. -/

/-- What steps 1 to 4 of R103 find. -/
inductive SchCheck where
  /-- cc = 3 -/
  | absent
  /-- I/O-Protection with cause 4 -/
  | denied
  | ok (sch : Nat)
  deriving DecidableEq, Repr

/-- Steps 1 to 4 of R103. -/
def State.checkSch (s : State) (c : Core) (x : Word) : SchCheck :=
  if 2 ^ 20 ≤ x.toNat then .absent
  else match s.sliceOfPid c.pid with
    | none => .denied
    | some k =>
      if !s.schValid (s.sch x.toNat) then .absent
      else if (s.sch x.toNat).slice ≠ k then .denied
      else .ok x.toNat

/-- An operation that STARTIO begins (R301). -/
def newOperation (id sch slice q : Nat) (parm : Word) (ccw : Nat) : Operation :=
  { id := id, sch := sch, slice := slice, q := q, parm := parm, ccw := ccw, reached := 0, phase := .ready, cmd := none,
    past := false, halting := false, recs := [], jgen := none, mirrored := 0, unmirrored := 0, acks := [], code := 0, detail := 0,
    ccwpa := ccw, resid := 0, bg := [] }

/-- The operation blocks of the channel subsystem (R301). -/
def opMax : Nat := 65536

/-- STARTIO accepted (R301, R302). -/
def State.startOp (s : State) (sch : Nat) (parm : Word) (ccw : Nat) : State :=
  let e := s.sch sch
  let o := newOperation s.css.nextOp sch e.slice (4 * e.slice + e.cq) parm ccw
  (s.modCss fun c => { c with ops := c.ops ++ [o], nextOp := c.nextOp + 1, peak := max c.peak (c.ops.length + 1) }).setSchState sch stActive

/-- What STARTIO meets at the channel subsystem: its condition code (R104, R301, R302, R477). -/
def State.startio (s : State) (sch : Nat) (parm : Word) (ccw : Nat) : Nat × State :=
  let e := s.sch sch
  if e.state = stDown then (3, s)
  else if (s.slice e.slice).st ≠ .running then (1, s)
  else if e.state ≠ stIdle then (1, s)
  else if opMax ≤ s.css.ops.length then (2, s)
  else (0, s.startOp sch parm ccw)

/-- What HALTIO meets (R104, R303). None while the halted operation's entry has to wait at its line. -/
def State.haltio (s : State) (sch : Nat) : Option (Nat × State) :=
  let e := s.sch sch
  if e.state = stDown then some (3, s)
  else if e.state = stIdle then some (2, s)
  else if e.state = stHalting then some (0, s)
  else match s.opOfSch sch with
    | some o => if o.pastHalt then some (1, s) else (s.haltOp o).map (fun s => (0, s))
    | none => some (1, s)

/-- The status doubleword and condition code of TESTIO (R104, R302). -/
def State.testio (s : State) (sch : Nat) : Word × Nat :=
  let e := s.sch sch
  if e.state = stDown then (0, 3) else (e.status, if e.state = stIdle then 0 else 1)

/-- Condition code 3. -/
def cc3 : Word := 3

/-- The CCW address of STARTIO (R103 steps 5 and 6). -/
def ccwAddress (n : Nat) (va : Word) : Run Nat := do
  let as ← addresses n va 8 (dataAcc (← coreOf n) false false)
  if va.toNat % 32 ≠ 0 then ioProtection n 5 va
  return as.headD 0

/-- STARTIO ( parm ccwa sch -- cc ) (R102-R104). -/
def execStartio (k : Insn) (s : State) : Out :=
  instr k { op [0xA6] 1 with entry := some 0x1000 } 3 1 0 0 (do
    let n := k.lcn
    let c ← coreOf n
    let x := c.ds.cache
    match (← get).checkSch c (t0 x) with
    | .absent => onCore n fun c => c.pushes 3 [cc3]
    | .denied => ioProtection n 4 (t0 x)
    | .ok sch =>
      let a ← ccwAddress n (t1 x)
      modify (·.endHold n)
      ioDrain n [0xA6]
      let s ← get
      set (s.startio sch (t2 x) a).2
      onCore n fun c => c.pushes 3 [BitVec.ofNat 64 (s.startio sch (t2 x) a).1]
    return .next) s

/-- HALTIO ( sch -- cc ) (R102-R104, R303). -/
def execHaltio (k : Insn) (s : State) : Out :=
  instr k { op [0xA7] 1 with entry := some 0x1100 } 1 1 0 0 (do
    let n := k.lcn
    let c ← coreOf n
    let x := t0 c.ds.cache
    match (← get).checkSch c x with
    | .absent => onCore n fun c => c.pushes 1 [cc3]
    | .denied => ioProtection n 4 x
    | .ok sch =>
      modify (·.endHold n)
      ioDrain n [0xA7]
      match (← get).haltio sch with
      | none => throw .wait
      | some (cc, s) =>
        set s
        onCore n fun c => c.pushes 1 [BitVec.ofNat 64 cc]
    return .next) s

/-- TESTIO ( sch -- st cc ) (R102-R104). -/
def execTestio (k : Insn) (s : State) : Out :=
  instr k { op [0xA8] 1 with entry := some 0x1200 } 1 2 0 0 (do
    let n := k.lcn
    let c ← coreOf n
    let x := t0 c.ds.cache
    match (← get).checkSch c x with
    | .absent => onCore n fun c => c.pushes 1 [cc3, 0]
    | .denied => ioProtection n 4 x
    | .ok sch =>
      modify (·.endHold n)
      ioDrain n [0xA8]
      let s ← get
      onCore n fun c => c.pushes 1 [BitVec.ofNat 64 (s.testio sch).2, (s.testio sch).1]
    return .next) s

/-! Reads and writes of a port apart from any instruction. -/

/-- READ_CLEAR (R11, R12): a read, as core lcn makes it, of a port; a field that a read clears is then 0. An undefined port address reaches no unit (R23). -/
def execReadClear (lcn : Nat) (port : BitVec 32) (s : State) : Out :=
  if (s.core lcn).run = .absent then .next s
  else match portAt port.toNat with
    | none => .next s
    | some p => .next (s.portRead lcn p).2

/-- REGISTER_WRITE (R11-R14, R529): a write of a port, as core lcn makes it. -/
def execRegisterWrite (lcn : Nat) (port : BitVec 32) (v : Word) (s : State) : Out :=
  if (s.core lcn).run = .absent then .next s
  else match portAt port.toNat with
    | none => .next s
    | some p => orSame s (s.portWrite lcn p v)

end Sys2Proof.Machine
end

