-- ==== Sys2Proof/Machine/Integer.lean ====
section
/-! DEFINITION. Integer arithmetic, logic and bit instructions (03 R77-R80). -/

namespace Sys2Proof.Machine

/-- A two-operand instruction ( a b -- r ): b is T0, a is T1. -/
def binary (k : Insn) (b : Byte) (f : Word → Word → Word → Word × Word) (s : State) : Out :=
  stackOp k (op [b] 1) 2 1 (fun x p => let r := f (t1 x) (t0 x) p; ([r.1], r.2)) s

/-- A one-operand instruction ( a -- r ). -/
def unary (k : Insn) (o : Op) (f : Word → Word → Word × Word) (s : State) : Out :=
  stackOp k o 1 1 (fun x p => let r := f (t0 x) p; ([r.1], r.2)) s

/-- An instruction that only sets flags ( a b -- ). -/
def compare (k : Insn) (b : Byte) (f : Word → Word → Word → Word) (s : State) : Out :=
  stackOp k (op [b] 1) 2 0 (fun x p => ([], f (t1 x) (t0 x) p)) s

/-- ADD (R78). -/
def execAdd (k : Insn) (s : State) : Out := binary k 0x10 (fun a b p => (a + b, flagsAdd p a b false)) s

/-- SUB (R78). -/
def execSub (k : Insn) (s : State) : Out := binary k 0x11 (fun a b p => (a - b, flagsSub p a b false)) s

/-- MUL (R78): the low 64 bits. -/
def execMul (k : Insn) (s : State) : Out := binary k 0x12 (fun a b p => (a * b, flagsMul p a b)) s

/-- The high 64 bits of the signed product (R78). -/
def mulHighS (a b : Word) : Word := BitVec.ofInt 64 (a.toInt * b.toInt / 2 ^ 64)

/-- The high 64 bits of the unsigned product (R78). -/
def mulHighU (a b : Word) : Word := BitVec.ofNat 64 (a.toNat * b.toNat / 2 ^ 64)

/-- MULH (R78). -/
def execMulh (k : Insn) (s : State) : Out := binary k 0x13 (fun a b p => (mulHighS a b, p)) s

/-- MULHU (R78). -/
def execMulhu (k : Insn) (s : State) : Out := binary k 0x14 (fun a b p => (mulHighU a b, p)) s

/-- A division ( a b -- r ): Integer-Divide for b = 0, the stack as before (R79). -/
def division (k : Insn) (b : Byte) (f : Word → Word → Word) (v : Word → Word → Bool) (s : State) : Out :=
  instr k (op [b] 1) 2 1 0 0 (do
    let c ← coreOf k.lcn
    let x := c.ds.cache
    if t0 x = 0 then throwExc ((Exc.plain 13 4 c.pc).withOp k (op [b] 1))
    else
      let r := f (t1 x) (t0 x)
      onCore k.lcn (fun c => c.replaceTop 2 [r] (flagsDiv c.psw r (v (t1 x) (t0 x))))
      return .next) s

/-- DIV (R78, R79): truncated toward zero; −2^63 by −1 gives −2^63 and V = 1. -/
def execDiv (k : Insn) (s : State) : Out :=
  division k 0x15 (fun a b => BitVec.ofInt 64 (a.toInt.tdiv b.toInt)) (fun a b => a == 0x8000000000000000 && b == BitVec.allOnes 64) s

/-- DIVU (R78). -/
def execDivu (k : Insn) (s : State) : Out := division k 0x16 (fun a b => BitVec.ofNat 64 (a.toNat / b.toNat)) (fun _ _ => false) s

/-- REM (R78, R79): the sign of a. -/
def execRem (k : Insn) (s : State) : Out := division k 0x17 (fun a b => BitVec.ofInt 64 (a.toInt.tmod b.toInt)) (fun _ _ => false) s

/-- REMU (R78). -/
def execRemu (k : Insn) (s : State) : Out := division k 0x18 (fun a b => BitVec.ofNat 64 (a.toNat % b.toNat)) (fun _ _ => false) s

/-- NEG (R78): 0 − a. -/
def execNeg (k : Insn) (s : State) : Out := unary k (op [0x19] 1) (fun a p => (0 - a, flagsSub p 0 a false)) s

/-- ADC (R78): a + b + C. -/
def execAdc (k : Insn) (s : State) : Out :=
  binary k 0x1A (fun a b p => (a + b + (if pswC p then 1 else 0), flagsAdd p a b (pswC p))) s

/-- SBC (R78): a − b − (1 − C). -/
def execSbc (k : Insn) (s : State) : Out :=
  binary k 0x1B (fun a b p => (a - b - (if pswC p then 0 else 1), flagsSub p a b (!pswC p))) s

/-- CMP (R78): the flags of a − b. -/
def execCmp (k : Insn) (s : State) : Out := compare k 0x1C (fun a b p => flagsSub p a b false) s

/-- TST (R78): the flags of a AND b. -/
def execTst (k : Insn) (s : State) : Out := compare k 0x1D (fun a b p => flagsLogic p (a &&& b)) s

/-- INC (R78). -/
def execInc (k : Insn) (s : State) : Out := unary k (op [0x1E] 1) (fun a p => (a + 1, flagsAdd p a 1 false)) s

/-- DEC (R78). -/
def execDec (k : Insn) (s : State) : Out := unary k (op [0x1F] 1) (fun a p => (a - 1, flagsSub p a 1 false)) s

/-- ADDI i8 and ADDI i16 (R78). -/
def execAddi (k : Insn) (imm : AddImm) (s : State) : Out :=
  match imm with
  | .i8 v => unary k (op [0x57] 2) (fun a p => (a + sext v, flagsAdd p a (sext v) false)) s
  | .i16 v => unary k (op [0x4D] 3) (fun a p => (a + sext v, flagsAdd p a (sext v) false)) s

/-- CMPI i16 (R78): the flags of a − sext(i16). -/
def execCmpi (k : Insn) (imm : BitVec 16) (s : State) : Out :=
  stackOp k (op [0x4E] 3) 1 0 (fun x p => ([], flagsSub p (t0 x) (sext imm) false)) s

/-- A logic instruction ( a b -- r ) with code L. -/
def logic2 (k : Insn) (b : Byte) (f : Word → Word → Word) (s : State) : Out :=
  binary k b (fun x y p => (f x y, flagsLogic p (f x y))) s

/-- AND (R80). -/
def execAndB (k : Insn) (s : State) : Out := logic2 k 0x20 (· &&& ·) s

/-- OR (R80). -/
def execOrB (k : Insn) (s : State) : Out := logic2 k 0x21 (· ||| ·) s

/-- XOR (R80). -/
def execXorB (k : Insn) (s : State) : Out := logic2 k 0x22 (· ^^^ ·) s

/-- NOT (R80). -/
def execNotB (k : Insn) (s : State) : Out := unary k (op [0x23] 1) (fun a p => (~~~a, flagsLogic p (~~~a))) s

/-- ANDN (R80): a AND NOT b. -/
def execAndn (k : Insn) (s : State) : Out := logic2 k 0x24 (fun a b => a &&& ~~~b) s

/-- SHL by n of 0-63 (R80): C is a[64 − n]. -/
def shlOp (a : Word) (n : Nat) (p : Word) : Word × Word := (a <<< n, flagsShift p (a <<< n) n (bitAt a (64 - n)))

/-- SHR by n (R80): C is a[n − 1]. -/
def shrOp (a : Word) (n : Nat) (p : Word) : Word × Word := (a >>> n, flagsShift p (a >>> n) n (bitAt a (n - 1)))

/-- SAR by n (R80). -/
def sarOp (a : Word) (n : Nat) (p : Word) : Word × Word := (a.sshiftRight n, flagsShift p (a.sshiftRight n) n (bitAt a (n - 1)))

/-- A shift count: bits [5:0] (R80). -/
def count6 {n : Nat} (x : BitVec n) : Nat := x.toNat % 64

/-- SHL (R80). -/
def execShl (k : Insn) (s : State) : Out := binary k 0x25 (fun a b p => shlOp a (count6 b) p) s

/-- SHR (R80). -/
def execShr (k : Insn) (s : State) : Out := binary k 0x26 (fun a b p => shrOp a (count6 b) p) s

/-- SAR (R80). -/
def execSar (k : Insn) (s : State) : Out := binary k 0x27 (fun a b p => sarOp a (count6 b) p) s

/-- ROL (R80). -/
def execRol (k : Insn) (s : State) : Out := logic2 k 0x28 (fun a b => a.rotateLeft (count6 b)) s

/-- ROR (R80). -/
def execRor (k : Insn) (s : State) : Out := logic2 k 0x29 (fun a b => a.rotateRight (count6 b)) s

/-- The number of leading zero bits among the low n bits of x. -/
def leadZeros (x : Nat) : Nat → Nat
  | 0 => 0
  | n + 1 => if x.testBit n then 0 else 1 + leadZeros x n

/-- The number of trailing zero bits of x, at most n. -/
def trailZeros (x : Nat) : Nat → Nat
  | 0 => 0
  | n + 1 => if x.testBit 0 then 0 else 1 + trailZeros (x / 2) n

/-- CLZ (R80); 64 for zero. -/
def execClz (k : Insn) (s : State) : Out := unary k (op [0x2A] 1) (fun a p => (BitVec.ofNat 64 (leadZeros a.toNat 64), p)) s

/-- CTZ (R80); 64 for zero. -/
def execCtz (k : Insn) (s : State) : Out := unary k (op [0x2B] 1) (fun a p => (BitVec.ofNat 64 (trailZeros a.toNat 64), p)) s

/-- POPC (R80). -/
def execPopc (k : Insn) (s : State) : Out := unary k (op [0x2C] 1) (fun a p => (BitVec.ofNat 64 (popLow a.toNat 64), p)) s

/-- BSWAP (R80): the eight bytes in reverse order. -/
def execBswap (k : Insn) (s : State) : Out := unary k (op [0x2D] 1) (fun a p => (wordOf (wordBytes a).reverse, p)) s

/-- SXW (R80). -/
def execSxw (k : Insn) (s : State) : Out := unary k (op [0x2E] 1) (fun a p => (sext (fld a 0 32), p)) s

/-- ZXW (R80). -/
def execZxw (k : Insn) (s : State) : Out := unary k (op [0x2F] 1) (fun a p => (zext (fld a 0 32), p)) s

/-- SHLI (R80). -/
def execShli (k : Insn) (imm : BitVec 8) (s : State) : Out := unary k (op [0x52] 2) (fun a p => shlOp a (count6 imm) p) s

/-- SHRI (R80). -/
def execShri (k : Insn) (imm : BitVec 8) (s : State) : Out := unary k (op [0x53] 2) (fun a p => shrOp a (count6 imm) p) s

/-- SARI (R80). -/
def execSari (k : Insn) (imm : BitVec 8) (s : State) : Out := unary k (op [0x54] 2) (fun a p => sarOp a (count6 imm) p) s

end Sys2Proof.Machine
end

