-- ==== Sys2Proof/Machine/Stack.lean ====
section
/-! DEFINITION. Stack and literal instructions (03 R72-R76). -/

namespace Sys2Proof.Machine

/-- NOP (R72). -/
def execNop (k : Insn) (s : State) : Out := stackOp k (op [0x00] 1) 0 0 (fun _ p => ([], p)) s

/-- DUP ( a -- a a ) (R72). -/
def execDup (k : Insn) (s : State) : Out := stackOp k (op [0x01] 1) 1 2 (fun x p => ([t0 x, t0 x], p)) s

/-- DROP ( a -- ) (R72). -/
def execDrop (k : Insn) (s : State) : Out := stackOp k (op [0x02] 1) 1 0 (fun _ p => ([], p)) s

/-- SWAP ( a b -- b a ) (R72). -/
def execSwap (k : Insn) (s : State) : Out := stackOp k (op [0x03] 1) 2 2 (fun x p => ([t1 x, t0 x], p)) s

/-- OVER ( a b -- a b a ) (R72). -/
def execOver (k : Insn) (s : State) : Out := stackOp k (op [0x04] 1) 2 3 (fun x p => ([t1 x, t0 x, t1 x], p)) s

/-- ROT ( a b c -- b c a ) (R72). -/
def execRot (k : Insn) (s : State) : Out := stackOp k (op [0x05] 1) 3 3 (fun x p => ([t2 x, t0 x, t1 x], p)) s

/-- NIP ( a b -- b ) (R72). -/
def execNip (k : Insn) (s : State) : Out := stackOp k (op [0x06] 1) 2 1 (fun x p => ([t0 x], p)) s

/-- TUCK ( a b -- b a b ) (R72). -/
def execTuck (k : Insn) (s : State) : Out := stackOp k (op [0x07] 1) 2 3 (fun x p => ([t0 x, t1 x, t0 x], p)) s

/-- 2DUP ( a b -- a b a b ) (R72). -/
def execDup2 (k : Insn) (s : State) : Out := stackOp k (op [0x08] 1) 2 4 (fun x p => ([t0 x, t1 x, t0 x, t1 x], p)) s

/-- 2DROP ( a b -- ) (R72). -/
def execDrop2 (k : Insn) (s : State) : Out := stackOp k (op [0x09] 1) 2 0 (fun _ p => ([], p)) s

/-- 2SWAP ( a b c d -- c d a b ) (R72). -/
def execSwap2 (k : Insn) (s : State) : Out := stackOp k (op [0x0A] 1) 4 4 (fun x p => ([t2 x, t3 x, t0 x, t1 x], p)) s

/-- 2OVER ( a b c d -- a b c d a b ) (R72). -/
def execOver2 (k : Insn) (s : State) : Out :=
  stackOp k (op [0x0B] 1) 4 6 (fun x p => ([t2 x, t3 x, t0 x, t1 x, t2 x, t3 x], p)) s

/-- >R ( a -- ) R:( -- a ) (R72, R74). -/
def execToR (k : Insn) (s : State) : Out :=
  instr k (op [0x0C] 1) 1 0 0 1 (do
    onCore k.lcn (fun c => (c.pushes 1 []).rpushes 0 [t0 c.ds.cache])
    return .next) s

/-- R> ( -- a ) R:( a -- ) (R72, R74). -/
def execRFrom (k : Insn) (s : State) : Out :=
  instr k (op [0x0D] 1) 0 1 1 0 (do
    onCore k.lcn (fun c => (c.pushes 0 [c.rtop]).rpushes 1 [])
    return .next) s

/-- R@ ( -- a ) R:( a -- a ) (R72). -/
def execRFetch (k : Insn) (s : State) : Out :=
  instr k (op [0x0E] 1) 0 1 1 1 (do
    onCore k.lcn (fun c => c.pushes 0 [c.rtop])
    return .next) s

/-- RDROP R:( a -- ) (R72). -/
def execRdrop (k : Insn) (s : State) : Out :=
  instr k (op [0x0F] 1) 0 0 1 0 (do
    onCore k.lcn (fun c => c.rpushes 1 [])
    return .next) s

/-- LIT8 ( -- x ), sign-extended (R72, R73). -/
def execLit8 (k : Insn) (imm : BitVec 8) (s : State) : Out := stackOp k (op [0x50] 2) 0 1 (fun _ p => ([sext imm], p)) s

/-- LIT16 ( -- x ), sign-extended (R72). -/
def execLit16 (k : Insn) (imm : BitVec 16) (s : State) : Out := stackOp k (op [0x4C] 3) 0 1 (fun _ p => ([sext imm], p)) s

/-- LIT32 ( -- x ), sign-extended (R72). -/
def execLit32 (k : Insn) (imm : BitVec 32) (s : State) : Out := stackOp k (op [0x84] 5) 0 1 (fun _ p => ([sext imm], p)) s

/-- LIT64 ( -- x ) (R72). -/
def execLit64 (k : Insn) (imm : BitVec 64) (s : State) : Out := stackOp k (op [0x86] 9) 0 1 (fun _ p => ([imm], p)) s

/-- PICK (R75): T(n) after the spills, from the cache or from the doubleword at DSP + 8(n − v). -/
def execPick (k : Insn) (n : BitVec 8) (s : State) : Out :=
  instr k (op [0x51] 2) 0 1 0 0 (do
    let c ← coreOf k.lcn
    let v := c.ds.cache.length
    let x ← if n.toNat < v then pure (c.ds.cache.getD n.toNat 0)
            else fillRead k.lcn false (c.ds.ptr.toNat + 8 * (n.toNat - v))
    onCore k.lcn (fun c => c.pushes 0 [x])
    return .next) s

/-- DEPTH (R76): v + (DSHI − DSP) / 8 modulo 2^64, from the values before the push and after any spill. -/
def execDepth (k : Insn) (s : State) : Out :=
  instr k (op [0x97] 1) 0 1 0 0 (do
    let c ← coreOf k.lcn
    let d := BitVec.ofNat 64 c.ds.cache.length + (c.ds.hi - c.ds.ptr) / 8
    onCore k.lcn (fun c => c.pushes 0 [d])
    return .next) s

end Sys2Proof.Machine
end

