-- ==== Sys2Proof/Machine/Strings.lean ====
section
/-! DEFINITION. String instructions (04 R110-R117). A repeated one processes one element in a step, its pc staying at the first prefix until the loop ends (R112, R114). -/

namespace Sys2Proof.Machine

/-- The string opcodes: the repeat prefixes and USR may precede them (R57). -/
def stringCode (b : Byte) : Op := { op [b] 1 with usr := true, rep := true }

/-- The repeat prefix of an instruction, if any. -/
def repeatOf (ps : List Pfx) : Option Pfx := ps.find? (fun p => Pfx.group p == 0)

/-- SRC and DST advance (R110). -/
def stringStep (n ds dd : Nat) : Run Unit :=
  onCore n fun c => { c with src := c.src + BitVec.ofNat 64 ds, dst := c.dst + BitVec.ofNat 64 dd }

/-- The accesses that an element makes, checked before it has any effect (R113): address, width, and whether it is a store, in the order of the checks. -/
def checkElement (k : Insn) : List (Word × Nat × Bool) → Run Unit
  | [] => pure ()
  | (va, w, wr) :: xs => do
    let _ ← addresses k.lcn va w (dataAcc (← coreOf k.lcn) (k.pfx.contains .usr) wr)
    checkElement k xs

/-- The loop of R112 around one element: without a prefix the element alone (R111); with CNT = 0 nothing; test holds for CMPS and SCANS. -/
def repeated (k : Insn) (test : Bool) (element : Run Unit) : Run Retire := do
  match repeatOf k.pfx with
  | none => element; return .next
  | some p =>
    let c ← coreOf k.lcn
    if c.cnt = 0 then return .next
    element
    onCore k.lcn fun c => { c with cnt := c.cnt - 1 }
    let c ← coreOf k.lcn
    if c.cnt = 0 then return .next
    if test && ((p == .repz && !pswZ c.psw) || (p == .repnz && pswZ c.psw)) then return .next
    return .stay

/-- A string instruction with i operands that stay on the stack. -/
def stringOp (k : Insn) (b : Byte) (i : Nat) (test : Bool) (element : Run Unit) (s : State) : Out :=
  instr k (stringCode b) i i 0 0 (repeated k test element) s

/-- MOVS (R110). -/
def execMovs (k : Insn) (s : State) : Out :=
  stringOp k 0x90 0 false (do
    let c ← coreOf k.lcn
    checkElement k [(c.src, 1, false), (c.dst, 1, true)]
    let bs ← loadBytes k c.src 1
    storeBytes k c.dst bs
    stringStep k.lcn 1 1) s

/-- CMPS (R110): the flags of b(SRC) − b(DST). -/
def execCmps (k : Insn) (s : State) : Out :=
  stringOp k 0x91 0 true (do
    let c ← coreOf k.lcn
    checkElement k [(c.src, 1, false), (c.dst, 1, false)]
    let a ← loadBytes k c.src 1
    let b ← loadBytes k c.dst 1
    onCore k.lcn fun c => { c with psw := flagsSub c.psw (wordOf a) (wordOf b) false }
    stringStep k.lcn 1 1) s

/-- FILLS ( x -- x ) (R110). -/
def execFills (k : Insn) (s : State) : Out :=
  stringOp k 0x92 1 false (do
    let c ← coreOf k.lcn
    storeBytes k c.dst [fld (t0 c.ds.cache) 0 8]
    stringStep k.lcn 0 1) s

/-- SCANS ( x -- x ) (R110): the flags of b(SRC) − x[7:0]. -/
def execScans (k : Insn) (s : State) : Out :=
  stringOp k 0x93 1 true (do
    let c ← coreOf k.lcn
    let a ← loadBytes k c.src 1
    onCore k.lcn fun c => { c with psw := flagsSub c.psw (wordOf a) (zext (fld (t0 c.ds.cache) 0 8)) false }
    stringStep k.lcn 1 0) s

/-- XLATS ( t -- t ) (R110): the source byte is read before the table and DST are checked (R113). -/
def execXlats (k : Insn) (s : State) : Out :=
  stringOp k 0x94 1 false (do
    let c ← coreOf k.lcn
    let a ← loadBytes k c.src 1
    checkElement k [(t0 c.ds.cache + wordOf a, 1, false), (c.dst, 1, true)]
    let b ← loadBytes k (t0 c.ds.cache + wordOf a) 1
    storeBytes k c.dst b
    stringStep k.lcn 1 1) s

/-- DMOVS (R110, R116): one doubleword at any alignment. -/
def execDmovs (k : Insn) (s : State) : Out :=
  stringOp k 0x95 0 false (do
    let c ← coreOf k.lcn
    checkElement k [(c.src, 8, false), (c.dst, 8, true)]
    let bs ← loadBytes k c.src 8
    storeBytes k c.dst bs
    stringStep k.lcn 8 8) s

end Sys2Proof.Machine
end

