-- ==== Sys2Proof/Machine/Dispatch.lean ====
section
/-! DEFINITION. One arm for each command: the call of its meaning. -/

namespace Sys2Proof.Machine

/-- The effect of a command on everything but the queue. -/
def exec (i : Instr) (s : State) : Host.Outcome State Fault Refusal :=
  match i with
  -- Stack and literal instructions (R72-R76)
  | .nop k => Sys2Proof.Machine.execNop k s
  | .dup k => Sys2Proof.Machine.execDup k s
  | .drop k => Sys2Proof.Machine.execDrop k s
  | .swap k => Sys2Proof.Machine.execSwap k s
  | .over k => Sys2Proof.Machine.execOver k s
  | .rot k => Sys2Proof.Machine.execRot k s
  | .nip k => Sys2Proof.Machine.execNip k s
  | .tuck k => Sys2Proof.Machine.execTuck k s
  | .dup2 k => Sys2Proof.Machine.execDup2 k s
  | .drop2 k => Sys2Proof.Machine.execDrop2 k s
  | .swap2 k => Sys2Proof.Machine.execSwap2 k s
  | .over2 k => Sys2Proof.Machine.execOver2 k s
  | .toR k => Sys2Proof.Machine.execToR k s
  | .rFrom k => Sys2Proof.Machine.execRFrom k s
  | .rFetch k => Sys2Proof.Machine.execRFetch k s
  | .rdrop k => Sys2Proof.Machine.execRdrop k s
  | .lit8 k imm => Sys2Proof.Machine.execLit8 k imm s
  | .lit16 k imm => Sys2Proof.Machine.execLit16 k imm s
  | .lit32 k imm => Sys2Proof.Machine.execLit32 k imm s
  | .lit64 k imm => Sys2Proof.Machine.execLit64 k imm s
  | .pick k n => Sys2Proof.Machine.execPick k n s
  | .depth k => Sys2Proof.Machine.execDepth k s
  -- Integer arithmetic, logic and bit instructions (R77-R80)
  | .add k => Sys2Proof.Machine.execAdd k s
  | .sub k => Sys2Proof.Machine.execSub k s
  | .mul k => Sys2Proof.Machine.execMul k s
  | .mulh k => Sys2Proof.Machine.execMulh k s
  | .mulhu k => Sys2Proof.Machine.execMulhu k s
  | .div k => Sys2Proof.Machine.execDiv k s
  | .divu k => Sys2Proof.Machine.execDivu k s
  | .rem k => Sys2Proof.Machine.execRem k s
  | .remu k => Sys2Proof.Machine.execRemu k s
  | .neg k => Sys2Proof.Machine.execNeg k s
  | .adc k => Sys2Proof.Machine.execAdc k s
  | .sbc k => Sys2Proof.Machine.execSbc k s
  | .cmp k => Sys2Proof.Machine.execCmp k s
  | .tst k => Sys2Proof.Machine.execTst k s
  | .inc k => Sys2Proof.Machine.execInc k s
  | .dec k => Sys2Proof.Machine.execDec k s
  | .addi k imm => Sys2Proof.Machine.execAddi k imm s
  | .cmpi k imm => Sys2Proof.Machine.execCmpi k imm s
  | .andB k => Sys2Proof.Machine.execAndB k s
  | .orB k => Sys2Proof.Machine.execOrB k s
  | .xorB k => Sys2Proof.Machine.execXorB k s
  | .notB k => Sys2Proof.Machine.execNotB k s
  | .andn k => Sys2Proof.Machine.execAndn k s
  | .shl k => Sys2Proof.Machine.execShl k s
  | .shr k => Sys2Proof.Machine.execShr k s
  | .sar k => Sys2Proof.Machine.execSar k s
  | .rol k => Sys2Proof.Machine.execRol k s
  | .ror k => Sys2Proof.Machine.execRor k s
  | .clz k => Sys2Proof.Machine.execClz k s
  | .ctz k => Sys2Proof.Machine.execCtz k s
  | .popc k => Sys2Proof.Machine.execPopc k s
  | .bswap k => Sys2Proof.Machine.execBswap k s
  | .sxw k => Sys2Proof.Machine.execSxw k s
  | .zxw k => Sys2Proof.Machine.execZxw k s
  | .shli k imm => Sys2Proof.Machine.execShli k imm s
  | .shri k imm => Sys2Proof.Machine.execShri k imm s
  | .sari k imm => Sys2Proof.Machine.execSari k imm s
  -- Special registers and time (R81-R84)
  | .rdsr k n => Sys2Proof.Machine.execRdsr k n s
  | .wrsr k n => Sys2Proof.Machine.execWrsr k n s
  | .rdtod k => Sys2Proof.Machine.execRdtod k s
  | .wrkrr k => Sys2Proof.Machine.execWrkrr k s
  -- Memory instructions (R85-R92)
  | .ldb k d => Sys2Proof.Machine.execLdb k d s
  | .ldbs k d => Sys2Proof.Machine.execLdbs k d s
  | .ldh k d => Sys2Proof.Machine.execLdh k d s
  | .ldhs k d => Sys2Proof.Machine.execLdhs k d s
  | .ldw k d => Sys2Proof.Machine.execLdw k d s
  | .ldws k d => Sys2Proof.Machine.execLdws k d s
  | .ldd k d => Sys2Proof.Machine.execLdd k d s
  | .ldp k => Sys2Proof.Machine.execLdp k s
  | .stb k d => Sys2Proof.Machine.execStb k d s
  | .sth k d => Sys2Proof.Machine.execSth k d s
  | .stw k d => Sys2Proof.Machine.execStw k d s
  | .std k d => Sys2Proof.Machine.execStd k d s
  | .stp k => Sys2Proof.Machine.execStp k s
  | .ldr k => Sys2Proof.Machine.execLdr k s
  | .stc k => Sys2Proof.Machine.execStc k s
  | .fence k => Sys2Proof.Machine.execFence k s
  | .isync k => Sys2Proof.Machine.execIsync k s
  | .ldi k => Sys2Proof.Machine.execLdi k s
  | .sti k => Sys2Proof.Machine.execSti k s
  -- Control transfer (R93-R97)
  | .br k b => Sys2Proof.Machine.execBr k b s
  | .bz k b => Sys2Proof.Machine.execBz k b s
  | .bnz k b => Sys2Proof.Machine.execBnz k b s
  | .beq k b => Sys2Proof.Machine.execBeq k b s
  | .bne k b => Sys2Proof.Machine.execBne k b s
  | .blt k b => Sys2Proof.Machine.execBlt k b s
  | .bge k b => Sys2Proof.Machine.execBge k b s
  | .bgt k b => Sys2Proof.Machine.execBgt k b s
  | .ble k b => Sys2Proof.Machine.execBle k b s
  | .bltu k b => Sys2Proof.Machine.execBltu k b s
  | .bgeu k b => Sys2Proof.Machine.execBgeu k b s
  | .bgtu k b => Sys2Proof.Machine.execBgtu k b s
  | .bleu k b => Sys2Proof.Machine.execBleu k b s
  | .bvs k b => Sys2Proof.Machine.execBvs k b s
  | .bvc k b => Sys2Proof.Machine.execBvc k b s
  | .call k b => Sys2Proof.Machine.execCall k b s
  | .jmpl k b => Sys2Proof.Machine.execJmpl k b s
  | .calll k b => Sys2Proof.Machine.execCalll k b s
  | .jmpi k b => Sys2Proof.Machine.execJmpi k b s
  | .calli k b => Sys2Proof.Machine.execCalli k b s
  | .ret k b => Sys2Proof.Machine.execRet k b s
  | .svc k imm => Sys2Proof.Machine.execSvc k imm s
  | .rett k => Sys2Proof.Machine.execRett k s
  | .wait k => Sys2Proof.Machine.execWait k s
  -- String instructions (R110-R117)
  | .movs k => Sys2Proof.Machine.execMovs k s
  | .cmps k => Sys2Proof.Machine.execCmps k s
  | .fills k => Sys2Proof.Machine.execFills k s
  | .scans k => Sys2Proof.Machine.execScans k s
  | .xlats k => Sys2Proof.Machine.execXlats k s
  | .dmovs k => Sys2Proof.Machine.execDmovs k s
  -- I/O-space and channel instructions (R98-R105)
  | .inw k => Sys2Proof.Machine.execInw k s
  | .ind k => Sys2Proof.Machine.execInd k s
  | .outw k => Sys2Proof.Machine.execOutw k s
  | .outd k => Sys2Proof.Machine.execOutd k s
  | .startio k => Sys2Proof.Machine.execStartio k s
  | .haltio k => Sys2Proof.Machine.execHaltio k s
  | .testio k => Sys2Proof.Machine.execTestio k s
  -- Translation and stack control (R106-R108)
  | .invpg k => Sys2Proof.Machine.execInvpg k s
  | .invtag k => Sys2Proof.Machine.execInvtag k s
  | .invall k => Sys2Proof.Machine.execInvall k s
  | .spilld k => Sys2Proof.Machine.execSpilld k s
  | .spillr k => Sys2Proof.Machine.execSpillr k s
  -- Floating point (R123-R135)
  | .fadd k w => Sys2Proof.Machine.execFadd k w s
  | .fsub k w => Sys2Proof.Machine.execFsub k w s
  | .fmul k w => Sys2Proof.Machine.execFmul k w s
  | .fdiv k w => Sys2Proof.Machine.execFdiv k w s
  | .fsqrt k w => Sys2Proof.Machine.execFsqrt k w s
  | .fma k w => Sys2Proof.Machine.execFma k w s
  | .fneg k w => Sys2Proof.Machine.execFneg k w s
  | .fabs k w => Sys2Proof.Machine.execFabs k w s
  | .fcmp k w => Sys2Proof.Machine.execFcmp k w s
  | .fmin k w => Sys2Proof.Machine.execFmin k w s
  | .fmax k w => Sys2Proof.Machine.execFmax k w s
  | .fclass k w => Sys2Proof.Machine.execFclass k w s
  | .fcvtDS k => Sys2Proof.Machine.execFcvtDS k s
  | .fcvtSD k => Sys2Proof.Machine.execFcvtSD k s
  | .fcvtDL k => Sys2Proof.Machine.execFcvtDL k s
  | .fcvtDLU k => Sys2Proof.Machine.execFcvtDLU k s
  | .fcvtLD k => Sys2Proof.Machine.execFcvtLD k s
  | .fcvtLUD k => Sys2Proof.Machine.execFcvtLUD k s
  | .fcvtSL k => Sys2Proof.Machine.execFcvtSL k s
  | .fcvtSLU k => Sys2Proof.Machine.execFcvtSLU k s
  | .fcvtLS k => Sys2Proof.Machine.execFcvtLS k s
  | .fcvtLUS k => Sys2Proof.Machine.execFcvtLUS k s
  -- Packed decimal (R118-R122)
  | .dadd k => Sys2Proof.Machine.execDadd k s
  | .dsub k => Sys2Proof.Machine.execDsub k s
  | .dcmp k => Sys2Proof.Machine.execDcmp k s
  | .dchk k => Sys2Proof.Machine.execDchk k s
  | .dneg k => Sys2Proof.Machine.execDneg k s
  | .cvbd k => Sys2Proof.Machine.execCvbd k s
  | .cvdb k => Sys2Proof.Machine.execCvdb k s
  | .dshl k => Sys2Proof.Machine.execDshl k s
  | .dshr k => Sys2Proof.Machine.execDshr k s
  -- Events of a core
  | .reservedInstruction k r => Sys2Proof.Machine.execReservedInstruction k r s
  | .takeInterrupt lcn => Sys2Proof.Machine.execTakeInterrupt lcn s
  | .iciSend lcn v => Sys2Proof.Machine.execIciSend lcn v s
  | .deviceResponse lcn => Sys2Proof.Machine.execDeviceResponse lcn s
  | .deviceStoreLost lcn => Sys2Proof.Machine.execDeviceStoreLost lcn s
  | .lostRead lcn => Sys2Proof.Machine.execLostRead lcn s
  | .storePerformed lcn idx => Sys2Proof.Machine.execStorePerformed lcn idx s
  | .holdEnd lcn => Sys2Proof.Machine.execHoldEnd lcn s
  | .instructionRetry lcn e issued => Sys2Proof.Machine.execInstructionRetry lcn e issued s
  | .machineCheckStoredData lcn line => Sys2Proof.Machine.execMachineCheckStoredData lcn line s
  | .timerMatch lcn i0 => Sys2Proof.Machine.execTimerMatch lcn i0 s
  -- Pool and Millrace (chapter 10)
  | .rds agent line bad => Sys2Proof.Machine.execRds agent line bad s
  | .rdx agent line bad => Sys2Proof.Machine.execRdx agent line bad s
  | .upg agent line bad => Sys2Proof.Machine.execUpg agent line bad s
  | .hold agent line => Sys2Proof.Machine.execHold agent line s
  | .rdna agent line bad => Sys2Proof.Machine.execRdna agent line bad s
  | .wrna agent line bytes => Sys2Proof.Machine.execWrna agent line bytes s
  | .wb agent line bad => Sys2Proof.Machine.execWb agent line bad s
  | .evn agent line => Sys2Proof.Machine.execEvn agent line s
  | .snps agent line => Sys2Proof.Machine.execSnps agent line s
  | .snpi agent line => Sys2Proof.Machine.execSnpi agent line s
  | .snpr agent line => Sys2Proof.Machine.execSnpr agent line s
  | .binv agent line => Sys2Proof.Machine.execBinv agent line s
  | .lineData agent line => Sys2Proof.Machine.execLineData agent line s
  | .lineDataE agent line => Sys2Proof.Machine.execLineDataE agent line s
  | .snpAck agent line => Sys2Proof.Machine.execSnpAck agent line s
  | .snpData agent line => Sys2Proof.Machine.execSnpData agent line s
  | .sliceAck agent line => Sys2Proof.Machine.execSliceAck agent line s
  | .ackStale agent line => Sys2Proof.Machine.execAckStale agent line s
  | .sliceRetry agent line => Sys2Proof.Machine.execSliceRetry agent line s
  | .retryResend agent line => Sys2Proof.Machine.execRetryResend agent line s
  | .tlbi target issuer => Sys2Proof.Machine.execTlbi target issuer s
  | .tlba sender issuer => Sys2Proof.Machine.execTlba sender issuer s
  | .linkAck station ring => Sys2Proof.Machine.execLinkAck station ring s
  | .linkCrcError station ring => Sys2Proof.Machine.execLinkCrcError station ring s
  | .victimRetry agent line => Sys2Proof.Machine.execVictimRetry agent line s
  | .filteredModeChange e => Sys2Proof.Machine.execFilteredModeChange e s
  | .hedgerowError core line => Sys2Proof.Machine.execHedgerowError core line s
  | .wayDrainComplete slice way => Sys2Proof.Machine.execWayDrainComplete slice way s
  | .poolwinLock => Sys2Proof.Machine.execPoolwinLock s
  | .windowLockComplete => Sys2Proof.Machine.execWindowLockComplete s
  | .rangeFlush => Sys2Proof.Machine.execRangeFlush s
  | .rangePurge => Sys2Proof.Machine.execRangePurge s
  | .rangeDone => Sys2Proof.Machine.execRangeDone s
  -- Main memory (chapter 11)
  | .dramLineRead line e => Sys2Proof.Machine.execDramLineRead line e s
  | .dramLineWrite line e => Sys2Proof.Machine.execDramLineWrite line e s
  | .scrubLine group e => Sys2Proof.Machine.execScrubLine group e s
  | .channelFail channel cause => Sys2Proof.Machine.execChannelFail channel cause s
  | .memoryReady => Sys2Proof.Machine.execMemoryReady s
  -- Channel subsystem (chapter 12)
  | .establish typ g => Sys2Proof.Machine.execEstablish typ g s
  | .modify typ g => Sys2Proof.Machine.execModify typ g s
  | .remove typ g => Sys2Proof.Machine.execRemove typ g s
  | .ccwWrite sch => Sys2Proof.Machine.execCcwWrite sch s
  | .ccwWriteCommitted sch => Sys2Proof.Machine.execCcwWriteCommitted sch s
  | .ccwRead sch => Sys2Proof.Machine.execCcwRead sch s
  | .ccwReadJournaled sch => Sys2Proof.Machine.execCcwReadJournaled sch s
  | .ccwSendMessage sch => Sys2Proof.Machine.execCcwSendMessage sch s
  | .ccwReceiveMessage sch => Sys2Proof.Machine.execCcwReceiveMessage sch s
  | .controlClose sch => Sys2Proof.Machine.execControlClose sch s
  | .controlAbort sch => Sys2Proof.Machine.execControlAbort sch s
  | .controlQuery sch => Sys2Proof.Machine.execControlQuery sch s
  | .controlPing sch => Sys2Proof.Machine.execControlPing sch s
  | .controlPartner sch => Sys2Proof.Machine.execControlPartner sch s
  | .ccwSense sch => Sys2Proof.Machine.execCcwSense sch s
  | .ccwBranch sch => Sys2Proof.Machine.execCcwBranch sch s
  | .ccwNop sch => Sys2Proof.Machine.execCcwNop sch s
  | .heldCompletionWrite q => Sys2Proof.Machine.execHeldCompletionWrite q s
  | .cqEnable q v => Sys2Proof.Machine.execCqEnable q v s
  | .cqDisable q v => Sys2Proof.Machine.execCqDisable q v s
  -- Journal records (chapters 12 and 18)
  | .journalReserve => Sys2Proof.Machine.execJournalReserve s
  | .recordDurable gen => Sys2Proof.Machine.execRecordDurable gen s
  | .recordRelease gen => Sys2Proof.Machine.execRecordRelease gen s
  -- Transports and Ethernet (chapters 13 and 14)
  | .frameReceive port f => Sys2Proof.Machine.execFrameReceive port f s
  | .scpOpen sch f => Sys2Proof.Machine.execScpOpen sch f s
  | .scpOpenAck sch f => Sys2Proof.Machine.execScpOpenAck sch f s
  | .scpData sch f => Sys2Proof.Machine.execScpData sch f s
  | .scpAck sch f => Sys2Proof.Machine.execScpAck sch f s
  | .scpNak sch f => Sys2Proof.Machine.execScpNak sch f s
  | .scpClose sch f => Sys2Proof.Machine.execScpClose sch f s
  | .scpCloseAck sch f => Sys2Proof.Machine.execScpCloseAck sch f s
  | .scpKeepalive sch f => Sys2Proof.Machine.execScpKeepalive sch f s
  | .scpFence sch f => Sys2Proof.Machine.execScpFence sch f s
  | .scpFenceAck sch f => Sys2Proof.Machine.execScpFenceAck sch f s
  | .scpError sch f => Sys2Proof.Machine.execScpError sch f s
  | .openResend sch => Sys2Proof.Machine.execOpenResend sch s
  | .keepaliveTimer sch => Sys2Proof.Machine.execKeepaliveTimer sch s
  | .pathDead sch => Sys2Proof.Machine.execPathDead sch s
  | .reopen sch => Sys2Proof.Machine.execReopen sch s
  | .scpRetransmit sch => Sys2Proof.Machine.execScpRetransmit sch s
  | .delayedAck sch => Sys2Proof.Machine.execDelayedAck sch s
  | .fenceResend sch => Sys2Proof.Machine.execFenceResend sch s
  | .tcpSegment sch g => Sys2Proof.Machine.execTcpSegment sch g s
  | .tcpRetransmitTimeout sch => Sys2Proof.Machine.execTcpRetransmitTimeout sch s
  | .linkDown port sub => Sys2Proof.Machine.execLinkDown port sub s
  | .linkUp port sub fec => Sys2Proof.Machine.execLinkUp port sub fec s
  | .pfcFrame port prio quanta => Sys2Proof.Machine.execPfcFrame port prio quanta s
  | .pfcPauseExpiry port prio => Sys2Proof.Machine.execPfcPauseExpiry port prio s
  | .announceRepeat port => Sys2Proof.Machine.execAnnounceRepeat port s
  | .ethcfgWrite port v => Sys2Proof.Machine.execEthcfgWrite port v s
  -- Compression (chapter 15)
  | .czSubmit slice tail => Sys2Proof.Machine.execCzSubmit slice tail s
  | .czDescriptorFetch engine => Sys2Proof.Machine.execCzDescriptorFetch engine s
  | .compress engine => Sys2Proof.Machine.execCompress engine s
  | .decompress engine => Sys2Proof.Machine.execDecompress engine s
  | .czComplete engine check => Sys2Proof.Machine.execCzComplete engine check s
  | .czEnable slice v => Sys2Proof.Machine.execCzEnable slice v s
  | .czDisable slice v => Sys2Proof.Machine.execCzDisable slice v s
  -- Cipher, key pages and MACsec (chapter 16)
  | .keyLoad slice slot => Sys2Proof.Machine.execKeyLoad slice slot s
  | .keyErase slice slot => Sys2Proof.Machine.execKeyErase slice slot s
  | .keyEraseAll slice slot => Sys2Proof.Machine.execKeyEraseAll slice slot s
  | .cxSubmit slice tail => Sys2Proof.Machine.execCxSubmit slice tail s
  | .cxDescriptorFetch engine => Sys2Proof.Machine.execCxDescriptorFetch engine s
  | .encrypt engine => Sys2Proof.Machine.execEncrypt engine s
  | .decrypt engine => Sys2Proof.Machine.execDecrypt engine s
  | .macTag engine => Sys2Proof.Machine.execMacTag engine s
  | .macVerify engine => Sys2Proof.Machine.execMacVerify engine s
  | .hashSha engine => Sys2Proof.Machine.execHashSha engine s
  | .cxComplete engine check => Sys2Proof.Machine.execCxComplete engine check s
  | .cxEnable slice v => Sys2Proof.Machine.execCxEnable slice v s
  | .cxDisable slice v => Sys2Proof.Machine.execCxDisable slice v s
  | .saInstall sa => Sys2Proof.Machine.execSaInstall sa s
  | .saActivate sa => Sys2Proof.Machine.execSaActivate sa s
  | .txAnSwitch p => Sys2Proof.Machine.execTxAnSwitch p s
  | .saRetire sa => Sys2Proof.Machine.execSaRetire sa s
  -- Weir (chapter 17)
  | .weirEvent r => Sys2Proof.Machine.execWeirEvent r s
  | .windowRoll src => Sys2Proof.Machine.execWindowRoll src s
  | .statusClear src v => Sys2Proof.Machine.execStatusClear src v s
  | .logSelect v => Sys2Proof.Machine.execLogSelect v s
  | .weirParityError logIntact => Sys2Proof.Machine.execWeirParityError logIntact s
  | .safeState => Sys2Proof.Machine.execSafeState s
  | .beatOverrun u stage n => Sys2Proof.Machine.execBeatOverrun u stage n s
  -- Continuity: sparing, journal commands and the pair (chapter 18)
  | .spareCore tgt => Sys2Proof.Machine.execSpareCore tgt s
  | .spareCp tgt => Sys2Proof.Machine.execSpareCp tgt s
  | .rescue tgt => Sys2Proof.Machine.execRescue tgt s
  | .dump tgt => Sys2Proof.Machine.execDump tgt s
  | .retire tgt => Sys2Proof.Machine.execRetire tgt s
  | .pairActive tgt => Sys2Proof.Machine.execPairActive tgt s
  | .pairStandby tgt => Sys2Proof.Machine.execPairStandby tgt s
  | .leave tgt => Sys2Proof.Machine.execLeave tgt s
  | .promote tgt => Sys2Proof.Machine.execPromote tgt s
  | .handover tgt => Sys2Proof.Machine.execHandover tgt s
  | .coreSparing lcn bad => Sys2Proof.Machine.execCoreSparing lcn bad s
  | .spareConfirmationFail slot => Sys2Proof.Machine.execSpareConfirmationFail slot s
  | .cpSparing lcp => Sys2Proof.Machine.execCpSparing lcp s
  | .selfTestPass slot r => Sys2Proof.Machine.execSelfTestPass slot r s
  | .controlAreaWrite => Sys2Proof.Machine.execControlAreaWrite s
  | .deltaShip => Sys2Proof.Machine.execDeltaShip s
  | .heartbeatSend => Sys2Proof.Machine.execHeartbeatSend s
  | .healthSend => Sys2Proof.Machine.execHealthSend s
  | .heartbeat port h => Sys2Proof.Machine.execHeartbeat port h s
  | .health h => Sys2Proof.Machine.execHealth h s
  | .delta h beat entries => Sys2Proof.Machine.execDelta h beat entries s
  | .deltaEnd h beat e => Sys2Proof.Machine.execDeltaEnd h beat e s
  | .deltaAckSend => Sys2Proof.Machine.execDeltaAckSend s
  | .deltaAck h beat => Sys2Proof.Machine.execDeltaAck h beat s
  | .pairedEntry => Sys2Proof.Machine.execPairedEntry s
  | .mirrorHorizonMiss beat => Sys2Proof.Machine.execMirrorHorizonMiss beat s
  | .dyingGasp g => Sys2Proof.Machine.execDyingGasp g s
  | .heartbeatLoss => Sys2Proof.Machine.execHeartbeatLoss s
  | .takeoverConfirm m => Sys2Proof.Machine.execTakeoverConfirm m s
  | .takeoverDeny m => Sys2Proof.Machine.execTakeoverDeny m s
  | .soloGrant m => Sys2Proof.Machine.execSoloGrant m s
  | .soloDeny m => Sys2Proof.Machine.execSoloDeny m s
  | .safeReq m => Sys2Proof.Machine.execSafeReq m s
  | .witnessResend => Sys2Proof.Machine.execWitnessResend s
  | .takeover => Sys2Proof.Machine.execTakeover s
  | .guardedRegionWrite r v => Sys2Proof.Machine.execGuardedRegionWrite r v s
  -- Plant, time and power (chapters 19 and 22)
  | .beatBoundary => Sys2Proof.Machine.execBeatBoundary s
  | .referenceLoss => Sys2Proof.Machine.execReferenceLoss s
  | .referenceReturn => Sys2Proof.Machine.execReferenceReturn s
  | .ppsEdge => Sys2Proof.Machine.execPpsEdge s
  | .ppsLoss => Sys2Proof.Machine.execPpsLoss s
  | .todSet => Sys2Proof.Machine.execTodSet s
  | .todLoad => Sys2Proof.Machine.execTodLoad s
  | .sensorSample n v => Sys2Proof.Machine.execSensorSample n v s
  | .thermalLoop => Sys2Proof.Machine.execThermalLoop s
  | .holdup a => Sys2Proof.Machine.execHoldup a s
  | .powerStableChange => Sys2Proof.Machine.execPowerStableChange s
  | .railWindowExit rail => Sys2Proof.Machine.execRailWindowExit rail s
  | .powerDownAccept lcn => Sys2Proof.Machine.execPowerDownAccept lcn s
  | .regulatorsOff => Sys2Proof.Machine.execRegulatorsOff s
  | .powerSequence => Sys2Proof.Machine.execPowerSequence s
  | .sequenceFail rail => Sys2Proof.Machine.execSequenceFail rail s
  | .sequenceRetry => Sys2Proof.Machine.execSequenceRetry s
  | .pwronFall => Sys2Proof.Machine.execPwronFall s
  -- Resets, microcode and life cycle (chapters 9 and 21)
  | .coldReset c r => Sys2Proof.Machine.execColdReset c r s
  | .warmReset c r => Sys2Proof.Machine.execWarmReset c r s
  | .coreReset issuer tgt pass bad => Sys2Proof.Machine.execCoreReset issuer tgt pass bad s
  | .mclVerify => Sys2Proof.Machine.execMclVerify s
  | .verifyComplete => Sys2Proof.Machine.execVerifyComplete s
  | .mclActivate => Sys2Proof.Machine.execMclActivate s
  | .microcodeActivation => Sys2Proof.Machine.execMicrocodeActivation s
  | .lcChange confirm target => Sys2Proof.Machine.execLcChange confirm target s
  | .raiseBsvn confirm target => Sys2Proof.Machine.execRaiseBsvn confirm target s
  | .raiseMsvn confirm target => Sys2Proof.Machine.execRaiseMsvn confirm target s
  -- Slices (chapter 20)
  | .sliceEnable slice => Sys2Proof.Machine.execSliceEnable slice s
  | .sliceFreeze slice => Sys2Proof.Machine.execSliceFreeze slice s
  | .freezeComplete slice => Sys2Proof.Machine.execFreezeComplete slice s
  | .sliceThaw slice => Sys2Proof.Machine.execSliceThaw slice s
  | .sliceSave slice => Sys2Proof.Machine.execSliceSave slice s
  | .sliceRestore slice => Sys2Proof.Machine.execSliceRestore slice s
  | .sliceBusyEnd => Sys2Proof.Machine.execSliceBusyEnd s
  | .sliceRelease slice => Sys2Proof.Machine.execSliceRelease slice s
  -- Port accesses without a row of their own, supplies, keys
  | .readClear lcn port => Sys2Proof.Machine.execReadClear lcn port s
  | .registerWrite lcn port v => Sys2Proof.Machine.execRegisterWrite lcn port v s
  | .standbySupplyLoss rail => Sys2Proof.Machine.execStandbySupplyLoss rail s
  | .standbySupplyOn => Sys2Proof.Machine.execStandbySupplyOn s
  | .keySlotEccError slice slot => Sys2Proof.Machine.execKeySlotEccError slice slot s

end Sys2Proof.Machine
end

