-- ==== Sys2Proof/Safety.lean ====
section
/-! DEFINITION. What claims speak of: a core that is ready for an instruction, room on its stacks, the state that an instruction leaves, and the well-formedness of states. -/

namespace Sys2Proof.Machine

/-- Core n begins an instruction now (R59, R99, R139, R142, R209, R414): it runs, waits for no port, no older device store and no acknowledgement, its rename has registers, it owes no event to its counters, and no interrupt comes first; its stack caches hold no more than R40 gives them. -/
structure Ready (s : State) (n : Nat) : Prop where
  run : (s.core n).run = .running
  notSafe : s.weir.safe = false
  devRead : (s.core n).devRead = none
  inval : (s.core n).inval = none
  ioWait : (s.core n).ioWait = none
  rename : (s.core n).renameStops = false
  dsMax : (s.core n).ds.cache.length ≤ 32
  rsMax : (s.core n).rs.cache.length ≤ 16
  due : (s.core n).slotFresh = true ∨ s.nextEvent n = none
  owes : (s.core n).due = []

/-- An instruction that consumes i entries of a stack and produces o needs neither a fill nor a spill (R42). -/
def StackRegs.fits (x : StackRegs) (ret : Bool) (i o : Nat) : Prop :=
  i ≤ x.cache.length ∧ x.cache.length - i + o ≤ stackMax ret

/-- The privilege state of a core. -/
def State.sup (s : State) (n : Nat) : Bool := pswS (s.core n).psw

/-- The state after an instruction of length len that changed its core by f and goes on with the next instruction. -/
def State.after (s : State) (k : Insn) (len : Nat) (f : Core → Core) : State :=
  (s.modCore k.lcn f).retire k.lcn (k.pfx.length + len) (s.sup k.lcn) .next

/-- The data stack of a core with its cached entries replaced, the top first. -/
def Core.withStack (c : Core) (xs : List Word) : Core := { c with ds := { c.ds with cache := xs } }

/-- The return stack of a core with its cached entries replaced, the top first. -/
def Core.withReturn (c : Core) (xs : List Word) : Core := { c with rs := { c.rs with cache := xs } }

/-- Everything but the cores and the model's counter of free values is as it was. -/
structure SameOutside (s t : State) : Prop where
  mem : t.mem = s.mem
  pool : t.pool = s.pool
  mc : t.mc = s.mc
  weir : t.weir = s.weir
  ct : t.ct = s.ct
  css : t.css = s.css
  eth : t.eth = s.eth
  cz : t.cz = s.cz
  cx : t.cx = s.cx
  slices : t.slices = s.slices
  plant : t.plant = s.plant
  life : t.life = s.life
  pending : t.pending = s.pending

/-- Core b is core a, apart from what every retirement changes (its pc and delay-slot state, its counters and the events that it owes them, hold, retries, waits and string progress) and from what its caches hold. -/
structure SameCore (a b : Core) : Prop where
  run : b.run = a.run
  sparing : b.sparing = a.sparing
  waits : b.waits = a.waits
  pcn : b.pcn = a.pcn
  ds : b.ds = a.ds
  rs : b.rs = a.rs
  psw : b.psw = a.psw
  tsbr : b.tsbr = a.tsbr
  vbr : b.vbr = a.vbr
  iroot : b.iroot = a.iroot
  droot : b.droot = a.droot
  pid : b.pid = a.pid
  krr : b.krr = a.krr
  mcver : b.mcver = a.mcver
  cnt : b.cnt = a.cnt
  src : b.src = a.src
  dst : b.dst = a.dst
  fpc : b.fpc = a.fpc
  cyc : b.cyc = a.cyc
  resv : b.resv = a.resv
  sb : b.sb = a.sb
  devStore : b.devStore = a.devStore
  devRead : b.devRead = a.devRead
  mca : b.mca = a.mca
  dsl : b.dsl = a.dsl
  ici : b.ici = a.ici
  swi : b.swi = a.swi
  iciSrc : b.iciSrc = a.iciSrc
  timers : b.timers = a.timers
  inval : b.inval = a.inval
  stalled : b.stalled = a.stalled
  withdrawn : b.withdrawn = a.withdrawn
  upc : b.upc = a.upc
  ustack : b.ustack = a.ustack
  work : b.work = a.work

/-- t is s after an instruction of core n, of length len, which turned its core into c and goes on in sequence (R61). Nothing else changes. -/
structure Stepped (s t : State) (n len : Nat) (c : Core) : Prop where
  outside : SameOutside s t
  others : ∀ m, m ≠ n → t.core m = s.core m
  core : SameCore c (t.core n)
  pc : (t.core n).pc = if c.delay then c.npc else c.pc + BitVec.ofNat 64 len
  delay : (t.core n).delay = false

/-- The same with the switch to a microcode image that the core owes at this boundary (R244): its store, its MCVER, and the list of cores that activation waits for. -/
def Retired (s t : State) (n len : Nat) (c : Core) : Prop := ∃ u, Stepped s u n len c ∧ t = u.switchDue n

/-- The microcoded sequences of core n are those of ROM, which end (R234, R238): no redirect entry is valid. -/
def RomOnly (s : State) (n : Nat) : Prop := (s.store n).redir = []

/-- A signed result outside the 64-bit range. -/
def overflows (e : Int) : Bool := decide (e < -(2 ^ 63)) || decide (2 ^ 63 ≤ e)

/-- What a core meets when it raises a synchronous exception (R141). -/
def State.raises (s : State) (n : Nat) (e : Exc) : Out := orSame s (s.raiseSync n e)

end Sys2Proof.Machine
end

