-- ==== Sys2Proof/Certificates/Slice0/Obligations.lean ====
section
/-! DEFINITION. The statements for the provers. Each docstring names the rules of the spec that it formalises. -/

namespace Sys2Proof.Machine

/-! One step, and reset. -/

/-- One step runs the command at the front of the queue on the state with the queue's rest, and an empty queue idles (log 3). -/
def Claim.StepRunsFront : Prop :=
  (∀ (c : Instr) (rest : List Instr) (s : State), s.pending = c :: rest → step s = exec c { s with pending := rest }) ∧
  (∀ s : State, s.pending = [] → step s = .next s)

/-! Stack and literal instructions. -/

/-- The instructions of R72 that move entries of the data stack, in the stack effects of that rule: flags and everything else stay. -/
def Claim.DataStackMoves : Prop :=
  ∀ (k : Insn) (s : State) (a b c d : Word) (rest : List Word), Ready s k.lcn → k.pfx = [] →
    let x := (s.core k.lcn).ds
    let goes := fun (xs : List Word) => s.after k 1 (fun c => c.withStack (xs ++ rest))
    (exec (.nop k) s = .next (s.after k 1 id)) ∧
    (x.cache = a :: rest → rest.length ≤ 30 → exec (.dup k) s = .next (goes [a, a])) ∧
    (x.cache = a :: rest → exec (.drop k) s = .next (goes [])) ∧
    (x.cache = b :: a :: rest → exec (.swap k) s = .next (goes [a, b])) ∧
    (x.cache = b :: a :: rest → rest.length ≤ 29 → exec (.over k) s = .next (goes [a, b, a])) ∧
    (x.cache = c :: b :: a :: rest → exec (.rot k) s = .next (goes [a, c, b])) ∧
    (x.cache = b :: a :: rest → exec (.nip k) s = .next (goes [b])) ∧
    (x.cache = b :: a :: rest → rest.length ≤ 29 → exec (.tuck k) s = .next (goes [b, a, b])) ∧
    (x.cache = b :: a :: rest → rest.length ≤ 28 → exec (.dup2 k) s = .next (goes [b, a, b, a])) ∧
    (x.cache = b :: a :: rest → exec (.drop2 k) s = .next (goes [])) ∧
    (x.cache = d :: c :: b :: a :: rest → exec (.swap2 k) s = .next (goes [b, a, d, c])) ∧
    (x.cache = d :: c :: b :: a :: rest → rest.length ≤ 26 → exec (.over2 k) s = .next (goes [b, a, d, c, b, a]))

/-- The literals of R72 and R73: the immediate, sign-extended, above the stack. -/
def Claim.Literals : Prop :=
  ∀ (k : Insn) (s : State), Ready s k.lcn → k.pfx = [] → (s.core k.lcn).ds.cache.length < 32 →
    let goes := fun (len : Nat) (v : Word) => s.after k len (fun c => c.withStack (v :: c.ds.cache))
    (∀ v : BitVec 8, exec (.lit8 k v) s = .next (goes 2 (v.signExtend 64))) ∧
    (∀ v : BitVec 16, exec (.lit16 k v) s = .next (goes 3 (v.signExtend 64))) ∧
    (∀ v : BitVec 32, exec (.lit32 k v) s = .next (goes 5 (v.signExtend 64))) ∧
    (∀ v : BitVec 64, exec (.lit64 k v) s = .next (goes 9 v))

/-- The instructions of R72 and R74 that move entries between the stacks. -/
def Claim.ReturnStackMoves : Prop :=
  ∀ (k : Insn) (s : State) (a : Word) (rest : List Word), Ready s k.lcn → k.pfx = [] →
    let x := (s.core k.lcn).ds
    let r := (s.core k.lcn).rs
    (x.cache = a :: rest → r.cache.length < 16 →
      exec (.toR k) s = .next (s.after k 1 (fun c => (c.withStack rest).withReturn (a :: c.rs.cache)))) ∧
    (r.cache = a :: rest → x.cache.length < 32 →
      exec (.rFrom k) s = .next (s.after k 1 (fun c => (c.withStack (a :: c.ds.cache)).withReturn rest))) ∧
    (r.cache = a :: rest → x.cache.length < 32 →
      exec (.rFetch k) s = .next (s.after k 1 (fun c => c.withStack (a :: c.ds.cache)))) ∧
    (r.cache = a :: rest → exec (.rdrop k) s = .next (s.after k 1 (fun c => c.withReturn rest)))

/-- PICK reads a cached entry, and DEPTH gives v + (DSHI − DSP) / 8, v and DSP as they stand before the push (R75, R76). -/
def Claim.PickAndDepth : Prop :=
  ∀ (k : Insn) (s : State), Ready s k.lcn → k.pfx = [] →
    let x := (s.core k.lcn).ds
    x.cache.length < 32 →
      (∀ (n : BitVec 8) (v : Word), x.cache[n.toNat]? = some v → exec (.pick k n) s = .next (s.after k 2 (fun c => c.withStack (v :: x.cache)))) ∧
      exec (.depth k) s = .next (s.after k 1 (fun c => c.withStack ((BitVec.ofNat 64 x.cache.length + (x.hi - x.ptr) / 8) :: x.cache)))

/-! Integer instructions. -/

/-- The four flags that an instruction leaves (R50, R77): bits 3 to 0 of PSW, every other bit as it was. -/
def Claim.FlagsInPsw : Prop :=
  ∀ (p : Word) (z n v c : Bool),
    pswZ (setFlags p z n v c) = z ∧ pswN (setFlags p z n v c) = n ∧ pswV (setFlags p z n v c) = v ∧ pswC (setFlags p z n v c) = c ∧
    ∀ i, 4 ≤ i → (setFlags p z n v c).getLsbD i = p.getLsbD i

/-- The results and flags of the two-operand integer instructions of R78, with the flag codes of R77. -/
def Claim.IntegerTwoOperands : Prop :=
  ∀ (k : Insn) (s : State) (a b : Word) (rest : List Word), Ready s k.lcn → k.pfx = [] → (s.core k.lcn).ds.cache = b :: a :: rest →
    let p := (s.core k.lcn).psw
    let ci : Nat := if pswC p then 1 else 0
    let bi : Nat := if pswC p then 0 else 1
    let goes := fun (xs : List Word) (psw : Word) => Host.Outcome.next (s.after k 1 (fun c => { c.withStack (xs ++ rest) with psw := psw }))
    let flags := fun (r : Word) (e : Int) (c : Bool) => setFlags p (decide (r = 0)) r.msb (overflows e) c
    exec (.add k) s = goes [a + b] (flags (a + b) (a.toInt + b.toInt) (decide (2 ^ 64 ≤ a.toNat + b.toNat))) ∧
    exec (.sub k) s = goes [a - b] (flags (a - b) (a.toInt - b.toInt) (decide (b.toNat ≤ a.toNat))) ∧
    exec (.mul k) s = goes [a * b] (flags (a * b) (a.toInt * b.toInt) (decide (2 ^ 64 ≤ a.toNat * b.toNat))) ∧
    exec (.mulh k) s = goes [BitVec.ofInt 64 (a.toInt * b.toInt / 2 ^ 64)] p ∧
    exec (.mulhu k) s = goes [BitVec.ofNat 64 (a.toNat * b.toNat / 2 ^ 64)] p ∧
    exec (.adc k) s = goes [a + b + BitVec.ofNat 64 ci] (flags (a + b + BitVec.ofNat 64 ci) (a.toInt + b.toInt + ci) (decide (2 ^ 64 ≤ a.toNat + b.toNat + ci))) ∧
    exec (.sbc k) s = goes [a - b - BitVec.ofNat 64 bi] (flags (a - b - BitVec.ofNat 64 bi) (a.toInt - b.toInt - bi) (decide (b.toNat + bi ≤ a.toNat))) ∧
    exec (.cmp k) s = goes [] (flags (a - b) (a.toInt - b.toInt) (decide (b.toNat ≤ a.toNat))) ∧
    exec (.tst k) s = goes [] (setFlags p (decide (a &&& b = 0)) (a &&& b).msb false (pswC p))

/-- The results and flags of the one-operand integer instructions of R78. -/
def Claim.IntegerOneOperand : Prop :=
  ∀ (k : Insn) (s : State) (a : Word) (rest : List Word), Ready s k.lcn → k.pfx = [] → (s.core k.lcn).ds.cache = a :: rest →
    let p := (s.core k.lcn).psw
    let goes := fun (len : Nat) (xs : List Word) (psw : Word) => Host.Outcome.next (s.after k len (fun c => { c.withStack (xs ++ rest) with psw := psw }))
    let plus := fun (b : Word) => setFlags p (decide (a + b = 0)) (a + b).msb (overflows (a.toInt + b.toInt)) (decide (2 ^ 64 ≤ a.toNat + b.toNat))
    let minus := fun (x y : Word) => setFlags p (decide (x - y = 0)) (x - y).msb (overflows (x.toInt - y.toInt)) (decide (y.toNat ≤ x.toNat))
    exec (.neg k) s = goes 1 [0 - a] (minus 0 a) ∧
    exec (.inc k) s = goes 1 [a + 1] (plus 1) ∧
    exec (.dec k) s = goes 1 [a - 1] (minus a 1) ∧
    (∀ v : BitVec 8, exec (.addi k (.i8 v)) s = goes 2 [a + v.signExtend 64] (plus (v.signExtend 64))) ∧
    (∀ v : BitVec 16, exec (.addi k (.i16 v)) s = goes 3 [a + v.signExtend 64] (plus (v.signExtend 64))) ∧
    (∀ v : BitVec 16, exec (.cmpi k v) s = goes 3 [] (minus a (v.signExtend 64)))

/-- Division (R78, R79): truncated toward zero, the remainder with the sign of the dividend, V for −2^63 by −1 alone, C = 0; a divisor of 0 raises Integer-Divide (vector 13, level 4) and leaves the stack. -/
def Claim.Division : Prop :=
  ∀ (k : Insn) (s : State) (a b : Word) (rest : List Word), Ready s k.lcn → k.pfx = [] → (s.core k.lcn).ds.cache = b :: a :: rest →
    let p := (s.core k.lcn).psw
    let goes := fun (r : Word) (v : Bool) => Host.Outcome.next (s.after k 1 (fun c => { c.withStack (r :: rest) with psw := setFlags p (decide (r = 0)) r.msb v false }))
    let bad := fun (code : Byte) => s.raises k.lcn { Exc.plain 13 4 (s.core k.lcn).pc with opc := [code], ilen := 1 }
    (b ≠ 0 →
      exec (.div k) s = goes (BitVec.ofInt 64 (a.toInt.tdiv b.toInt)) (decide (a.toInt = -(2 ^ 63) ∧ b.toInt = -1)) ∧
      exec (.divu k) s = goes (BitVec.ofNat 64 (a.toNat / b.toNat)) false ∧
      exec (.rem k) s = goes (BitVec.ofInt 64 (a.toInt.tmod b.toInt)) false ∧
      exec (.remu k) s = goes (BitVec.ofNat 64 (a.toNat % b.toNat)) false) ∧
    (b = 0 → exec (.div k) s = bad 0x15 ∧ exec (.divu k) s = bad 0x16 ∧ exec (.rem k) s = bad 0x17 ∧ exec (.remu k) s = bad 0x18)

/-- The logic and bit instructions of R80 with their flags. CLZ, CTZ and POPC give the number that the rule describes. -/
def Claim.LogicAndBits : Prop :=
  ∀ (k : Insn) (s : State) (a b : Word) (rest : List Word), Ready s k.lcn → k.pfx = [] →
    let x := (s.core k.lcn).ds.cache
    let p := (s.core k.lcn).psw
    let goes := fun (r psw : Word) => Host.Outcome.next (s.after k 1 (fun c => { c.withStack (r :: rest) with psw := psw }))
    let l := fun (r : Word) => goes r (setFlags p (decide (r = 0)) r.msb false (pswC p))
    (x = b :: a :: rest →
      exec (.andB k) s = l (a &&& b) ∧ exec (.orB k) s = l (a ||| b) ∧ exec (.xorB k) s = l (a ^^^ b) ∧ exec (.andn k) s = l (a &&& ~~~b) ∧
      exec (.rol k) s = l (a.rotateLeft (b.toNat % 64)) ∧ exec (.ror k) s = l (a.rotateRight (b.toNat % 64))) ∧
    (x = a :: rest →
      exec (.notB k) s = l (~~~a) ∧
      exec (.sxw k) s = goes ((a.setWidth 32).signExtend 64) p ∧ exec (.zxw k) s = goes ((a.setWidth 32).setWidth 64) p ∧
      exec (.bswap k) s = goes (wordOf (wordBytes a).reverse) p ∧
      (∃ n : Nat, exec (.clz k) s = goes (BitVec.ofNat 64 n) p ∧ n ≤ 64 ∧ (∀ i, i < n → a.getLsbD (63 - i) = false) ∧ (n < 64 → a.getLsbD (63 - n) = true)) ∧
      (∃ n : Nat, exec (.ctz k) s = goes (BitVec.ofNat 64 n) p ∧ n ≤ 64 ∧ (∀ i, i < n → a.getLsbD i = false) ∧ (n < 64 → a.getLsbD n = true)) ∧
      exec (.popc k) s = goes (BitVec.ofNat 64 ((List.range 64).countP (fun i => a.getLsbD i))) p)

/-- The shifts of R80: the count is taken modulo 64, C is the last bit shifted out, kept for a count of 0. -/
def Claim.Shifts : Prop :=
  ∀ (k : Insn) (s : State) (a b : Word) (imm : BitVec 8) (rest : List Word), Ready s k.lcn → k.pfx = [] →
    let x := (s.core k.lcn).ds.cache
    let p := (s.core k.lcn).psw
    let goes := fun (len : Nat) (r : Word) (n : Nat) (out : Bool) =>
      Host.Outcome.next (s.after k len (fun c => { c.withStack (r :: rest) with psw := setFlags p (decide (r = 0)) r.msb false (if n = 0 then pswC p else out) }))
    (x = b :: a :: rest →
      let n := b.toNat % 64
      exec (.shl k) s = goes 1 (a <<< n) n (a.getLsbD (64 - n)) ∧
      exec (.shr k) s = goes 1 (a >>> n) n (a.getLsbD (n - 1)) ∧
      exec (.sar k) s = goes 1 (a.sshiftRight n) n (a.getLsbD (n - 1))) ∧
    (x = a :: rest →
      let n := imm.toNat % 64
      exec (.shli k imm) s = goes 2 (a <<< n) n (a.getLsbD (64 - n)) ∧
      exec (.shri k imm) s = goes 2 (a >>> n) n (a.getLsbD (n - 1)) ∧
      exec (.sari k imm) s = goes 2 (a.sshiftRight n) n (a.getLsbD (n - 1)))

/-! Special registers. -/

/-- The special registers of R47 whose value does not depend on the time inside a beat, by number, with what RDSR reads. -/
def srTable (n : Nat) (p : Plant) : List (Nat × (Core → Word)) :=
  [(0x00, fun c => c.psw), (0x01, fun c => c.tsbr), (0x02, fun c => c.vbr), (0x03, fun c => c.iroot), (0x04, fun c => c.droot),
   (0x05, fun c => c.pid.setWidth 64), (0x06, fun c => c.krr.setWidth 64), (0x07, fun _ => BitVec.ofNat 64 n), (0x08, fun c => c.mcver),
   (0x10, fun c => c.ds.ptr), (0x11, fun c => c.ds.lo), (0x12, fun c => c.ds.hi), (0x13, fun c => c.rs.ptr), (0x14, fun c => c.rs.lo), (0x15, fun c => c.rs.hi),
   (0x18, fun c => c.cnt), (0x19, fun c => c.src), (0x1A, fun c => c.dst), (0x1C, fun c => c.fpc.setWidth 64), (0x21, fun _ => p.beatc)] ++
  (List.range 8).map (fun i => (0x40 + i, fun c => ((c.perf[i]?).map PerfCounter.ctl).getD 0)) ++
  (List.range 8).map (fun i => (0x48 + i, fun c => (((c.perf[i]?).map PerfCounter.cnt).getD 0).setWidth 64))

/-- What a WRSR leaves in the core, by register number (R47): reserved bits stay zero, a read-only register stays as it is. -/
def srWrites (v : Word) : List (Nat × (Core → Core)) :=
  [(0x00, fun c => { c with psw := v &&& 0x370F }), (0x01, fun c => { c with tsbr := v }), (0x02, fun c => { c with vbr := v &&& 0xFFFFFFFFFFFFF000 }),
   (0x03, fun c => { c with iroot := v &&& 0x000FFFFFFFFFF000 }), (0x04, fun c => { c with droot := v &&& 0x000FFFFFFFFFF000 }),
   (0x05, fun c => { c with pid := v.setWidth 16 }), (0x06, fun c => { c with krr := v.setWidth 32 }),
   (0x10, fun c => { c with ds := { c.ds with ptr := v } }), (0x11, fun c => { c with ds := { c.ds with lo := v } }), (0x12, fun c => { c with ds := { c.ds with hi := v } }),
   (0x13, fun c => { c with rs := { c.rs with ptr := v } }), (0x14, fun c => { c with rs := { c.rs with lo := v } }), (0x15, fun c => { c with rs := { c.rs with hi := v } }),
   (0x18, fun c => { c with cnt := v }), (0x19, fun c => { c with src := v }), (0x1A, fun c => { c with dst := v }),
   (0x1C, fun c => { c with fpc := v.setWidth 32 &&& 0x001F1F0F }),
   (0x07, fun c => c), (0x08, fun c => c), (0x20, fun c => c), (0x21, fun c => c), (0x22, fun c => c), (0x23, fun c => c)] ++
  (List.range 8).map (fun i => (0x40 + i, fun c => { c with perf := modAt c.perf i (fun p => p.writeCtl v) })) ++
  (List.range 8).map (fun i => (0x48 + i, fun c => { c with perf := modAt c.perf i (fun p => p.writeCnt v) }))

/-- RDSR and WRSR in supervisor state (R47, R81): the value pushed, and the register written; a write of a read-only register is ignored. The registers whose writes are serialising are written by a microcoded sequence (R238), here that of ROM. -/
def Claim.SpecialRegisters : Prop :=
  ∀ (k : Insn) (s : State), Ready s k.lcn → k.pfx = [] → s.sup k.lcn = true →
    let c := s.core k.lcn
    (c.ds.cache.length < 32 → ∀ e ∈ srTable k.lcn s.plant,
      exec (.rdsr k (BitVec.ofNat 8 e.1)) s = .next (s.after k 2 (fun c => c.withStack (e.2 c :: c.ds.cache)))) ∧
    (∀ (v : Word) (rest : List Word), c.ds.cache = v :: rest → ∀ e ∈ srWrites v, e.1 < 6 → RomOnly s k.lcn →
      exec (.wrsr k (BitVec.ofNat 8 e.1)) s = .next (s.after k 2 (fun c => e.2 (c.withStack rest)))) ∧
    (∀ (v : Word) (rest : List Word), c.ds.cache = v :: rest → ∀ e ∈ srWrites v, 6 ≤ e.1 →
      exec (.wrsr k (BitVec.ofNat 8 e.1)) s = .next (s.after k 2 (fun c => e.2 (c.withStack rest)))) ∧
    (∀ (v : Word) (rest : List Word), c.ds.cache = v :: rest →
      exec (.wrkrr k) s = .next (s.after k 1 (fun c => { c.withStack rest with krr := v.setWidth 32 })))

/-- A register that R47 keeps for supervisor state raises Privileged-Operation (vector 11, level 4) in user state, and a number that R47 reserves raises Reserved-Opcode (vector 9) with CAUSE 1 and the number in INFO (R60). -/
def Claim.SpecialRegisterTraps : Prop :=
  ∀ (k : Insn) (s : State) (n : BitVec 8), Ready s k.lcn → k.pfx = [] →
    let pc := (s.core k.lcn).pc
    (s.sup k.lcn = false →
      (n.toNat ∈ [0x01, 0x02, 0x03, 0x04] ∨ (0x40 ≤ n.toNat ∧ n.toNat < 0x48) →
        exec (.rdsr k n) s = s.raises k.lcn { Exc.plain 11 4 pc with opc := [0x55], ilen := 2 }) ∧
      (n.toNat ∈ [0x00, 0x01, 0x02, 0x03, 0x04, 0x05, 0x06, 0x11, 0x12, 0x14, 0x15] ∨ (0x40 ≤ n.toNat ∧ n.toNat < 0x50) →
        exec (.wrsr k n) s = s.raises k.lcn { Exc.plain 11 4 pc with opc := [0x56], ilen := 2 })) ∧
    (n.toNat ∈ [0x09, 0x0F, 0x16, 0x17, 0x1B, 0x1D, 0x24, 0x3F] ∨ 0x50 ≤ n.toNat →
      exec (.rdsr k n) s = s.raises k.lcn { Exc.plain 9 4 pc with cause := 1, info := n.setWidth 64, opc := [0x55], ilen := 2 } ∧
      exec (.wrsr k n) s = s.raises k.lcn { Exc.plain 9 4 pc with cause := 1, info := n.setWidth 64, opc := [0x56], ilen := 2 })

/-- Reading the time (R48, R82, R83, R455): CYC never runs backward; RDTOD pushes TODH and TODL of one instant, and inside a beat TOD stands at the boundary's value and the reference cycles since. How far they have gone is free (log 7). -/
def Claim.TimeOfDay : Prop :=
  ∀ (k : Insn) (s : State), Ready s k.lcn → k.pfx = [] → s.plant.refCycle < 100 → (s.core k.lcn).ds.cache.length < 31 →
    let cache := (s.core k.lcn).ds.cache
    (∃ t, exec (.rdsr k 0x20) s = .next t ∧ (s.core k.lcn).cyc.toNat ≤ (t.core k.lcn).cyc.toNat ∧
      (t.core k.lcn).ds.cache = (t.core k.lcn).cyc :: cache) ∧
    (∀ n ∈ [(0x22#8, 64), (0x23#8, 0)], ∃ t, exec (.rdsr k n.1) s = .next t ∧ s.plant.refCycle ≤ t.plant.refCycle ∧ t.plant.refCycle < 100 ∧
      t.plant.todBase = s.plant.todBase ∧
      (t.core k.lcn).ds.cache = (s.plant.todBase + BitVec.ofNat 128 t.plant.refCycle * 0x028F5C28F5C28F5C).extractLsb' n.2 64 :: cache) ∧
    (∃ t, exec (.rdtod k) s = .next t ∧ s.plant.refCycle ≤ t.plant.refCycle ∧ t.plant.refCycle < 100 ∧ t.plant.todBase = s.plant.todBase ∧
      ∃ th tl, (t.core k.lcn).ds.cache = tl :: th :: cache ∧ th ++ tl = s.plant.todBase + BitVec.ofNat 128 t.plant.refCycle * 0x028F5C28F5C28F5C)

/-! Memory instructions. -/

/-- The w bytes from va upward lie in one page whose leaf t the first-level TLB of the side holds as the one that serves, and CHECK allows the access (R163, R165, R168). -/
structure Mapped (s : State) (n : Nat) (va : Word) (w : Nat) (acc : Acc) (t : TlbEntry) : Prop where
  hit : (if acc.instr then (s.core n).tlb.itlb else (s.core n).tlb.dtlb).filter (fun t => t.serves acc.instr (s.core n).pid va.toNat) = [t]
  side : t.instr = acc.instr
  room : (s.core n).tlb.itlb.length ≤ 64 ∧ (s.core n).tlb.dtlb.length ≤ 96
  allowed : checkReason acc (s.core n).krr t.r t.w t.x t.u t.key = none
  inPage : va.toNat % 2 ^ t.size + w ≤ 2 ^ t.size

/-- The w bytes from pa upward can be read at once: no other core's hold and no open transaction (R202, R250), no hole (R273) and no poison (R264). -/
structure Readable (s : State) (n pa w : Nat) : Prop where
  free : ∀ i, i < w → s.mustWait n (pa + i) = false
  there : ∀ i, i < w → s.paKind (pa + i) ≠ .hole
  clean : ∀ i, i < w → s.poisoned (lineOf (pa + i)) = false

/-- The number that the w bytes from pa upward spell to a load of core n, the most significant first (R6, R184). -/
def State.loadNat (s : State) (n pa w : Nat) : Nat := natOf ((List.range w).map (fun i => s.loadByte n (pa + i)))

/-- The prefixes that a load may carry: USR and ACQ, and none in a delay slot (R57). An ACQ load finds no REL store before it (R187). -/
structure LoadPrefixes (s : State) (k : Insn) : Prop where
  form : k.pfx ∈ [[], [Pfx.usr], [Pfx.acq], [Pfx.usr, Pfx.acq], [Pfx.acq, Pfx.usr]]
  slot : (s.core k.lcn).delay = true → k.pfx = []
  order : Pfx.acq ∈ k.pfx → ∀ e ∈ (s.core k.lcn).sb, e.rel = false

/-- The address that a memory instruction uses (R85). -/
def accessAddr (a : Word) (d : Option (BitVec 16)) : Word :=
  match d with
  | none => a
  | some v => a + v.signExtend 64

/-- The length of a memory instruction without its prefixes: opcode, and a displacement of two bytes (R55). -/
def accessLen (d : Option (BitVec 16)) : Nat := if d.isSome then 3 else 1

/-- The loads of R85: the bytes at the address, the most significant first, zero- or sign-extended, replace the address. Memory, the store buffer and every other register stay. -/
def Claim.Loads : Prop :=
  ∀ (k : Insn) (s : State) (d : Option (BitVec 16)) (a : Word) (rest : List Word) (t : TlbEntry), Ready s k.lcn → LoadPrefixes s k →
    (s.core k.lcn).ds.cache = a :: rest →
    let va := accessAddr a d
    let acc := dataAcc (s.core k.lcn) (k.pfx.contains .usr) false
    let pa := t.addr va.toNat
    ∀ e ∈ ([(.ldb k d, 1, BitVec.ofNat 64), (.ldbs k d, 1, fun v => (BitVec.ofNat 8 v).signExtend 64),
        (.ldh k d, 2, BitVec.ofNat 64), (.ldhs k d, 2, fun v => (BitVec.ofNat 16 v).signExtend 64),
        (.ldw k d, 4, BitVec.ofNat 64), (.ldws k d, 4, fun v => (BitVec.ofNat 32 v).signExtend 64),
        (.ldd k d, 8, BitVec.ofNat 64)] : List (Instr × Nat × (Nat → Word))),
      Mapped s k.lcn va e.2.1 acc t → Readable s k.lcn pa e.2.1 →
      ∃ u, exec e.1 s = .next u ∧
        Retired s u k.lcn (k.pfx.length + accessLen d) ((s.core k.lcn).withStack (e.2.2 (s.loadNat k.lcn pa e.2.1) :: rest))

/-- LDP (R85): the doubleword at a below the doubleword at a + 8. LDI (R91): the doubleword of the instruction space, checked as a fetch. -/
def Claim.PairAndInstructionLoads : Prop :=
  ∀ (k : Insn) (s : State) (a : Word) (rest : List Word) (t : TlbEntry), Ready s k.lcn → (s.core k.lcn).ds.cache = a :: rest →
    let c := s.core k.lcn
    let pa := t.addr a.toNat
    (LoadPrefixes s k → rest.length ≤ 30 → Mapped s k.lcn a 16 (dataAcc c (k.pfx.contains .usr) false) t → Readable s k.lcn pa 16 →
      ∃ u, exec (.ldp k) s = .next u ∧ Retired s u k.lcn (k.pfx.length + 1)
        (c.withStack (BitVec.ofNat 64 (s.loadNat k.lcn (pa + 8) 8) :: BitVec.ofNat 64 (s.loadNat k.lcn pa 8) :: rest))) ∧
    (k.pfx = [] → Mapped s k.lcn a 8 { instr := true, rd := false, wr := false, fetch := true, user := !s.sup k.lcn, uaOk := false } t →
      Readable s k.lcn pa 8 → (∀ i, i < 8 → s.isDram (pa + i) = true) →
      ∃ u, exec (.ldi k) s = .next u ∧ Retired s u k.lcn 1 (c.withStack (BitVec.ofNat 64 (s.loadNat k.lcn pa 8) :: rest)))

/-- The prefixes that a store may carry: USR and REL, and none in a delay slot (R57). -/
structure StorePrefixes (s : State) (k : Insn) : Prop where
  form : k.pfx ∈ [[], [Pfx.usr], [Pfx.rel], [Pfx.usr, Pfx.rel], [Pfx.rel, Pfx.usr]]
  slot : (s.core k.lcn).delay = true → k.pfx = []

/-- The core with stores in its buffer behind the older ones; a reservation on a granule that they touch is lost (R180, R201). -/
def Core.buffers (c : Core) (es : List StoreEntry) : Core :=
  es.foldl (fun c e => let c := { c with sb := c.sb ++ [e] }; if e.bytes.isEmpty then c else loseResv c (lineOf e.addr)) c

/-- The stores of R85 retire into the store buffer as one entry when the address is a multiple of the width, and as single bytes otherwise (R197): the low bytes of x, the most significant first. Memory stays as it is until the entries are performed. -/
def Claim.Stores : Prop :=
  ∀ (k : Insn) (s : State) (d : Option (BitVec 16)) (a x : Word) (rest : List Word) (t : TlbEntry), Ready s k.lcn → StorePrefixes s k →
    (s.core k.lcn).ds.cache = a :: x :: rest → t.d = true →
    let va := accessAddr a d
    let pa := t.addr va.toNat
    let rel := k.pfx.contains .rel
    ∀ e ∈ ([(.stb k d, 1), (.sth k d, 2), (.stw k d, 4), (.std k d, 8)] : List (Instr × Nat)),
      Mapped s k.lcn va e.2 (dataAcc (s.core k.lcn) (k.pfx.contains .usr) true) t → (s.core k.lcn).sb.length + e.2 ≤ 64 →
      let bs := (wordBytes x).drop (8 - e.2)
      let es : List StoreEntry := if va.toNat % e.2 = 0 then [{ addr := pa, bytes := bs, rel := rel }]
        else (List.range e.2).zipWith (fun i b => { addr := pa + i, bytes := [b], rel := rel }) bs
      ∃ u, exec e.1 s = .next u ∧ Retired s u k.lcn (k.pfx.length + accessLen d) (((s.core k.lcn).withStack rest).buffers es)

/-- STP (R85, R199) at an address that is a multiple of 16 in main memory retires as one entry of 16 bytes, x0 first. STI (R91) retires a doubleword through the instruction side. -/
def Claim.PairAndInstructionStores : Prop :=
  ∀ (k : Insn) (s : State) (a x0 x1 : Word) (rest : List Word) (t : TlbEntry), Ready s k.lcn → t.d = true →
    let c := s.core k.lcn
    let pa := t.addr a.toNat
    (StorePrefixes s k → c.ds.cache = a :: x1 :: x0 :: rest → a.toNat % 16 = 0 → s.paKind pa = .dram → c.sb.length < 64 →
      Mapped s k.lcn a 16 (dataAcc c (k.pfx.contains .usr) true) t →
      ∃ u, exec (.stp k) s = .next u ∧ Retired s u k.lcn (k.pfx.length + 1)
        ((c.withStack rest).buffers [{ addr := pa, bytes := wordBytes x0 ++ wordBytes x1, rel := k.pfx.contains .rel }])) ∧
    (k.pfx = [] → c.ds.cache = a :: x0 :: rest → a.toNat % 8 = 0 → s.isDram pa = true → c.sb.length < 64 →
      Mapped s k.lcn a 8 { instr := true, rd := false, wr := true, fetch := false, user := !s.sup k.lcn, uaOk := pswUA c.psw } t →
      ∃ u, exec (.sti k) s = .next u ∧ Retired s u k.lcn 1 ((c.withStack rest).buffers [{ addr := pa, bytes := wordBytes x0, rel := false }]))

/-- A line that a physical core holds alone in E or M, with nothing under way for it (R246, R249, R250). -/
structure Owned (s : State) (pcn line : Nat) : Prop where
  entry : ∃ e, s.dirEntry line = some e ∧ e.pv = [pcn]
  held : s.agentState pcn line = some .e ∨ s.agentState pcn line = some .m
  free : s.heldByOther pcn line = false
  idle : s.pool.txns.any (fun t => t.line == line) = false
  plain : s.guarded (line * 256) = false
  formed : s.windowForming (line * 256) = false

/-- LDR (R88, R200, R202): an aligned doubleword of main memory in a line of its own core is loaded, and a reservation and a hold on its granule are set; at an address that is not a multiple of 8 no reservation stands afterwards. -/
def Claim.LoadReserve : Prop :=
  ∀ (k : Insn) (s : State) (a : Word) (rest : List Word) (t : TlbEntry), Ready s k.lcn → LoadPrefixes s k → (s.core k.lcn).ds.cache = a :: rest →
    let c := s.core k.lcn
    let pa := t.addr a.toNat
    Mapped s k.lcn a 8 (dataAcc c (k.pfx.contains .usr) false) t → Readable s k.lcn pa 8 →
    let c' := c.withStack (BitVec.ofNat 64 (s.loadNat k.lcn pa 8) :: rest)
    (a.toNat % 8 ≠ 0 → ∃ u, exec (.ldr k) s = .next u ∧ Retired s u k.lcn (k.pfx.length + 1) { c' with resv := none }) ∧
    (a.toNat % 8 = 0 → s.paKind pa = .dram → Owned s c.pcn (lineOf pa) → s.guarded pa = false → (∀ e ∈ c.sb, lineOf e.addr ≠ lineOf pa) →
      ∃ u, exec (.ldr k) s = .next u ∧
        Retired s u k.lcn (k.pfx.length + 1) { c' with resv := some { va := a, granule := lineOf pa } } ∧
        (u.core k.lcn).hold = some { line := lineOf pa, left := 17 })

/-- STC without its reservation stores nothing, pushes 0 and leaves no reservation; with it, in a line of its own core, it stores the doubleword at once, pushes 1 and uses the reservation up (R88). -/
def Claim.StoreConditional : Prop :=
  ∀ (k : Insn) (s : State) (a x : Word) (rest : List Word) (t : TlbEntry), Ready s k.lcn → k.pfx = [] → (s.core k.lcn).ds.cache = a :: x :: rest → t.d = true →
    let c := s.core k.lcn
    let pa := t.addr a.toNat
    s.mem.wf = true → Mapped s k.lcn a 8 (dataAcc c false true) t →
    (c.resv = none → ∃ u, exec (.stc k) s = .next u ∧ Retired s u k.lcn 1 { c.withStack (0 :: rest) with resv := none }) ∧
    (c.resv = some { va := a, granule := lineOf pa } → a.toNat % 8 = 0 → s.paKind pa = .dram → s.guarded pa = false → s.windowForming pa = false → Owned s c.pcn (lineOf pa) →
      ∃ u, exec (.stc k) s = .next u ∧ (u.core k.lcn).ds.cache = 1 :: rest ∧ (u.core k.lcn).resv = none ∧
        (∀ i, i < 8 → u.mem.read (pa + i) = (wordBytes x).getD i 0) ∧ (∀ b, b < pa ∨ pa + 8 ≤ b → u.mem.read b = s.mem.read b))

/-- FENCE, ISYNC and WAIT (R89, R90, R97): FENCE and WAIT complete once the store buffer has drained and no device store is outstanding; WAIT, whose sequence is the one of ROM (R238), then stops the core unless an interrupt is due. -/
def Claim.FencesAndWait : Prop :=
  ∀ (k : Insn) (s t : State), Ready s k.lcn → k.pfx = [] → s.drain k.lcn = some t → (t.core k.lcn).devStore = none →
    let go := fun (u : State) (len : Nat) => Host.Outcome.next (u.retire k.lcn len (s.sup k.lcn) .next)
    exec (.fence k) s = go t 1 ∧
    exec (.isync k) s = go s 1 ∧
    (s.sup k.lcn = true → RomOnly s k.lcn → t.nextEvent k.lcn = none → exec (.wait k) s = go (t.modCore k.lcn (fun c => { c with run := .waiting })) 2) ∧
    (s.sup k.lcn = true → RomOnly s k.lcn → t.nextEvent k.lcn ≠ none → exec (.wait k) s = go t 2)

/-- FENCE waits, and its core stays at it and takes no interrupt, while its device store has no response (R89, R99, R100). -/
def Claim.FenceWaits : Prop :=
  ∀ (k : Insn) (s : State) (d : PortAccess), Ready s k.lcn → k.pfx = [] → (s.core k.lcn).sb = [] → (s.core k.lcn).devStore = some d →
    s.unitAnswers d.port = false ∨ s.overdue d = true → exec (.fence k) s = .next (s.modCore k.lcn (fun c => { c with ioWait := some [0x3F] }))


/-! Control transfer and exceptions. -/

/-- t is s after a branch of core n at slot address slot, whose core is c apart from pc and delay-slot state (R61): the delay slot runs when A = 0 or a conditional branch is taken, and is skipped otherwise; then the target or the fall-through address follows. -/
structure Transferred (s t : State) (n : Nat) (c : Core) (slot : Word) (slotLen : Nat) (taken cond a : Bool) (target : Word) : Prop where
  outside : SameOutside s t
  others : ∀ m, m ≠ n → t.core m = s.core m
  core : SameCore c (t.core n)
  runs : a = false ∨ (cond = true ∧ taken = true) →
    (t.core n).pc = slot ∧ (t.core n).delay = true ∧ (t.core n).npc = if taken then target else slot + BitVec.ofNat 64 slotLen
  skips : a = true → (cond = true → taken = false) →
    (t.core n).pc = (if taken then target else slot + BitVec.ofNat 64 slotLen) ∧ (t.core n).delay = false

/-- The same with the switch to a microcode image that the core owes at this boundary (R244). -/
def Branched (s t : State) (n : Nat) (c : Core) (slot : Word) (slotLen : Nat) (taken cond a : Bool) (target : Word) : Prop :=
  ∃ u, Transferred s u n c slot slotLen taken cond a target ∧ t = u.switchDue n

/-- The conditional branches of R64 with their conditions on the flags of PSW, and BR, JMPL and the two that test T0 (R93). A branch in a delay slot is another matter: it raises Illegal-Prefix (R61). -/
def Claim.Branches : Prop :=
  ∀ (k : Insn) (s : State) (b : Branch16) (l : Branch32), Ready s k.lcn → k.pfx = [] → (s.core k.lcn).delay = false →
    let c := s.core k.lcn
    let z := pswZ c.psw
    let nf := pswN c.psw
    let v := pswV c.psw
    let cf := pswC c.psw
    let near := c.pc + b.disp.signExtend 64
    (∀ e ∈ ([(.beq k b, z), (.bne k b, !z), (.blt k b, nf != v), (.bge k b, nf == v), (.bgt k b, !z && nf == v), (.ble k b, z || nf != v),
        (.bltu k b, !cf), (.bgeu k b, cf), (.bgtu k b, cf && !z), (.bleu k b, !cf || z), (.bvs k b, v), (.bvc k b, !v)] : List (Instr × Bool)),
      ∃ t, exec e.1 s = .next t ∧ Branched s t k.lcn c (c.pc + 3) b.slotLen e.2 true b.slotBit near) ∧
    (∃ t, exec (.br k b) s = .next t ∧ Branched s t k.lcn c (c.pc + 3) b.slotLen true false b.slotBit near) ∧
    (∃ t, exec (.jmpl k l) s = .next t ∧ Branched s t k.lcn c (c.pc + 5) l.slotLen true false l.slotBit (c.pc + l.disp.signExtend 64)) ∧
    (∀ (x : Word) (rest : List Word), c.ds.cache = x :: rest →
      (∃ t, exec (.bz k b) s = .next t ∧ Branched s t k.lcn (c.withStack rest) (c.pc + 3) b.slotLen (decide (x = 0)) true b.slotBit near) ∧
      (∃ t, exec (.bnz k b) s = .next t ∧ Branched s t k.lcn (c.withStack rest) (c.pc + 3) b.slotLen (decide (x ≠ 0)) true b.slotBit near))

/-- The calls push the address behind the delay slot on the return stack, also when the slot is skipped; JMPI, CALLI and RET take their target from a stack (R93). -/
def Claim.CallsAndReturns : Prop :=
  ∀ (k : Insn) (s : State) (b : Branch16) (l : Branch32) (i : BranchInd) (x : Word) (rest : List Word), Ready s k.lcn → k.pfx = [] → (s.core k.lcn).delay = false →
    let c := s.core k.lcn
    let ra := fun (len slotLen : Nat) => (c.pc + BitVec.ofNat 64 len + BitVec.ofNat 64 slotLen) :: c.rs.cache
    (c.rs.cache.length < 16 →
      (∃ t, exec (.call k b) s = .next t ∧ Branched s t k.lcn (c.withReturn (ra 3 b.slotLen)) (c.pc + 3) b.slotLen true false b.slotBit (c.pc + b.disp.signExtend 64)) ∧
      (∃ t, exec (.calll k l) s = .next t ∧ Branched s t k.lcn (c.withReturn (ra 5 l.slotLen)) (c.pc + 5) l.slotLen true false l.slotBit (c.pc + l.disp.signExtend 64)) ∧
      (c.ds.cache = x :: rest →
        ∃ t, exec (.calli k i) s = .next t ∧ Branched s t k.lcn ((c.withStack rest).withReturn (ra 1 i.slotLen)) (c.pc + 1) i.slotLen true false i.slotBit x)) ∧
    (c.ds.cache = x :: rest → ∃ t, exec (.jmpi k i) s = .next t ∧ Branched s t k.lcn (c.withStack rest) (c.pc + 1) i.slotLen true false i.slotBit x) ∧
    (c.rs.cache = x :: rest → ∃ t, exec (.ret k i) s = .next t ∧ Branched s t k.lcn (c.withReturn rest) (c.pc + 1) i.slotLen true false i.slotBit x)

/-- What exception entry leaves in the core (R138, R150), c being the core before it: the handler runs in supervisor state at the given level with UA = 0 and the flags kept, its data stack holds the vector above the address of the TSB, its return stack is empty, TSBR stands behind the TSB, and reservation and hold are gone. -/
structure Entered (c d : Core) (vec level : Nat) : Prop where
  run : d.run = .running
  pc : d.pc = c.vbr + BitVec.ofNat 64 (64 * vec)
  psw : d.psw = (c.psw &&& 0xF) ||| 0x1000 ||| (BitVec.ofNat 64 (level % 8) <<< 8)
  ds : d.ds = { c.ds with cache := [BitVec.ofNat 64 vec, c.tsbr] }
  rs : d.rs = { c.rs with cache := [] }
  tsbr : d.tsbr = c.tsbr + 0x400
  delay : d.delay = false
  resv : d.resv = none
  hold : d.hold = none

/-- A synchronous exception whose level exceeds ML is entered once the store buffer has drained and its TSB has been written; one that does not is a Double Fault at level 7, vector 2, and at ML = 7 the core checkstops with a SEVERE event (R141, R142, R150). The sequence of exception entry is the one of ROM (R238). -/
def Claim.ExceptionEntry : Prop :=
  ∀ (s d w : State) (n : Nat) (e : Exc), n < w.cores.length → RomOnly s n → s.drain n = some d → d.tsbUsable (d.core n).tsbr = true →
    let ml := pswML (s.core n).psw
    (ml < 7 → ml < e.level → d.writeTsb n e e.vec 0 e.level = some w →
      ∃ t, s.raiseSync n e = some t ∧ Entered (w.core n) (t.core n) e.vec e.level ∧ t.mem = w.mem ∧ ∀ m, m ≠ n → t.core m = w.core m) ∧
    (e.level ≤ ml → ml < 7 → d.writeTsb n e 2 e.vec 7 = some w →
      ∃ t, s.raiseSync n e = some t ∧ Entered (w.core n) (t.core n) 2 7 ∧ t.mem = w.mem ∧ ∀ m, m ≠ n → t.core m = w.core m) ∧
    (ml = 7 → d.writeTsb n e e.vec 0 7 = some w →
      ∃ t, s.raiseSync n e = some t ∧ (t.core n).run = .checkstopped ∧ (t.core n).tsbr = (w.core n).tsbr ∧ t.weir.inFlight.length = w.weir.inFlight.length + 1)

/-- A TSB block that is not usable stalls the core: no byte of it is written, and a SEVERE event of core source 10 names TSBR (R149, R153). -/
def Claim.UnusableTsbStalls : Prop :=
  ∀ (s : State) (n : Nat) (e : Exc), n < s.cores.length → RomOnly s n → (s.core n).sb = [] → s.tsbUsable (s.core n).tsbr = false → pswML (s.core n).psw < 7 →
    ∃ t, s.raiseSync n e = some t ∧ (t.core n).run = .stalled ∧ t.mem = s.mem ∧ (t.core n).tsbr = (s.core n).tsbr ∧ (t.core n).psw = (s.core n).psw ∧
      ∃ r, t.weir.inFlight = s.weir.inFlight ++ [r] ∧ r.src = 16 * (s.core n).pcn + 10 ∧ r.cls = .severe ∧ r.addr = (s.core n).tsbr

/-- SVC enters Supervisor-Call, vector 12 at level 4, the saved pc behind the SVC and the immediate in INFO (R95); with ML of 4 to 6 it is a Double Fault. INFO and the saved pc stand in the record e that the TSB is written from. -/
def Claim.SupervisorCall : Prop :=
  ∀ (k : Insn) (s d w : State) (imm : BitVec 8), Ready s k.lcn → RomOnly s k.lcn → k.pfx = [] → (s.core k.lcn).delay = false → k.lcn < w.cores.length →
    s.drain k.lcn = some d → d.tsbUsable (d.core k.lcn).tsbr = true →
    let e := { Exc.plain 12 4 ((s.core k.lcn).pc + 2) with info := imm.setWidth 64 }
    let ml := pswML (s.core k.lcn).psw
    (ml < 4 → d.writeTsb k.lcn e 12 0 4 = some w → ∃ t, exec (.svc k imm) s = .next t ∧ Entered (w.core k.lcn) (t.core k.lcn) 12 4 ∧ t.mem = w.mem) ∧
    (4 ≤ ml → ml < 7 → d.writeTsb k.lcn e 2 12 7 = some w → ∃ t, exec (.svc k imm) s = .next t ∧ Entered (w.core k.lcn) (t.core k.lcn) 2 7 ∧ t.mem = w.mem)

/-- The doubleword at physical address a. -/
def State.dword (s : State) (a : Nat) : Word := wordOf (s.mem.readN a 8)

/-- RETT restores from the TSB below TSBR (R96, R152): pc, PSW without its reserved bits, the stack pointers and both caches, CNT, SRC, DST and the delay-slot state; TSBR steps back. Memory and everything outside the core stay, but for the microcode image that the core owes at this boundary (R244). -/
def Claim.ReturnFromException : Prop :=
  ∀ (k : Insn) (s : State), Ready s k.lcn → RomOnly s k.lcn → k.pfx = [] → (s.core k.lcn).delay = false → s.sup k.lcn = true → (s.core k.lcn).sb = [] →
    0x400 ≤ (s.core k.lcn).tsbr.toNat →
    let a := (s.core k.lcn).tsbr.toNat - 0x400
    let dv := (s.mem.read (a + 4)).toNat
    let rv := (s.mem.read (a + 5)).toNat
    s.tsbUsable ((s.core k.lcn).tsbr - 0x400) = true → Readable s k.lcn a 0x400 → s.mem.read a = 1 → dv ≤ 32 → rv ≤ 16 →
    ∃ t, exec (.rett k) s = .next (t.switchDue k.lcn) ∧ SameOutside s t ∧ (∀ m, m ≠ k.lcn → t.core m = s.core m) ∧
      let d := t.core k.lcn
      d.pc = s.dword (a + 0x10) ∧ d.psw = s.dword (a + 0x18) &&& 0x370F ∧ d.ds.ptr = s.dword (a + 0x20) ∧ d.rs.ptr = s.dword (a + 0x28) ∧
      d.cnt = s.dword (a + 0x30) ∧ d.src = s.dword (a + 0x38) ∧ d.dst = s.dword (a + 0x40) ∧
      d.delay = (s.mem.read (a + 2)).getLsbD 0 ∧ (d.delay = true → d.npc = s.dword (a + 0x48)) ∧
      d.ds.cache = (List.range dv).map (fun i => s.dword (a + 0x100 + 8 * i)) ∧ d.rs.cache = (List.range rv).map (fun i => s.dword (a + 0x200 + 8 * i)) ∧
      d.tsbr = (s.core k.lcn).tsbr - 0x400 ∧ d.resv = none ∧ d.vbr = (s.core k.lcn).vbr ∧ d.iroot = (s.core k.lcn).iroot ∧ d.droot = (s.core k.lcn).droot ∧
      d.pid = (s.core k.lcn).pid ∧ d.krr = (s.core k.lcn).krr

/-- RETT in user state raises Privileged-Operation; in supervisor state a version other than 1, more than 32 data entries or more than 16 return entries raise TSB-Format, vector 22, with their causes (R51, R152); the header that was read is in the core's L1. -/
def Claim.ReturnChecks : Prop :=
  ∀ (k : Insn) (s : State), Ready s k.lcn → k.pfx = [] → (s.core k.lcn).delay = false →
    let c := s.core k.lcn
    (s.sup k.lcn = false → exec (.rett k) s = s.raises k.lcn { Exc.plain 11 4 c.pc with opc := [0x8E], ilen := 1 }) ∧
    (s.sup k.lcn = true → RomOnly s k.lcn → c.sb = [] →
      let fails := fun (cause : Half) => { Exc.plain 22 4 c.pc with cause := cause, info := c.tsbr - 0x400 }
      (c.tsbr.toNat < 0x400 ∨ s.tsbUsable (c.tsbr - 0x400) = false → exec (.rett k) s = s.raises k.lcn (fails 0)) ∧
      (let a := c.tsbr.toNat - 0x400
       let bad := fun (cause : Half) => orSame s ((s.touchLines k.lcn ((List.range 0x68).map (a + ·))).raiseSync k.lcn (fails cause))
       0x400 ≤ c.tsbr.toNat → s.tsbUsable (c.tsbr - 0x400) = true → Readable s k.lcn a 0x400 →
        (s.mem.read a ≠ 1 → exec (.rett k) s = bad 1) ∧
        (s.mem.read a = 1 → 32 < (s.mem.read (a + 4)).toNat → exec (.rett k) s = bad 2) ∧
        (s.mem.read a = 1 → (s.mem.read (a + 4)).toNat ≤ 32 → 16 < (s.mem.read (a + 5)).toNat → exec (.rett k) s = bad 3)))

/-- TAKE_INTERRUPT enters the pending event of the highest level, the lowest vector first, that exceeds ML, at the core's pc (R137, R139): the level of the handler is the event's. -/
def Claim.InterruptEntry : Prop :=
  ∀ (s d w : State) (n vec level : Nat), (s.core n).run = .running ∨ (s.core n).run = .waiting → s.weir.safe = false → (s.core n).devRead = none →
    (s.core n).inval = none → (s.core n).ioWait = none → (s.core n).slotFresh = false → RomOnly s n → n < w.cores.length →
    (vec, level) ∈ s.pendingEvents n → pswML (s.core n).psw < level →
    (∀ e ∈ s.pendingEvents n, e.2 < level ∨ (e.2 = level ∧ vec ≤ e.1)) →
    (s.modCore n (fun c => c.clearTaken vec)).drain n = some d → d.tsbUsable (d.core n).tsbr = true →
    d.writeTsb n (intExc (s.core n) vec level) vec 0 level = some w →
    ∃ t, exec (.takeInterrupt n) s = .next t ∧ Entered (w.core n) (t.core n) vec level ∧ t.mem = w.mem

/-- A reserved opcode raises Reserved-Opcode, vector 9 at level 4, with CAUSE 0 and the opcode bytes (R60, R65, R67). -/
def Claim.ReservedOpcodes : Prop :=
  ∀ (k : Insn) (s : State), Ready s k.lcn → k.pfx = [] →
    (∀ b : Byte, primaryReserved b.toNat = true →
      exec (.reservedInstruction k (.primary b)) s = s.raises k.lcn { Exc.plain 9 4 (s.core k.lcn).pc with opc := [b], ilen := primaryLength b.toNat }) ∧
    (∀ e x : Byte, escapeReserved e.toNat x.toNat = true →
      exec (.reservedInstruction k (.escape e x)) s = s.raises k.lcn { Exc.plain 9 4 (s.core k.lcn).pc with opc := [e, x], ilen := escapeLength x.toNat })

/-- Prefixes (R57): on an instruction that admits none, any prefix raises Illegal-Prefix, vector 10 at level 4: CAUSE 2 in a delay slot, else 0 for an arrangement that R57 forbids, else 1. Shown for ADD. -/
def Claim.IllegalPrefixes : Prop :=
  ∀ (k : Insn) (s : State), Ready s k.lcn → k.pfx ≠ [] →
    let bad := fun (cause : Half) => s.raises k.lcn { Exc.plain 10 4 (s.core k.lcn).pc with
      cause := cause, opc := (k.pfx.map Pfx.byte ++ [0x10]).take 4, ilen := k.pfx.length + 1 }
    ((s.core k.lcn).delay = true → exec (.add k) s = bad 2) ∧
    ((s.core k.lcn).delay = false → pfxArranged k.pfx = false → exec (.add k) s = bad 0) ∧
    ((s.core k.lcn).delay = false → pfxArranged k.pfx = true → exec (.add k) s = bad 1)

/-! String, floating-point and decimal instructions. -/

/-- A byte that a string instruction reads: mapped and readable, in the page whose leaf is t. -/
structure ByteAt (s : State) (n : Nat) (va : Word) (w : Nat) (acc : Acc) (t : TlbEntry) : Prop where
  mapped : Mapped s n va w acc t
  readable : Readable s n (t.addr va.toNat) w

/-- How a string instruction goes on after its element left the core as c (R111, R112): without a repeat prefix it is over; with one, CNT counts down, and the instruction is over when CNT is 0 or its test ends it; otherwise its pc stays for the next element. -/
def Elapsed (s u : State) (k : Insn) (c : Core) (test : Bool) : Prop :=
  (k.pfx = [] → Retired s u k.lcn 1 c) ∧
  (∀ p, k.pfx = [p] →
    let c' := { c with cnt := c.cnt - 1 }
    let atEnd := c'.cnt = 0 ∨ (test = true ∧ ((p = .repz ∧ pswZ c.psw = false) ∨ (p = .repnz ∧ pswZ c.psw = true)))
    (atEnd → Retired s u k.lcn 2 c') ∧
    (¬atEnd → ∃ v, SameOutside s v ∧ (∀ m, m ≠ k.lcn → v.core m = s.core m) ∧ SameCore c' (v.core k.lcn) ∧ (v.core k.lcn).pc = c.pc ∧ u = v.switchDue k.lcn))

/-- One element of each string instruction (R110, R112, R113), the prefix none or a repeat one: the bytes at SRC and DST, x from the stack. A repeated instruction with CNT = 0 does nothing. -/
def Claim.Strings : Prop :=
  ∀ (k : Insn) (s : State) (x : Word) (rest : List Word) (ts td tt : TlbEntry), Ready s k.lcn → k.pfx ∈ [[], [Pfx.rep], [Pfx.repz], [Pfx.repnz]] →
    ((s.core k.lcn).delay = true → k.pfx = []) →
    let c := s.core k.lcn
    let rd := dataAcc c false false
    let wr := dataAcc c false true
    let src := s.loadByte k.lcn (ts.addr c.src.toNat)
    let put := fun (d : Core) (bs : List Byte) => d.buffers (if c.dst.toNat % bs.length = 0 then [{ addr := td.addr c.dst.toNat, bytes := bs, rel := false }]
      else (List.range bs.length).zipWith (fun i b => { addr := td.addr c.dst.toNat + i, bytes := [b], rel := false }) bs)
    (k.pfx ≠ [] → c.cnt = 0 → (∃ u, exec (.movs k) s = .next u ∧ Retired s u k.lcn 2 c) ∧ (∃ u, exec (.dmovs k) s = .next u ∧ Retired s u k.lcn 2 c) ∧
      (∃ u, exec (.cmps k) s = .next u ∧ Retired s u k.lcn 2 c) ∧
      (c.ds.cache = x :: rest → (∃ u, exec (.fills k) s = .next u ∧ Retired s u k.lcn 2 c) ∧ (∃ u, exec (.scans k) s = .next u ∧ Retired s u k.lcn 2 c) ∧
        (∃ u, exec (.xlats k) s = .next u ∧ Retired s u k.lcn 2 c))) ∧
    ((k.pfx ≠ [] → c.cnt ≠ 0) → c.sb.length < 56 → td.d = true →
      (ByteAt s k.lcn c.src 1 rd ts → Mapped s k.lcn c.dst 1 wr td →
        ∃ u, exec (.movs k) s = .next u ∧ Elapsed s u k (put { c with src := c.src + 1, dst := c.dst + 1 } [src]) false) ∧
      (ByteAt s k.lcn c.src 8 rd ts → Mapped s k.lcn c.dst 8 wr td →
        ∃ u, exec (.dmovs k) s = .next u ∧
          Elapsed s u k (put { c with src := c.src + 8, dst := c.dst + 8 } ((List.range 8).map (fun i => s.loadByte k.lcn (ts.addr c.src.toNat + i)))) false) ∧
      (c.ds.cache = x :: rest → Mapped s k.lcn c.dst 1 wr td →
        ∃ u, exec (.fills k) s = .next u ∧ Elapsed s u k (put { c with dst := c.dst + 1 } [x.setWidth 8]) false) ∧
      (ByteAt s k.lcn c.src 1 rd ts → ByteAt s k.lcn c.dst 1 rd td →
        ∃ u, exec (.cmps k) s = .next u ∧
          Elapsed s u k { c with psw := flagsSub c.psw (src.setWidth 64) ((s.loadByte k.lcn (td.addr c.dst.toNat)).setWidth 64) false, src := c.src + 1, dst := c.dst + 1 } true) ∧
      (c.ds.cache = x :: rest → ByteAt s k.lcn c.src 1 rd ts →
        ∃ u, exec (.scans k) s = .next u ∧
          Elapsed s u k { c with psw := flagsSub c.psw (src.setWidth 64) ((x.setWidth 8).setWidth 64) false, src := c.src + 1 } true) ∧
      (c.ds.cache = x :: rest → ByteAt s k.lcn c.src 1 rd ts → ByteAt s k.lcn (x + src.setWidth 64) 1 rd tt → Mapped s k.lcn c.dst 1 wr td →
        ∃ u, exec (.xlats k) s = .next u ∧
          Elapsed s u k (put { c with src := c.src + 1, dst := c.dst + 1 } [s.loadByte k.lcn (tt.addr (x + src.setWidth 64).toNat)]) false))


/-- The datum that a floating-point instruction reads from an entry (R123, R126): a subnormal one is zero in flush mode. -/
def fpDatum (fpc : Word32) (f : Fmt) (x : Word) : Fp :=
  if fpc.getLsbD 3 then (f.unpack (x.toNat % 2 ^ f.width)).flush else f.unpack (x.toNat % 2 ^ f.width)

/-- An entry that raises no Subnormal: flush mode, or no subnormal datum (R126). -/
def FpUsable (fpc : Word32) (f : Fmt) (x : Word) : Prop := fpc.getLsbD 3 = true ∨ (f.unpack (x.toNat % 2 ^ f.width)).isSub = false

/-- The arithmetic floating-point instructions (R125, R128, R129, R131): the result, rounded once under FPC.RM, replaces the operands, and the conditions it met are set in FPC, when no condition that is enabled arises. -/
def Claim.FloatArithmetic : Prop :=
  ∀ (k : Insn) (s : State) (w : FpWidth) (a b d : Word) (rest : List Word), Ready s k.lcn → k.pfx = [] →
    let cache := (s.core k.lcn).ds.cache
    let fpc := (s.core k.lcn).fpc
    let f := fmtOf w
    let rm := rmOf fpc
    let rd := fpDatum fpc f
    let raw := fun (x : Word) => x.toNat % 2 ^ f.width
    let goes := fun (r : FpRes) => Host.Outcome.next (s.after k 2 (fun c => { c.withStack (BitVec.ofNat 64 r.bits :: rest) with fpc := fpSet fpc r }))
    (cache = b :: a :: rest → FpUsable fpc f a → FpUsable fpc f b →
      ∀ e ∈ ([(.fadd k w, f.add rm (rd a) (rd b)), (.fsub k w, f.add rm (rd a) (rd b).neg), (.fmul k w, f.mul rm (rd a) (rd b)),
          (.fdiv k w, f.div rm (rd a) (rd b)), (.fmin k w, f.pick (raw a, rd a) (raw b, rd b) (!(rd b).before (rd a))),
          (.fmax k w, f.pick (raw a, rd a) (raw b, rd b) (!(rd a).before (rd b)))] : List (Instr × FpRes)),
        fpRaise fpc e.2 = none → exec e.1 s = goes e.2) ∧
    (cache = a :: rest → FpUsable fpc f a → fpRaise fpc (f.sqrt rm (rd a)) = none → exec (.fsqrt k w) s = goes (f.sqrt rm (rd a))) ∧
    (cache = d :: b :: a :: rest → FpUsable fpc f a → FpUsable fpc f b → FpUsable fpc f d →
      fpRaise fpc (f.fma rm (rd a) (rd b) (rd d)) = none → exec (.fma k w) s = goes (f.fma rm (rd a) (rd b) (rd d)))

/-- The floating-point conversions (R129, R133). -/
def Claim.FloatConversions : Prop :=
  ∀ (k : Insn) (s : State) (a : Word) (rest : List Word), Ready s k.lcn → k.pfx = [] → (s.core k.lcn).ds.cache = a :: rest →
    let fpc := (s.core k.lcn).fpc
    let rm := rmOf fpc
    let goes := fun (r : FpRes) => Host.Outcome.next (s.after k 2 (fun c => { c.withStack (BitVec.ofNat 64 r.bits :: rest) with fpc := fpSet fpc r }))
    let rdD := fpDatum fpc fmtD a
    let rdS := fpDatum fpc fmtS a
    (FpUsable fpc fmtD a → ∀ e ∈ ([(.fcvtSD k, fmtS.convert rm rdD), (.fcvtLD k, toInteger rm (-(2 ^ 63)) (2 ^ 63 - 1) (-(2 ^ 63)) rdD),
        (.fcvtLUD k, toInteger rm 0 (2 ^ 64 - 1) 0 rdD)] : List (Instr × FpRes)), fpRaise fpc e.2 = none → exec e.1 s = goes e.2) ∧
    (FpUsable fpc fmtS a → ∀ e ∈ ([(.fcvtDS k, fmtD.convert rm rdS), (.fcvtLS k, toInteger rm (-(2 ^ 63)) (2 ^ 63 - 1) (-(2 ^ 63)) rdS),
        (.fcvtLUS k, toInteger rm 0 (2 ^ 64 - 1) 0 rdS)] : List (Instr × FpRes)), fpRaise fpc e.2 = none → exec e.1 s = goes e.2) ∧
    (∀ e ∈ ([(.fcvtDL k, fmtD.fromInteger rm a.toInt), (.fcvtDLU k, fmtD.fromInteger rm a.toNat), (.fcvtSL k, fmtS.fromInteger rm a.toInt),
        (.fcvtSLU k, fmtS.fromInteger rm a.toNat)] : List (Instr × FpRes)), fpRaise fpc e.2 = none → exec e.1 s = goes e.2)

/-- FNEG and FABS act on the sign bit of any datum and FCLASS classifies it, without a condition (R126, R127, R132); FCMP sets all four flags from the relation, which is unordered with a NaN (R130). -/
def Claim.FloatSignsAndCompare : Prop :=
  ∀ (k : Insn) (s : State) (w : FpWidth) (a b : Word) (rest : List Word), Ready s k.lcn → k.pfx = [] →
    let cache := (s.core k.lcn).ds.cache
    let fpc := (s.core k.lcn).fpc
    let p := (s.core k.lcn).psw
    let f := fmtOf w
    let x := a.toNat % 2 ^ f.width
    let goes := fun (n : Nat) => Host.Outcome.next (s.after k 2 (fun c => c.withStack (BitVec.ofNat 64 n :: rest)))
    (cache = a :: rest →
      exec (.fneg k w) s = goes (x ^^^ 2 ^ (f.width - 1)) ∧ exec (.fabs k w) s = goes (x % 2 ^ (f.width - 1)) ∧ exec (.fclass k w) s = goes (f.unpack x).classMask) ∧
    (cache = b :: a :: rest → FpUsable fpc f a → FpUsable fpc f b →
      let A := fpDatum fpc f a
      let B := fpDatum fpc f b
      let r : FpRes := { FpRes.exact 0 with nv := A.isSnan || B.isSnan }
      fpRaise fpc r = none →
        exec (.fcmp k w) s = .next (s.after k 2 (fun c => { c.withStack rest with
          fpc := fpSet fpc r, psw := setFlags p (decide (A.rel B = .eq)) (decide (A.rel B = .lt)) (decide (A.rel B = .un)) (decide (A.rel B = .eq ∨ A.rel B = .gt)) })))

/-- Flush mode with every condition masked (R126, R128): FPC.SUBM is 1 and the five enables are 0. -/
def FpMasked (fpc : Word32) : Prop := fpc.getLsbD 3 = true ∧ ∀ i, 8 ≤ i → i ≤ 12 → fpc.getLsbD i = false

/-- In flush mode with every condition masked no floating-point instruction traps (R126, R128): each of the 22 forms completes on any operands that its stack holds, its result in their place; FCMP leaves its relation in the flags and pushes nothing. FPC keeps what it held and may gain flags. -/
def Claim.FloatCompletes : Prop :=
  ∀ (k : Insn) (s : State) (w : FpWidth) (a b d : Word) (rest : List Word), Ready s k.lcn → k.pfx = [] → FpMasked (s.core k.lcn).fpc →
    let cache := (s.core k.lcn).ds.cache
    let completes := fun (i : Instr) => ∃ (r : Word) (flags : Word32),
      exec i s = .next (s.after k 2 (fun c => { c.withStack (r :: rest) with fpc := c.fpc ||| flags }))
    (cache = b :: a :: rest →
      completes (.fadd k w) ∧ completes (.fsub k w) ∧ completes (.fmul k w) ∧ completes (.fdiv k w) ∧ completes (.fmin k w) ∧ completes (.fmax k w) ∧
      ∃ (p : Word) (flags : Word32), exec (.fcmp k w) s = .next (s.after k 2 (fun c => { c.withStack rest with psw := p, fpc := c.fpc ||| flags }))) ∧
    (cache = d :: b :: a :: rest → completes (.fma k w)) ∧
    (cache = a :: rest →
      completes (.fsqrt k w) ∧ completes (.fneg k w) ∧ completes (.fabs k w) ∧ completes (.fclass k w) ∧
      completes (.fcvtDS k) ∧ completes (.fcvtSD k) ∧ completes (.fcvtDL k) ∧ completes (.fcvtDLU k) ∧ completes (.fcvtLD k) ∧ completes (.fcvtLUD k) ∧
      completes (.fcvtSL k) ∧ completes (.fcvtSLU k) ∧ completes (.fcvtLS k) ∧ completes (.fcvtLUS k))

/-- A condition that FPC enables raises its vector at level 4 and leaves the operands and FPC (R128): 15 for an invalid operation, 16 for a division by zero, 17 overflow, 18 underflow, 19 inexact, and Subnormal, vector 20 with SUB = 3, for a result outside flush mode. Shown for FADD. -/
def Claim.FloatTraps : Prop :=
  ∀ (k : Insn) (s : State) (w : FpWidth) (a b : Word) (rest : List Word) (v : Nat), Ready s k.lcn → k.pfx = [] → (s.core k.lcn).ds.cache = b :: a :: rest →
    let c := s.core k.lcn
    let f := fmtOf w
    (FpUsable c.fpc f a → FpUsable c.fpc f b → fpRaise c.fpc (f.add (rmOf c.fpc) (fpDatum c.fpc f a) (fpDatum c.fpc f b)) = some v →
      exec (.fadd k w) s = s.raises k.lcn { Exc.plain v 4 c.pc with sub := if v = 20 then 3 else 0 }) ∧
    (c.fpc.getLsbD 3 = false → (f.unpack (a.toNat % 2 ^ f.width)).isSub = true → exec (.fadd k w) s = s.raises k.lcn { Exc.plain 20 4 c.pc with sub := 0 }) ∧
    (c.fpc.getLsbD 3 = false → (f.unpack (a.toNat % 2 ^ f.width)).isSub = false → (f.unpack (b.toNat % 2 ^ f.width)).isSub = true →
      exec (.fadd k w) s = s.raises k.lcn { Exc.plain 20 4 c.pc with sub := 1 })

/-- The 128 bits of a packed-decimal operand: h above l (R118). -/
def decPair (h l : Word) : Nat := h.toNat * 2 ^ 64 + l.toNat

/-- A packed-decimal number whose 32 nibbles are valid (R119): the sign 0xC or 0xD, the digits 0 to 9. -/
def DecValid (x : Nat) : Prop := x < 2 ^ 128 ∧ (x % 16 = 12 ∨ x % 16 = 13) ∧ ∀ i, 1 ≤ i → i < 32 → x / 16 ^ i % 16 ≤ 9

/-- A result of the packed-decimal instructions is valid, and its value is the sign and the magnitude modulo 10^31; zero is positive (R120). -/
def Claim.PackedResult : Prop :=
  ∀ (neg : Bool) (m : Nat), DecValid (decPack neg m) ∧
    decValue (decPack neg m) = (if neg = true ∧ m % 10 ^ 31 ≠ 0 then -((m % 10 ^ 31 : Nat) : Int) else ((m % 10 ^ 31 : Nat) : Int))

/-- DADD, DSUB, DCMP, DNEG, CVDB and the digit shifts on valid operands (R119 to R121): the value delivered, its flags, and V where digits are lost. -/
def Claim.DecimalArithmetic : Prop :=
  ∀ (k : Insn) (s : State) (ah al bh bl n : Word) (rest : List Word), Ready s k.lcn → k.pfx = [] → DecValid (decPair ah al) → DecValid (decPair bh bl) →
    let cache := (s.core k.lcn).ds.cache
    let p := (s.core k.lcn).psw
    let A := decValue (decPair ah al)
    let B := decValue (decPair bh bl)
    let put := fun (r : Nat) (v c : Bool) => Host.Outcome.next (s.after k 2 (fun x => { x.withStack (BitVec.ofNat 64 r :: BitVec.ofNat 64 (r / 2 ^ 64) :: rest) with
      psw := setFlags p (decide (r / 16 = 0)) (decide (r % 16 = 13)) v c }))
    let sum := fun (e : Int) => put (decPack (decide (e < 0)) e.natAbs) (decide (10 ^ 31 ≤ e.natAbs)) false
    let m := B.natAbs
    let neg := decide (decPair bh bl % 16 = 13)
    let by_ := min n.toNat 31
    (cache = bl :: bh :: al :: ah :: rest →
      exec (.dadd k) s = sum (A + B) ∧ exec (.dsub k) s = sum (A - B) ∧
      exec (.dcmp k) s = .next (s.after k 2 (fun x => { x.withStack rest with psw := setFlags p (decide (A = B)) (decide (A < B)) false false }))) ∧
    (cache = bl :: bh :: rest →
      exec (.dneg k) s = put (decPack (decide (-B < 0)) m) false false ∧
      exec (.cvdb k) s = .next (s.after k 2 (fun x => { x.withStack (BitVec.ofInt 64 B :: rest) with
        psw := setFlags p (decide (BitVec.ofInt 64 B = 0)) (BitVec.ofInt 64 B).msb (overflows B) false }))) ∧
    (cache = n :: bl :: bh :: rest →
      exec (.dshl k) s = put (decPack neg (m * 10 ^ by_)) (decide (10 ^ 31 ≤ m * 10 ^ by_)) false ∧
      exec (.dshr k) s = put (decPack neg (m / 10 ^ by_)) false (decide (m % 10 ^ by_ ≠ 0)))

/-- CVBD and DCHK take any operand (R121, R122): DCHK keeps its operand and pushes the mask of the invalid nibbles, with Z alone written. An invalid nibble elsewhere raises Decimal-Data, vector 14 at level 4, the operand in SUB and the lowest such nibble in CAUSE (R119); shown for DNEG. -/
def Claim.DecimalChecks : Prop :=
  ∀ (k : Insn) (s : State) (h l : Word) (rest : List Word), Ready s k.lcn → k.pfx = [] →
    let c := s.core k.lcn
    let x := decPair h l
    let ok := fun (i : Nat) => if i = 0 then x % 16 = 12 ∨ x % 16 = 13 else x / 16 ^ i % 16 ≤ 9
    (c.ds.cache = l :: rest → rest.length < 31 →
      let r := decPack (decide (l.toInt < 0)) l.toInt.natAbs
      exec (.cvbd k) s = .next (s.after k 2 (fun c => { c.withStack (BitVec.ofNat 64 r :: BitVec.ofNat 64 (r / 2 ^ 64) :: rest) with
        psw := setFlags c.psw (decide (r / 16 = 0)) (decide (r % 16 = 13)) false false }))) ∧
    (c.ds.cache = l :: h :: rest → rest.length < 30 →
      ∃ m : Nat, (∀ i, i < 32 → (m.testBit i = true ↔ ¬ok i)) ∧ m < 2 ^ 32 ∧
        exec (.dchk k) s = .next (s.after k 2 (fun c => { c.withStack (BitVec.ofNat 64 m :: l :: h :: rest) with
          psw := setFlags c.psw (decide (m = 0)) (pswN c.psw) (pswV c.psw) (pswC c.psw) }))) ∧
    (c.ds.cache = l :: h :: rest → ∀ i, i < 32 → ¬ok i → (∀ j, j < i → ok j) →
      exec (.dneg k) s = s.raises k.lcn { Exc.plain 14 4 c.pc with sub := 0, cause := BitVec.ofNat 16 i })

/-! Translation control. -/

/-- INVPG, INVTAG and INVALL (R106, R107, R175) remove their entries from the core's own translation caches and send TLBI to every other present core, waiting for the acknowledgements; with no other core they complete at once. Their microcoded sequence is the one of ROM (R238). -/
def Claim.Invalidations : Prop :=
  ∀ (k : Insn) (s : State) (va pid : Word) (rest : List Word), Ready s k.lcn → RomOnly s k.lcn → k.pfx = [] → s.sup k.lcn = true →
    let c := s.core k.lcn
    let others := (List.range 48).filter (fun m => m != k.lcn && (s.core m).run != .absent)
    let sent := others.foldl (fun s m => s.send (s.core k.lcn).pcn (s.core m).pcn (.tlbi k.lcn)) s
    let issued := fun (i : Instr) (v : InvKind) (xs : List Word) =>
      (others ≠ [] → ∃ t, exec i s = .next t ∧ SameOutside sent t ∧ (∀ m, m ≠ k.lcn → t.core m = s.core m) ∧
        (t.core k.lcn).inval = some { kind := v, toReach := others, toAck := [] } ∧ (t.core k.lcn).tlb = c.tlb.remove v ∧
        (t.core k.lcn).ds = c.ds ∧ (t.core k.lcn).pc = c.pc) ∧
      (others = [] → exec i s = .next (s.after k 2 (fun c => { c.withStack xs with tlb := c.tlb.remove v })))
    (c.ds.cache = pid :: va :: rest → issued (.invpg k) (.page va (pid.setWidth 16)) rest) ∧
    (c.ds.cache = pid :: rest → issued (.invtag k) (.tag (pid.setWidth 16)) rest) ∧
    issued (.invall k) .all c.ds.cache

/-- A TLBI that reaches the target empties its caches of the entries that the invalidation names and sends an acknowledgement; the last TLBA completes the invalidation, and its operands go (R107, R175). -/
def Claim.InvalidationMessages : Prop :=
  ∀ (s : State) (target issuer sender : Nat) (v : Invalidation) (rest : List Nat), target < s.cores.length → issuer < s.cores.length → target ≠ issuer →
    let c := s.core issuer
    c.inval = some v →
    (∀ m u, s.takeMsg (s.core target).pcn (· == .tlbi issuer) = some (m, u) →
      ∃ t, exec (.tlbi target issuer) s = .next t ∧ (t.core target).tlb = (s.core target).tlb.remove v.kind ∧
        (t.core issuer).inval = some { v with toReach := v.toReach.erase target, toAck := target :: v.toAck } ∧
        SameOutside (u.send (s.core target).pcn c.pcn (.tlba target issuer)) t) ∧
    (∀ m u, s.takeMsg c.pcn (· == .tlba sender issuer) = some (m, u) → v.toReach = [] →
      (v.toAck = [sender] → ∃ t, exec (.tlba sender issuer) s = .next t ∧
        Retired u t issuer 2 { c.withStack (c.ds.cache.drop v.kind.operands) with inval := none }) ∧
      (v.toAck = sender :: rest → rest ≠ [] → sender ∉ rest →
        ∃ t, exec (.tlba sender issuer) s = .next t ∧ (t.core issuer).inval = some { v with toAck := rest } ∧ SameOutside u t))

/-- SPILLD and SPILLR (R43, R108): the one cached entry goes to the store buffer at the address below the stack pointer, which moves down; an empty cache is left as it is. -/
def Claim.SpillAll : Prop :=
  ∀ (k : Insn) (s : State) (x : Word) (t : TlbEntry), Ready s k.lcn → k.pfx = [] →
    let c := s.core k.lcn
    let acc : Acc := { instr := false, rd := false, wr := true, fetch := false, user := !s.sup k.lcn, uaOk := false }
    let spilt := fun (st : StackRegs) => { st with cache := [], ptr := st.ptr - 8 }
    let can := fun (st : StackRegs) => st.ptr.toNat % 8 = 0 ∧ st.lo.toNat + 8 ≤ st.ptr.toNat ∧ st.ptr.toNat ≤ st.hi.toNat ∧ t.d = true ∧
      Mapped s k.lcn (st.ptr - 8) 8 acc t ∧ s.paKind (t.addr (st.ptr - 8).toNat) = .dram ∧ c.sb.length < 64
    (c.ds.cache = [] → ∃ u, exec (.spilld k) s = .next u ∧ Retired s u k.lcn 2 c) ∧
    (c.rs.cache = [] → ∃ u, exec (.spillr k) s = .next u ∧ Retired s u k.lcn 2 c) ∧
    (c.ds.cache = [x] → can c.ds → ∃ u, exec (.spilld k) s = .next u ∧
      Retired s u k.lcn 2 (Core.buffers { c with ds := spilt c.ds } [{ addr := t.addr (c.ds.ptr - 8).toNat, bytes := wordBytes x, rel := false }])) ∧
    (c.rs.cache = [x] → can c.rs → ∃ u, exec (.spillr k) s = .next u ∧
      Retired s u k.lcn 2 (Core.buffers { c with rs := spilt c.rs } [{ addr := t.addr (c.rs.ptr - 8).toNat, bytes := wordBytes x, rel := false }]))

/-- A fill brings in the doubleword at the stack pointer, which moves up (R42, R43); one outside its bounds raises Stack-Fill, vector 7 at level 5, with CAUSE 0 and the address (R44). Shown for DROP on an empty data stack. -/
def Claim.StackFills : Prop :=
  ∀ (k : Insn) (s : State) (t : TlbEntry), Ready s k.lcn → k.pfx = [] → (s.core k.lcn).ds.cache = [] →
    let c := s.core k.lcn
    let acc : Acc := { instr := false, rd := true, wr := false, fetch := false, user := !s.sup k.lcn, uaOk := false }
    let pa := t.addr c.ds.ptr.toNat
    (c.ds.ptr.toNat % 8 = 0 → c.ds.lo.toNat ≤ c.ds.ptr.toNat → c.ds.ptr.toNat + 8 ≤ c.ds.hi.toNat → Mapped s k.lcn c.ds.ptr 8 acc t → Readable s k.lcn pa 8 →
      s.paKind pa = .dram → ∃ u, exec (.drop k) s = .next u ∧ Retired s u k.lcn 1 { c with ds := { c.ds with ptr := c.ds.ptr + 8 } }) ∧
    (c.ds.ptr.toNat % 8 = 0 → c.ds.ptr.toNat < c.ds.lo.toNat ∨ c.ds.hi.toNat < c.ds.ptr.toNat + 8 →
      exec (.drop k) s = s.raises k.lcn { Exc.plain 7 5 c.pc with sub := 0, cause := 0, faddr := c.ds.ptr })


/-! Port and channel instructions. -/

/-- A port instruction of core n may use port q at address p (R523): the upper half of p is zero, the port is defined, the privilege state may use it, and a slice page belongs to the slice of the PID. Its core has no store, no hold and no device store left to wait for (R99). -/
structure PortOpen (s : State) (n : Nat) (p : Word) (q : Port) : Prop where
  low : p.toNat < 2 ^ 32
  defined : portAt p.toNat = some q
  privilege : s.sup n = true ∨ q.userOk = true
  page : ∀ j, q.page = some j → s.sliceOfPid (s.core n).pid = some j
  drained : (s.core n).sb = []
  answered : (s.core n).devStore = none
  held : (s.core n).hold = none

/-- IND pushes what the port reads as, and the port does what its read does (R98, R99, R11); OUTD leaves a device store outstanding, and the unit acts on it at its response (R99). No port of the spec is a word wide, so INW and OUTW of a port that may be used fail the width check with CAUSE 2 (R23, R523). -/
def Claim.PortInstructions : Prop :=
  ∀ (k : Insn) (s : State) (p x : Word) (rest : List Word) (q : Port), Ready s k.lcn → k.pfx = [] → PortOpen s k.lcn p q →
    let c := s.core k.lcn
    let wrong := s.raises k.lcn { Exc.plain 21 4 c.pc with cause := 2, info := p }
    (c.ds.cache = p :: rest →
      (s.portAnswers q = true → exec (.ind k) s = .next
        (((s.portRead k.lcn q).2.modCore k.lcn (fun c => c.pushes 1 [(s.portRead k.lcn q).1])).retire k.lcn 1 (s.sup k.lcn) .next)) ∧
      (s.portAnswers q = false → ∃ t, exec (.ind k) s = .next t ∧ (t.core k.lcn).devRead = some { port := p.setWidth 32, value := 0, wide := true, issued := s.beatc, cycle := s.plant.refCycle } ∧
        (t.core k.lcn).pc = c.pc ∧ (t.core k.lcn).ds = c.ds) ∧
      exec (.inw k) s = wrong) ∧
    (c.ds.cache = p :: x :: rest →
      exec (.outd k) s = .next (s.after k 1 (fun c => { c.withStack rest with devStore := some { port := p.setWidth 32, value := x, wide := true, issued := s.beatc, cycle := s.plant.refCycle } })) ∧
      exec (.outw k) s = wrong)

/-- The checks of a port access in the order of R523, each with its CAUSE and the port address in INFO: nothing is issued. Shown for IND, and the same for OUTD, INW and OUTW. -/
def Claim.PortChecks : Prop :=
  ∀ (k : Insn) (s : State) (p x : Word) (rest : List Word) (i : Instr), Ready s k.lcn → k.pfx = [] → (s.core k.lcn).ds.cache = p :: x :: rest →
    i ∈ ([.ind k, .inw k, .outd k, .outw k] : List Instr) →
    let c := s.core k.lcn
    let bad := fun (cause : Half) => s.raises k.lcn { Exc.plain 21 4 c.pc with cause := cause, info := p }
    (2 ^ 32 ≤ p.toNat → exec i s = bad 3) ∧
    (p.toNat < 2 ^ 32 → portAt p.toNat = none → exec i s = bad 1) ∧
    (∀ q, p.toNat < 2 ^ 32 → portAt p.toNat = some q → (s.sup k.lcn = false ∧ q.userOk = false) ∨ (∃ j, q.page = some j ∧ s.sliceOfPid c.pid ≠ some j) →
      exec i s = bad 0)

/-- A subchannel that a channel instruction of core n may use (R103): its entry is valid and belongs to the slice of the PID; nothing is left to wait for. -/
structure SchOpen (s : State) (n : Nat) (sch : Nat) : Prop where
  range : sch < 2 ^ 20
  valid : s.schValid (s.sch sch) = true
  slice : s.sliceOfPid (s.core n).pid = some (s.sch sch).slice
  drained : (s.core n).sb = []
  answered : (s.core n).devStore = none
  held : (s.core n).hold = none

/-- STARTIO of an idle subchannel of a running slice with a free operation block takes it: cc = 0, an operation with the parm and the physical address of its first CCW, and STATE ACTIVE (R102 to R104, R301, R302); the channel instructions' sequences are those of ROM (R238). A subchannel that is not idle gives cc = 1, one that is down cc = 3, and neither starts anything. -/
def Claim.StartIo : Prop :=
  ∀ (k : Insn) (s : State) (ccwa parm : Word) (sch : Nat) (rest : List Word) (tl : TlbEntry), Ready s k.lcn → RomOnly s k.lcn → k.pfx = [] →
    (s.core k.lcn).ds.cache = BitVec.ofNat 64 sch :: ccwa :: parm :: rest → SchOpen s k.lcn sch → ccwa.toNat % 32 = 0 →
    Mapped s k.lcn ccwa 8 (dataAcc (s.core k.lcn) false false) tl →
    let e := s.sch sch
    (e.state = 0 → (s.slice e.slice).st = .running → s.css.ops.length < 65536 →
      ∃ t o, exec (.startio k) s = .next t ∧ (t.core k.lcn).ds.cache = 0 :: rest ∧ t.css.ops = s.css.ops ++ [o] ∧
        o.sch = sch ∧ o.parm = parm ∧ o.ccw = tl.addr ccwa.toNat ∧ o.slice = e.slice ∧ o.q = 4 * e.slice + e.cq ∧ o.phase = .ready ∧
        (t.sch sch).state = 1) ∧
    (e.state = 0 → (s.slice e.slice).st = .running → 65536 ≤ s.css.ops.length →
      ∃ t, exec (.startio k) s = .next t ∧ Retired s t k.lcn 1 ((s.core k.lcn).withStack (2 :: rest))) ∧
    (e.state ≠ 0 → e.state ≠ 4 → ∃ t, exec (.startio k) s = .next t ∧ Retired s t k.lcn 1 ((s.core k.lcn).withStack (1 :: rest))) ∧
    (e.state = 4 → ∃ t, exec (.startio k) s = .next t ∧ Retired s t k.lcn 1 ((s.core k.lcn).withStack (3 :: rest)))

/-- HALTIO and TESTIO (R104, R303): the condition code of each state, the status doubleword below it for TESTIO, and a halt of an operation that is not past its halt point. -/
def Claim.HaltIoAndTestIo : Prop :=
  ∀ (k : Insn) (s : State) (sch : Nat) (rest : List Word), Ready s k.lcn → RomOnly s k.lcn → k.pfx = [] → (s.core k.lcn).ds.cache = BitVec.ofNat 64 sch :: rest → SchOpen s k.lcn sch →
    let e := s.sch sch
    let gives := fun (i : Instr) (xs : List Word) => exec i s = .next (s.after k 1 (fun c => c.withStack (xs ++ rest)))
    (e.state = 0 → gives (.haltio k) [2]) ∧
    (e.state = 2 → gives (.haltio k) [0]) ∧
    (e.state = 4 → gives (.haltio k) [3]) ∧
    (∀ o, e.state = 1 ∨ e.state = 3 → s.opOfSch sch = some o → o.pastHalt = true → gives (.haltio k) [1]) ∧
    (∀ o t, e.state = 1 → s.opOfSch sch = some o → o.pastHalt = false → s.haltOp o = some t →
      exec (.haltio k) s = .next ((t.modCore k.lcn (fun c => c.pushes 1 [0])).retire k.lcn 1 (s.sup k.lcn) .next)) ∧
    (rest.length ≤ 30 → (e.state = 0 → gives (.testio k) [0, e.status]) ∧ (e.state = 4 → gives (.testio k) [3, 0]) ∧
      (e.state ≠ 0 → e.state ≠ 4 → gives (.testio k) [1, e.status]))

/-- The checks of the channel instructions before they issue (R103 steps 1 to 4): a number beyond the table or an entry that is not valid gives cc = 3, a PID without a slice or a subchannel of another slice raises I/O-Protection with CAUSE 4. Shown for HALTIO. -/
def Claim.ChannelChecks : Prop :=
  ∀ (k : Insn) (s : State) (x : Word) (rest : List Word), Ready s k.lcn → RomOnly s k.lcn → k.pfx = [] → (s.core k.lcn).ds.cache = x :: rest →
    let c := s.core k.lcn
    let none3 := exec (.haltio k) s = .next (s.after k 1 (fun c => c.withStack (3 :: rest)))
    let denied := exec (.haltio k) s = s.raises k.lcn { Exc.plain 21 4 c.pc with cause := 4, info := x }
    (2 ^ 20 ≤ x.toNat → none3) ∧
    (x.toNat < 2 ^ 20 → s.sliceOfPid c.pid = none → denied) ∧
    (∀ j, x.toNat < 2 ^ 20 → s.sliceOfPid c.pid = some j → s.schValid (s.sch x.toNat) = false → none3) ∧
    (∀ j, x.toNat < 2 ^ 20 → s.sliceOfPid c.pid = some j → s.schValid (s.sch x.toNat) = true → (s.sch x.toNat).slice ≠ j → denied)

/-! Events of a core. -/

/-- The answer to an outstanding access of a core within 4 beats of its issue (R99, R194): the unit acts on a device store at its response, and an IN retires with the data. An access that has been outstanding for 4 beats is lost (R100, R144, R195): a device store, on which the unit may have acted, is recorded as CORRECTED with DETAIL 0 and makes Device-Store-Lost pending; a read pushes all ones and is recorded as RECOVERABLE with DETAIL 1, both of core source 12. -/
def Claim.PortAnswers : Prop :=
  ∀ (s : State) (n : Nat) (a : PortAccess) (p : Word) (rest : List Word), n < s.cores.length →
    let c := s.core n
    (∀ q t, c.devRead = none → c.devStore = some a → portAt a.port.toNat = some q → s.portAnswers q = true → s.overdue a = false → s.portWrite n q a.value = some t →
      exec (.deviceResponse n) s = .next (t.modCore n (fun c => { c with devStore := none }))) ∧
    (∀ q, c.devRead = some a → portAt a.port.toNat = some q → s.portAnswers q = true → s.overdue a = false → n < (s.portRead n q).2.cores.length →
      ((s.portRead n q).2.core n).ds.cache = p :: rest →
      ∃ t, exec (.deviceResponse n) s = .next t ∧ (t.core n).devRead = none ∧ (t.core n).ds.cache = (s.portRead n q).1 :: rest) ∧
    (4 ≤ (s.beatc - a.issued).toNat → ∃ u, s.expire a = some u ∧ SameOutside { s with plant := u.plant } u ∧ u.cores = s.cores) ∧
    (∀ u, c.devStore = some a → s.expire a = some u →
      ∃ w, exec (.deviceStoreLost n) s = .next (w.loseStore n a) ∧ (w = u.takeFree.2 ∨ u.takeFree.2.writeAt n a.port a.value = some w)) ∧
    (let t := s.loseStore n a
     (t.core n).devStore = none ∧ (t.core n).dsl = some (match c.dsl with | some d => { d with more := true } | none => { port := a.port, more := false }) ∧
      ∃ r, t.weir.inFlight = s.weir.inFlight ++ [r] ∧ r.src = 16 * c.pcn + 12 ∧ r.cls = .corrected ∧ r.detail = 0 ∧ r.addr = a.port.setWidth 64) ∧
    (c.devRead = some a → a.wide = true → c.delay = false → 4 ≤ (s.beatc - a.issued).toNat → c.ds.cache = p :: rest →
      ∃ t r, exec (.lostRead n) s = .next t ∧ (t.core n).devRead = none ∧ (t.core n).ds.cache = BitVec.allOnes 64 :: rest ∧ (t.core n).pc = c.pc + 1 ∧
        t.weir.inFlight = s.weir.inFlight ++ [r] ∧ r.src = 16 * c.pcn + 12 ∧ r.cls = .recoverable ∧ r.detail = 1 ∧ r.addr = a.port.setWidth 64)

/-- A buffered store is performed (R180, R181, R186): any entry that no older entry overlaps, a REL entry only as the oldest. In a line of its own core its bytes are then in memory, every other byte is as before, and the entry has left the buffer. -/
def Claim.StorePerformed : Prop :=
  ∀ (s : State) (n i : Nat) (e : StoreEntry), n < s.cores.length → s.weir.safe = false → s.mem.wf = true →
    (s.core n).sb[i]? = some e → (∀ o ∈ (s.core n).sb.take i, o.addr + o.bytes.length ≤ e.addr ∨ e.addr + e.bytes.length ≤ o.addr) →
    (e.rel = true → i = 0) → s.paKind e.addr = .dram → s.guarded e.addr = false → s.windowForming e.addr = false → Owned s (s.core n).pcn (lineOf e.addr) →
    e.bytes ≠ [] →
    ∃ t, exec (.storePerformed n i) s = .next t ∧ (t.core n).sb = (s.core n).sb.eraseIdx i ∧
      (∀ j, j < e.bytes.length → t.mem.read (e.addr + j) = e.bytes.getD j 0) ∧
      (∀ b, b < e.addr ∨ e.addr + e.bytes.length ≤ b → t.mem.read b = s.mem.read b) ∧
      (∀ m c, m ≠ n → c = s.core m → c.pcn ≠ (s.core n).pcn → c.resv.map Reservation.granule = some (lineOf e.addr) → (t.core m).resv = none)

/-- ICISEND sets INTPEND.ICI and the sender's bit of ICISRC at the target (R140); HOLD_END ends a hold, with its mark at the slice where one stands, and keeps the reservation (R202, R261); TIMER_MATCH sets MATCH, and a one-shot comparator disarms (R459). -/
def Claim.CoreEvents : Prop :=
  ∀ (s : State) (n : Nat) (v : Word) (m : Nat) (i : Fin 2) (tm : Timer), n < s.cores.length →
    (v.toNat % 256 = m → m < 48 → (s.core m).run ≠ .absent → (s.core n).run ≠ .absent → (s.core n).sb = [] → (s.core n).devStore = none → m ≠ n →
      ∃ t, exec (.iciSend n v) s = .next t ∧ (t.core m).ici = true ∧ (t.core m).iciSrc = (s.core m).iciSrc ||| (1 <<< n) ∧ SameOutside s t) ∧
    (s.pool.oldestHold (s.core n).pcn = none →
      ∃ t, exec (.holdEnd n) s = .next t ∧ (t.core n).hold = none ∧ (t.core n).resv = (s.core n).resv ∧ SameOutside s t) ∧
    (∀ h, s.pool.oldestHold (s.core n).pcn = some h → (s.core n).hold.map HoldMark.line = some h.line → s.pool.queue = [] →
      ∃ t, exec (.holdEnd n) s = .next t ∧ (t.core n).hold = none ∧ (t.core n).resv = (s.core n).resv ∧ t.mem = s.mem ∧ t.pool.holds = s.pool.holds.erase h) ∧
    ((s.core n).run ≠ .absent → (s.core n).timers[i.val]? = some tm → tm.prevCtl.getLsbD 0 = true → tm.prevCmp.toNat ≤ s.beatc.toNat → tm.ctl.extractLsb' 32 32 = 0 →
      ∃ t tm', exec (.timerMatch n i) s = .next t ∧ (t.core n).timers[i.val]? = some tm' ∧ tm'.ctl.getLsbD 2 = true ∧ tm'.ctl.getLsbD 0 = false ∧ tm'.cmp = tm.cmp)

/-- Instruction retry (R219, R223 to R225) at a core with no IN outstanding: while Weir's CORRECTED action of the error's source holds RETRY and fewer than two retries have been made, the error is recorded as CORRECTED and the instruction begins again, its reservation and hold lost; the third detection makes the core PAUSED with a SEVERE event; a checkpoint word whose copies are both bad checkstops it with a FATAL event. The sequence of the restart is the one of ROM (R238). -/
def Claim.InstructionRetry : Prop :=
  ∀ (s : State) (n : Nat), n < s.cores.length → (s.core n).run = .running → (s.core n).devRead = none →
    let c := s.core n
    let retry := ((s.weir.source (16 * c.pcn)).actC).getLsbD 12
    (retry = true → c.retries < 2 → RomOnly s n →
      ∃ t r, exec (.instructionRetry n .executionUnit none) s = .next t ∧ t.weir.inFlight = s.weir.inFlight ++ [r] ∧ r.src = 16 * c.pcn ∧ r.cls = .corrected ∧
        (t.core n).retries = c.retries + 1 ∧ (t.core n).resv = none ∧ (t.core n).hold = none ∧ (t.core n).pc = c.pc ∧ (t.core n).ds = c.ds ∧ (t.core n).run = .running ∧ t.mem = s.mem) ∧
    (retry = true → 2 ≤ c.retries →
      ∃ t r r', exec (.instructionRetry n .executionUnit none) s = .next t ∧ t.weir.inFlight = s.weir.inFlight ++ [r, r'] ∧ r'.cls = .severe ∧ r'.src = 16 * c.pcn + 7 ∧
        (t.core n).run = .paused ∧ t.mem = s.mem) ∧
    (∀ w, ∃ t r, exec (.instructionRetry n (.checkpointWord w true) none) s = .next t ∧ t.weir.inFlight = s.weir.inFlight ++ [r] ∧ r.src = 16 * c.pcn + 6 ∧ r.cls = .fatal ∧
      (t.core n).run = .checkstopped)

/-- An uncorrectable error in data that a core stored (R526): the line is poisoned in the Pool, and a machine check of cause 2 pends with the line and the L2 source; one that pends already keeps its record. -/
def Claim.StoredDataCheck : Prop :=
  ∀ (s : State) (n line : Nat), n < s.cores.length → (s.core n).run ≠ .absent → s.paKind (line * 256) = .dram → (s.dirEntry line).isSome = true →
    ∃ t, exec (.machineCheckStoredData n line) s = .next t ∧ t.poisoned line = true ∧
      (t.core n).mca = (if (s.core n).mca.isSome then (s.core n).mca else some { line := line, src := 16 * (s.core n).pcn + 3 }) ∧ t.mem = s.mem


/-! The Pool and Millrace. -/

/-- Nothing holds a request for a line back at its slice (R250, R274): no transaction, hold or waiting request for it, room for a transaction, and no window being formed. -/
structure LineFree (s : State) (line : Nat) : Prop where
  isOpen : s.poolOpen = true
  idle : s.txnOpen line = false
  alone : ∀ q ∈ s.pool.queue, q.line ≠ line
  room : (s.pool.txns.filter (fun t => sliceOf t.line == sliceOf line)).length < 512
  formed : s.windowForming (line * 256) = false
  there : s.paKind (line * 256) ≠ .hole
  plain : s.guarded (line * 256) = false
  range : line < 2 ^ 44

/-- The rings of t carry what those of u carry, and one more message from a station to another (R18, R253). -/
def Sent (u t : State) (src dst : Nat) (m : PoolMsg) : Prop :=
  t.pool.flights = (u.send src dst m).pool.flights ∧ t.pool.links = (u.send src dst m).pool.links

/-- The rings of t carry what those of u carry, and a snoop of a line: one broadcast in normal service, a message to each awaited agent in filtered mode (R254, R255). -/
def Snooped (u t : State) (line : Nat) (k : SnoopKind) (await : List Nat) : Prop :=
  let v := if u.pool.filt then await.foldl (fun s a => s.send (homeStation line) (agentStation a) (.snoop k line)) u
    else u.broadcast (homeStation line) (await.map agentStation) (.snoop k line)
  t.pool.flights = v.pool.flights ∧ t.pool.links = v.pool.links

/-- The lowest way of an agent's cache that is free for a line. -/
def State.freeWay (s : State) (a line : Nat) : Option Nat := (List.range 16).find? (fun w => !s.wayTaken a line w)

/-- The directory entry of a line is e with other agents in PV and another X, its ECC that of its fields (R246). -/
def EntryIs (t : State) (e : DirEntry) (pv : List Nat) (x : Bool) : Prop :=
  ∃ e', t.dirEntry e.line = some e' ∧ e'.pv = pv ∧ e'.x = x ∧ e'.d = e.d ∧ e'.p = e.p ∧ e'.way = e.way ∧ e'.ecc = e'.code

/-- The requests of agents for a line that is valid in the Pool (R249 to R251, R254): the slice grants at once, into a free way of the agent's cache, what no other agent's copy forbids, and snoops the others first; the line is then the agent's alone after RdX and Upg, and shared after RdS while others hold it. -/
def Claim.PoolAgentRequests : Prop :=
  ∀ (s : State) (a b line w : Nat) (e : DirEntry), a < 56 → b < 56 → a ≠ b → LineFree s line → s.dirEntry line = some e →
    s.agentState a line = none →
    let u := fun (req : ReqKind) => s.carry (agentStation a) (homeStation line) (.req { agent := a, line := line, kind := req, bad := false })
    let yields := fun (i : Instr) (req : ReqKind) (excl : Bool) (pv : List Nat) =>
      ∃ t, exec i s = .next t ∧ Sent (u req) t (homeStation line) (agentStation a) (.data a line excl w) ∧ EntryIs t e pv excl ∧
        t.mem = s.mem ∧ t.pool.txns = s.pool.txns
    let snoops := fun (i : Instr) (k : SnoopKind) (req : ReqKind) =>
      ∃ t, exec i s = .next t ∧ Snooped (u req) t line k [b] ∧ t.mem = s.mem ∧ t.dirEntry line = some e ∧
        t.pool.txns = { line := line, req := some { agent := a, line := line, kind := req, bad := false }, snoop := k, await := [b], filtered := s.pool.filt } :: s.pool.txns
    (s.freeWay a line = some w →
      (e.pv = [] → yields (.rds a line false) .rds true [a] ∧ yields (.rdx a line false) .rdx true [a]) ∧
      (e.pv = [b] → e.x = false → yields (.rds a line false) .rds false [a, b])) ∧
    (e.pv = [b] → e.x = true → snoops (.rds a line false) .snps .rds) ∧
    (e.pv = [b] → snoops (.rdx a line false) .snpi .rdx ∧ snoops (.upg a line false) .snpi .upg)

/-- An agent that shares a line alone gets write permission without data (Upg, R251); an uncorrectable error in the only good copy of a line poisons it before it is granted (R264). -/
def Claim.PoolUpgrade : Prop :=
  ∀ (s : State) (a line : Nat) (e : DirEntry), a < 56 → LineFree s line → s.dirEntry line = some e →
    (s.agentState a line = some .s → e.pv = [a] →
      ∃ t, exec (.upg a line false) s = .next t ∧ EntryIs t e [a] true ∧ t.mem = s.mem ∧
        Sent (s.carry (agentStation a) (homeStation line) (.req { agent := a, line := line, kind := .upg, bad := false })) t
          (homeStation line) (agentStation a) (.ackUpg a line)) ∧
    (s.agentState a line = none → e.pv = [] → e.d = true → (∃ w, s.freeWay a line = some w) →
      ∃ t, exec (.rds a line true) s = .next t ∧ t.poisoned line = true ∧ t.mem = s.mem)

/-- The requests of masters (R251, R257): RdNA of a line that no agent may write returns it and changes no copy; one that an agent may write is read after SnpR; a WrNA of a line that no agent holds puts its bytes into memory, marks the line dirty and answers Ack. -/
def Claim.PoolMasterRequests : Prop :=
  ∀ (s : State) (st line b : Nat) (e : DirEntry) (o : Nat) (v : Byte), st < 84 → o < 256 → LineFree s line → s.dirEntry line = some e → s.mem.wf = true →
    let u := fun (req : ReqKind) => s.carry st (homeStation line) (.req { agent := st, line := line, kind := req, bad := false })
    (e.x = false → ∃ t, exec (.rdna st line false) s = .next t ∧ Sent (u .rdna) t (homeStation line) st (.dataNa st line e.p) ∧
      t.pool.dir = s.pool.dir ∧ t.mem = s.mem) ∧
    (e.x = true → e.pv = [b] → ∃ t, exec (.rdna st line false) s = .next t ∧ Snooped (u .rdna) t line .snpr [b] ∧ t.mem = s.mem) ∧
    (e.pv = [] → ∃ t, exec (.wrna st line [(o, v)]) s = .next t ∧ Sent (u (.wrna [(o, v)])) t (homeStation line) st (.ack st line) ∧
      t.mem.read (line * 256 + o) = v ∧ (∀ x, x ≠ line * 256 + o → t.mem.read x = s.mem.read x) ∧ (∃ e', t.dirEntry line = some e' ∧ e'.d = true))

/-- A request that its slice answered with Retry is presented again, and one that found no victim looks for one again, before any later one of its line (R250, R259); a request for a line of a guarded region is answered with a shared copy, whatever write permission it asked for (R435). -/
def Claim.PoolRequestsAgain : Prop :=
  ∀ (s : State) (r : PoolReq) (rest : List PoolReq) (e : DirEntry) (w : Nat), s.poolOpen = true →
    (s.pool.resend = r :: rest → exec (.retryResend r.agent r.line) s = .next ((s.modPool fun p => { p with resend := rest }).request r)) ∧
    (s.pool.noVictim = r :: rest → exec (.victimRetry r.agent r.line) s = .next (((s.modPool fun p => { p with noVictim := rest }).serve r).serveQueue)) ∧
    (r.kind = .rdx → r.bad = false → s.guarded (r.line * 256) = true → s.paKind (r.line * 256) ≠ .hole → s.dirEntry r.line = some e → e.pv = [] → s.mustQueue r = false →
      (∀ q ∈ s.pool.queue, q.line ≠ r.line) → s.agentState r.agent r.line = none → s.freeWay r.agent r.line = some w →
      Sent s (s.arrive r) (homeStation r.line) (agentStation r.agent) (.data r.agent r.line false w) ∧ EntryIs (s.arrive r) e [r.agent] false)

/-- A snoop that has come to an agent, with u what its arrival leaves, and is not held back by a hold or by a grant still under way (R202, R252). -/
structure SnoopDue (s u : State) (k : SnoopKind) (a line : Nat) : Prop where
  came : ∃ m, s.takeMsg (agentStation a) (· == .snoop k line) = some (m, u)
  order : s.grantFlying a line = false
  free : s.defers a line = false
  buffer : s.bufferDirty a line = false
  wants : s.wantsNoData line = false

/-- The snoops at an agent (R249, R251, R254): SnpI and BInv take its copy, SnpS leaves it a shared one, SnpR changes nothing; the answer carries data when the copy was modified. -/
def Claim.PoolSnoops : Prop :=
  ∀ (s u : State) (a line : Nat) (st : AgentState), s.agentState a line = some st →
    let answers := fun (i : Instr) (after : Option AgentState) =>
      ∃ t, exec i s = .next t ∧ Sent u t (agentStation a) (homeStation line) (.answer a line (decide (st = .m))) ∧ t.agentState a line = after ∧ t.mem = s.mem
    (SnoopDue s u .snpi a line → answers (.snpi a line) none) ∧
    (SnoopDue s u .binv a line → answers (.binv a line) none) ∧
    (SnoopDue s u .snps a line → answers (.snps a line) (some .s)) ∧
    (SnoopDue s u .snpr a line → answers (.snpr a line) (some st))

/-- The last answer to a snoop completes its transaction (R250, R254): for RdX the requester is granted the line exclusively. -/
def Claim.PoolAnswers : Prop :=
  ∀ (s u : State) (a b line w : Nat) (t0 : PoolTxn) (e : DirEntry) (d : Bool) (m : PoolMsg), s.pool.txns = [t0] → t0.line = line → t0.await = [b] → t0.snoop = .snpi →
    t0.req = some { agent := a, line := line, kind := .rdx, bad := false } → s.pool.queue = [] → s.dirEntry line = some e →
    s.agentState a line = none → s.takeMsg (homeStation line) (· == .answer b line d) = some (m, u) → u.freeWay a line = some w →
    ∃ t, exec (if d then .snpData b line else .snpAck b line) s = .next t ∧ t.pool.txns = [] ∧
      Sent u t (homeStation line) (agentStation a) (.data a line true w) ∧ EntryIs t e [a] true ∧ t.mem = s.mem

/-- The messages under way once the oldest, f, has arrived at the only station that it had left (R253): it stays for the hops that have not acknowledged it. -/
def landed (f : Flight) (rest : List Flight) : List Flight := if f.copies.isEmpty then rest else { f with dests := [] } :: rest

/-- What a slice's answers do at the requester (R249, R251, R262): a shared or an exclusive copy is installed as far as PV still names the agent (R247), an Ack frees the entry of the eviction buffer, an AckStale does so after the snoop that made the notice stale, and a Retry keeps the request for its resend. -/
def Claim.PoolDeliveries : Prop :=
  ∀ (s : State) (a line w : Nat) (f : Flight) (rest : List Flight) (r : PoolReq) (e : DirEntry),
    let u := s.modPool fun p => { p with flights := landed f rest }
    let at_ := fun (st : Nat) (m : PoolMsg) (i : Instr) (t : State) => f.dests = [st] → f.body = m → exec i s = .next t
    (s.pool.flights = f :: rest → (∀ g ∈ rest, ∀ l p, g.body ≠ .dataNa a l p) →
      at_ (agentStation a) (.data a line false w) (.lineData a line) (u.fill a line w false) ∧
      at_ a (.dataNa a line false) (.lineData a line) u ∧
      at_ (agentStation a) (.data a line true w) (.lineDataE a line) (u.fill a line w true) ∧
      at_ (agentStation a) (.ackUpg a line) (.sliceAck a line) (u.upgrade a line) ∧
      at_ (agentStation a) (.ack a line) (.sliceAck a line) (u.releaseBuffer a line) ∧
      at_ (agentStation a) (.ackStale a line) (.ackStale a line) (u.releaseBuffer a line) ∧
      (r.agent = a → r.line = line → at_ (agentStation a) (.retry r) (.sliceRetry a line) (u.modPool fun p => { p with resend := p.resend ++ [r] }))) ∧
    (s.dirEntry line = some e → s.agentOut a = false →
      (a ∈ e.pv → (s.fill a line w false).agentState a line = some .s ∧ (e.x = true → (s.fill a line w true).agentState a line = some .e)) ∧
      (a ∉ e.pv → s.fill a line w false = s ∧ s.fill a line w true = s)) ∧
    (s.dirEntry line = some e → s.agentOut a = false → a ∈ e.pv → e.x = true → s.agentState a line = some .s → (s.upgrade a line).agentState a line = some .e) ∧
    (∀ x ∈ (s.releaseBuffer a line).pool.evict, ¬(x.agent = a ∧ x.line = line))

/-- Eviction notices of an agent that does not hold the line for an LDR (R202, R262): the copy goes, its modified data stand in the Pool copy, poisoned when an uncorrectable error destroyed them (R264), and the slice answers Ack; HOLD sets the hold mark of an LDR that hit its line (R261). -/
def Claim.PoolNotices : Prop :=
  ∀ (s : State) (a line n : Nat) (h : HoldMark), s.pool.queue = [] → s.snooped a line = false →
    let gone := fun (i : Instr) (dirty : Bool) => ∃ t, exec i s = .next t ∧ t.agentState a line = none ∧ t.mem = s.mem ∧
      Sent (s.carry (agentStation a) (homeStation line) (.notice a line dirty)) t (homeStation line) (agentStation a) (.ack a line) ∧
      t.pool.evict = { agent := a, line := line, dirty := false } :: s.pool.evict
    (s.defers a line = false → s.agentState a line = some .m → gone (.wb a line false) true ∧ gone (.wb a line true) true ∧
      ((s.dirEntry line).isSome = true → ∃ t, exec (.wb a line true) s = .next t ∧ t.poisoned line = true)) ∧
    (s.defers a line = false → s.agentState a line = some .s ∨ s.agentState a line = some .e → gone (.evn a line) false) ∧
    ((∀ x ∈ s.pool.holds, ¬(x.agent = a ∧ x.line = line)) → n < s.cores.length → (s.core n).run ≠ .absent → (s.core n).pcn = a → (s.core n).hold = some h → h.line = line →
      exec (.hold a line) s = .next ((s.carry (agentStation a) (homeStation line) (.hold a line)).modPool fun p =>
        { p with holds := { agent := a, line := line, beat := s.beatc } :: p.holds }))

/-- The rings and filtered mode (R253, R255): a LinkAck releases the oldest message that the station keeps on a ring in service, a CRC error on a hop that keeps one is a CORRECTED event of the hop's source, filtered mode becomes what the boundary found due, and an array test of a live L2 is a reason for it. -/
def Claim.Millrace : Prop :=
  ∀ (s : State) (st : Nat) (r : Ring) (x : PoolMsg × Nat) (rest : List (PoolMsg × Nat)) (core way : Nat), st < 84 →
    (s.pool.ringUp r = true → s.pool.retryBuffer st r = x :: rest →
      (∀ f ∈ s.pool.flights, f.ring = r → (f.copies.filter (fun c => c.station == st)).length ≤ 1) →
      ∃ t, exec (.linkAck st r) s = .next t ∧ t.pool.retryBuffer st r = rest ∧ t.mem = s.mem ∧ t.cores = s.cores) ∧
    (s.pool.ringUp r = true → s.pool.retryBuffer st r = x :: rest →
      ∃ t e, exec (.linkCrcError st r) s = .next t ∧ t.weir.inFlight = s.weir.inFlight ++ [e] ∧ e.cls = .corrected ∧
        e.src = 0x700 + 2 * st + (match r with | .cw => 0 | .ccw => 1) ∧ t.pool = s.pool) ∧
    exec (.filteredModeChange .atBoundary) s = .next (s.modPool fun p => { p with filt := p.filtDue }) ∧
    (s.pool.atest = none → (s.lcnOfPcn core).isSome = true → way < 16 → (∀ y ∈ s.pool.agents, ¬(y.agent = core ∧ y.way = way)) →
      ∃ t, exec (.filteredModeChange (.testBegins core way [])) s = .next t ∧ t = s.modPool (fun p => { p with atest := some { core := core, way := way } }) ∧
        t.pool.filterReason = true)

/-- Hedgerow and the ways (R256, R263): an error of a directory entry is a SEVERE event of source 18 of the slice and sends SnpR to the core; a way whose lines are gone is marked disabled and no longer drains. -/
def Claim.PoolWays : Prop :=
  ∀ (s : State) (core line slice way : Nat) (e : DirEntry) (v : WayState),
    (s.dirEntry line = some e → core < 52 → core ∈ e.pv → s.txnOpen line = false →
      ∃ t r, exec (.hedgerowError core line) s = .next t ∧ t.weir.inFlight = s.weir.inFlight ++ [r] ∧ r.src = 0x500 + 32 * sliceOf line + 18 ∧ r.cls = .severe ∧
        Snooped s t line .snpr [core] ∧ t.mem = s.mem) ∧
    (s.pool.ways[slice]? = some v → way ∈ v.drain → (∀ x ∈ s.pool.dir, ¬(x.way = way ∧ sliceOf x.line = slice)) →
      ∃ t v', exec (.wayDrainComplete slice way) s = .next t ∧ t.pool.ways[slice]? = some v' ∧ v'.dis = v.dis ||| (1 <<< way) ∧ way ∉ v'.drain ∧ t.mem = s.mem)

/-- The window and the range operations (R265, R268): LOCK is set once; the window stands, with zeros, once way 15 holds no line; GO starts a flush or a purge of a range that is not empty, an empty one is done at once, a GO while one is in progress only stores OP (R529), and a range without valid lines is done. The port acts in the life-cycle states of its heading (R10). -/
def Claim.WindowAndRanges : Prop :=
  ∀ s : State,
    exec .poolwinLock s = .next (s.modPool fun p => { p with lock := true }) ∧
    (s.pool.lock = true → s.pool.locked = false → s.pool.lockFail = false → s.pool.queue = [] → (∀ v ∈ s.pool.ways, v.dis.getLsbD 15 = false) → (∀ e ∈ s.pool.dir, e.way ≠ 15) →
      ∃ t, exec .windowLockComplete s = .next t ∧ t.pool.locked = true ∧ (∀ a, windowBase ≤ a → t.mem.read a = 0) ∧ (∀ a, a < windowBase → t.mem.read a = s.mem.read a)) ∧
    (s.portLives .poolric = true →
      (s.pool.ricBusy = false → s.pool.ribLines ≠ 0 →
        exec .rangeFlush s = .next (s.modPool fun p => { p with ricOp := false, ricNow := false, ricBusy := true }) ∧
        exec .rangePurge s = .next (s.modPool fun p => { p with ricOp := true, ricNow := true, ricBusy := true })) ∧
      (s.pool.ricBusy = false → s.pool.ribLines = 0 →
        exec .rangeFlush s = .next (s.modPool fun p => { p with ricOp := false, ricDone := true }) ∧
        exec .rangePurge s = .next (s.modPool fun p => { p with ricOp := true, ricDone := true })) ∧
      (s.pool.ricBusy = true →
        exec .rangeFlush s = .next (s.modPool fun p => { p with ricOp := false }) ∧ exec .rangePurge s = .next (s.modPool fun p => { p with ricOp := true }))) ∧
    (s.pool.ricBusy = true → (∀ e ∈ s.pool.dir, e.line < s.pool.ribBase.toNat ∨ s.pool.ribBase.toNat + s.pool.ribLines.toNat ≤ e.line) →
      ∃ t, exec .rangeDone s = .next t ∧ t.pool.ricBusy = false ∧ t.pool.ricDone = true ∧ t.mem = s.mem ∧ t.pool.dir = s.pool.dir)


/-! The memory controllers. -/

/-- One event of a source is on its way, with its class and address (R403). -/
def Reported (s t : State) (src : Nat) (cls : FaultClass) (addr : Word) : Prop :=
  ∃ r, t.weir.inFlight = s.weir.inFlight ++ [r] ∧ r.src = src ∧ r.cls = cls ∧ r.addr = addr ∧ r.beat = s.beatc

/-- A line of main memory whose group has all its channels and which carries no poison code in DRAM. -/
structure LineWhole (s : State) (line : Nat) : Prop where
  dram : s.isDram (line * 256) = true
  isOpen : s.poolOpen = true
  group : (s.group (groupOf line)).lost = false ∧ (s.group (groupOf line)).deg = false
  clean : line ∉ s.mc.poisonCode
  channels : ∀ b : Fin 5, s.channelFailed (5 * groupOf line + b.val) = false

/-- A read of DRAM for a line's home slice (R276 to R278), which it completes: a whole line needs nothing; a burst that was corrected is a CORRECTED event of its channel, one that was rebuilt a RECOVERABLE one; with two bad bursts the line is lost: poison code, the poison indication in the Pool copy that the read fills, and a SEVERE event of its group. -/
def Claim.MemoryReads : Prop :=
  ∀ (s : State) (line : Nat) (b b' : Fin 5), LineWhole s line → s.readsLine line = true → b.val < 4 → b'.val < 4 → b ≠ b' →
    let r := { s.mc with reads := s.mc.reads.erase line }
    let a := BitVec.ofNat 64 (line * 256)
    let e := fun (bad corrected : List (Fin 5)) => ({ bad := bad, corrected := corrected, parityOff := false, retries := [] } : BurstErrors)
    exec (.dramLineRead line (e [] [])) s = .next { s with mc := r } ∧
    (∃ t, exec (.dramLineRead line (e [] [b])) s = .next t ∧ Reported s t (0x800 + 5 * groupOf line + b.val) .corrected a ∧ t.mem = s.mem ∧ t.pool = s.pool ∧ t.mc = r) ∧
    (∃ t, exec (.dramLineRead line (e [b] [])) s = .next t ∧ Reported s t (0x800 + 5 * groupOf line + b.val) .recoverable a ∧ t.mem = s.mem ∧ t.pool = s.pool ∧ t.mc = r) ∧
    (∃ t, exec (.dramLineRead line (e [b, b'] [])) s = .next t ∧ Reported s t (0x818 + groupOf line) .severe a ∧ line ∈ t.mc.poisonCode ∧ t.mc.reads = r.reads ∧ t.mem = s.mem ∧
      t.pool.agents = s.pool.agents ∧ ∀ d, s.dirEntry line = some d → ∃ d', t.dirEntry line = some d' ∧ d'.p = true ∧ d'.d = d.d ∧ d'.pv = d.pv)

/-- The way of a line to DRAM (R248, R258, R264, R276): written back by its home slice, a dirty line joins the writes of its controller, its DRAM copy holds what the Pool copy held, with the poison code where the copy was poisoned, and otherwise with none; the controller then completes the write. -/
def Claim.MemoryWrites : Prop :=
  ∀ (s : State) (line : Nat) (d : DirEntry), s.isDram (line * 256) = true → s.dirEntry line = some d →
    let t := s.writeBack line
    (d.d = true ∨ d.p = true → t.mc.writes = s.mc.writes ++ [line] ∧ (∀ c ∈ t.pool.dramOld, c.1 / 256 ≠ line) ∧ (line ∈ t.mc.poisonCode ↔ d.p = true) ∧
      t.mem = s.mem ∧ t.pool.agents = s.pool.agents ∧ t.pool.dir = s.pool.dir) ∧
    (d.d = false → d.p = false → t = s) ∧
    (line ∈ s.mc.writes → exec (.dramLineWrite line { bad := [], corrected := [], parityOff := false, retries := [] }) s =
      .next { s with mc := { s.mc with writes := s.mc.writes.erase line } })

/-- The scrubber of a group (R279): a good line is left, the next line number follows, and after the last line one pass more is complete. -/
def Claim.Scrubbing : Prop :=
  ∀ (s : State) (g : Nat) (x : MemGroup), g < 4 → s.mc.groups[g]? = some x → x.lost = false → s.poolOpen = true → scrubLineOf g x.scrubAt ∉ s.mc.poisonCode →
    ∃ t, exec (.scrubLine g { bad := [], corrected := [], parityOff := false, retries := [] }) s = .next t ∧
      t.mc.groups[g]? = some (if x.scrubAt + 1 < s.capacity / 1024 then { x with scrubAt := x.scrubAt + 1 } else { x with scrubAt := 0, passes := x.passes + 1 }) ∧
      (∀ i, i ≠ g → t.mc.groups[i]? = s.mc.groups[i]?) ∧ t.mem = s.mem ∧ t.pool = s.pool ∧ t.weir = s.weir

/-- A channel that fails is out of use with its cause (R281): its group is degraded and names it, or is lost when it was degraded already (R283); Weir's promotion fails a channel whose source the counting has made SEVERE (R405). Main memory becomes ready when every group has been zeroed, and start-up goes on to the handover (R286, R492). -/
def Claim.ChannelsAndReady : Prop :=
  ∀ (s : State) (n : Nat) (cause : ChannelCause) (c : MemChannel) (x : MemGroup),
    (n < 20 → s.mc.channels[n]? = some c → c.failed = false → s.mc.groups[n / 5]? = some x → (cause = .promotion → (s.weir.source (0x800 + n)).sev = true) →
      ∃ t, exec (.channelFail n cause) s = .next t ∧ t.channelFailed n = true ∧ (∀ i, i ≠ n → t.mc.channels[i]? = s.mc.channels[i]?) ∧ t.mem = s.mem ∧
        t.mc.groups[n / 5]? = some (if x.deg then { x with lost := true } else { x with deg := true, fch := BitVec.ofNat 3 (n % 5) }) ∧
        (cause ≠ .promotion → x.deg = false → Reported s t (0x800 + n) .severe 0) ∧
        (cause = .promotion → x.deg = true → Reported s t (0x818 + n / 5) .fatal 0)) ∧
    (s.mc.zeroing = true → s.plant.power = .on → ∃ t, exec .memoryReady s = .next t ∧ t.mc.ready = true ∧ t.mc.zeroing = false ∧ t.mc.groups = s.mc.groups ∧
        (s.pool.start = false → t = { s with mc := { s.mc with zeroing := false, ready := true } }))

/-! Subchannels, operations and their commands. -/

/-- A range of bytes inside one line of main memory that a master can store at once (R257). -/
structure Storable (s : State) (a n : Nat) : Prop where
  dram : s.isDram a = true
  oneLine : a % 256 + n ≤ 256
  forming : s.windowForming a = false
  free : s.lineBusy (lineOf a) = false
  plain : s.guarded a = false
  valid : (s.dirEntry (lineOf a)).isSome = true
  unqueued : ∀ r ∈ s.pool.queue, r.line ≠ lineOf a

/-- The completion queues (R307, R310): enabling a disabled queue whose ring lies in main memory empties it; disabling keeps its pointers; the oldest held completion goes into a queue with space, with TAIL advanced and the phase inverted at the wrap. -/
def Claim.CompletionQueues : Prop :=
  ∀ (s : State) (q : Nat) (v : Word), q < 4096 → s.portLives (.cq (q / 4) (q % 4) 4) = true →
    let x := s.cq q
    (bitAt v 0 = true → x.en = false → x.base.toNat + 32 * x.entries ≤ s.capacity →
      ∃ t, exec (.cqEnable q v) s = .next t ∧ t.cq q = { x with lcn := fld v 8 8, irq := bitAt v 1, en := true, head := 0, tail := 0, phase := true, err := false } ∧
        (∀ p, p ≠ q → t.cq p = s.cq p) ∧ t.mem = s.mem) ∧
    (bitAt v 0 = true → x.en = false → s.capacity < x.base.toNat + 32 * x.entries →
      ∃ t, exec (.cqEnable q v) s = .next t ∧ t.cq q = { x with lcn := fld v 8 8, irq := bitAt v 1, err := true } ∧ t.mem = s.mem) ∧
    (bitAt v 0 = false → ∃ t, exec (.cqDisable q v) s = .next t ∧ t.cq q = { x with lcn := fld v 8 8, irq := bitAt v 1, en := false } ∧
        (∀ p, p ≠ q → t.cq p = s.cq p) ∧ t.mem = s.mem) ∧
    (∀ (h : HeldEntry) (rest : List HeldEntry), s.css.held = h :: rest → h.q = q → s.weir.safe = false → x.en = true → x.isFull = false →
      Storable s (x.base.toNat + 32 * x.tail.toNat) 32 →
      ∃ t, exec (.heldCompletionWrite q) s = .next t ∧ t.css.held = rest ∧ (t.cq q).tail = BitVec.ofNat 16 ((x.tail.toNat + 1) % x.entries) ∧
        (t.cq q).phase = (if (x.tail.toNat + 1) % x.entries = 0 then !x.phase else x.phase))

/-- The subchannel commands, in a life-cycle state in which their port acts (R10, R292): RESULT for a refusal, with nothing else done; a command on a subchannel that is neither IDLE nor DOWN answers 1; one that is carried out answers 0, and ESTABLISH raises the incarnation; REMOVE clears V. -/
def Claim.SubchannelCommands : Prop :=
  ∀ (s : State) (typ : BitVec 2) (g : Bool), s.portLives .mschcmd = true →
    let k := s.css.sel.toNat
    let e := s.sch k
    let set := fun (r : BitVec 3) => Host.Outcome.next (s.modCss fun c => { c with typ := typ, g := g, result := r })
    let open_ := s.pool.locked = true
    let here := s.sliceBusy s.css.cfgSlice = false
    let cq := (s.cq (4 * s.css.cfgSlice + (fld s.css.cfg 13 2).toNat)).en
    let lcp := s.lcpPresent (fld s.css.cfg 8 5).toNat
    (s.pool.locked = false → exec (.establish typ g) s = set 3 ∧ exec (.modify typ g) s = set 3 ∧ exec (.remove typ g) s = set 3) ∧
    (open_ → here → e.v = true → exec (.establish typ g) s = set 2) ∧
    (open_ → here → e.v = false → cq = false → exec (.establish typ g) s = set 4) ∧
    (open_ → here → e.v = false → cq = true → lcp = false → exec (.establish typ g) s = set 5) ∧
    (open_ → here → e.v = false → cq = true → lcp = true →
      ∃ t, exec (.establish typ g) s = .next t ∧ t.css.result = 0 ∧ t.css.inc k = (s.css.inc k + 1) % 4096) ∧
    (open_ → e.v = false → exec (.modify typ g) s = set 3 ∧ exec (.remove typ g) s = set 3) ∧
    (open_ → e.v = true → e.state ≠ stIdle → e.state ≠ stDown → exec (.modify typ g) s = set 1 ∧ exec (.remove typ g) s = set 1) ∧
    (open_ → e.v = true → e.pend = true ∨ s.sliceBusy e.slice = true → exec (.remove typ g) s = set 1) ∧
    (open_ → here → e.v = true → e.state = stIdle ∨ e.state = stDown → s.sliceBusy e.slice = false → cq = true → lcp = true →
      ∃ t, exec (.modify typ g) s = .next t ∧ t.css.result = 0) ∧
    (open_ → s.mem.wf = true → e.v = true → e.state = stIdle ∨ e.state = stDown → s.sliceBusy e.slice = false → e.pend = false →
      ∃ t, exec (.remove typ g) s = .next t ∧ t.css.result = 0 ∧ (t.sch k).v = false ∧ t.conn k = Conn.closed)

/-- The operation of a subchannel has reached a command without MARK that holds (R293 to R298), and its logical CP runs. -/
structure AtCommand (s : State) (sch : Nat) (o : Operation) (c : Command) (lead : Ccw) (n : Nat) : Prop where
  op : s.opOfSch sch = some o
  byId : s.op o.id = some o
  onSch : o.sch = sch
  ready : o.phase = .ready
  going : o.halting = false
  safe : s.weir.safe = false
  runs : s.cpRuns (s.sch sch).lcp = true
  command : s.fetchCommand o = .ok (c, lead, n)
  mark : c.mark = false

/-- A command of one CCW as it stands in memory (R294 to R298): the operation executes what the CCW says. -/
def Claim.OneCcw : Prop :=
  ∀ (s : State) (o : Operation), o.reached < 65536 → s.granted o.slice o.ccw 32 = true → s.readPoison o.ccw 32 = false →
    let w := s.ccwAt o.ccw
    w.cmd = 0x10 ∨ w.cmd = 0x20 ∨ w.cmd = 0x41 ∨ w.cmd = 0x51 → w.seq < 2 → w.len < 2 → bitAt w.ctl 0 = false → w.drop = false → w.reserved = 0 → w.j = false →
    (w.cmd ≠ 0x51 → 0 < w.count ∧ w.count ≤ 0x1000000 ∧ s.granted o.slice w.addr w.count = true) → (ccwTypes w.cmd).getD (s.sch o.sch).typ false = true →
    s.fetchCommand o = .ok
      ({ lead := o.ccw, last := o.ccw, seqNext := w.seq == 1, cmd := w.cmd, short := w.len == 1, mark := w.mark, journal := false, dropData := false,
         aux := w.aux, key := w.key, data := if w.cmd = 0x51 then [] else [(w.addr, w.count)] }, w, o.reached + 1)

/-- The operation goes on with the next command, or at a branch's target. -/
def GoesOn (t : State) (id at_ : Nat) : Prop := ∃ o', t.op id = some o' ∧ o'.phase = .ready ∧ o'.cmd = none ∧ o'.ccw = at_

/-- The commands that move nothing over a path (R295, R299, R300, R345, R346): each goes on with the command that follows, BRANCH with its target; SENSE stores 32 bytes of sense data, QUERY the state part of the connection. -/
def Claim.LocalCommands : Prop :=
  ∀ (s : State) (sch : Nat) (o : Operation) (c : Command) (lead : Ccw) (n a : Nat), AtCommand s sch o c lead n → c.seqNext = true → s.mem.wf = true →
    (lead.cmd = 0x51 → ∃ t, exec (.ccwNop sch) s = .next t ∧ GoesOn t o.id (c.last + 32) ∧ t.mem = s.mem) ∧
    (lead.cmd = 0x50 → ∃ t, exec (.ccwBranch sch) s = .next t ∧ GoesOn t o.id (s.ccwAt c.lead).addr ∧ t.mem = s.mem) ∧
    (lead.cmd = 0x21 → (∀ r ∈ s.ct.recs, ¬(r.retired = false ∧ r.released = true ∧ r.sch = sch)) →
      ∃ t, exec (.ccwReadJournaled sch) s = .next t ∧ GoesOn t o.id (c.last + 32) ∧ t.mem = s.mem) ∧
    (lead.cmd = 0x41 → c.data = [(a, 32)] → Storable s a 32 →
      ∃ t, exec (.ccwSense sch) s = .next t ∧ GoesOn t o.id (c.last + 32) ∧
        t.mem.readN a 32 = (lookupD s.css.senses sch { src := 0, reason := 0, xid := 0, beat := 0, pdetail := 0 }).bytes ∧
        (∀ x, x < a ∨ a + 32 ≤ x → t.mem.read x = s.mem.read x)) ∧
    (lead.cmd = 0x40 → lead.func = 3 → c.data = [(a, 64)] → Storable s a 64 →
      ∃ t, exec (.controlQuery sch) s = .next t ∧ GoesOn t o.id (c.last + 32) ∧ t.mem.readN a 52 = (s.conn sch).statePart ∧
        (∀ x, x < a ∨ a + 64 ≤ x → t.mem.read x = s.mem.read x))

/-- The operation waits in a phase. -/
def Waits (t : State) (id : Nat) (p : OpPhase) : Prop := ∃ o', t.op id = some o' ∧ o'.phase = p

/-- The commands that use the path of an SCP subchannel (R332, R334), which wait while it is FENCING (R338): WRITE, an unjournaled SEND-MESSAGE, READ and PARTNER begin one outbound exchange numbered XIDOUT; a journaled command waits for its record (R311), and WRITE-COMMITTED begins its write to the partner where it will be accepted (R314); RECEIVE-MESSAGE waits when no message stands ready. -/
def Claim.PathCommands : Prop :=
  ∀ (s : State) (sch : Nat) (o : Operation) (c : Command) (lead : Ccw) (n : Nat), AtCommand s sch o c lead n → (s.conn sch).isOpen = true → (s.conn sch).pstate ≠ psFencing → (s.conn sch).isTcp = false →
    let x := (s.conn sch).xidOut
    let begins := fun (i : Instr) (xop : Nat) (aux : Word) (data : List Byte) (p : OpPhase) =>
      ∃ t, exec i s = .next t ∧ Waits t o.id p ∧ (t.conn sch).xidOut = x + 1 ∧
        (t.conn sch).outEx = (s.conn sch).outEx ++ [{ xid := x, seq := (s.conn sch).sndNxt, xop := xop, total := c.length, aux := aux, tag := c.key, data := data, use := .command o.id }]
    let waits := fun (i : Instr) (kind : Nat) (pos : Word) =>
      ∃ t, exec i s = .next t ∧ Waits t o.id .reserve ∧ t.mem = s.mem ∧
        t.ct.waits = s.ct.waits ++ [{ op := o.id, kind := kind, sch := sch, guarded := (s.sch sch).guarded, key := c.key, pos := pos, parm := o.parm, data := s.gatherList c.data, started := kind == 1 && s.willFit (s.gatherList c.data).length, done := false }]
    (lead.cmd = 0x10 → s.poisonedCcw c = none → begins (.ccwWrite sch) 1 c.aux (s.gatherList c.data) (.exchange x)) ∧
    (lead.cmd = 0x20 → begins (.ccwRead sch) 2 c.aux [] (.reply x)) ∧
    (lead.cmd = 0x30 → c.journal = false → s.poisonedCcw c = none → begins (.ccwSendMessage sch) 4 c.aux (s.gatherList c.data) (.exchange x)) ∧
    (lead.cmd = 0x30 → c.journal = true → s.poisonedCcw c = none → waits (.ccwSendMessage sch) 2 0) ∧
    (lead.cmd = 0x11 → s.poisonedCcw c = none → waits (.ccwWriteCommitted sch) 1 c.aux) ∧
    (lead.cmd = 0x31 → (s.conn sch).nextMessage = none → ∃ t, exec (.ccwReceiveMessage sch) s = .next t ∧ Waits t o.id .message ∧ t.mem = s.mem) ∧
    (lead.cmd = 0x40 → lead.func = 5 → (s.sch sch).typ ≠ 3 → s.poisonedCcw c = none →
      ∃ t, exec (.controlPartner sch) s = .next t ∧ Waits t o.id (.exchange x) ∧ ∃ y, (t.conn sch).outEx = (s.conn sch).outEx ++ [y] ∧ y.xop = 5 ∧ y.data = s.gatherList c.data)

/-- CONTROL on an SCP path (R345): CLOSE waits, with the path CLOSING; ABORT closes the path at once and goes on; PING waits for its answer. -/
def Claim.PathControls : Prop :=
  ∀ (s : State) (sch : Nat) (o : Operation) (c : Command) (lead : Ccw) (n : Nat), AtCommand s sch o c lead n → (s.conn sch).isOpen = true → (s.conn sch).pstate ≠ psFencing → (s.conn sch).isTcp = false →
    lead.cmd = 0x40 →
    (lead.func = 1 → ∃ t, exec (.controlClose sch) s = .next t ∧ Waits t o.id .close ∧ (t.conn sch).pstate = psClosing) ∧
    (lead.func = 2 → c.seqNext = true →
      ∃ t, exec (.controlAbort sch) s = .next t ∧ GoesOn t o.id (c.last + 32) ∧ (t.conn sch).pstate = psClosed ∧ (t.conn sch).noReopen = true) ∧
    (lead.func = 4 → ∃ t, exec (.controlPing sch) s = .next t ∧ Waits t o.id .ping)

/-- A command that fails a check ends the program (R298, R306, R310): COMPLETING, and with its queue disabled the completion is held, with PROGRAM_CHECK, the DETAIL of the check and the failing CCW. -/
def Claim.ProgramChecks : Prop :=
  ∀ (s : State) (sch : Nat) (o : Operation), s.opOfSch sch = some o → s.op o.id = some o → o.sch = sch → o.phase = .ready → o.halting = false → o.recs = [] → s.weir.safe = false →
    s.cpRuns (s.sch sch).lcp = true → o.reached < 65536 → s.granted o.slice o.ccw 32 = false → (s.cq o.q).en = false →
    ∃ t h, exec (.ccwNop sch) s = .next t ∧ t.css.held = s.css.held ++ [h] ∧ h.code = codeProgramCheck ∧ h.detail = 5 ∧ h.ccwpa = o.ccw ∧ h.sch = sch ∧ h.parm = o.parm

/-- The journal (R311 to R313, R430 to R432): a waiting record gets the next generation and its units at HEAD, or fails with JOURNAL_FULL; a record whose units are all written is durable; a durable unguarded one is released, and one of a WRITE-COMMITTED whose background write has ended is retired with it. -/
def Claim.JournalRecords : Prop :=
  ∀ (s : State) (w : JWait) (ws : List JWait) (o : Operation) (r : JRec) (gen : BitVec 32),
    (s.journalOpen = true → s.ct.waits = w :: ws → s.op w.op = some o → o.id = w.op → o.phase = .reserve → s.ct.fits (unitsFor w.data.length) = true →
      ∃ t x, exec .journalReserve s = .next t ∧ t.ct.waits = ws ∧ t.ct.nextgen = s.ct.nextgen + 1 ∧ x ∈ t.ct.recs ∧
        x.gen = s.ct.nextgen ∧ x.kind = w.kind ∧ x.sch = w.sch ∧ x.key = w.key ∧ x.data = w.data ∧ x.unit = (s.ct.place (unitsFor w.data.length)).1 ∧ Waits t w.op (.release s.ct.nextgen)) ∧
    (s.record gen = some r → r.durable = false → (∀ m ∈ s.ct.mirIn, m.gen ≠ gen) → r.data.length = r.total → 256 * r.units ≤ r.written →
      exec (.recordDurable gen) s = .next (s.modRec gen fun r => { r with durable := true })) ∧
    (s.record gen = some r → s.weir.safe = false → r.durable = true → r.released = false → r.guarded = false → r.kind = 1 → s.css.ops = [] → s.writeOpen gen = false →
      ∃ t, exec (.recordRelease gen) s = .next t ∧ t.record gen = none ∧ t.mem = s.mem)


/-! SCP and message TCP. -/

/-- A frame of a type that the rules of R327, R336 and R337 let through to the connection of subchannel k. -/
structure ScpArrives (s : State) (k typ : Nat) (f : ScpFrame) : Prop where
  range : k < 2 ^ 20
  typ : f.typ.toNat = typ
  port : s.frameReaches k = true
  safe : s.weir.safe = false
  crc : f.crcOk = true
  form : f.malformed (if (s.conn k).pstate = psClosed ∨ (s.conn k).pmax = 0 then 8192 else (s.conn k).pmax) = false
  here : s.established k f = true
  cls : f.cls = (s.conn k).cls
  notOld : (s.conn k).fenced f = false
  gen : (s.conn k).fgenOk f = true

/-- A frame with nothing new in its ACK and CXID fields, for a connection that is up with nothing in flight and no operation anywhere. -/
structure QuietConn (s : State) (k : Nat) (f : ScpFrame) : Prop where
  up : (s.conn k).pstate = psUp
  tx : (s.conn k).tx = []
  ops : s.css.ops = []
  ack : f.ack = (s.conn k).sndUna
  cxid : f.cxid = (s.conn k).cxidOut

/-- One SCP frame of a type leaves by the port of connection k, to the partner's address and in its encapsulation (R321, R323, R325). -/
def Leaves (s t : State) (k n : Nat) : Prop :=
  ∃ fr g, t.eth.sent = s.eth.sent ++ [fr] ∧ fr.port = (s.conn k).port ∧ fr.dmac = some (s.conn k).pmac ∧ fr.body = .scp (s.conn k).udpHead g ∧ g.typ.toNat = n

/-- The opening and closing of a path (R329, R345): OPEN to a passive side and OPEN_ACK to an active one bring it up with the partner's parameters, and leave the fence generation held as it is (R337); CLOSE fails it with the reason that it carries; CLOSE_ACK ends an orderly close. -/
def Claim.ScpPaths : Prop :=
  ∀ (s : State) (k : Nat) (f : ScpFrame),
    let c := s.conn k
    let opens := fun (i : Instr) =>
      ∃ t, exec i s = .next t ∧ (t.conn k).pstate = psUp ∧ (t.conn k).pcid = f.scid ∧ (t.conn k).rcvNxt = f.seq ∧ (t.conn k).pfgen = c.pfgen ∧ (t.conn k).pwin = f.win.setWidth 32
    (ScpArrives s k 1 f → c.pstate = psOpening → c.passive = true → c.outEx = [] → opens (.scpOpen k f)) ∧
    (ScpArrives s k 2 f → c.pstate = psOpening → c.passive = false → c.outEx = [] → opens (.scpOpenAck k f)) ∧
    (ScpArrives s k 6 f → s.css.ops = [] →
      ∃ t, exec (.scpClose k f) s = .next t ∧ (t.conn k).pstate = psClosed ∧ (t.conn k).lastReason = BitVec.ofNat 16 (f.num 0 2)) ∧
    (ScpArrives s k 7 f → c.pstate = psClosing → c.closeSent = true → s.css.ops = [] →
      ∃ t, exec (.scpCloseAck k f) s = .next t ∧ (t.conn k).pstate = psClosed ∧ (t.conn k).noReopen = true)

/-- DATA frames (R330, R348): one in order of an exchange that is done counts in RCVNXT; one ahead in the window is kept; a duplicate changes neither. -/
def Claim.ScpData : Prop :=
  ∀ (s : State) (k : Nat) (f : ScpFrame), ScpArrives s k 3 f → QuietConn s k f → f.acknow = false →
    let c := s.conn k
    let d := (f.seq - c.rcvNxt).toNat
    let leaves := fun (nxt : Word32) (kept : List ScpFrame) =>
      ∃ t, exec (.scpData k f) s = .next t ∧ (t.conn k).rcvNxt = nxt ∧ (t.conn k).kept = kept ∧ (t.conn k).inEx = c.inEx
    (d = 0 → c.kept = [] → c.oldExchange f = true → f.data.length ≤ c.areaFree → leaves (c.rcvNxt + 1) []) ∧
    (0 < d → d < c.win.toNat → d < 2 ^ 31 → (∀ g ∈ c.kept, g.seq ≠ f.seq) → leaves c.rcvNxt (c.kept ++ [f])) ∧
    (0 < d → c.win.toNat ≤ d → leaves c.rcvNxt c.kept)

/-- Acknowledgement (R330, R331, R333, R335): ACK advances the oldest unacknowledged number and drops what it covers; NAK sends the frame that it names again; KEEPALIVE with the ACK bit is answered; ERROR starts a background write again, whole and under its own number (R314). -/
def Claim.ScpAnswers : Prop :=
  ∀ (s : State) (k : Nat) (f : ScpFrame),
    let c := s.conn k
    let sends := s.mayTransmit c.port c.prio = true
    (ScpArrives s k 4 f → c.pstate = psUp → s.css.ops = [] → follows f.ack c.sndUna = true → notAfter f.ack c.sndNxt = true →
      ∃ t, exec (.scpAck k f) s = .next t ∧ (t.conn k).sndUna = f.ack ∧ (t.conn k).pwin = f.win.setWidth 32 ∧ ∀ x ∈ (t.conn k).tx, follows f.ack x.seq = false) ∧
    (ScpArrives s k 5 f → c.pstate = psUp → s.css.ops = [] → f.ack = c.sndUna → f.cxid = c.cxidOut → f.acknow = false → sends →
      ∀ x, c.tx = [x] → x.sent = true → f.num 0 4 = x.seq.toNat → f.num 4 4 = x.seq.toNat →
      ∃ t, exec (.scpNak k f) s = .next t ∧ Leaves s t k 3 ∧ (t.conn k).tx = c.tx) ∧
    (ScpArrives s k 8 f → QuietConn s k f → sends → f.acknow = true → ∃ t, exec (.scpKeepalive k f) s = .next t ∧ Leaves s t k 4 ∧ (t.conn k).rcvNxt = c.rcvNxt) ∧
    (ScpArrives s k 11 f → QuietConn s k f → ∀ x op gen, c.outEx = [x] → x.use = .background op gen → x.xid.toNat = f.num 4 4 →
      ∃ t, exec (.scpError k f) s = .next t ∧ (t.conn k).outEx = [{ x with seq := c.sndNxt }] ∧ (t.conn k).xidOut = c.xidOut ∧
        (t.conn k).tx ≠ [] ∧ (∀ y ∈ (t.conn k).tx, y.xid = x.xid) ∧ ∃ r ∈ t.weir.inFlight, r.src = 0x890 + c.port ∧ r.cls = .recoverable)

/-- Fencing (R337 to R339): FENCE gives the partner's generation, which the service class has none of, and its next number, with what was kept gone; FENCE_ACK brings a fencing path up. -/
def Claim.ScpFences : Prop :=
  ∀ (s : State) (k : Nat) (f : ScpFrame),
    let c := s.conn k
    (ScpArrives s k 9 f → s.css.ops = [] → c.outEx = [] →
      ∃ t, exec (.scpFence k f) s = .next t ∧ (t.conn k).pfgen = (if c.typ = 3 then c.pfgen else f.fgen) ∧ (t.conn k).rcvNxt = f.seq ∧ (t.conn k).kept = []) ∧
    (ScpArrives s k 10 f → c.pstate = psFencing → s.css.ops = [] → c.outEx = [] →
      ∃ t, exec (.scpFenceAck k f) s = .next t ∧ (t.conn k).pstate = psUp ∧ (t.conn k).rcvNxt = f.seq)

/-- The timers of SCP (R329 to R331, R338): what is sent again, the path that is dead, and the opening of a path that waited for it, with the configuration that its block then holds. -/
def Claim.ScpTimers : Prop :=
  ∀ (s : State) (k : Nat), k < 2 ^ 20 → s.weir.safe = false →
    let c := s.conn k
    let e := s.sch k
    let sends := s.mayTransmit c.port c.prio = true
    (c.pstate = psOpening → c.passive = false → c.isTcp = false → c.rtob ≤ s.since c.openBeat → sends →
      ∃ t, exec (.openResend k) s = .next t ∧ Leaves s t k 1 ∧ (t.conn k).openBeat = s.beatc) ∧
    (c.isUp = true → c.isTcp = false → c.ka ≤ s.since c.sentBeat → sends → ∃ t, exec (.keepaliveTimer k) s = .next t ∧ Leaves s t k 8 ∧ (t.conn k).sentBeat = s.beatc) ∧
    (c.isUp = true ∨ c.pstate = psFencing → c.isTcp = false → c.deadt ≤ s.since c.rcvdBeat → s.css.ops = [] →
      ∃ t, exec (.pathDead k) s = .next t ∧ (t.conn k).pstate = psClosed ∧ (t.conn k).lastReason = rsnDead) ∧
    (∀ b, c.reopenAt = some b → b.toNat ≤ s.beatc.toNat →
      (e.guarded = true → s.ct.role = .standby → exec (.reopen k) s = .next s) ∧
      (e.guarded = false ∨ s.ct.role ≠ .standby →
        let fresh := s.freshConn k e
        let r := s.readConfig k fresh
        let closed := ∃ t, exec (.reopen k) s = .next t ∧ (t.conn k).pstate = psClosed ∧ (t.conn k).lastReason = rsnConfig ∧ (t.conn k).reopenAt = none
        (r.1 = none → closed) ∧ (∀ cfg, r.1 = some cfg → r.2.configOk { fresh with cfg := cfg } false = false → closed) ∧
        (∀ cfg, r.1 = some cfg → r.2.configOk { fresh with cfg := cfg } false = true → ∃ t, exec (.reopen k) s = .next t ∧ (t.conn k).pstate = psOpening))) ∧
    (∀ x xs, c.tx = x :: xs → c.isUp = true → x.sent = true → c.rto ≤ s.since c.ackBeat → sends →
      ∃ t, exec (.scpRetransmit k) s = .next t ∧ Leaves s t k 3 ∧ (t.conn k).rto = min (2 * c.rto) c.rtomax ∧ (t.conn k).tx = c.tx) ∧
    (∀ b, c.ackDue = some b → 1 ≤ s.since b → c.isTcp = false → sends → ∃ t, exec (.delayedAck k) s = .next t ∧ Leaves s t k 4 ∧ (t.conn k).ackDue = none) ∧
    (c.pstate = psFencing → c.rtob ≤ s.since c.openBeat → sends → ∃ t, exec (.fenceResend k) s = .next t ∧ Leaves s t k 9 ∧ (t.conn k).openBeat = s.beatc)

/-- Message TCP (R341): the first SYN to a passive side is taken, a reset at RCV.NXT fails the path, and the retransmission timer doubles RTO until its limit ends the path. -/
def Claim.TcpPaths : Prop :=
  ∀ (s : State) (k : Nat) (g : TcpSegment) (x : Tcp), k < 2 ^ 20 → s.weir.safe = false → (s.conn k).tcp = some x →
    let c := s.conn k
    (s.frameReaches k = true → g.checksumOk = true → x.phase = .listen → g.syn = true → g.rst = false → g.ackFlag = false →
      ∃ t y, exec (.tcpSegment k g) s = .next t ∧ (t.conn k).tcp = some y ∧ y.phase = .synReceived ∧ y.irs = g.seq ∧ (t.conn k).rcvNxt = g.seq + 1) ∧
    (s.frameReaches k = true → g.checksumOk = true → x.phase = .established → c.pstate ≠ psClosed → s.css.ops = [] →
      g.rst = true → g.syn = false → g.fin = false → g.payload = [] → g.seq = c.rcvNxt →
      ∃ t, exec (.tcpSegment k g) s = .next t ∧ (t.conn k).pstate = psClosed ∧ (t.conn k).lastReason = rsnReset) ∧
    (x.phase = .synSent → c.pstate = psOpening → c.rto ≤ s.since x.timer → s.since c.ackBeat < 180000000 →
      ∃ t, exec (.tcpRetransmitTimeout k) s = .next t ∧ (t.conn k).rto = 2 * c.rto ∧ (t.conn k).pstate = psOpening) ∧
    (x.phase = .synSent → c.pstate = psOpening → c.rto ≤ s.since x.timer → 180000000 ≤ s.since c.ackBeat → s.css.ops = [] →
      ∃ t, exec (.tcpRetransmitTimeout k) s = .next t ∧ (t.conn k).pstate = psClosed ∧ (t.conn k).lastReason = rsnDead)

/-! Ethernet ports. -/

/-- The frames that a port takes or not (R352, R358, R362), the FEC codewords of their time (R351), and its links (R349 to R351, R361). -/
def Claim.EthernetPorts : Prop :=
  ∀ (s : State) (p : Nat) (f : EthFrame) (x : EthPort) (fec : Bool) (sub : Fin 4) (v : Word), p < 16 → s.eth.ports[p]? = some x → x.cnt.length = 12 →
    let up := fun (w : Word) (n : Nat) => BitVec.ofNat 64 (min (w.toNat + n) (2 ^ 64 - 1))
    let cnt := fun (t : State) (i : Nat) => (t.port p).cnt.getD i 0
    (x.link = true → f.fcsOk = false → f.fecLost = 0 ∨ x.fec = 0 → ∃ t, exec (.frameReceive p f) s = .next t ∧ cnt t 4 = up (x.cnt.getD 4 0) 1 ∧ cnt t 0 = x.cnt.getD 0 0 ∧
      Reported s t (0x900 + p) .corrected 0 ∧ t.mem = s.mem ∧ t.css = s.css) ∧
    (x.link = true → x.fec ≠ 0 → f.fcsOk = true → x.mtuBytes < f.len → ∃ t, exec (.frameReceive p f) s = .next t ∧ cnt t 5 = up (x.cnt.getD 5 0) f.fecCorrected ∧
      cnt t 6 = up (x.cnt.getD 6 0) f.fecLost ∧ t.weir.inFlight.length = s.weir.inFlight.length + f.fecLost ∧ t.mem = s.mem ∧ t.css = s.css) ∧
    (x.link = true → f.fcsOk = true → x.mtuBytes < f.len → f.fecLost = 0 ∨ x.fec = 0 → ∃ t, exec (.frameReceive p f) s = .next t ∧ cnt t 4 = up (x.cnt.getD 4 0) 1 ∧ t.weir = s.weir ∧ t.mem = s.mem ∧ t.css = s.css) ∧
    (x.link = true → f.fcsOk = true → f.len ≤ x.mtuBytes → f.body = .other → x.leat = false → s.isStandby p = false → s.weir.safe = false →
      ∃ t, exec (.frameReceive p f) s = .next t ∧ cnt t 0 = up (x.cnt.getD 0 0) 1 ∧ cnt t 1 = up (x.cnt.getD 1 0) (max 64 (22 + f.len)) ∧ cnt t 7 = up (x.cnt.getD 7 0) 1 ∧ t.mem = s.mem ∧ t.css = s.css) ∧
    (x.link = true → x.modeAt p ≠ 3 → ∃ t, exec (.linkDown p sub) s = .next t ∧ (t.port p).link = false ∧ (t.port p).subup = 0 ∧ Reported s t (0x900 + p) .recoverable 0 ∧ t.css = s.css) ∧
    (x.link = false → x.modeAt p ≠ 0 → x.modeAt p ≠ 3 → s.portOut p = false → s.css.conns = [] → s.css.ops = [] →
      ∃ t, exec (.linkUp p sub fec) s = .next t ∧ t.port p = { x with link := true, fec := fecOf (x.modeAt p) fec, subup := 0 }) ∧
    (s.portLives (.ethcfg p) = true → x.link = true → x.leat = false → fld v 16 14 ≠ x.mtu → ∃ t, exec (.ethcfgWrite p v) s = .next t ∧ (t.port p).mtu = fld v 16 14 ∧ (t.port p).mode = fld v 0 3 ∧ (t.port p).link = false) ∧
    (s.portLives (.ethcfg p) = true → fld v 16 14 = x.mtu → fld v 0 3 = x.mode → ∃ t, exec (.ethcfgWrite p v) s = .next t ∧ (t.port p).link = x.link ∧ t.weir = s.weir)

/-- Priority flow control and announcements (R356, R359): an enabled priority is paused for the quanta given and goes on when they have run out; an announcement that is due is not due again. -/
def Claim.PauseAndAnnounce : Prop :=
  ∀ (s : State) (p : Nat) (x : EthPort) (prio : Fin 8) (quanta : BitVec 16), p < 16 → s.eth.ports[p]? = some x →
    (x.link = true → x.leat = false → s.isStandby p = false → prio.val ≠ 7 → bitAt x.pfcEn prio.val = true → quanta ≠ 0 →
      ∃ t, exec (.pfcFrame p prio quanta) s = .next t ∧ (prio.val, quanta) ∈ (t.port p).paused ∧ t.mayTransmit p prio.val = false) ∧
    (x.paused = [(prio.val, quanta)] → s.css.conns = [] → s.css.ops = [] → ∃ t, exec (.pfcPauseExpiry p prio) s = .next t ∧ (t.port p).paused = []) ∧
    (∀ b bs, x.announce = b :: bs → b.toNat ≤ s.beatc.toNat → s.weir.safe = false → ∃ t, exec (.announceRepeat p) s = .next t ∧ (t.port p).announce = bs)

/-! Rings and engines. -/

/-- Submission and control of the rings of the two engine units (R365, R366, R380, R387, R398): TAIL is stored; enabling empties the rings, or raises ERR where they do not lie in memory and grants; disabling discards what was not fetched and aborts what runs. -/
def Claim.EngineRings : Prop :=
  ∀ (s : State) (k : Nat) (tail : BitVec 16) (v : Word), k < 1024 → (∀ r ∈ [1, 4], s.portLives (.cz k r) = true ∧ s.portLives (.cx k r) = true) →
    let z := s.czRing k
    let x := s.cxRing k
    let ctl := fun (r : RingPair) => { r with lcn := fld v 8 8, irq := bitAt v 1 }
    let fresh := fun (r : RingPair) => { ctl r with en := true, sqHead := 0, sqTail := 0, cqHead := 0, cqTail := 0, phase := true, err := false, taken := 0 }
    (∃ t, exec (.czSubmit k tail) s = .next t ∧ t.czRing k = { z with sqTail := tail } ∧ t.cz.engines = s.cz.engines ∧ t.mem = s.mem) ∧
    (∃ t, exec (.cxSubmit k tail) s = .next t ∧ t.cxRing k = { x with sqTail := tail } ∧ t.cx.engines = s.cx.engines ∧ t.mem = s.mem) ∧
    (bitAt v 0 = true → z.en = false → ∃ t, exec (.czEnable k v) s = .next t ∧ t.czRing k = (if s.ringsOk k (ctl z) then fresh z else { ctl z with err := true }) ∧ t.mem = s.mem) ∧
    (bitAt v 0 = true → x.en = false → ∃ t, exec (.cxEnable k v) s = .next t ∧ t.cxRing k = (if s.ringsOk k (ctl x) then fresh x else { ctl x with err := true }) ∧ t.mem = s.mem) ∧
    (bitAt v 0 = false → ∃ t, exec (.czDisable k v) s = .next t ∧ (t.czRing k).en = false ∧ (z.en = true → (t.czRing k).sqHead = z.tailAt) ∧
      (∀ j, some j ∈ t.cz.engines ∨ j ∈ t.cz.reruns → j.slice = k → j.aborted = true) ∧ t.mem = s.mem) ∧
    (bitAt v 0 = false → ∃ t, exec (.cxDisable k v) s = .next t ∧ (t.cxRing k).en = false ∧ (x.en = true → (t.cxRing k).sqHead = x.tailAt) ∧
      (∀ j, some j ∈ t.cx.engines ∨ j ∈ t.cx.reruns → j.slice = k → j.aborted = true) ∧ t.mem = s.mem)

/-- The fetch of a descriptor (R366, R367, R370, R385, R389): the only slice with work gives its descriptor at HEAD to the idle engine, with the verdict of its checks; a keyed cipher operation whose slot is empty ends with its status 3. -/
def Claim.DescriptorFetch : Prop :=
  ∀ (s : State) (k : Nat) (r : RingPair), s.weir.safe = false → r.hasWork = true → s.sliceFetches k = true → s.readPoison (r.sqAddr + 64 * r.sqHead) 64 = false →
    (∀ i : Fin 4, s.cz.rings = [(k, r)] → s.cz.reruns = [] → s.cz.engines.length = 4 → s.czJob i = none → bitAt s.cz.insvc i = true → s.ctxBusy (czDesc (s.headDesc r)) = false →
      ∃ t j, exec (.czDescriptorFetch i) s = .next t ∧ t.czJob i = some j ∧ j.slice = k ∧ j.desc = s.headDesc r ∧ j.result = s.czCheck k (czDesc (s.headDesc r)) ∧
        t.czRing k = r.fetch ∧ t.mem = s.mem) ∧
    (∀ i : Fin 8, s.cx.rings = [(k, r)] → s.cx.reruns = [] → s.cx.engines.length = 8 → s.cxJob i = none → bitAt s.cx.insvc i = true →
      let d := cxDesc (s.headDesc r)
      s.shaBusy d = false → s.chunksNeeded k d ≤ s.cx.chunksFree →
      ∃ t j, exec (.cxDescriptorFetch i) s = .next t ∧ t.cxJob i = some j ∧ j.slice = k ∧ j.desc = s.headDesc r ∧ t.cxRing k = r.fetch ∧ t.mem = s.mem ∧
        (∀ e, s.cxCheck k d = some e → j.result = some e) ∧
        (s.cxCheck k d = none → d.isSha = false → s.keySlot k d.kslot = none → j.result = some (cxFail 3 0)))

/-- COMPRESS and DECOMPRESS on a descriptor of a whole stream (R373 to R377): the output stands at DST, and the result tells its bytes and their CRC-32C; compressed data that do not fit end with status 2. The matches and the codes of a block are the compressor's choice, and free (R373, log 41). -/
def Claim.Compression : Prop :=
  ∀ (s : State) (i : Fin 4) (j : CzJob), s.czJob i = some j → s.cz.engines.length = 4 → j.result = none → j.aborted = false → s.weir.safe = false → s.mem.wf = true →
    let d := czDesc j.desc
    let inp := s.devBytes d.src d.srcLen
    d.ctx = false → d.first = true → d.last = true → d.ngth = 0 → s.readPoison d.src d.srcLen = false →
    let bits := (deflateBits d.level d.flush true (byteBits (wrapHeader d)) (parseFrom d.level inp inp.length 0)).1
    let out := (packBits bits.length bits).1 ++ wrapTrailer d.fmt (wchkFrom d.fmt (wchkStart d.fmt) inp) d.srcLen
    (d.op = 1 → Storable s d.dst d.dstLen →
      ∃ t j' r, exec (.compress i) s = .next t ∧ t.czJob i = some j' ∧ j'.result = some r ∧ (∀ x, x < d.dst ∨ d.dst + d.dstLen ≤ x → t.mem.read x = s.mem.read x) ∧
        (out.length ≤ d.dstLen → r.status = 0 ∧ r.produced = out.length ∧ r.crc = crc32c inp ∧ t.mem.readN d.dst out.length = out) ∧ (d.dstLen < out.length → r.status = 2)) ∧
    (d.op = 2 → (inflate d.fmt inp d.dstLen).1 = none → Storable s d.dst (inflate d.fmt inp d.dstLen).2.out.length →
      let out := (inflate d.fmt inp d.dstLen).2.out
      ∃ t j' r, exec (.decompress i) s = .next t ∧ t.czJob i = some j' ∧ j'.result = some r ∧ r.status = 0 ∧ r.ended = true ∧ r.produced = out.length ∧ r.crc = crc32c out ∧
        t.mem.readN d.dst out.length = out)

/-- The cipher operations on a latched descriptor (R381, R386, R392, R393): each writes what its algorithm gives; an AEAD message stands in its staging chunks first, and when its tag does not match it writes nothing else; VERIFY writes nothing. -/
def Claim.Cipher : Prop :=
  ∀ (s : State) (i : Fin 8) (j : CxJob) (key : KeySlot), s.cxJob i = some j → s.cx.engines.length = 8 → j.result = none → j.erased = false → j.aborted = false →
    s.weir.safe = false → s.mem.wf = true →
    let d := cxDesc j.desc
    let inp := s.devBytes d.src d.srcLen
    let nonce := formedNonce key (j.invoc.getD 0)
    let msg := inp.take d.msgLen
    let ends := fun (c : Instr) (status : Byte) (t : State) => exec c s = .next t ∧ ∃ j' r, t.cxJob i = some j' ∧ j'.result = some r ∧ r.status = status
    let writes := fun (c : Instr) (out : List Byte) =>
      Storable s d.dst out.length → ∃ t, ends c 0 t ∧ t.mem.readN d.dst out.length = out ∧ ∀ x, x < d.dst ∨ d.dst + out.length ≤ x → t.mem.read x = s.mem.read x
    s.cxPoison d = none →
    (j.key = some key → d.op = 1 → d.alg = 1 → writes (.encrypt i) (ecbEnc key.key (if d.last then pkcs7 inp else inp))) ∧
    (j.key = some key → d.op = 1 → d.alg = 4 →
      let ct := gcmCrypt key.key nonce inp
      writes (.encrypt i) (ct ++ (gcmTag key.key nonce (s.devBytes d.aux d.aadLen) ct).take d.tagLen)) ∧
    (j.key = some key → d.op = 2 → d.alg = 4 →
      let n := (s.ivBlock d).take 12
      let pt := gcmCrypt key.key n msg
      let unstaged := fun (x : Nat) => ∀ c ∈ j.chunks, x < chunkAt c ∨ chunkAt c + 65536 ≤ x
      ∀ u, s.stage i j.chunks pt = some u →
      ((gcmTag key.key n (s.devBytes d.aux d.aadLen) msg).take d.tagLen = inp.drop d.msgLen → Storable u d.dst pt.length →
        ∃ t, ends (.decrypt i) 0 t ∧ t.mem.readN d.dst pt.length = pt ∧ ∀ x, unstaged x → x < d.dst ∨ d.dst + pt.length ≤ x → t.mem.read x = s.mem.read x) ∧
      ((gcmTag key.key n (s.devBytes d.aux d.aadLen) msg).take d.tagLen ≠ inp.drop d.msgLen →
        ∃ t, ends (.decrypt i) 1 t ∧ ∀ x, unstaged x → t.mem.read x = s.mem.read x)) ∧
    (j.key = some key → d.op = 3 → writes (.macTag i) (macOf d key inp)) ∧
    (j.key = some key → d.op = 4 → ∃ t, ends (.macVerify i) (if macOf d key msg = inp.drop d.msgLen then 0 else 1) t ∧ t.mem = s.mem) ∧
    (d.op = 5 → d.first = true → d.last = true → d.usesCtx = false → writes (.hashSha i) (sha d.hash inp))

/-- Completion (R368, R377, R379, R394, R397): the record stands at TAIL of the completion ring, TAIL moves on and the engine is free; a cipher descriptor's staging chunks are zero again first (R392). A check failure that may be retried is a CORRECTED event and runs the descriptor again, on another engine where this one has left service. -/
def Claim.EngineCompletions : Prop :=
  ∀ (s : State), s.weir.safe = false → s.mem.wf = true →
    (∀ (i : Fin 4) (j : CzJob) (r : CzResult), s.czJob i = some j → s.cz.engines.length = 4 → j.aborted = false → j.desc.length = 64 →
      let q := s.czRing j.slice
      let a := q.cqAddr + 32 * q.cqTail
      (j.result = some r → r.ctx = none → (r.undefinedOut (czDesc j.desc).op = true → (czDesc j.desc).dstLen = 0) → q.taken ≠ 0 → Storable s a 32 →
        ∃ t, exec (.czComplete i false) s = .next t ∧ t.mem.readN a 32 = r.bytes ((j.desc.drop 0x28).take 8) q.phase j.rerun i ∧ t.czJob i = none ∧ t.czRing j.slice = q.push) ∧
      (j.rerun = false → s.mayRetry (0x980 + i) = true → bitAt s.cz.insvc i = true →
        ∃ t j', exec (.czComplete i true) s = .next t ∧ t.czJob i = some j' ∧ j'.rerun = true ∧ j'.desc = j.desc ∧ Reported s t (0x980 + i) .corrected 0 ∧ t.mem = s.mem) ∧
      (j.rerun = false → s.mayRetry (0x980 + i) = true → bitAt s.cz.insvc i = false →
        ∃ t j', exec (.czComplete i true) s = .next t ∧ t.czJob i = none ∧ t.cz.reruns = s.cz.reruns ++ [j'] ∧ j'.rerun = true ∧ j'.desc = j.desc ∧ t.mem = s.mem)) ∧
    (∀ (i : Fin 8) (j : CxJob) (r : CxResult), s.cxJob i = some j → s.cx.engines.length = 8 → j.erased = false → j.aborted = false → j.desc.length = 64 →
      let q := s.cxRing j.slice
      let a := q.cqAddr + 32 * q.cqTail
      (∀ u, s.zeroChunks i j.chunks = some u → j.result = some r → r.tail = none → (r.undefinedOut (cxDesc j.desc) = true → (cxDesc j.desc).dstLen = 0) → q.taken ≠ 0 →
        Storable u a 32 → ∃ t, exec (.cxComplete i false) s = .next t ∧ t.mem.readN a 32 = r.bytes j q.phase i ∧ t.cxJob i = none ∧ t.cxRing j.slice = q.push) ∧
      (j.rerun = false → s.mayRetry (0x990 + i) = true → bitAt s.cx.insvc i = true →
        ∃ t j', exec (.cxComplete i true) s = .next t ∧ t.cxJob i = some j' ∧ j'.rerun = true ∧ j'.desc = j.desc ∧ Reported s t (0x990 + i) .corrected 0 ∧ t.mem = s.mem))

/-- The key page (R383, R384, R396): LOAD puts the key into its slot, with the counter at 0, or refuses it, and clears KDATA either way; ERASE, ERASE_ALL and an ECC error empty slots. -/
def Claim.KeySlots : Prop :=
  ∀ (s : State) (k : Nat) (slot : Fin 64), k < 1024 → s.portLives (.kcmd k) = true →
    let p := s.keyPorts k
    (∃ t, exec (.keyLoad k slot) s = .next t ∧ (t.keyPorts k).data = List.replicate 8 0 ∧ (t.keyPorts k).result = p.loadResult ∧ t.mem = s.mem ∧
      (p.loadResult = 0 → t.keySlot k slot = some { typ := p.typ, hlen := p.hlen, use := fld p.attr 12 4, fixed := fld p.attr 32 32, key := p.key, invoc := 0 }) ∧
      (p.loadResult ≠ 0 → t.cx.keys = s.cx.keys)) ∧
    (∃ t, exec (.keyErase k slot) s = .next t ∧ t.keySlot k slot = none ∧ (∀ y : Fin 64, y ≠ slot → t.keySlot k y = s.keySlot k y) ∧ (t.keyPorts k).result = 0) ∧
    (∃ t, exec (.keyEraseAll k slot) s = .next t ∧ (∀ y : Fin 64, t.keySlot k y = none) ∧ (t.keyPorts k).result = 0) ∧
    (∃ t, exec (.keySlotEccError k slot) s = .next t ∧ t.keySlot k slot = none ∧ Reported s t (0xC00 + k) .recoverable 0 ∧ t.cx.engines = s.cx.engines)

/-- The associations of Leat (R400): INSTALL stores one and clears LKDATA, unless it is the one that transmits; ACTIVATE selects it for the next boundary; RETIRE removes it. -/
def Claim.LeatAssociations : Prop :=
  ∀ (s : State) (a : SaName), s.portLives .lkcmd = true → s.cx.leat.length = 2 → (s.leatSec a.port).tx.length = 4 → (s.leatSec a.port).rx.length = 4 →
    (∃ t, exec (.saInstall a) s = .next t ∧ t.cx.lkData = List.replicate 6 0 ∧
      (s.saInUse a = true → t.cx.lkResult = 2 ∧ t.cx.leat = s.cx.leat) ∧
      (s.saInUse a = false → t.cx.lkResult = 0 ∧ t.sa a = some { material := s.cx.lkData, pn := if a.rx then 0 else 1 })) ∧
    (a.rx = false → ∃ t, exec (.saActivate a) s = .next t ∧
      (s.sa a = none → t.cx.lkResult = 1 ∧ t.cx.leat = s.cx.leat) ∧ (s.sa a ≠ none → t.cx.lkResult = 0 ∧ (t.leatSec a.port).switchTo = some (a.an.val, s.beatc))) ∧
    (∀ (an : Fin 4) (b : Word), (s.leatSec a.port).switchTo = some (an.val, b) → 1 ≤ s.since b → (s.sa { a with rx := false, an := an }) ≠ none →
      ∃ t, exec (.txAnSwitch a.port) s = .next t ∧ (t.leatSec a.port).txOn = true ∧ (t.leatSec a.port).txAn = an.val ∧ (t.leatSec a.port).switchTo = none) ∧
    (∃ t, exec (.saRetire a) s = .next t ∧ (s.sa a = none → t.cx.lkResult = 1) ∧ (s.sa a ≠ none → s.saInUse a = true → t.cx.lkResult = 2 ∧ t.cx.leat = s.cx.leat) ∧
      (s.sa a ≠ none → s.saInUse a = false → t.cx.lkResult = 0 ∧ t.sa a = none))

/-! Weir. -/

/-- An event of source e.src reaches Weir by the command c: from the reports on their way, or, with a checker outside the model, with the command (log 47). Its window has not rolled since, and Weir's own store is good. -/
structure EventArrives (s : State) (c : Instr) (e : WeirReport) : Prop where
  comes : (c = .weirEvent none ∧ s.weir.inFlight = [e]) ∨ (c = .weirEvent (some e) ∧ s.weir.inFlight = [] ∧ e.beat.toNat ≤ s.beatc.toNat ∧ e.station.toNat < 84)
  source : srcAssigned e.src = true
  sound : s.weir.parity = false
  settled : e.src ∉ s.weir.rollDue
  inTime : s.isLate e = false

/-- The newest record of the log is about an event, and carries the next sequence number (R417). -/
def Logged (s t : State) (e : WeirReport) (wcnt : Byte) : Prop :=
  t.weir.next = s.weir.next + 1 ∧
  ∃ r, t.weir.log.getLast? = some r ∧ r.seq = s.weir.next ∧ r.src = e.src ∧ r.beat = e.beat ∧ r.detail = e.detail ∧ r.addr = e.addr ∧ r.wcnt = wcnt ∧
    r.flags &&& 3 = classCode e.cls

/-- Counting and promotion (R404 to R406): a CORRECTED or RECOVERABLE event counts in its window, and the one that brings the count to the threshold sets SEV once for the window; SEVERE and FATAL events set their bits, and a microcode sequencing error checkstops its core (R235). Shown for the sources whose fields hold LOG alone, of sources whose count is not full. -/
def Claim.EventsCounted : Prop :=
  ∀ (s : State) (c : Instr) (e : WeirReport), EventArrives s c e →
    let x := s.weir.source e.src
    let total : Word32 := if x.total = 0xFFFFFFFF then x.total else x.total + 1
    let up := x.prm = false ∧ x.nAt e.src ≤ x.wcnt.toNat + 1
    let leaves := fun (y : WeirSource) =>
      ∃ t, exec c s = .next t ∧ t.weir.source e.src = { y with total := total, station := stationAt e } ∧ t.weir.inFlight = [] ∧ Logged s t e y.wcnt ∧
        t.weir.safeNext = s.weir.safeNext ∧ t.mem = s.mem ∧ t.cores = s.cores
    (e.cls = .corrected → x.actC = 0x0080 → x.actS = 0x0080 → x.wcnt ≠ 0xFF →
      (up → leaves { x with wcnt := x.wcnt + 1, cor := true, prm := true, sev := true }) ∧ (¬up → leaves { x with wcnt := x.wcnt + 1, cor := true })) ∧
    (e.cls = .recoverable → x.actR = 0x0080 → x.actS = 0x0080 → x.wcnt ≠ 0xFF →
      (up → leaves { x with wcnt := x.wcnt + 1, recov := true, prm := true, sev := true }) ∧ (¬up → leaves { x with wcnt := x.wcnt + 1, recov := true })) ∧
    (e.cls = .severe → x.actS = 0x0080 → leaves { x with sev := true }) ∧
    (e.cls = .fatal → isSequencing e = false → x.actF = 0x0080 → leaves { x with fat := true }) ∧
    (∀ l, c = .weirEvent (some e) → isSequencing e = true → s.lcnOfPcn (e.src / 16) = some l → x.actF = 0x0080 →
      ∃ t, exec c s = .next t ∧ (t.core l).run = .checkstopped ∧ (t.weir.source e.src).fat = true ∧ Logged s t e x.wcnt ∧ t.mem = s.mem)

/-- Actions (R408, R410, R412, R415): INT makes a notification pend at its level, TAKEOVER asks for a take-over and for safe state, and SPARE of a core pauses it and claims the lowest READY spare for it. -/
def Claim.EventActions : Prop :=
  ∀ (s : State) (c : Instr) (e : WeirReport), EventArrives s c e →
    let x := s.weir.source e.src
    (e.cls = .severe → x.actS = 0x0B80 →
      ∃ t, exec c s = .next t ∧ (t.weir.source e.src).npend = true ∧ (t.weir.source e.src).level = (if x.npend then max x.level 3 else 3) ∧
        (t.weir.source e.src).sev = true ∧ Logged s t e x.wcnt ∧ t.cores = s.cores ∧ t.mem = s.mem) ∧
    (e.cls = .fatal → x.actF = 0x8080 → s.weir.safe = false → s.weir.safeNext = none →
      ∃ t, exec c s = .next t ∧ t.weir.tkreq = true ∧ t.weir.safeNext = some s.beatc ∧ t.weir.safe = false ∧ (t.weir.source e.src).fat = true ∧
        (s.ct.pstate ≠ .solo → t.weir.gaspDue = some (BitVec.ofNat 16 e.src)) ∧ (s.ct.pstate = .solo → t.weir.gaspDue = s.weir.gaspDue) ∧ Logged s t e x.wcnt) ∧
    (∀ p k l i, e.cls = .severe → e.src = 16 * p + k → k < 10 → p < 52 → x.actS = 0x2080 → s.lcnOfPcn p = some l → s.spareIgnored l = false → s.readySlot = some i →
      ∃ t, exec c s = .next t ∧ (t.core l).run = .paused ∧ (t.core l).sparing = true ∧ (t.core l).resv = none ∧ (t.slot i).st = .claimed ∧
        t.ct.coreSpar = s.ct.coreSpar ++ [{ unit := l, slot := i, since := s.beatc, src := some e.src }] ∧ t.mem = s.mem)

/-- A CORRECTED event that meets more than 1,024 others is counted but has no record; WLOGPTR.DROP counts it (R418). -/
def Claim.LogOverflow : Prop :=
  ∀ (s : State) (e : WeirReport) (es : List WeirReport), s.weir.inFlight = e :: es → 1024 < s.weir.inFlight.length → srcAssigned e.src = true → s.weir.parity = false →
    e.src ∉ s.weir.rollDue → e.cls = .corrected → (s.weir.source e.src).prm = true → (s.weir.source e.src).actC = 0x0080 →
    ∃ t, exec (.weirEvent none) s = .next t ∧ t.weir.log = s.weir.log ∧ t.weir.next = s.weir.next ∧
      t.weir.drop = (if s.weir.drop = 0xFFFF then s.weir.drop else s.weir.drop + 1) ∧ t.weir.inFlight = es ∧ (t.weir.source e.src).cor = true

/-- Windows and status (R404, R413): a window that rolls clears its count and its promotion; a 1 in WSRCSTAT clears its bit unless the cause still holds, and then the bit is set again with a record that says so. -/
def Claim.WindowsAndStatus : Prop :=
  ∀ (s : State) (n : Nat) (v : Word), srcAssigned n = true →
    let x := s.weir.source n
    let clear := { x with
      cor := x.cor && !bitAt v 0, recov := x.recov && !bitAt v 1, sev := x.sev && !bitAt v 2, fat := x.fat && !bitAt v 3,
      npend := x.npend && !bitAt v 4, level := if bitAt v 4 then 0 else x.level }
    (n ∈ s.weir.rollDue → ∃ t, exec (.windowRoll n) s = .next t ∧ t.weir.source n = { x with wcnt := 0, prm := false, since := none } ∧ n ∉ t.weir.rollDue ∧
      (∀ m, m ≠ n → t.weir.source m = s.weir.source m) ∧ t.weir.log = s.weir.log) ∧
    (n ∉ s.weir.rollDue → (bitAt v 2 = false ∨ (s.sevPresent n = false ∧ x.wcnt.toNat < x.nAt n)) → (bitAt v 3 = false ∨ s.fatPresent n = false) →
      ∃ t, exec (.statusClear n v) s = .next t ∧ t.weir.source n = clear ∧ (∀ m, m ≠ n → t.weir.source m = s.weir.source m) ∧ t.weir.log = s.weir.log) ∧
    (n ∉ s.weir.rollDue → bitAt v 2 = false → bitAt v 3 = true → s.fatPresent n = true →
      ∃ t r, exec (.statusClear n v) s = .next t ∧ (t.weir.source n).fat = true ∧ t.weir.log.getLast? = some r ∧ r.src = n ∧ r.flags &&& 0xF = 0xB ∧ t.weir.next = s.weir.next + 1)

/-- The log window (R418): a write of WLOGSEL copies the selected record into WLOGD, or zeros where no record has the number. -/
def Claim.LogWindow : Prop :=
  ∀ (s : State) (v : Word), ∃ t, exec (.logSelect v) s = .next t ∧ t.weir.logSel = fld v 0 12 ∧ t.weir.log = s.weir.log ∧
    ((∀ r ∈ s.weir.log, r.seq.toNat % 4096 ≠ (fld v 0 12).toNat) → t.weir.logD = [0, 0, 0, 0]) ∧
    (∀ r ∈ s.weir.log, r.seq.toNat % 4096 = (fld v 0 12).toNat → (∀ q ∈ s.weir.log, q.seq.toNat % 4096 = (fld v 0 12).toNat → q = r) →
      t.weir.logD = (List.range 4).map (fun j => wordOf ((r.bytes.drop (8 * j)).take 8)))

/-- Safe state (R414 to R416): it is entered at the boundary after its decision; a parity error of Weir decides it without a dying gasp. -/
def Claim.SafeState : Prop :=
  ∀ (s : State) (b : Word),
    (s.weir.safeNext = some b → 1 ≤ s.since b →
      ∃ t, exec .safeState s = .next t ∧ t.weir.safe = true ∧ t.weir.safeNext = none ∧ t.weir.gaspDue = none ∧ t.mem = s.mem ∧ t.cores = s.cores ∧
        (s.weir.gaspDue = none → t = { s with weir := { s.weir with safe := true, safeNext := none } })) ∧
    (∀ ok, s.weir.safe = false → s.weir.safeNext = none →
      ∃ t, exec (.weirParityError ok) s = .next t ∧ t.weir.parity = true ∧ t.weir.safeNext = some s.beatc ∧ t.weir.gaspDue = none ∧ (t.weir.source 0xB00).fat = true ∧
        t.weir.next = (if ok then s.weir.next + 1 else s.weir.next))

/-- Work that runs over its beat is a CORRECTED event of its unit's overrun source, with the beat in ADDR (R37, R401): a stage of R35 that has missed its limit, and the work of the other units, whose lateness the model does not hold (log 48). A stage that has not missed its limit is none. -/
def Claim.BeatOverruns : Prop :=
  ∀ (s : State) (u : OverrunUnit) (stage : BitVec 8) (n : Word), n.toNat ≤ s.beatc.toNat →
    let records := fun (late : List (OverrunUnit × Byte × Word)) =>
      ∃ t, exec (.beatOverrun u stage n) s = .next t ∧ Reported s t (OverrunUnit.source u) .corrected n ∧ t.weir.late = late ∧ t.mem = s.mem ∧ t.cores = s.cores
    ((u, stage, n) ∈ s.weir.late → records (s.weir.late.erase (u, stage, n))) ∧
    ((u, stage, n) ∉ s.weir.late → hasStages u = false → records s.weir.late) ∧
    ((u, stage, n) ∉ s.weir.late → hasStages u = true → exec (.beatOverrun u stage n) s = .next s)

/-! The Coppice. -/

/-- The answer of CTCMD (R453). -/
def Answered (t : State) (tgt result : Byte) : Prop := t.ct.result = result ∧ t.ct.tgt = tgt

/-- SPARE_CORE (R422, R423, R425, R453): a core that runs pauses and claims the lowest READY spare; without a spare it becomes absent and its checkpoint is kept; a number that names no core is refused. -/
def Claim.SpareCore : Prop :=
  ∀ (s : State) (tgt : BitVec 8), s.portLives .ctcmd = true → s.weir.safe = false →
    let n := tgt.toNat
    let c := s.core n
    (48 ≤ n → ∃ t, exec (.spareCore tgt) s = .next t ∧ Answered t tgt 2 ∧ t.cores = s.cores ∧ t.ct.slots = s.ct.slots) ∧
    (n < 48 → c.run = .absent → ∃ t, exec (.spareCore tgt) s = .next t ∧ Answered t tgt 2 ∧ t.cores = s.cores ∧ t.ct.slots = s.ct.slots) ∧
    (n < 48 → c.run ≠ .absent → s.spareIgnored n = true → ∃ t, exec (.spareCore tgt) s = .next t ∧ Answered t tgt 1 ∧ t.cores = s.cores ∧ Reported s t 0xA00 .recoverable 0) ∧
    (n < 48 → s.spareIgnored n = false →
      (∀ i, s.readySlot = some i → ∃ t, exec (.spareCore tgt) s = .next t ∧ Answered t tgt 0 ∧ (t.core n).run = .paused ∧ (t.core n).sparing = true ∧ (t.core n).resv = none ∧
        (t.slot i).st = .claimed ∧ t.ct.coreSpar = s.ct.coreSpar ++ [{ unit := n, slot := i, since := s.beatc, src := none }] ∧ t.mem = s.mem) ∧
      (s.readySlot = none → ∃ t k, exec (.spareCore tgt) s = .next t ∧ Answered t tgt 0 ∧ (t.core n).run = .absent ∧ (n, k) ∈ t.ct.kept ∧ k.pc = c.pc ∧ k.psw = c.psw ∧
        k.ds = c.ds ∧ k.rs = c.rs ∧ k.tsbr = c.tsbr ∧ Reported s t 0xA00 .severe 0 ∧ t.mem = s.mem))

/-- The sparing of a core (R423, R424): 259 beats after the claim it goes on where it stopped, on the spare, under the master copy of the microcode (R244), its reservation and translations gone; a spare that fails its confirmation makes way for the next one. -/
def Claim.CoreSparing : Prop :=
  ∀ (s : State) (x : Sparing), s.weir.safe = false → s.ct.coreSpar = [x] → (s.core x.unit).run ≠ .absent →
    let c := s.core x.unit
    (∀ bad, 259 ≤ s.since x.since → c.devStore = none → c.devRead = none → c.sb = [] → s.drainable c.pcn = true → s.life.coreResets = [] → s.life.masterStore.redir = [] →
      ∃ t, exec (.coreSparing x.unit bad) s = .next t ∧ t.ct.coreSpar = [] ∧
        let d := t.core x.unit
        d.pcn = (s.slot x.slot).phys ∧ d.run = (if c.waits then .waiting else .running) ∧ d.sparing = false ∧ d.resv = none ∧ d.tlb = .empty ∧ d.pc = c.pc ∧ d.psw = c.psw ∧ d.ds = c.ds ∧ d.rs = c.rs ∧
        d.tsbr = c.tsbr ∧ d.mcver = s.life.masterVersion ∧ t.store x.unit = (if (s.slot x.slot).phys < s.life.coreStores.length then s.life.masterStore else .empty)) ∧
    (∀ i j : Fin 8, x.slot = i → (s.slot i).st = .claimed →
      (s.readySlot = some j.val → ∃ t, exec (.spareConfirmationFail i) s = .next t ∧ (t.slot i).st = .failed ∧ (t.slot j).st = .claimed ∧
        t.ct.coreSpar = [{ x with slot := j, since := s.beatc }] ∧ t.core x.unit = c) ∧
      (s.readySlot = none → ∃ t, exec (.spareConfirmationFail i) s = .next t ∧ (t.slot i).st = .failed ∧ t.ct.coreSpar = [] ∧ (t.core x.unit).run = .absent))

/-- Self-tests of READY spares (R421): a pass takes 500,000 beats; one that corrects an error counts it, and one that fails takes the slot out of use. -/
def Claim.SelfTests : Prop :=
  ∀ (s : State) (i : Fin 8), (s.slot i).st = .ready →
    let x := s.slot i
    let passed := { x with passes := min (x.passes + 1) 0xFFFFFFFF, since := s.beatc }
    (500000 ≤ s.since x.since → ∃ t, exec (.selfTestPass i .clean) s = .next t ∧ t.slot i = passed ∧ t.weir = s.weir) ∧
    (500000 ≤ s.since x.since → ∃ t, exec (.selfTestPass i .corrected) s = .next t ∧ t.slot i = { passed with fails := min (x.fails + 1) 0xFFFF } ∧
      Reported s t (0xA10 + i) .corrected 0) ∧
    (∃ t, exec (.selfTestPass i .failed) s = .next t ∧ (t.slot i).st = .failed ∧ Reported s t (0xA10 + i) .severe 0)

/-- Sparing of a logical CP (R426, R320): the slot of its group is claimed while the CP stands still, and 256 beats later the spare takes its number. -/
def Claim.CpSpares : Prop :=
  ∀ (s : State), s.portLives .ctcmd = true → s.weir.safe = false →
    (∀ tgt : BitVec 8, (32 ≤ tgt.toNat ∨ s.lcpPresent tgt.toNat = false) → ∃ t, exec (.spareCp tgt) s = .next t ∧ Answered t tgt 2 ∧ t.ct.cpSpar = s.ct.cpSpar ∧ t.ct.lcp = s.ct.lcp) ∧
    (∀ tgt : BitVec 8, tgt.toNat < 32 → s.lcpPresent tgt.toNat = true → s.cpRuns tgt.toNat = true → (s.slot (4 + tgt.toNat / 8)).st = .ready →
      ∃ t, exec (.spareCp tgt) s = .next t ∧ Answered t tgt 0 ∧ (t.slot (4 + tgt.toNat / 8)).st = .claimed ∧
        t.ct.cpSpar = s.ct.cpSpar ++ [{ unit := tgt.toNat, slot := 4 + tgt.toNat / 8, since := s.beatc, src := none }]) ∧
    (∀ x : Sparing, s.ct.cpSpar = [x] → 256 ≤ s.since x.since → x.unit < s.ct.lcp.length → (∀ o ∈ s.css.ops, o.sch ∉ s.schsOfCp x.unit) →
      ∃ t, exec (.cpSparing x.unit) s = .next t ∧ t.ct.lcp.getD x.unit none = some (s.slot x.slot).phys ∧ (∀ m, m ≠ x.unit → t.ct.lcp.getD m none = s.ct.lcp.getD m none) ∧ t.ct.cpSpar = [])

/-- RESCUE and DUMP (R154, R425, R453): RESCUE gives a stalled core the TSB block of CTARG and enters its exception; DUMP writes a kept checkpoint there. RETIRE retires the released records of CTARG's subchannel up to its generation (R432). -/
def Claim.RescueDumpRetire : Prop :=
  ∀ (s : State) (tgt : BitVec 8), s.portLives .ctcmd = true → s.weir.safe = false →
    let n := tgt.toNat
    (48 ≤ n → (∃ t, exec (.rescue tgt) s = .next t ∧ Answered t tgt 2 ∧ t.cores = s.cores) ∧ (∃ t, exec (.dump tgt) s = .next t ∧ Answered t tgt 2 ∧ t.mem = s.mem)) ∧
    (n < 48 → (s.core n).run = .stalled → ∀ e, (s.core n).stalled = some e →
      (s.tsbUsable s.ct.arg = false → ∃ t, exec (.rescue tgt) s = .next t ∧ Answered t tgt 3 ∧ t.cores = s.cores) ∧
      (∀ w, s.tsbUsable s.ct.arg = true → n < w.cores.length → (s.modCore n fun c => { c with tsbr := s.ct.arg }).writeTsb n e e.vec e.orig e.level = some w →
        ∃ t, exec (.rescue tgt) s = .next t ∧ Answered t tgt 0 ∧ Entered (w.core n) (t.core n) e.vec e.level ∧ t.mem = w.mem)) ∧
    (n < 48 → s.ct.kept = [] → ∃ t, exec (.dump tgt) s = .next t ∧ Answered t tgt 1 ∧ t.mem = s.mem) ∧
    (n < 48 → ∀ k w, s.ct.kept = [(n, k)] →
      (s.tsbUsable s.ct.arg = false → ∃ t, exec (.dump tgt) s = .next t ∧ Answered t tgt 3 ∧ t.mem = s.mem) ∧
      (s.tsbUsable s.ct.arg = true → s.devWrite 0xA00 s.ct.arg.toNat (s.dumpImage k) = some w → ∃ t, exec (.dump tgt) s = .next t ∧ Answered t tgt 0 ∧ t.mem = w.mem)) ∧
    (∃ t, exec (.retire tgt) s = .next t ∧ Answered t tgt 0 ∧
      t.ct.recs = s.ct.recs.map (fun r =>
        if r.retired = false ∧ r.released = true ∧ r.sch = (fld s.ct.arg 32 20).toNat ∧ notAfter r.gen (fld s.ct.arg 0 32) = true then { r with retired := true } else r))

/-! The pair. -/

/-- The commands that form and end a pair (R441 to R443, R451, R453). -/
def Claim.PairCommands : Prop :=
  ∀ (s : State) (tgt : BitVec 8), s.portLives .ctcmd = true → s.weir.safe = false →
    let ignored := fun (i : Instr) => ∃ t, exec i s = .next t ∧ Answered t tgt 1 ∧ t.ct.pstate = s.ct.pstate ∧ t.ct.role = s.ct.role ∧ t.weir = s.weir
    (s.ct.pstate = .solo → s.ct.role = .active → s.eth.ports.length = 16 → ∃ t, exec (.pairActive tgt) s = .next t ∧ Answered t tgt 0 ∧ t.ct.pstate = .joining ∧ t.ct.role = .active ∧
      (t.port 12).leat = true ∧ (t.port 13).leat = true) ∧
    (s.ct.pstate = .solo → s.guardedSchs = [] → s.eth.ports.length = 16 → ∃ t, exec (.pairStandby tgt) s = .next t ∧ Answered t tgt 0 ∧ t.ct.pstate = .joining ∧ t.ct.role = .standby ∧
      (t.port 12).leat = true ∧ (t.port 13).leat = true) ∧
    (s.ct.pstate ≠ .solo → ∃ t, exec (.leave tgt) s = .next t ∧ Answered t tgt 0 ∧ t.ct.pstate = .solo ∧ t.ct.role = s.ct.role ∧ t.ct.gathering = false) ∧
    (s.ct.pstate = .solo → s.ct.role = .standby → s.ct.witReqs = [] → s.witUp = false → ∃ t r, exec (.promote tgt) s = .next t ∧ Answered t tgt 0 ∧ t.ct.witReqs = [r] ∧ r.kind = 2 ∧ r.sent = none) ∧
    (s.ct.pstate = .paired → s.ct.role = .active → s.weir.safeNext = none →
      ∃ t, exec (.handover tgt) s = .next t ∧ Answered t tgt 0 ∧ t.weir.safeNext = some s.beatc ∧ t.weir.gaspDue = some 0xFFFF) ∧
    (s.ct.pstate ≠ .solo → ignored (.pairActive tgt) ∧ ignored (.pairStandby tgt) ∧ ignored (.promote tgt)) ∧
    (s.ct.pstate = .solo → ignored (.leave tgt) ∧ ignored (.handover tgt))

/-- The control area (R428): the stage that a boundary has started writes the copy that is not in use, with the next number and with what it read there (R36); that copy is in use then. It follows the other stages of its boundary (R35). -/
def Claim.ControlArea : Prop :=
  ∀ (s : State) (i : CtlInput) (is : List CtlInput), s.ct.ctlDue = i :: is →
    (s.stagesLeft i.beat = true → exec .controlAreaWrite s = .next s) ∧
    (s.stagesLeft i.beat = false →
    let cur := if s.ct.useB then s.ct.copyB else s.ct.copyA
    ∃ t, exec .controlAreaWrite s = .next t ∧ t.ct.useB = !s.ct.useB ∧ (if s.ct.useB then t.ct.copyB = s.ct.copyB else t.ct.copyA = s.ct.copyA) ∧
      let new := if s.ct.useB then t.ct.copyA else t.ct.copyB
      new.valid = true ∧ new.cseq = cur.cseq + 1 ∧ new.role = s.ct.role ∧ new.pstate = s.ct.pstate ∧ new.fgen = s.ct.fgen ∧ new.nextgen = i.nextgen ∧ new.pairId = s.ct.pairId ∧
      new.tail = i.tail ∧ new.tailgen = i.tailgen ∧ t.ct.ctlDue = is)

/-- Port 12 or 13 carries frames of Leat: its link is up, it is not out of use, and a transmit association that is in use has packet numbers left (R353, R399). -/
def LeatCarries (s : State) (p : Fin 2) : Prop :=
  (s.port (12 + p)).leat = true ∧ (s.port (12 + p)).link = true ∧ s.portOut (12 + p) = false ∧ (s.leatSec p).txOn = true ∧
  ∃ a, (s.leatSec p).tx.getD (s.leatSec p).txAn none = some a ∧ a.pn.toNat < 2 ^ 64 - 2

/-- The mirror message that a frame carries. -/
def mirrorOf (f : OutFrame) : Option MirrorMsg :=
  match f.body with
  | .leat _ (.msg m) => some m
  | _ => none

/-- Messages leave the module's Leat ports in frames of the mirror class, at priority 7 (R353, R437). -/
def SentOnLeat (s t : State) (ms : List MirrorMsg) : Prop :=
  ∃ fs, t.eth.sent = s.eth.sent ++ fs ∧ fs.map mirrorOf = ms.map some ∧ ∀ f ∈ fs, (f.port = 12 ∨ f.port = 13) ∧ f.prio = 7

/-- A sequenced mirror message is the next in order, and none is kept ahead of it (R330, R437). -/
structure NextInOrder (s : State) (h : MirrorHead) : Prop where
  up : s.leatUp = true
  safe : s.weir.safe = false
  seq : h.seq = s.eth.link.rcvNxt
  kept : s.eth.link.kept = []

/-- Sequenced messages join those that the Leat link keeps until they are acknowledged (R331, R437). -/
def QueuedOnLeat (s t : State) (ms : List MirrorMsg) : Prop :=
  t.eth.link.tx.map LeatTx.msg = s.eth.link.tx.map LeatTx.msg ++ ms ∧ t.eth.link.sndNxt = s.eth.link.sndNxt + BitVec.ofNat 32 ms.length

/-- Heartbeats and health (R444, R445): a heartbeat leaves on each Leat port; one whose HSEQ follows the last is accepted, and clears LOST; another is counted in REJ. -/
def Claim.Heartbeats : Prop :=
  ∀ (s : State) (p : Fin 2) (h : HeartbeatMsg) (m : HealthMsg),
    (∀ b hs, s.ct.hbDue = (b, h) :: hs → s.weir.safe = false → LeatCarries s 0 → LeatCarries s 1 →
      ∃ t, exec .heartbeatSend s = .next t ∧ t.ct.hbDue = hs ∧ SentOnLeat s t (List.replicate 2 (.heartbeat h))) ∧
    (∀ x xs, s.ct.healthDue = x :: xs → x.msg.pstate ≠ .solo → s.witUp = false → LeatCarries s 0 → LeatCarries s 1 →
      ∃ t, exec .healthSend s = .next t ∧ t.ct.healthDue = xs ∧ SentOnLeat s t [.health x.msg]) ∧
    ((s.port (12 + p)).leat = true → (s.port (12 + p)).link = true → s.portOut (12 + p) = false →
      (s.ct.hseqLast = some (h.hseq - 1) → s.ct.role = .standby →
        ∃ t, exec (.heartbeat p h) s = .next t ∧ t.ct.hseqAcc = h.hseq ∧ t.ct.hseqLast = some h.hseq ∧ t.ct.lost = 0 ∧
          t.ct.peer = { fgen := h.fgen, nextgen := h.nextgen, role := h.role, pstate := h.pstate } ∧ t.ct.role = .standby ∧
          (s.ct.pstate ≠ .solo → h.role = .active → h.pstate ≠ .solo → t.ct.pstate = h.pstate ∧ (t.ct.armed = true ↔ h.pstate = .paired))) ∧
      (s.ct.hseqLast ≠ some (h.hseq - 1) →
        ∃ t, exec (.heartbeat p h) s = .next t ∧ t.ct.hseqLast = some h.hseq ∧ t.ct.hseqAcc = s.ct.hseqAcc ∧ t.ct.lost = s.ct.lost ∧
          t.ct.rej = (if s.ct.rej = 0xFFFF then s.ct.rej else s.ct.rej + 1) ∧ t.ct.pstate = s.ct.pstate) ∧
      (s.weir.safe = false → s.weir.safeNext = none → s.ct.role = .active → m.role = .active →
        ∃ t, exec (.health m) s = .next t ∧ t.ct.peer = { fgen := m.fgen, nextgen := m.nextgen, role := m.role, pstate := m.pstate } ∧
          t.weir.safeNext = (if follows m.fgen s.ct.fgen then some s.beatc else none)))

/-- An armed standby (R448, R449): 2,000 beats without a heartbeat make it ask the witness; a dying gasp makes it take over. -/
def Claim.Armed : Prop :=
  ∀ (s : State) (g : GaspMsg), s.weir.safe = false → s.ct.armed = true → s.ct.takeOver = none →
    (2000 ≤ s.ct.lost.toNat → s.ct.witReqs = [] → s.witUp = false → ∃ t r, exec .heartbeatLoss s = .next t ∧ t.ct.witReqs = [r] ∧ r.kind = 2 ∧ r.sent = none) ∧
    (s.leatUp = true → s.ct.role = .standby → s.weir.safeNext = none → s.ct.rxDeltas = [] →
      ∃ t, exec (.dyingGasp g) s = .next t ∧ t.ct.takeOver = some { t := s.beatc, roleDone := false } ∧ t.ct.peer.fgen = g.fgen ∧ t.ct.peer.nextgen = g.nextgen ∧ t.mem = s.mem)

/-- Deltas on the active module (R437 to R439, R441, R442): the oldest formed one is handed whole to the Leat link; its acknowledgement frees it; the boundary after that of the baseline makes the pair PAIRED; one that stays out for four beats breaks the pair. -/
def Claim.DeltasSent : Prop :=
  ∀ (s : State), s.weir.safe = false →
    (∀ d ds, s.ct.toShip = d :: ds → s.leatUp = true →
      ∃ t, exec .deltaShip s = .next t ∧ QueuedOnLeat s t d.messages ∧ t.ct.toShip = ds ∧ t.ct.shipped = s.ct.shipped ++ [{ beat := d.beat, baseDone := d.baseDone }] ∧
        t.ct.lastDelta = d.beat ∧ t.mem = s.mem) ∧
    (∀ h b base, NextInOrder s h → s.gathers = true → s.ct.shipped = [{ beat := b, baseDone := base }] → s.beatc.toNat < b.toNat + 4 → s.ct.pairedDue = none →
      ∃ t, exec (.deltaAck h b) s = .next t ∧ t.eth.link.rcvNxt = h.seq + 1 ∧ t.ct.shipped = [] ∧ t.ct.pairedDue = (if base = true ∧ s.ct.pstate = .joining then some s.beatc else none) ∧ t.ct.pstate = s.ct.pstate) ∧
    (∀ b, s.ct.pairedDue = some b → 1 ≤ s.since b → s.ct.pstate = .joining → ∃ t, exec .pairedEntry s = .next t ∧ t.ct.pstate = .paired ∧ t.ct.pairedDue = none) ∧
    (∀ b, s.ct.role = .active → (s.ct.pstate = .joining ∨ s.ct.pstate = .paired) → s.ct.unacked b = true → b.toNat + 4 ≤ s.beatc.toNat → s.ct.witReqs = [] → s.witUp = false →
      ∃ t, exec (.mirrorHorizonMiss b) s = .next t ∧ Reported s t 0xA03 .severe 0 ∧ t.ct.gathering = false ∧
        t.ct.pstate = (if s.ct.soloAct then .solo else .broken) ∧ (s.ct.soloAct = false → ∃ r, t.ct.witReqs = [r] ∧ r.kind = 5))

/-- Deltas on the standby (R436 to R439): a message ahead of the next one waits, within the window (log 158); the frames of a beat are kept; its DELTA_END applies them when count, length and CRC agree, and drops them otherwise; the acknowledgement leaves once what the delta needs is durable. -/
def Claim.DeltasTaken : Prop :=
  ∀ (s : State) (h : MirrorHead) (beat : Word) (es : List DeltaEntry) (m : DeltaEndMsg), s.takesDeltas = true →
    let d := (h.seq - s.eth.link.rcvNxt).toNat
    (0 < d → (∀ x ∈ s.eth.link.kept, x.1 ≠ h.seq) →
      ∃ t, exec (.delta h beat es) s = .next t ∧ t.eth.link.kept = (if d < Config.leatWin.toNat then s.eth.link.kept ++ [(h.seq, .delta beat es)] else s.eth.link.kept) ∧
        t.ct = s.ct ∧ t.mem = s.mem) ∧
    (NextInOrder s h → ∃ t, exec (.delta h beat es) s = .next t ∧ t.ct.rxFrames = s.ct.rxFrames ++ [(beat, es)] ∧ t.mem = s.mem) ∧
    (NextInOrder s h → s.ct.rxFrames = [(beat, es)] → m.ecrc ≠ crc32c (es.flatMap (fun e => e.raw)) →
      ∃ t, exec (.deltaEnd h beat m) s = .next t ∧ t.ct.rxFrames = [] ∧ t.ct.rxDeltas = s.ct.rxDeltas ∧ t.mem = s.mem ∧ t.ct.acksDue = s.ct.acksDue) ∧
    (∀ pa bs, NextInOrder s h → s.ct.rxFrames = [(beat, [.mem pa bs])] → s.ct.rxDeltas = [] → s.ct.applied = some (beat - 1) → pa % 256 = 0 → bs.length ≤ 256 → (bs.map Prod.fst).Nodup → (∀ x ∈ bs, x.1 < 256) →
      m.nframes = 1 → m.nbytes.toNat = 44 + bs.length → m.ecrc = crc32c ((.mem pa bs : DeltaEntry).raw) →
      s.isDram pa = true → s.windowForming pa = false → s.lineBusy (lineOf pa) = false → (s.dirEntry (lineOf pa)).isSome = true → s.mem.wf = true →
      (∀ x ∈ s.pool.agents, x.line ≠ lineOf pa) → s.heldByOther 255 (lineOf pa) = false →
      ∃ t, exec (.deltaEnd h beat m) s = .next t ∧ t.ct.applied = some beat ∧ t.ct.rxDeltas = [] ∧ t.ct.rxFrames = [] ∧
        (∀ x ∈ bs, t.mem.read (pa + x.1) = x.2) ∧ (∀ a, a < pa ∨ pa + 256 ≤ a → t.mem.read a = s.mem.read a) ∧
        t.ct.acksDue = s.ct.acksDue ++ [{ beat := beat, needs := s.ct.needs, since := s.beatc }]) ∧
    (∀ since, s.ct.rxDeltas = [] → s.ct.acksDue = [{ beat := beat, needs := [], since := since }] → 1 ≤ s.since since → LeatCarries s 0 → s.eth.link.tx = [] → (s.eth.link.sndNxt - s.eth.link.sndUna).toNat < s.eth.link.pwin.toNat →
      ∃ t, exec .deltaAckSend s = .next t ∧ t.ct.acksDue = [] ∧ QueuedOnLeat s t [.deltaAck beat] ∧ SentOnLeat s t [.deltaAck beat])

/-- A message of the witness that passes the checks of R446, while its connection is up. -/
def WitnessHeard (s : State) (kind : Nat) (m : WitnessMsg) : Prop := s.witUp = true ∧ s.weir.safe = false ∧ s.witChecks kind m = true

/-- The answers of the witness (R441, R446, R448, R449, R451, R499), and the requests that go out again. -/
def Claim.Witness : Prop :=
  ∀ (s : State) (m : WitnessMsg),
    (WitnessHeard s 3 m → s.ct.takeOver = none → s.weir.safeNext = none → s.ct.rxDeltas = [] →
      ∃ t, exec (.takeoverConfirm m) s = .next t ∧ t.ct.takeOver = some { t := s.beatc, roleDone := false } ∧ t.ct.witReqs = [] ∧ t.ct.role = s.ct.role) ∧
    (WitnessHeard s 4 m → ∃ t, exec (.takeoverDeny m) s = .next t ∧ t.ct.armed = false ∧ t.ct.pstate = .solo ∧ t.ct.role = s.ct.role) ∧
    (WitnessHeard s 6 m → s.ct.pstate = .broken → ∃ t, exec (.soloGrant m) s = .next t ∧ t.ct.pstate = .solo ∧ t.weir = s.weir) ∧
    (WitnessHeard s 7 m → s.weir.safeNext = none → ∃ t, exec (.soloDeny m) s = .next t ∧ t.weir.safeNext = some s.beatc ∧ t.weir.gaspDue = s.weir.gaspDue ∧ t.ct.pstate = s.ct.pstate) ∧
    (WitnessHeard s 8 m → s.weir.safeNext = none → ∃ t, exec (.safeReq m) s = .next t ∧ t.weir.safeNext = some s.beatc ∧ t.ct.takeOver = none ∧ t.ct.witReqs = s.ct.witReqs) ∧
    (∀ kind, s.witUp = true → s.weir.safe = false → s.witChecks kind m = false →
      ∀ i, (kind, i) ∈ [(3, Instr.takeoverConfirm m), (4, .takeoverDeny m), (6, .soloGrant m), (7, .soloDeny m), (8, .safeReq m)] →
        ∃ t, exec i s = .next t ∧ Reported s t 0xA00 .recoverable 0 ∧ t.ct = s.ct) ∧
    (∀ r b, s.ct.witReqs = [r] → r.sent = some b → witPeriod r.kind ≤ s.since b → s.witUp = true → s.weir.safe = false →
      ∃ t w, exec .witnessResend s = .next t ∧ t.ct.witReqs = [{ r with sent := some s.beatc }] ∧ t.ct.witOut = s.ct.witOut ++ [w] ∧ w.kind = r.kind ∧ w.msg.nonce = r.nonce)

/-- The end of a take-over (R449): with no subchannel to resume it is an event of the continuity unit, and the module is no longer in one. -/
def Claim.TakeOver : Prop :=
  ∀ (s : State) (b : Word), s.weir.safe = false → s.ct.takeOver = some { t := b, roleDone := true } → s.establishedSchs = [] →
    ∃ t, exec .takeover s = .next t ∧ t.ct.takeOver = none ∧ Reported s t 0xA00 .recoverable 0 ∧ t.ct.role = s.ct.role ∧ t.mem = s.mem

/-- Guarded regions (R434): written in SOLO alone; one that leaves main memory or brings the total above 64 GiB is refused with ERR. -/
def Claim.GuardedRegions : Prop :=
  ∀ (s : State) (r : Fin 16) (v : Word), s.portLives (.ctgreg r) = true → s.ct.regions.length = 16 →
    let g : GuardRegion := { en := bitAt v 63, err := false, base := fld v 21 31, size := fld v 0 16 }
    let units := if g.size.toNat ≤ 32768 then g.size.toNat else 0
    let fits := (units = 0 ∨ (g.base.toNat + units) * 2 ^ 21 ≤ s.capacity) ∧ guardedUnits (s.ct.regions.set r g) ≤ 32768
    (s.ct.pstate ≠ .solo → exec (.guardedRegionWrite r v) s = .next s) ∧
    (s.ct.pstate = .solo → (g.en = false ∨ fits) → exec (.guardedRegionWrite r v) s = .next { s with ct := { s.ct with regions := s.ct.regions.set r g } }) ∧
    (s.ct.pstate = .solo → g.en = true → ¬fits → ∀ old, s.ct.regions[r.val]? = some old →
      exec (.guardedRegionWrite r v) s = .next { s with ct := { s.ct with regions := s.ct.regions.set r { old with err := true } } })

/-! Time and the plant. -/

/-- What TOD gains in a beat (R455): 100 increments of the reference, 16 units, and the slew in units of 2^-32 beat, a reserved magnitude as 0. -/
def todGain (p : Plant) : Pair :=
  100 * todStep + 16 + BitVec.ofInt 128 ((if p.slew.toInt.natAbs ≤ 2147483 then p.slew.toInt else 0) * 2 ^ 32)

/-- A boundary (R32, R36, R444, R455, R456): BEATC and TOD advance; what SET asked for becomes due, with the ports as they stand, and what was due is loaded; the comparators keep their ports as they stand; each thousandth boundary makes stages 4 and 6 due with their inputs. Without rails only the plant controller goes on. -/
def Claim.Boundaries : Prop :=
  ∀ s : State, s.plant.power ≠ .off → s.plant.stableNext = none →
    let p := s.plant
    let quiet := s.ct.takeOver = none ∧ s.ct.leatOffDue = false ∧ s.css.conns = [] ∧ s.weir.safeNext = none ∧ s.pool.holds = []
    let at1000 := (s.beatc + 1).toNat % 1000 = 0
    let loaded : Pair := match p.loadDue with
      | some (h, l) => (h.setWidth 128 <<< 64) ||| l.setWidth 128
      | none => p.todBase
    (p.power ≠ .on ∨ quiet) →
    ∃ t, exec .beatBoundary s = .next t ∧ t.beatc = s.beatc + 1 ∧ t.plant.refCycle = 0 ∧ t.mem = s.mem ∧
      t.plant.todBase = loaded + todGain p ∧ t.plant.todValid = (p.todValid || p.loadDue.isSome) ∧
      t.plant.setDue = none ∧ t.plant.loadDue = (if p.setDue = none then none else some (p.setH, p.setL)) ∧
      t.plant.loopDue = p.loopDue ++ (if at1000 then [s.loopInput] else []) ∧ t.plant.holdDue = p.holdDue ++ (if at1000 then [p.holdInput] else []) ∧
      (p.power ≠ .on → t = { s with plant := t.plant }) ∧
      (p.power = .on → t.cores = s.cores.map (fun c => { c with timers := c.timers.map (fun x => { x with prevCmp := x.cmp, prevCtl := x.ctl }) }) ∧
        t.ct.hseqTx = s.ct.hseqTx + 1 ∧ t.ct.lost = (if s.ct.lost = 0xFFFF then s.ct.lost else s.ct.lost + 1) ∧
        (s.ct.pstate ≠ .solo → s.weir.safe = false →
          ∃ h, t.ct.hbDue = s.ct.hbDue ++ [(s.beatc + 1, h)] ∧ h.hseq = s.ct.hseqTx + 1 ∧ h.nextgen = s.ct.nextgen ∧ h.fgen = s.ct.fgen ∧ h.role = s.ct.role ∧
            h.pstate = s.ct.pstate) ∧
        (at1000 → t.ct.ctlDue = s.ct.ctlDue ++ [{ beat := s.beatc + 1, nextgen := s.ct.nextgen, tailgen := s.ct.tailgen, tail := s.ct.tail }]) ∧ t.css = s.css)

/-- The reference, the pulse and the setting of TOD (R456 to R458). -/
def Claim.ReferenceAndPps : Prop :=
  ∀ s : State, s.plant.power = .on →
    let p := s.plant
    (p.refOk = true → ∃ t, exec .referenceLoss s = .next t ∧ t.plant = { p with refOk := false, refLost := p.beatc } ∧ Reported s t 0xA80 .recoverable 0 ∧ t.mem = s.mem) ∧
    (p.refOk = false → 1000 ≤ s.since p.refLost → ∃ t, exec .referenceReturn s = .next t ∧ t.plant = { p with refOk := true } ∧ Reported s t 0xA80 .corrected 0) ∧
    (p.refCycle < 100 → ∃ t c, exec .ppsEdge s = .next t ∧ p.refCycle ≤ c ∧ c < 100 ∧
      ((t.plant.ppsH.setWidth 128 <<< 64) ||| t.plant.ppsL.setWidth 128 : Pair) = p.todBase + BitVec.ofNat 128 c * todStep ∧
      t.plant.ppsNew = true ∧ t.plant.ppsOk = true ∧ t.plant.lastPps = p.beatc ∧ t.weir = s.weir) ∧
    (p.ppsOk = true → 1100000 ≤ s.since p.lastPps → ∃ t, exec .ppsLoss s = .next t ∧ t.plant = { p with ppsOk := false } ∧ Reported s t 0xA80 .corrected 0) ∧
    ((p.todValid = true ∨ p.loadDue ≠ none ∨ s.portLives .pltodsetl = false) → exec .todSet s = .next s) ∧
    (p.todValid = false → p.loadDue = none → s.portLives .pltodsetl = true → exec .todSet s = .next { s with plant := { p with setDue := some (p.setDue.getD p.beatc) } }) ∧
    (∀ h l, p.loadDue = some (h, l) →
      exec .todLoad s = .next { s with plant := { p with loadDue := none, todValid := true, todBase := (h.setWidth 128 <<< 64) ||| l.setWidth 128 } }) ∧
    (p.loadDue = none → exec .todLoad s = .next s)

/-- A sample (R461, R462): it is kept with its flags against the limits of the channel, a limit of 0 being none; a value that leaves the limits is a RECOVERABLE event of the channel's source. -/
def Claim.Sensors : Prop :=
  ∀ (s : State) (n : Fin 512) (v : BitVec 16), sensorType n ≠ 0 → s.plant.power = .on →
    let x := s.plant.sensor n
    let hi := x.limHi ≠ 0 ∧ x.limHi.toInt < v.toInt
    let lo := x.limLo ≠ 0 ∧ v.toInt < x.limLo.toInt
    ∃ t, exec (.sensorSample n v) s = .next t ∧
      t.plant.sensor n = { x with valid := true, value := v, hi := decide hi, lo := decide lo } ∧ (∀ m, m ≠ n.val → t.plant.sensor m = s.plant.sensor m) ∧
      (x.hi = false → x.lo = false → (hi ∨ lo) → Reported s t (sensorSource n) .recoverable 0) ∧
      ((x.hi = true ∨ x.lo = true ∨ ¬(hi ∨ lo)) → t.weir.inFlight = s.weir.inFlight) ∧ t.mem = s.mem

/-- THERMAL with pumps that run (R464): the duty is that of the proportional and integral rule, or 255 when a failure, safe state or a power-down asks for it; the hottest channel at TCRIT is a SEVERE event, at TSHUT a FATAL one. -/
def Claim.ThermalLoop : Prop :=
  ∀ (s : State) (i : LoopInput) (is : List LoopInput) (x : Int) (xs : List Int), s.plant.power = .on → s.plant.loopDue = i :: is → i.temps = x :: xs →
    i.speedA = none → i.speedB = none → i.fmin = 0 → ¬(s.plant.failA = true ∧ s.plant.failB = true) →
    let hottest := xs.foldl max x
    let e := Int.tdiv (hottest - i.tset.toInt) 10
    let acc := max (-64) (min 64 (s.plant.acc + e))
    let duty : Int := if i.man then i.dmin.toNat else max i.dmin.toNat (min 255 (i.dmin.toNat + 8 * e + acc))
    let full := i.safe = true ∨ s.plant.failA = true ∨ s.plant.failB = true ∨ i.down = true
    ∃ t, exec .thermalLoop s = .next t ∧ t.plant.loopDue = is ∧ t.plant.acc = acc ∧ (full → t.plant.duty = 255) ∧ (¬full → (t.plant.duty.toNat : Int) = duty) ∧
      (i.tshut.toInt ≤ hottest → Reported s t 0xA84 .fatal 0) ∧
      (hottest < i.tshut.toInt → i.tcrit.toInt ≤ hottest → Reported s t 0xA84 .severe 0) ∧
      (hottest < i.tshut.toInt → hottest < i.tcrit.toInt → t.weir.inFlight = s.weir.inFlight) ∧ t.mem = s.mem

/-- A pump that is slow at three stages in a row has failed (R463): a RECOVERABLE event, and full duty. -/
def Claim.PumpFailure : Prop :=
  ∀ (s : State) (i : LoopInput) (is : List LoopInput) (v : Int) (x : Int) (xs : List Int), s.plant.power = .on → s.plant.loopDue = i :: is → i.temps = x :: xs → (∀ y ∈ i.temps, y < i.tcrit.toInt ∧ y < i.tshut.toInt) →
    i.speedA = some v → i.speedB = none → i.fmin = 0 → s.plant.failA = false → s.plant.failB = false → v < (i.pmin.toNat : Int) →
    ∃ t, exec .thermalLoop s = .next t ∧ t.plant.lowA = s.plant.lowA + 1 ∧
      (2 ≤ s.plant.lowA → t.plant.failA = true ∧ t.plant.duty = 255 ∧ Reported s t 0xA82 .recoverable 0) ∧
      (s.plant.lowA < 2 → t.plant.failA = false ∧ t.weir.inFlight = s.weir.inFlight)

/-- HOLDUP (R465 to R468): on mains the second good stage in a row decides that POWER_STABLE rises; on battery a reserve below HSTOP is FATAL and asks for the power-down, and one below HMIN decides that POWER_STABLE falls; a stage without an answer of the BMU is a RECOVERABLE event. -/
def Claim.HoldUp : Prop :=
  ∀ (s : State) (i : HoldInput) (is : List HoldInput) (a : BmuAnswer), s.plant.power = .on → s.plant.holdDue = i :: is → i.railsIn = true → s.plant.known = true → s.plant.railsOut = [] →
    let p := s.plant
    (bitAt a.source 0 = true → p.inp = true → p.okPrev = true →
      ∃ t, exec (.holdup (some a)) s = .next t ∧ t.plant.holdDue = is ∧ t.plant.res = a.reserve ∧ t.plant.bmuOk = true ∧ t.plant.unread = 0 ∧ t.plant.okPrev = true ∧
        t.plant.stableNext = (if p.stable then none else some (true, p.beatc)) ∧ t.plant.downAt = p.downAt ∧ t.weir.inFlight = s.weir.inFlight ∧ t.mem = s.mem) ∧
    (bitAt a.source 0 = false → p.inp = false → a.reserve.toNat < i.stop → i.stop ≤ i.hmin.toNat → p.downAt = none →
      ∃ t, exec (.holdup (some a)) s = .next t ∧ Reported s t 0xA83 .fatal 0 ∧ t.plant.downAt = some p.beatc ∧ t.plant.duty = 255 ∧
        t.plant.stableNext = (if p.stable then some (false, p.beatc) else none)) ∧
    (bitAt a.source 0 = false → p.inp = false → i.stop ≤ a.reserve.toNat → a.reserve.toNat < i.hmin.toNat →
      ∃ t, exec (.holdup (some a)) s = .next t ∧ Reported s t 0xA83 .severe 0 ∧ t.plant.downAt = p.downAt ∧ t.plant.stableNext = (if p.stable then some (false, p.beatc) else none)) ∧
    (p.unread = 0 → p.inp = true → ∃ t, exec (.holdup none) s = .next t ∧ t.plant.unread = 1 ∧ t.plant.bmuOk = false ∧ t.plant.res = p.res ∧ Reported s t 0xA83 .recoverable 0)

/-- POWER_STABLE and the rails (R431, R466, R517): it changes at the boundary after its decision, and its rise starts the writing of unfinished records again; a rail that leaves its window takes it away with a SEVERE event. -/
def Claim.StableAndRails : Prop :=
  ∀ (s : State),
    (∀ v b, s.plant.stableNext = some (v, b) → 1 ≤ s.since b →
      ∃ t, exec .powerStableChange s = .next t ∧ t.plant = { s.plant with stable := v, stableNext := none } ∧
        (v = false → t.ct = s.ct) ∧ (v = true → t.ct.recs = s.ct.recs.map (fun r => if r.durable = true ∨ r.retired = true then r else { r with written := 0 }))) ∧
    (∀ rail : Fin 32, 2 ≤ rail.val → s.plant.power = .on →
      ∃ t, exec (.railWindowExit rail) s = .next t ∧ t.plant.stable = false ∧ t.plant.stableNext = none ∧ rail.val ∈ t.plant.railsOut ∧ Reported s t 0xA85 .severe 0 ∧ t.mem = s.mem)

/-- The supplies (R468, R512, R514 to R517): what accepts a power-down, when the regulators go off and what is left, the power sequence, and the standby rails. Stillwater, the fuses and the flash keep what they hold. -/
def Claim.Supplies : Prop :=
  ∀ (s : State),
    let p := s.plant
    let dead := fun (t : State) => t.mem = [] ∧ (∀ n, (t.core n).run = .absent) ∧ t.weir = .reset ∧ t.css = .reset ∧ t.slices = .reset ∧ t.cz = .reset ∧ t.cx = .reset ∧
      t.ct.recs = s.ct.recs ∧ t.ct.copyA = s.ct.copyA ∧ t.ct.copyB = s.ct.copyB ∧ t.life.fuses = s.life.fuses ∧ t.life.flash = s.life.flash
    (∀ n b, p.downAt = some b → n < 48 → (s.core n).run ≠ .absent → n ∉ p.accepted → s.weir.safe = false → s.fatalWaits = false → (s.core n).devStore = none → (s.core n).sb = [] →
      ∃ t, exec (.powerDownAccept n) s = .next t ∧ t.plant = { p with accepted := n :: p.accepted, lastAccept := p.beatc } ∧ t.core n = s.core n ∧ t.mem = s.mem) ∧
    (∀ b, p.downAt = some b → s.fatalWaits = false → 10 ≤ s.since b → s.life.change = none → ∃ t, exec .regulatorsOff s = .next t ∧ t.plant.power = .standby ∧ t.plant.downAt = none ∧ dead t) ∧
    (p.power = .standby → p.pwron = false → 10000 ≤ s.since p.standbyAt →
      exec .powerSequence s = .next { s with plant := { p with pwron := true, power := .sequencing, seqAt := p.beatc, attempts := 1 } }) ∧
    (∀ rail : Fin 32, p.power = .sequencing → 2 ≤ rail.val → 5000 ≤ s.since p.seqAt →
      let n := railGroups.findIdx (·.contains rail.val) + 1
      exec (.sequenceFail rail) s = .next { s with plant :=
        { (p.switchOn n).switchOff n with power := .standby, seqAt := p.beatc, fails := if p.fails = 255 then 255 else p.fails + 1, frail := BitVec.ofNat 5 rail, last := 2 } }) ∧
    (p.power = .standby → p.pwron = true → (p.attempts = 1 ∨ p.attempts = 2) → 1000000 ≤ s.since p.seqAt →
      exec .sequenceRetry s = .next { s with plant := { p with power := .sequencing, seqAt := p.beatc, attempts := p.attempts + 1 } }) ∧
    (p.pwron = true → p.power = .sequencing → ∃ t n, exec .pwronFall s = .next t ∧ n ≤ 5 ∧
      t.plant = { (p.switchOn n).switchOff n with pwron := false, attempts := 0, power := .standby } ∧ t.mem = s.mem ∧ t.cores = s.cores ∧ t.weir = s.weir) ∧
    (p.pwron = true → p.power = .on → p.downAt = none →
      ∃ t, exec .pwronFall s = .next t ∧ t.plant.pwron = false ∧ t.plant.downAt = some p.beatc ∧ t.plant.power = .on ∧ t.plant.duty = 255 ∧ t.weir = s.weir ∧ t.mem = s.mem ∧ t.cores = s.cores) ∧
    (∀ rail : Fin 2, p.power ≠ .off → s.life.change = none → ∃ t, exec (.standbySupplyLoss rail) s = .next t ∧ t.plant.power = .off ∧ dead t) ∧
    (∀ rail : Fin 32, rail.val < 2 → p.power ≠ .off → s.life.change = none → ∃ t, exec (.railWindowExit rail) s = .next t ∧ t.plant.power = .off ∧ dead t) ∧
    (p.power = .off → exec .standbySupplyOn s = .next { s with plant := { p with power := .standby, standbyAt := p.beatc, refLost := p.beatc } })

/-! Resets and the life cycle. -/

/-- What the start-up of a reset meets: boot copy b runs, no change of life-cycle state is under way, no patch image stands in the flash, both control areas are good and copy A, the newer, tells of no pair, and Stillwater holds no record. -/
structure Boots (s : State) (b : BootCopy) : Prop where
  copy : s.life.bootCopy = some b
  change : s.life.change = none
  flash : s.life.flash.mcode = []
  control : s.ct.copyA.valid = true ∧ s.ct.copyB.valid = true ∧ follows s.ct.copyB.cseq s.ct.copyA.cseq = false ∧ s.ct.copyA.pstate = .solo
  empty : s.ct.recs = []

/-- A self-test at start-up that finds every core, CP, Pool way and unit of Stillwater good. -/
def Sound (r : StartTest) : Prop := r.cores = [] ∧ r.cps = [] ∧ r.ways = [] ∧ r.spoilt = []

/-- Channels that hold the same DIMMs, every one trained and zeroed. -/
def Populated (r : StartTest) : Prop := ∃ d : BitVec 2 × BitVec 2, d.1 ≠ 0 ∧ r.dimms = List.replicate 20 d ∧ r.training = [] ∧ r.zeroed = true

/-- What the handover of a reset leaves in every unit (R47, R487, R488, R493, R528): the registers of the cores, the reset values, the boot tree and the payload in memory, and the role of the control area. -/
structure HandedOver (s t : State) (b : BootCopy) : Prop where
  cores : ∀ n, n < 48 → t.core n = Core.reset n mcverRom (0x1000000 + b.entry.setWidth 64) (0x1000000 + b.vbrOff.setWidth 64) (0x10000 + BitVec.ofNat 64 (0x2000 * n))
  window : t.pool.locked = true
  units : t.css = .reset ∧ t.cz = .reset ∧ t.cx = { Cx.reset with stagingKey := t.cx.stagingKey } ∧ t.slices = .reset ∧ t.eth = { Eth.reset with sent := s.eth.sent }
  life : t.life.fuses = s.life.fuses ∧ t.life.flash = s.life.flash ∧ t.life.master = none
  pair : t.ct.role = s.ct.copyA.role ∧ t.ct.pstate = .solo ∧ t.ct.fgen = s.ct.copyA.fgen ∧ t.ct.pairId = s.ct.copyA.pairId
  tree : ∀ a, a < 0x2000 → t.mem.read a = Mem.read bootTree a
  payload : ∀ i (h : i < b.payload.length), t.mem.read (0x1000000 + i) = b.payload[i]

/-- A cold reset (R486, R487, R492) clears memory but for the boot region and counts BEATC from 0; a warm one (R495) keeps main memory outside the boot region, BEATC, TOD, and what is out of use. Cores that fail the self-test of a cold reset leave the last LCNs absent (R28), and none runs before every group has been zeroed (R286). -/
def Claim.Resets : Prop :=
  (∀ (s : State) (r : StartTest), s.plant.power = .on →
    ∃ t, exec (.coldReset .boardInput r) s = .next t ∧ (∀ n, n < 48 → ((t.core n).run = .absent ↔ (passingCores (r.cores ++ r.cps.map spentCp)).length ≤ n)) ∧
      (r.zeroed = false → t.mem = [] ∧ t.mc.ready = false ∧ ∀ n, (t.core n).run ≠ .running)) ∧
  (∀ s : State, s.plant.power ≠ .on → ∀ r, exec (.coldReset .boardInput r) s = .next s ∧ exec (.warmReset .boardInput r) s = .next s) ∧
  ∀ (s : State) (b : BootCopy) (r : StartTest), Boots s b → Sound r →
    let z := (({ s with mc := .trained r } : State).capacity / 16 + 57599) / 57600
    let cold := fun (c : ResetCause) => ∃ t, exec (.coldReset c r) s = .next t ∧ HandedOver s t b ∧ t.weir = .reset ∧ t.plant.power = .on ∧ t.plant.todValid = false ∧
      1001 + z ≤ t.beatc.toNat ∧ t.beatc.toNat < 1001 + z + 501676 ∧ ∀ a, 0x2000 ≤ a → (a < 0x1000000 ∨ 0x1000000 + b.payload.length ≤ a) → t.mem.read a = 0
    let warm := fun (c : ResetCause) => ∃ t n, exec (.warmReset c r) s = .next t ∧ HandedOver s t b ∧ t.weir = { Weir.reset with outOfUse := s.weir.outOfUse } ∧
      151000 ≤ n ∧ n < 152701 ∧ t.beatc = s.beatc + BitVec.ofNat 64 n ∧ t.plant.todValid = s.plant.todValid ∧ t.plant.slew = s.plant.slew ∧
      ∀ a, 0x70000 ≤ a → a < windowBase → (a < 0x1000000 ∨ 0x1000000 + b.payload.length ≤ a) → t.mem.read a = s.mem.read a
    (Populated r →
      (s.plant.power = .on → cold .boardInput) ∧
      (∀ x, s.weir.safe = false → s.life.resetDue = some (.cold x) → 1 ≤ s.since x → cold .command) ∧
      (s.plant.power = .sequencing → 5000 ≤ s.since s.plant.seqAt → cold .powerSequence)) ∧
    (s.mem.wf = true → s.mc.ready = true → s.ct.spent = [] → (∀ w ∈ s.pool.ways, bitAt w.dis 15 = false) →
      (s.plant.power = .on → warm .boardInput) ∧ (∀ x, s.weir.safe = false → s.life.resetDue = some (.warm x) → 1 ≤ s.since x → warm .command))

/-- A change of life-cycle state ends in safe state, 134,000 beats after the command at the earliest, with a cold reset (R501, R502): its fuses are blown and the journal is gone. -/
def Claim.LifeCycleReset : Prop :=
  ∀ (s : State) (x : LcChange) (r : StartTest), s.life.change = some x → s.weir.safe = true → 134000 ≤ s.since x.beat →
    ∃ t, exec (.coldReset .lifeCycle r) s = .next t ∧ t.ct.recs = [] ∧ t.life.change = none ∧ t.ct.role = .active ∧ t.ct.pstate = .solo ∧
      (x.target = 4 → t.life.fuses = { s.life.fuses with decom := true }) ∧
      (x.target = 1 → t.life.fuses = { s.life.fuses with prov := true, okeyh := s.life.fuses.okeyh ||| s.life.okeyh }) ∧
      (x.target = 2 → s.life.fuses.state = 1 → t.life.fuses = { s.life.fuses with oper := true }) ∧
      ((x.target = 2 ∧ s.life.fuses.state = 3) ∨ (x.target = 3 ∧ s.life.fuses.state = 2) → t.life.fuses = { s.life.fuses with svc := s.life.fuses.svc + 1 })

/-- CORE_RESET (R189, R493, R496, R497, R509): a present core other than the issuer's starts again from the handover registers under the master copy, on a spare if it fails its self-test; otherwise the command is refused. -/
def Claim.CoreReset : Prop :=
  ∀ (s : State) (issuer : Nat) (tgt : BitVec 8) (bad : List Nat), s.weir.safe = false → s.life.coreResets = [] → s.life.masterStore.redir = [] →
    let n := tgt.toNat
    let c := s.core n
    let r := fun i => s.ct.rsthWas.getD i 0
    let fresh := fun (p : Nat) => Core.reset p s.life.masterVersion (r 0) (r 1) (r 2 + BitVec.ofNat 64 (0x2000 * n))
    (∀ pass, (48 ≤ n ∨ c.run = .absent ∨ n = issuer) →
      ∃ t, exec (.coreReset issuer tgt pass bad) s = .next t ∧ t.ct.rstResult = 2 ∧ t.ct.rstTgt = tgt ∧ t.cores = s.cores) ∧
    (n < 48 → c.run ≠ .absent → n ≠ issuer → c.sparing = false → s.drainable c.pcn = true → c.devStore = none →
      (∃ t, exec (.coreReset issuer tgt true bad) s = .next t ∧ t.core n = fresh c.pcn ∧ t.ct.rstResult = 0 ∧ t.ct.rstTgt = tgt ∧ t.life.coreResets = [] ∧ t.mem = s.mem) ∧
      (∀ i, s.readySlot = some i →
        ∃ t, exec (.coreReset issuer tgt false bad) s = .next t ∧ t.core n = fresh (s.slot i).phys ∧ (t.slot i).st = .empty ∧ t.ct.rstResult = 0 ∧ t.mem = s.mem) ∧
      (s.readySlot = none → ∃ t, exec (.coreReset issuer tgt false []) s = .next t ∧ (t.core n).run = .absent ∧ Reported s t 0xA00 .severe 0))

/-- The microcode load (R241 to R244): VERIFY checks the buffer in the order of R241; ACTIVATE of a verified image makes it the master copy, and every core at an instruction boundary takes it, a stalled one stopping the activation. -/
def Claim.MicrocodeLoad : Prop :=
  ∀ s : State,
    let l := s.life
    (s.portLives .mclctl = true → l.mclBusy = false → l.mclActive = false → exec .mclVerify s = .next { s with life := { l with mclBusy := true } }) ∧
    ((l.mclBusy = true ∨ l.mclActive = true) → exec .mclVerify s = .next s) ∧
    (l.mclBusy = true → ∃ t, exec .verifyComplete s = .next t ∧ t.life.mclBusy = false ∧ (t.life.mclVerified = true ↔ t.life.mclStatus = 0) ∧ t.life.master = l.master ∧ t.cores = s.cores ∧
      (imgNat l.buffer 0 4 ≠ 0x5A504D43 → t.life.mclStatus = 1) ∧
      (imgFrame l.buffer = 0 → t.life.mclStatus =
        if imgSigned l.fuses.dkeyh l.buffer = false then 3
        else if (imgNat l.buffer 0x10 4).testBit Config.stepping = false then 4
        else if fld (imgVersion l.buffer) 48 16 ≠ Config.romId then 5
        else if (fld (imgVersion l.buffer) 8 8).toNat < l.fuses.msvn then 6
        else if imgWordsOk l.buffer = false then 7 else 0)) ∧
    (s.portLives .mclctl = true → l.mclVerified = true → l.mclActive = false →
      exec .mclActivate s = .next { s with life :=
        { l with mclActive := true, mclDue := some s.beatc, mclNext := some { version := imgVersion l.buffer, image := l.buffer } } }) ∧
    ((l.mclVerified = false ∨ l.mclActive = true) → exec .mclActivate s = .next s) ∧
    (∀ b, l.mclDue = some b → l.mclActive = true → 1 ≤ s.since b → s.weir.safe = false →
      ((∃ n, n < 48 ∧ (s.core n).run = .stalled) → ∃ t, exec .microcodeActivation s = .next t ∧ t.life.mclStatus = 8 ∧ t.life.mclActive = false ∧ t.life.master = l.master ∧ t.cores = s.cores) ∧
      (∀ p : Patch, l.mclNext = some p → s.cores.length = 48 → (∀ n, (s.core n).run = .absent ∨ (s.core n).run = .checkstopped ∨ (s.core n).betweenInstrs = true) →
        ∃ t, exec .microcodeActivation s = .next t ∧ t.life.mclActive = false ∧ t.life.mclStatus = 0 ∧ t.life.master = some p ∧ t.mem = s.mem ∧
          ∀ n, let gone := (s.core n).run = .absent ∨ (s.core n).run = .checkstopped
            t.core n = (if gone then s.core n else { s.core n with mcver := p.version }) ∧
            (¬gone → (s.core n).pcn < l.coreStores.length → t.store n = imgStore p.image)))

/-- CHANGE, RAISE_BSVN and RAISE_MSVN (R500, R502, R504): the results of the table, and what an accepted command starts. -/
def Claim.LifeCycleCommands : Prop :=
  ∀ (s : State) (confirm : BitVec 32) (target : BitVec 3), s.weir.safe = false →
    let f := s.life.fuses
    let yields := fun (i : Instr) (r : Byte) => exec i s = .next { s with life := { s.life with lcTarget := target, lcResult := r } }
    (confirm ≠ 0x5A4C4331 → yields (.lcChange confirm target) 1 ∧ yields (.raiseBsvn confirm target) 1 ∧ yields (.raiseMsvn confirm target) 1) ∧
    (f.state = 2 → (target = 1 ∨ target = 2 ∨ target = 0) → yields (.lcChange 0x5A4C4331 target) 2) ∧
    (f.state = 2 → 254 < f.svc → target = 3 → yields (.lcChange 0x5A4C4331 target) 2) ∧
    (f.state = 2 → f.svc ≤ 254 → target = 3 → s.ct.pstate ≠ .solo → yields (.lcChange 0x5A4C4331 target) 3) ∧
    (f.state = 0 → target = 1 → s.ct.pstate = .solo → s.life.okeyh = 0 → yields (.lcChange 0x5A4C4331 target) 4) ∧
    (f.state = 2 → f.svc ≤ 254 → target = 3 → s.ct.pstate = .solo → s.life.change = none → s.weir.safeNext = none →
      ∃ t, exec (.lcChange 0x5A4C4331 target) s = .next t ∧ t.life.lcResult = 0 ∧ t.life.change = some { target := 3, beat := s.beatc } ∧ t.weir.safeNext = some s.beatc ∧ t.life.fuses = f) ∧
    (64 ≤ f.bsvn → yields (.raiseBsvn 0x5A4C4331 target) 5) ∧
    (f.bsvn < 64 → ∃ t, exec (.raiseBsvn 0x5A4C4331 target) s = .next t ∧ t.life.lcResult = 0 ∧ t.life.fuses = { f with bsvn := f.bsvn + 1 }) ∧
    (64 ≤ f.msvn → yields (.raiseMsvn 0x5A4C4331 target) 5) ∧
    (f.msvn < 64 → ∃ t, exec (.raiseMsvn 0x5A4C4331 target) s = .next t ∧ t.life.lcResult = 0 ∧ t.life.fuses = { f with msvn := f.msvn + 1 })

/-! Slices. -/

/-- A slice command that changes nothing but SLICE and RESULT. -/
def SliceRefused (s : State) (i : Instr) (k : Nat) (r : Byte) : Prop :=
  exec i s = .next { s with slices := { s.slices with slice := BitVec.ofNat 10 k, result := r } }

/-- The states of a slice (R471, R474 to R478, R483). -/
def Claim.SliceStates : Prop :=
  ∀ (s : State) (k : Nat), k < 1024 → s.portLives .slcmd = true → s.slices.job = none →
    let x := s.slice k
    let moves := fun (i : Instr) (st : SliceState) => ∃ t, exec i s = .next t ∧ t.slice k = { x with st := st } ∧ (∀ m, m ≠ k → t.slice m = s.slice m) ∧ t.slices.result = 0 ∧ t.mem = s.mem
    (x.st ≠ .free → SliceRefused s (.sliceEnable k) k 1) ∧
    (x.st = .free → s.pidInUse k = true → SliceRefused s (.sliceEnable k) k 2) ∧
    (x.st = .free → s.pidInUse k = false → moves (.sliceEnable k) .running) ∧
    (x.st ≠ .running → SliceRefused s (.sliceFreeze k) k 1) ∧
    (x.st = .running → s.sliceOps k = [] → ∃ t, exec (.sliceFreeze k) s = .next t ∧ t.slice k = { x with st := .freezing, since := s.beatc } ∧ t.slices.result = 0 ∧
      (∀ j, some j ∈ t.cz.engines → j.slice = k → j.aborted = true) ∧ (∀ j, some j ∈ t.cx.engines → j.slice = k → j.aborted = true) ∧ t.mem = s.mem) ∧
    (x.st = .freezing → 1 ≤ s.since x.since → s.sliceOps k = [] → s.weir.safe = false → ∃ t, exec (.freezeComplete k) s = .next t ∧ t.slice k = { x with st := .frozen } ∧ t.css = s.css) ∧
    ((x.st = .frozen ∨ x.st = .saved) → ∃ t, exec (.sliceThaw k) s = .next t ∧ t.slice k = { x with st := .running, thawAt := some s.beatc } ∧ (∀ m, m ≠ k → t.slice m = s.slice m) ∧ t.slices.result = 0 ∧ t.mem = s.mem) ∧
    (x.st ≠ .frozen → x.st ≠ .saved → SliceRefused s (.sliceThaw k) k 1) ∧
    (x.st = .freezing → SliceRefused s (.sliceRelease k) k 1) ∧
    (x.st ≠ .freezing → s.sliceNamed k = true → SliceRefused s (.sliceRelease k) k 9) ∧
    (x.st ≠ .freezing → s.sliceNamed k = false → ∃ t, exec (.sliceRelease k) s = .next t ∧ t.slice k = Slice.reset ∧ (∀ m, m ≠ k → t.slice m = s.slice m) ∧ t.slices.result = 0 ∧
      (∀ slot : Fin 64, t.keySlot k slot = none) ∧ t.mem = s.mem)

/-- SAVE and RESTORE (R474, R475, R479, R480, R482): the command makes the port BUSY, and its end decides; while it is BUSY no command of the port acts. -/
def Claim.SaveAndRestore : Prop :=
  ∀ (s : State) (k : Nat), k < 1024 →
    (s.portLives .slcmd = true → s.slices.job = none →
      exec (.sliceSave k) s = .next { s with slices := { s.slices with slice := BitVec.ofNat 10 k, job := some (.save k s.beatc) } } ∧
      exec (.sliceRestore k) s = .next { s with slices := { s.slices with slice := BitVec.ofNat 10 k, job := some (.restore k s.beatc) } }) ∧
    (s.slices.job ≠ none → exec (.sliceSave k) s = .next s ∧ exec (.sliceRestore k) s = .next s ∧ exec (.sliceEnable k) s = .next s) ∧
    (∀ b, s.slices.job = some (.save k b) → s.weir.safe = false →
      let ends := fun (r : Byte) => exec .sliceBusyEnd s = .next { s with slices := { s.slices with result := r, job := none } }
      ((s.slice k).st ≠ .frozen → ends 1) ∧
      ((s.slice k).st = .frozen → s.sliceActive k = true → ends 3) ∧
      ((s.slice k).st = .frozen → s.sliceActive k = false → s.sliceJournaled k = true → ends 4) ∧
      (s.saveVerdict k = 0 → ∀ w, s.devWrite 0x880 s.slices.imageAt (s.image k b) = some w →
        ∃ t, exec .sliceBusyEnd s = .next t ∧ t.mem = w.mem ∧ (t.slice k).st = .saved ∧ t.slices.result = 0 ∧ t.slices.job = none ∧
          t.slices.len = BitVec.ofNat 32 (s.image k b).length)) ∧
    (∀ b len img u, s.slices.job = some (.restore k b) → s.weir.safe = false → s.readImage = (len, img, u) →
      ((s.slice k).st ≠ .free → exec .sliceBusyEnd s = .next { u with slices := { s.slices with result := 1, job := none } }) ∧
      (u.restoreVerdict k len img = 0 → imgSchs img = 0 →
        ∃ t, exec .sliceBusyEnd s = .next t ∧ t.slice k = { s.slice k with st := .frozen } ∧ t.slices.result = 0 ∧ t.slices.job = none ∧ t.mem = s.mem ∧
          (∀ j, j < 4 → t.cq (4 * k + j) = s.imgCq k img j) ∧ t.czRing k = s.imgPair k img 0x1A0 ∧ t.cxRing k = s.imgPair k img 0x1C8 ∧
          ∀ slot : Fin 64, t.keySlot k slot = none))

/-! Ports. -/

/-- Reads that clear and writes (R10 to R14, R139, R418, R444): the fields of access RC read once, a read-only port ignores writes, a W1C bit is cleared by a 1, and a port of other life-cycle states neither acts nor clears. -/
def Claim.PortAccesses : Prop :=
  ∀ (s : State) (n : Nat) (v : Word), n < s.cores.length → (s.core n).run ≠ .absent →
    (∃ t, exec (.readClear n 0x10110) s = .next t ∧ (t.core n).iciSrc = 0 ∧ (∀ m, m ≠ n → t.core m = s.core m) ∧ t.weir = s.weir ∧ t.mem = s.mem) ∧
    (exec (.readClear n 0xE00010) s = .next { s with weir := { s.weir with drop := 0 } }) ∧
    (exec (.readClear n 0xF00600) s = .next { s with ct := { s.ct with rej := 0 } }) ∧
    (∃ t, exec (.registerWrite n 0x10100 v) s = .next t ∧ (t.core n).ici = ((s.core n).ici && !v.getLsbD 4) ∧ (t.core n).swi = v.getLsbD 0 ∧ (t.core n).pc = (s.core n).pc ∧
      (∀ m, m ≠ n → t.core m = s.core m) ∧ t.mem = s.mem) ∧
    (exec (.registerWrite n 0xE00008 v) s = .next s) ∧
    ((s.life.fuses.state = 2 ∨ s.life.fuses.state = 3) → exec (.registerWrite n 0xF00008 v) s = .next { s with ct := { s.ct with arg := v } }) ∧
    (¬(s.life.fuses.state = 2 ∨ s.life.fuses.state = 3) → exec (.registerWrite n 0xF00008 v) s = .next s)

/-! Single rules. -/

/-- DEPTH (R76): it consumes nothing and produces one entry, d = v + (DSHI − DSP) / 8 modulo 2^64 from the values before the push, the division truncating; whether DSP is a multiple of 8, or above DSHI, does not matter to it. -/
def Claim.Depth : Prop :=
  ∀ (k : Insn) (s : State), Ready s k.lcn → k.pfx = [] → (s.core k.lcn).ds.cache.length < 32 →
    let x := (s.core k.lcn).ds
    let d := (x.cache.length + (2 ^ 64 + x.hi.toNat - x.ptr.toNat) % 2 ^ 64 / 8) % 2 ^ 64
    exec (.depth k) s = .next (s.after k 1 (fun c => c.withStack (BitVec.ofNat 64 d :: c.ds.cache)))

/-- A usable TSBR (R149): a multiple of 1 KiB below 2^52 whose block lies wholly in main memory and, on a standby, in no guarded region. -/
def Claim.UsableTsb : Prop :=
  ∀ (s : State) (a : Word),
    s.tsbUsable a = true ↔
      a.toNat % 1024 = 0 ∧ a.toNat < 2 ^ 52 ∧ (∀ x, a.toNat ≤ x → x < a.toNat + 1024 → s.isDram x = true) ∧
      ¬(s.ct.role = .standby ∧ ∃ x, a.toNat ≤ x ∧ x < a.toNat + 1024 ∧ s.guarded x = true)

/-- Limits (R462): a sample that crosses a limit from inside the limits is a RECOVERABLE event of the channel's source, and of no other; a limit of 0 disables its side. The channels are those that R461 assigns, and Weir has power. -/
def Claim.SensorLimits : Prop :=
  ∀ (s : State) (n : Fin 512) (v : BitVec 16), sensorType n ≠ 0 → s.plant.power = .on →
    let x := s.plant.sensor n
    let crosses := x.hi = false ∧ x.lo = false ∧ ((x.limHi ≠ 0 ∧ x.limHi.toInt < v.toInt) ∨ (x.limLo ≠ 0 ∧ v.toInt < x.limLo.toInt))
    let source := if 128 ≤ n.val ∧ n.val ≤ 134 then 0xA82 else if 144 ≤ n.val ∧ n.val ≤ 207 then 0xA85 else if 208 ≤ n.val ∧ n.val ≤ 215 then 0xA83 else 0xA84
    ∃ t, exec (.sensorSample n v) s = .next t ∧ (crosses → Reported s t source .recoverable 0) ∧ (¬crosses → t.weir.inFlight = s.weir.inFlight)

/-- TOD (R455): the increment 0x028F_5C28_F5C2_8F5C at each reference cycle; 16 further units and the slew at each boundary; at zero slew exactly 2^64 units in each beat; and at no slew that is permitted does it run backward. -/
def Claim.TodAdvances : Prop :=
  ∀ p : Plant, p.slew.toInt.natAbs ≤ 2147483 →
    p.tod = p.todBase + BitVec.ofNat 128 p.refCycle * 0x028F5C28F5C28F5C ∧
    p.boundary.todBase = p.todBase + BitVec.ofInt 128 (100 * 0x028F5C28F5C28F5C + 16 + p.slew.toInt * 2 ^ 32) ∧
    (p.slew = 0 → p.boundary.todBase = p.todBase + BitVec.ofNat 128 (2 ^ 64)) ∧
    (p.refCycle < 100 → p.todBase.toNat + 2 ^ 65 < 2 ^ 128 → p.tod.toNat < p.boundary.tod.toNat)

/-! The whole machine. -/

/-- What a cold or warm reset leaves in every core that R47 names: PSW, the stacks and their bounds, the translation registers and the counters; TSBR follows R493. The pc and VBR rest on ENTRY and VBROFF being 0 (log 5). -/
def Claim.ResetCores : Prop :=
  ∀ n, n < 48 →
    let c := State.reset.core n
    c.run = .running ∧ c.psw = 0x1700 ∧ c.tsbr = 0x10000 + BitVec.ofNat 64 (0x2000 * n) ∧ c.iroot = 0 ∧ c.droot = 0 ∧ c.pid = 0 ∧ c.krr = 0 ∧
    c.ds.cache = [] ∧ c.ds.ptr = 0 ∧ c.ds.lo = 0 ∧ c.ds.hi = 0 ∧ c.rs.cache = [] ∧ c.rs.ptr = 0 ∧ c.rs.lo = 0 ∧ c.rs.hi = 0 ∧
    c.cnt = 0 ∧ c.src = 0 ∧ c.dst = 0 ∧ c.fpc = 0 ∧ c.cyc = 0 ∧ c.perf = List.replicate 8 { ctl := 0, cnt := 0 } ∧ c.pc = 0x1000000 ∧ c.vbr = 0x1000000

/-- The boot tree at reset (R493): the level-5 and level-4 entries, and zeros everywhere else (R286, R488). -/
def Claim.ResetMemory : Prop :=
  wordOf (State.reset.mem.readN 0 8) = 0x1001 ∧
  (∀ i, i < 16 → wordOf (State.reset.mem.readN (0x1000 + 8 * i) 8) = 0x03000000000003BB + BitVec.ofNat 64 i * 0x0001000000000000) ∧
  (∀ a, 8 ≤ a → (a < 0x1000 ∨ 0x1080 ≤ a) → State.reset.mem.read a = 0) ∧
  State.reset.mem.wf = true

/-- Sequential retirement: the frame of every instruction whose next state is s.after k len f. Its core is f of what it was, but for what every retirement changes; the pc goes past the prefixes and the instruction, or to the target behind a delay slot; the other cores, memory and every other unit are as they were. -/
def Claim.Retirement : Prop :=
  ∀ (k : Insn) (s : State) (len : Nat) (f : Core → Core), k.lcn < s.cores.length →
    Retired s (s.after k len f) k.lcn (k.pfx.length + len) (f (s.core k.lcn))

/-- Memory in its one form: the addresses rise, and no byte of zero is listed. Every step keeps it. -/
def Claim.MemoryStaysCanonical : Prop :=
  ∀ s t : State, s.mem.wf = true → step s = .next t → t.mem.wf = true

/-- Fuses are only ever blown (R501, R502, R504), and no step writes the boot flash, the serial number or the fused keys of manufacture. -/
def Claim.FusesOnlyBlown : Prop :=
  ∀ s t : State, step s = .next t →
    let a := s.life.fuses
    let b := t.life.fuses
    a.bsvn ≤ b.bsvn ∧ a.msvn ≤ b.msvn ∧ a.svc ≤ b.svc ∧ (a.prov = true → b.prov = true) ∧ (a.oper = true → b.oper = true) ∧ (a.decom = true → b.decom = true) ∧
    b.okeyh &&& a.okeyh = a.okeyh ∧ b.dseed = a.dseed ∧ b.dkeyh = a.dkeyh ∧ t.life.flash = s.life.flash ∧ t.life.serial = s.life.serial

/-- Whether a command can end safe state: a reset (R414), or what takes the module's power away (R468, R517). -/
def endsSafe : Instr → Bool
  | .coldReset _ _ | .warmReset _ _ | .regulatorsOff | .standbySupplyLoss _ | .railWindowExit _ => true
  | _ => false

/-- Safe state holds until a reset (R414), or until the module loses its power. -/
def Claim.SafeStateHolds : Prop :=
  ∀ (s t : State) (c : Instr) (rest : List Instr), s.pending = c :: rest → endsSafe c = false → s.weir.safe = true → step s = .next t → t.weir.safe = true

end Sys2Proof.Machine

/-! The obligations: each joins the claims of one subject. -/

/-- With command c at the front of its queue, a step of s is exec of c on s with the rest of the queue; on an empty queue the block idles (the model's choice, log 3) (R30, R32). -/
def Obligations.StepRunsFront : Prop := Sys2Proof.Machine.Claim.StepRunsFront

/-- State.reset holds, in every core, the values that R47 gives for reset with TSBR as R493 gives it, and in memory the boot tree of R493 and zeros elsewhere, in canonical form. The pc and VBR at 0x1000000 are the model's choice of a boot image with ENTRY = VBROFF = 0 (log 5) (R47, R286, R488, R493). -/
def Obligations.ResetState : Prop := Sys2Proof.Machine.Claim.ResetCores ∧ Sys2Proof.Machine.Claim.ResetMemory

/-- The state s.after k len f, which the instruction statements name as the next state, differs from s in core k.lcn, where it is f of what it was but for the pc, the delay-slot state, counters, hold and retries that each retirement changes, and in the switch to a new microcode image where the core owes one (R244). Every other core, memory and every other unit is as it was (R59, R61, R202, R226). -/
def Obligations.RetirementFrame : Prop := Sys2Proof.Machine.Claim.Retirement

/-- NOP, the twelve data-stack moves, the four literals, the return-stack moves, PICK of a cached entry and DEPTH complete with the stack effects of R72 to R76, and change nothing else but what every retirement changes (R72, R73, R74, R75, R76). -/
def Obligations.StackInstructions : Prop := Sys2Proof.Machine.Claim.DataStackMoves ∧ Sys2Proof.Machine.Claim.Literals ∧ Sys2Proof.Machine.Claim.ReturnStackMoves ∧ Sys2Proof.Machine.Claim.PickAndDepth

/-- DEPTH consumes nothing and pushes d = v + (DSHI - DSP) / 8 modulo 2^64 from the values before the push, the division truncating; it checks no bound (R76). -/
def Obligations.DepthOfTheStack : Prop := Sys2Proof.Machine.Claim.Depth

/-- Each integer instruction of R78 completes with its result and the flags of R77 in PSW, every other bit of PSW as it was; division truncates, V marks -2^63 by -1 alone, and a divisor of 0 raises Integer-Divide and leaves the stack (R50, R77, R78, R79). -/
def Obligations.IntegerArithmetic : Prop := Sys2Proof.Machine.Claim.FlagsInPsw ∧ Sys2Proof.Machine.Claim.IntegerTwoOperands ∧ Sys2Proof.Machine.Claim.IntegerOneOperand ∧ Sys2Proof.Machine.Claim.Division

/-- Each instruction of R80 completes with its result and its flags; a shift count is taken modulo 64, C is the last bit shifted out, kept for a count of 0 (R77, R80). -/
def Obligations.LogicAndShifts : Prop := Sys2Proof.Machine.Claim.LogicAndBits ∧ Sys2Proof.Machine.Claim.Shifts

/-- RDSR and WRSR in supervisor state read and write every register of R47; a supervisor register raises Privileged-Operation in user state and a reserved number raises Reserved-Opcode; WRKRR writes KRR; CYC never runs backward and RDTOD pushes TODH and TODL of one instant (R47, R48, R60, R81, R82, R83). -/
def Obligations.SpecialRegisterAccess : Prop := Sys2Proof.Machine.Claim.SpecialRegisters ∧ Sys2Proof.Machine.Claim.SpecialRegisterTraps ∧ Sys2Proof.Machine.Claim.TimeOfDay

/-- The loads of R85, LDP and LDI complete with the bytes at the address, the most significant first and extended as named; memory, the store buffer and every other register stay (R85, R91, R168). -/
def Obligations.LoadInstructions : Prop := Sys2Proof.Machine.Claim.Loads ∧ Sys2Proof.Machine.Claim.PairAndInstructionLoads

/-- The stores of R85, STP and STI retire into the store buffer, as one entry where the address is a multiple of the width and byte by byte otherwise, and leave memory as it is until they are performed (R85, R91, R197, R199). -/
def Obligations.StoreInstructions : Prop := Sys2Proof.Machine.Claim.Stores ∧ Sys2Proof.Machine.Claim.PairAndInstructionStores

/-- LDR sets a reservation and a hold on its granule; STC without its reservation stores nothing and pushes 0; with it, it stores at once, pushes 1 and uses the reservation up (R88, R200, R202). -/
def Obligations.ReserveAndConditional : Prop := Sys2Proof.Machine.Claim.LoadReserve ∧ Sys2Proof.Machine.Claim.StoreConditional

/-- FENCE and WAIT complete once the store buffer has drained and no device store is outstanding, and FENCE waits until then; WAIT then stops the core unless an interrupt is due (R89, R90, R97, R99). -/
def Obligations.FencesAndWaits : Prop := Sys2Proof.Machine.Claim.FencesAndWait ∧ Sys2Proof.Machine.Claim.FenceWaits

/-- Every branch, jump, call and return of R93 completes with its condition and target, arms the delay slot as its bit A says, and pushes or pops the return address (R61, R62, R64, R93). -/
def Obligations.ControlTransfer : Prop := Sys2Proof.Machine.Claim.Branches ∧ Sys2Proof.Machine.Claim.CallsAndReturns

/-- TSBR is usable exactly when it is a multiple of 1 KiB below 2^52 whose block lies wholly in main memory and, on a module in the STANDBY role, overlaps no guarded region (R149). -/
def Obligations.UsableTsbBlock : Prop := Sys2Proof.Machine.Claim.UsableTsb

/-- A synchronous exception above ML is entered at its vector and level with the TSB written; one at or below ML is a Double Fault at level 7, and at ML = 7 a checkstop; a TSB block that is not usable stalls the core with a SEVERE event (R138, R141, R142, R149, R150, R153). -/
def Obligations.ExceptionEntry : Prop := Sys2Proof.Machine.Claim.ExceptionEntry ∧ Sys2Proof.Machine.Claim.UnusableTsbStalls

/-- SVC enters Supervisor-Call, or Double Fault at ML 4 to 6; RETT restores the core from the TSB below TSBR; in user state it is privileged, and a malformed TSB raises TSB-Format with its cause (R51, R95, R96, R152, R155). -/
def Obligations.SupervisorCallsAndReturn : Prop := Sys2Proof.Machine.Claim.SupervisorCall ∧ Sys2Proof.Machine.Claim.ReturnFromException ∧ Sys2Proof.Machine.Claim.ReturnChecks

/-- TAKE_INTERRUPT enters the pending event of the highest level above ML, the lowest vector first, at the core's pc (R137, R139, R150). -/
def Obligations.InterruptEntry : Prop := Sys2Proof.Machine.Claim.InterruptEntry

/-- A reserved opcode raises Reserved-Opcode with its bytes; a prefix that an instruction does not admit raises Illegal-Prefix with the cause of its arrangement or its place (R57, R60, R65, R67). -/
def Obligations.IllegalInstructions : Prop := Sys2Proof.Machine.Claim.ReservedOpcodes ∧ Sys2Proof.Machine.Claim.IllegalPrefixes

/-- Each string instruction, alone or repeated, does one element: its bytes, SRC, DST, CNT and flags; a repeated one with CNT = 0 does nothing (R110, R112, R113). -/
def Obligations.StringInstructions : Prop := Sys2Proof.Machine.Claim.Strings

/-- Arithmetic, square root, multiply-add, conversions, minima and comparisons complete with the result rounded once under FPC.RM and the conditions met in FPC; in flush mode with every condition masked each of the 22 forms completes on any operands; an enabled condition raises its vector and leaves operands and FPC (R125, R126, R127, R128, R129, R130, R131, R132, R133). -/
def Obligations.FloatingPoint : Prop := Sys2Proof.Machine.Claim.FloatArithmetic ∧ Sys2Proof.Machine.Claim.FloatConversions ∧ Sys2Proof.Machine.Claim.FloatSignsAndCompare ∧ Sys2Proof.Machine.Claim.FloatCompletes ∧ Sys2Proof.Machine.Claim.FloatTraps

/-- A packed result is valid and is the sign and the magnitude modulo 10^31; each decimal instruction on valid operands delivers its value and flags; DCHK marks invalid nibbles, which elsewhere raise Decimal-Data (R119, R120, R121, R122). -/
def Obligations.PackedDecimal : Prop := Sys2Proof.Machine.Claim.PackedResult ∧ Sys2Proof.Machine.Claim.DecimalArithmetic ∧ Sys2Proof.Machine.Claim.DecimalChecks

/-- INVPG, INVTAG and INVALL empty the core's own caches and tell every other present core; TLBI empties the target's, and the last TLBA completes the instruction (R106, R107, R175). -/
def Obligations.Invalidation : Prop := Sys2Proof.Machine.Claim.Invalidations ∧ Sys2Proof.Machine.Claim.InvalidationMessages

/-- SPILLD and SPILLR move the cached entry to the store buffer below the stack pointer; a fill brings the doubleword at the stack pointer in, and one outside its bounds raises Stack-Fill (R42, R43, R44, R108). -/
def Obligations.StackMemory : Prop := Sys2Proof.Machine.Claim.SpillAll ∧ Sys2Proof.Machine.Claim.StackFills

/-- IND pushes what the port reads as; OUTD leaves a device store at whose response the unit acts; INW and OUTW of an open port fail the width check; the checks of R523 come in their order, with nothing issued (R11, R23, R98, R99, R523). -/
def Obligations.PortInstructions : Prop := Sys2Proof.Machine.Claim.PortInstructions ∧ Sys2Proof.Machine.Claim.PortChecks

/-- The condition codes of every state, the operation that STARTIO begins, the halt, the status that TESTIO pushes, and the checks that come first (R102, R103, R104, R301, R302, R303). -/
def Obligations.ChannelInstructions : Prop := Sys2Proof.Machine.Claim.StartIo ∧ Sys2Proof.Machine.Claim.HaltIoAndTestIo ∧ Sys2Proof.Machine.Claim.ChannelChecks

/-- A unit's answer lets a device store act and a read retire; a lost access is recorded and told to the core; a buffered store that nothing older overlaps is performed with its bytes and no others (R99, R100, R144, R180, R181, R186, R195). -/
def Obligations.AnswersAndPerformedStores : Prop := Sys2Proof.Machine.Claim.PortAnswers ∧ Sys2Proof.Machine.Claim.StorePerformed

/-- ICISEND, the end of a hold, a timer match, instruction retry with its limit, and an uncorrectable error in data that a core stored (R140, R202, R219, R223, R224, R225, R459, R526). -/
def Obligations.CoreEvents : Prop := Sys2Proof.Machine.Claim.CoreEvents ∧ Sys2Proof.Machine.Claim.InstructionRetry ∧ Sys2Proof.Machine.Claim.StoredDataCheck

/-- A slice grants at once what no other copy forbids and snoops the others first; upgrades, the requests of masters, and requests presented again end as R250 to R259 say (R249, R250, R251, R254, R257, R259, R435). -/
def Obligations.PoolRequests : Prop := Sys2Proof.Machine.Claim.PoolAgentRequests ∧ Sys2Proof.Machine.Claim.PoolUpgrade ∧ Sys2Proof.Machine.Claim.PoolMasterRequests ∧ Sys2Proof.Machine.Claim.PoolRequestsAgain

/-- Each snoop does its effect at the agent and answers with the agent's data where it was modified; the last answer completes the transaction; deliveries install copies; eviction notices move them back (R249, R250, R251, R254, R261, R262). -/
def Obligations.PoolMessages : Prop := Sys2Proof.Machine.Claim.PoolSnoops ∧ Sys2Proof.Machine.Claim.PoolAnswers ∧ Sys2Proof.Machine.Claim.PoolDeliveries ∧ Sys2Proof.Machine.Claim.PoolNotices

/-- LinkAck, CRC errors and filtered mode; a directory error and a drained way; LOCK, the window that it forms, and the range operations (R253, R255, R256, R263, R265, R268). -/
def Obligations.RingsWaysAndWindow : Prop := Sys2Proof.Machine.Claim.Millrace ∧ Sys2Proof.Machine.Claim.PoolWays ∧ Sys2Proof.Machine.Claim.WindowAndRanges

/-- Reads and writes of DRAM with their bursts corrected, rebuilt or lost, the scrubber, a failing channel and its group, and MEMCFG.READY (R248, R264, R276, R277, R278, R279, R281, R283, R286). -/
def Obligations.MainMemory : Prop := Sys2Proof.Machine.Claim.MemoryReads ∧ Sys2Proof.Machine.Claim.MemoryWrites ∧ Sys2Proof.Machine.Claim.Scrubbing ∧ Sys2Proof.Machine.Claim.ChannelsAndReady

/-- Enabling, disabling and writing completion queues, and ESTABLISH, MODIFY and REMOVE with the result of each refusal (R292, R304, R305, R306, R307, R308). -/
def Obligations.QueuesAndSubchannels : Prop := Sys2Proof.Machine.Claim.CompletionQueues ∧ Sys2Proof.Machine.Claim.SubchannelCommands

/-- The CCW in memory decides the command; the commands that move nothing over a path go on with the next; a failing check completes the program with PROGRAM_CHECK and its DETAIL (R294, R295, R296, R297, R298, R299, R300, R306, R310, R345, R346). -/
def Obligations.ChannelPrograms : Prop := Sys2Proof.Machine.Claim.OneCcw ∧ Sys2Proof.Machine.Claim.LocalCommands ∧ Sys2Proof.Machine.Claim.ProgramChecks

/-- WRITE, SEND, READ, RECEIVE and PARTNER begin their exchange or wait as R311, R332 and R334 say; CLOSE, ABORT and PING act as R345 says (R311, R332, R334, R345). -/
def Obligations.PathCommands : Prop := Sys2Proof.Machine.Claim.PathCommands ∧ Sys2Proof.Machine.Claim.PathControls

/-- A waiting record gets the next generation and units at HEAD, becomes durable once written, and is released; the control area is written in its other copy at each thousandth boundary (R311, R312, R313, R428, R430, R431, R432). -/
def Obligations.JournalAndControlArea : Prop := Sys2Proof.Machine.Claim.JournalRecords ∧ Sys2Proof.Machine.Claim.ControlArea

/-- Opening, closing, data, acknowledgement, NAK, KEEPALIVE, ERROR and fencing do at a connection what R329 to R348 say (R329, R330, R331, R333, R335, R338, R339, R345, R348). -/
def Obligations.ScpFrames : Prop := Sys2Proof.Machine.Claim.ScpPaths ∧ Sys2Proof.Machine.Claim.ScpFences ∧ Sys2Proof.Machine.Claim.ScpData ∧ Sys2Proof.Machine.Claim.ScpAnswers

/-- Resends with their backoff, keepalives, dead paths and reopening; the SYN, the reset and the retransmission timer of message TCP (R329, R330, R331, R338, R341). -/
def Obligations.PathTimersAndTcp : Prop := Sys2Proof.Machine.Claim.ScpTimers ∧ Sys2Proof.Machine.Claim.TcpPaths

/-- Frames that a port counts and passes on or not, links, ETHCFG, priority flow control and announcements (R349, R350, R351, R352, R356, R358, R359, R361, R362). -/
def Obligations.EthernetPorts : Prop := Sys2Proof.Machine.Claim.EthernetPorts ∧ Sys2Proof.Machine.Claim.PauseAndAnnounce

/-- Submission, enabling and disabling of the rings, the fetch of a descriptor with its checks, and the completion record with a rerun after a check failure (R365, R366, R367, R368, R370, R379, R380, R385, R387, R394, R397, R398). -/
def Obligations.EngineRings : Prop := Sys2Proof.Machine.Claim.EngineRings ∧ Sys2Proof.Machine.Claim.DescriptorFetch ∧ Sys2Proof.Machine.Claim.EngineCompletions

/-- A descriptor of a whole stream leaves its output at DST and its lengths and CRC-32C in the result. The matches and the codes of a block are the compressor's choice and free (log 41): the statement holds for every one (R373, R374, R375, R376, R377). -/
def Obligations.CompressionUnit : Prop := Sys2Proof.Machine.Claim.Compression

/-- ENCRYPT, DECRYPT, MACTAG, MACVERIFY and HASH write what their algorithms give; of a message whose tag does not match nothing reaches DST (R381, R386, R392, R393). -/
def Obligations.CipherUnit : Prop := Sys2Proof.Machine.Claim.Cipher

/-- LOAD, ERASE and ERASE_ALL of key slots and an ECC error in one; INSTALL, ACTIVATE, the switch and RETIRE of the associations of Leat (R383, R384, R396, R400). -/
def Obligations.KeysAndAssociations : Prop := Sys2Proof.Machine.Claim.KeySlots ∧ Sys2Proof.Machine.Claim.LeatAssociations

/-- An event counts in its window, is promoted once when it meets the threshold, leaves a record with the next number, and starts the actions of its field. Shown also for events whose checker lies outside the model (log 47) (R404, R405, R406, R408, R410, R412, R415, R417). -/
def Obligations.WeirEvents : Prop := Sys2Proof.Machine.Claim.EventsCounted ∧ Sys2Proof.Machine.Claim.EventActions

/-- Windows roll, WSRCSTAT clears what no longer holds, WLOGSEL copies a record, an overflow is counted in DROP, work that overruns its beat is reported, a stage of R35 once for each limit that it missed, and safe state is entered at its boundary (R37, R401, R404, R413, R414, R416, R418). -/
def Obligations.WeirPorts : Prop := Sys2Proof.Machine.Claim.WindowsAndStatus ∧ Sys2Proof.Machine.Claim.LogOverflow ∧ Sys2Proof.Machine.Claim.LogWindow ∧ Sys2Proof.Machine.Claim.SafeState ∧ Sys2Proof.Machine.Claim.BeatOverruns

/-- SPARE_CORE, the sparing that ends 259 beats later at the earliest under the master copy of the microcode, confirmations that fail, and self-tests. That a failed self-test pass counts in FAILS is the model's choice (log 46) (R421, R422, R423, R424, R425, R453). -/
def Obligations.CoreSpares : Prop := Sys2Proof.Machine.Claim.SpareCore ∧ Sys2Proof.Machine.Claim.CoreSparing ∧ Sys2Proof.Machine.Claim.SelfTests

/-- SPARE_CP and its end, RESCUE of a stalled core, DUMP of a kept checkpoint, and RETIRE of released records (R154, R320, R425, R426, R432, R453). -/
def Obligations.CpSparesAndRescue : Prop := Sys2Proof.Machine.Claim.CpSpares ∧ Sys2Proof.Machine.Claim.RescueDumpRetire

/-- The commands that form and end a pair, heartbeats and health records sent and heard, and what makes an armed standby act (R441, R442, R443, R444, R445, R448, R449, R451, R453). -/
def Obligations.Pairing : Prop := Sys2Proof.Machine.Claim.PairCommands ∧ Sys2Proof.Machine.Claim.Heartbeats ∧ Sys2Proof.Machine.Claim.Armed

/-- Deltas go out whole and are freed, pair up or break the pair; the standby keeps what comes ahead of its turn (the window is the model's choice, log 158), applies a delta whose CRC checks and acknowledges it; guarded regions are written in SOLO alone (R434, R436, R437, R438, R439, R441, R442). -/
def Obligations.Mirroring : Prop := Sys2Proof.Machine.Claim.DeltasSent ∧ Sys2Proof.Machine.Claim.DeltasTaken ∧ Sys2Proof.Machine.Claim.GuardedRegions

/-- What each answer of the witness does once it passes the checks of R446, requests sent again, and the end of a take-over with nothing to resume (R441, R446, R448, R449, R451, R499). -/
def Obligations.WitnessAndTakeOver : Prop := Sys2Proof.Machine.Claim.Witness ∧ Sys2Proof.Machine.Claim.TakeOver

/-- A boundary advances BEATC and TOD and makes due what it makes due; the reference, the pulse and the setting of TOD (R32, R36, R444, R455, R456, R457, R458). -/
def Obligations.BoundariesAndReference : Prop := Sys2Proof.Machine.Claim.Boundaries ∧ Sys2Proof.Machine.Claim.ReferenceAndPps

/-- TOD advances by the increment at each reference cycle and by 16 units and the slew at each boundary; at zero slew by exactly 2^64 units in each beat; it never runs backward (R455). -/
def Obligations.TodAdvances : Prop := Sys2Proof.Machine.Claim.TodAdvances

/-- A sample that crosses HI or LO from inside the limits is a RECOVERABLE event of the source of its channel; a limit of 0 disables its side (R462). -/
def Obligations.SensorLimits : Prop := Sys2Proof.Machine.Claim.SensorLimits

/-- Samples, the duty that THERMAL decides and its events, failing pumps, and the decisions of HOLDUP (R461, R462, R463, R464, R465, R466, R467, R468). -/
def Obligations.PlantLoops : Prop := Sys2Proof.Machine.Claim.Sensors ∧ Sys2Proof.Machine.Claim.ThermalLoop ∧ Sys2Proof.Machine.Claim.PumpFailure ∧ Sys2Proof.Machine.Claim.HoldUp

/-- Changes of POWER_STABLE, rails that leave their windows, the power-down, the power sequence and the standby rails; Stillwater, the fuses and the flash survive (R431, R466, R468, R512, R514, R515, R516, R517). -/
def Obligations.PowerAndRails : Prop := Sys2Proof.Machine.Claim.StableAndRails ∧ Sys2Proof.Machine.Claim.Supplies

/-- What the handover of a reset leaves in every unit, what memory keeps, the cores that a failed self-test leaves absent, the end of a life-cycle change, and the reset of one core. The handover beat lies in the model's window (log 61) (R47, R189, R486, R487, R488, R492, R493, R495, R496, R497, R502, R509). -/
def Obligations.Resets : Prop := Sys2Proof.Machine.Claim.Resets ∧ Sys2Proof.Machine.Claim.LifeCycleReset ∧ Sys2Proof.Machine.Claim.CoreReset

/-- VERIFY and ACTIVATE with their checks, and the results of CHANGE, RAISE_BSVN and RAISE_MSVN (R241, R242, R243, R244, R500, R502, R504). -/
def Obligations.MicrocodeAndLifeCycle : Prop := Sys2Proof.Machine.Claim.MicrocodeLoad ∧ Sys2Proof.Machine.Claim.LifeCycleCommands

/-- The states of a slice, SAVE and RESTORE, ports with fields that a read clears, W1C bits, and ports of other life-cycle states (R10, R11, R471, R474, R475, R476, R478, R479, R480, R482, R483). -/
def Obligations.SlicesAndPorts : Prop := Sys2Proof.Machine.Claim.SliceStates ∧ Sys2Proof.Machine.Claim.SaveAndRestore ∧ Sys2Proof.Machine.Claim.PortAccesses

/-- From every state whose memory is in canonical form (addresses strictly rising, no byte of zero listed), a step leaves it in canonical form; that reset has the form is part of ResetState (R179, R272, R286). -/
def Obligations.MemoryStaysCanonical : Prop := Sys2Proof.Machine.Claim.MemoryStaysCanonical

/-- In every step the fuses that were blown stay blown, and the boot flash, the serial number and the fused keys of manufacture stay as they are (R489, R501, R504). -/
def Obligations.FusesOnlyBlown : Prop := Sys2Proof.Machine.Claim.FusesOnlyBlown

/-- In safe state, every command but a cold or warm reset, or the loss of the module's power, leaves the module in safe state (R414, R468, R517). -/
def Obligations.SafeStateHolds : Prop := Sys2Proof.Machine.Claim.SafeStateHolds
end

