-- ==== Sys2Proof/Laws/Exec.lean ====
section
/-! SUPPORT. Which meaning each command has: exec on a constructor is that command's own definition. -/

namespace Sys2Proof.Machine

@[simp] theorem exec_nop (s : State) (k) : exec (.nop k) s = execNop k s := rfl
@[simp] theorem exec_dup (s : State) (k) : exec (.dup k) s = execDup k s := rfl
@[simp] theorem exec_drop (s : State) (k) : exec (.drop k) s = execDrop k s := rfl
@[simp] theorem exec_swap (s : State) (k) : exec (.swap k) s = execSwap k s := rfl
@[simp] theorem exec_over (s : State) (k) : exec (.over k) s = execOver k s := rfl
@[simp] theorem exec_rot (s : State) (k) : exec (.rot k) s = execRot k s := rfl
@[simp] theorem exec_nip (s : State) (k) : exec (.nip k) s = execNip k s := rfl
@[simp] theorem exec_tuck (s : State) (k) : exec (.tuck k) s = execTuck k s := rfl
@[simp] theorem exec_dup2 (s : State) (k) : exec (.dup2 k) s = execDup2 k s := rfl
@[simp] theorem exec_drop2 (s : State) (k) : exec (.drop2 k) s = execDrop2 k s := rfl
@[simp] theorem exec_swap2 (s : State) (k) : exec (.swap2 k) s = execSwap2 k s := rfl
@[simp] theorem exec_over2 (s : State) (k) : exec (.over2 k) s = execOver2 k s := rfl
@[simp] theorem exec_toR (s : State) (k) : exec (.toR k) s = execToR k s := rfl
@[simp] theorem exec_rFrom (s : State) (k) : exec (.rFrom k) s = execRFrom k s := rfl
@[simp] theorem exec_rFetch (s : State) (k) : exec (.rFetch k) s = execRFetch k s := rfl
@[simp] theorem exec_rdrop (s : State) (k) : exec (.rdrop k) s = execRdrop k s := rfl
@[simp] theorem exec_lit8 (s : State) (k) (imm) : exec (.lit8 k imm) s = execLit8 k imm s := rfl
@[simp] theorem exec_lit16 (s : State) (k) (imm) : exec (.lit16 k imm) s = execLit16 k imm s := rfl
@[simp] theorem exec_lit32 (s : State) (k) (imm) : exec (.lit32 k imm) s = execLit32 k imm s := rfl
@[simp] theorem exec_lit64 (s : State) (k) (imm) : exec (.lit64 k imm) s = execLit64 k imm s := rfl
@[simp] theorem exec_pick (s : State) (k) (n) : exec (.pick k n) s = execPick k n s := rfl
@[simp] theorem exec_depth (s : State) (k) : exec (.depth k) s = execDepth k s := rfl
@[simp] theorem exec_add (s : State) (k) : exec (.add k) s = execAdd k s := rfl
@[simp] theorem exec_sub (s : State) (k) : exec (.sub k) s = execSub k s := rfl
@[simp] theorem exec_mul (s : State) (k) : exec (.mul k) s = execMul k s := rfl
@[simp] theorem exec_mulh (s : State) (k) : exec (.mulh k) s = execMulh k s := rfl
@[simp] theorem exec_mulhu (s : State) (k) : exec (.mulhu k) s = execMulhu k s := rfl
@[simp] theorem exec_div (s : State) (k) : exec (.div k) s = execDiv k s := rfl
@[simp] theorem exec_divu (s : State) (k) : exec (.divu k) s = execDivu k s := rfl
@[simp] theorem exec_rem (s : State) (k) : exec (.rem k) s = execRem k s := rfl
@[simp] theorem exec_remu (s : State) (k) : exec (.remu k) s = execRemu k s := rfl
@[simp] theorem exec_neg (s : State) (k) : exec (.neg k) s = execNeg k s := rfl
@[simp] theorem exec_adc (s : State) (k) : exec (.adc k) s = execAdc k s := rfl
@[simp] theorem exec_sbc (s : State) (k) : exec (.sbc k) s = execSbc k s := rfl
@[simp] theorem exec_cmp (s : State) (k) : exec (.cmp k) s = execCmp k s := rfl
@[simp] theorem exec_tst (s : State) (k) : exec (.tst k) s = execTst k s := rfl
@[simp] theorem exec_inc (s : State) (k) : exec (.inc k) s = execInc k s := rfl
@[simp] theorem exec_dec (s : State) (k) : exec (.dec k) s = execDec k s := rfl
@[simp] theorem exec_addi (s : State) (k) (imm) : exec (.addi k imm) s = execAddi k imm s := rfl
@[simp] theorem exec_cmpi (s : State) (k) (imm) : exec (.cmpi k imm) s = execCmpi k imm s := rfl
@[simp] theorem exec_andB (s : State) (k) : exec (.andB k) s = execAndB k s := rfl
@[simp] theorem exec_orB (s : State) (k) : exec (.orB k) s = execOrB k s := rfl
@[simp] theorem exec_xorB (s : State) (k) : exec (.xorB k) s = execXorB k s := rfl
@[simp] theorem exec_notB (s : State) (k) : exec (.notB k) s = execNotB k s := rfl
@[simp] theorem exec_andn (s : State) (k) : exec (.andn k) s = execAndn k s := rfl
@[simp] theorem exec_shl (s : State) (k) : exec (.shl k) s = execShl k s := rfl
@[simp] theorem exec_shr (s : State) (k) : exec (.shr k) s = execShr k s := rfl
@[simp] theorem exec_sar (s : State) (k) : exec (.sar k) s = execSar k s := rfl
@[simp] theorem exec_rol (s : State) (k) : exec (.rol k) s = execRol k s := rfl
@[simp] theorem exec_ror (s : State) (k) : exec (.ror k) s = execRor k s := rfl
@[simp] theorem exec_clz (s : State) (k) : exec (.clz k) s = execClz k s := rfl
@[simp] theorem exec_ctz (s : State) (k) : exec (.ctz k) s = execCtz k s := rfl
@[simp] theorem exec_popc (s : State) (k) : exec (.popc k) s = execPopc k s := rfl
@[simp] theorem exec_bswap (s : State) (k) : exec (.bswap k) s = execBswap k s := rfl
@[simp] theorem exec_sxw (s : State) (k) : exec (.sxw k) s = execSxw k s := rfl
@[simp] theorem exec_zxw (s : State) (k) : exec (.zxw k) s = execZxw k s := rfl
@[simp] theorem exec_shli (s : State) (k) (imm) : exec (.shli k imm) s = execShli k imm s := rfl
@[simp] theorem exec_shri (s : State) (k) (imm) : exec (.shri k imm) s = execShri k imm s := rfl
@[simp] theorem exec_sari (s : State) (k) (imm) : exec (.sari k imm) s = execSari k imm s := rfl
@[simp] theorem exec_rdsr (s : State) (k) (n) : exec (.rdsr k n) s = execRdsr k n s := rfl
@[simp] theorem exec_wrsr (s : State) (k) (n) : exec (.wrsr k n) s = execWrsr k n s := rfl
@[simp] theorem exec_rdtod (s : State) (k) : exec (.rdtod k) s = execRdtod k s := rfl
@[simp] theorem exec_wrkrr (s : State) (k) : exec (.wrkrr k) s = execWrkrr k s := rfl
@[simp] theorem exec_ldb (s : State) (k) (d) : exec (.ldb k d) s = execLdb k d s := rfl
@[simp] theorem exec_ldbs (s : State) (k) (d) : exec (.ldbs k d) s = execLdbs k d s := rfl
@[simp] theorem exec_ldh (s : State) (k) (d) : exec (.ldh k d) s = execLdh k d s := rfl
@[simp] theorem exec_ldhs (s : State) (k) (d) : exec (.ldhs k d) s = execLdhs k d s := rfl
@[simp] theorem exec_ldw (s : State) (k) (d) : exec (.ldw k d) s = execLdw k d s := rfl
@[simp] theorem exec_ldws (s : State) (k) (d) : exec (.ldws k d) s = execLdws k d s := rfl
@[simp] theorem exec_ldd (s : State) (k) (d) : exec (.ldd k d) s = execLdd k d s := rfl
@[simp] theorem exec_ldp (s : State) (k) : exec (.ldp k) s = execLdp k s := rfl
@[simp] theorem exec_stb (s : State) (k) (d) : exec (.stb k d) s = execStb k d s := rfl
@[simp] theorem exec_sth (s : State) (k) (d) : exec (.sth k d) s = execSth k d s := rfl
@[simp] theorem exec_stw (s : State) (k) (d) : exec (.stw k d) s = execStw k d s := rfl
@[simp] theorem exec_std (s : State) (k) (d) : exec (.std k d) s = execStd k d s := rfl
@[simp] theorem exec_stp (s : State) (k) : exec (.stp k) s = execStp k s := rfl
@[simp] theorem exec_ldr (s : State) (k) : exec (.ldr k) s = execLdr k s := rfl
@[simp] theorem exec_stc (s : State) (k) : exec (.stc k) s = execStc k s := rfl
@[simp] theorem exec_fence (s : State) (k) : exec (.fence k) s = execFence k s := rfl
@[simp] theorem exec_isync (s : State) (k) : exec (.isync k) s = execIsync k s := rfl
@[simp] theorem exec_ldi (s : State) (k) : exec (.ldi k) s = execLdi k s := rfl
@[simp] theorem exec_sti (s : State) (k) : exec (.sti k) s = execSti k s := rfl
@[simp] theorem exec_br (s : State) (k) (b) : exec (.br k b) s = execBr k b s := rfl
@[simp] theorem exec_bz (s : State) (k) (b) : exec (.bz k b) s = execBz k b s := rfl
@[simp] theorem exec_bnz (s : State) (k) (b) : exec (.bnz k b) s = execBnz k b s := rfl
@[simp] theorem exec_beq (s : State) (k) (b) : exec (.beq k b) s = execBeq k b s := rfl
@[simp] theorem exec_bne (s : State) (k) (b) : exec (.bne k b) s = execBne k b s := rfl
@[simp] theorem exec_blt (s : State) (k) (b) : exec (.blt k b) s = execBlt k b s := rfl
@[simp] theorem exec_bge (s : State) (k) (b) : exec (.bge k b) s = execBge k b s := rfl
@[simp] theorem exec_bgt (s : State) (k) (b) : exec (.bgt k b) s = execBgt k b s := rfl
@[simp] theorem exec_ble (s : State) (k) (b) : exec (.ble k b) s = execBle k b s := rfl
@[simp] theorem exec_bltu (s : State) (k) (b) : exec (.bltu k b) s = execBltu k b s := rfl
@[simp] theorem exec_bgeu (s : State) (k) (b) : exec (.bgeu k b) s = execBgeu k b s := rfl
@[simp] theorem exec_bgtu (s : State) (k) (b) : exec (.bgtu k b) s = execBgtu k b s := rfl
@[simp] theorem exec_bleu (s : State) (k) (b) : exec (.bleu k b) s = execBleu k b s := rfl
@[simp] theorem exec_bvs (s : State) (k) (b) : exec (.bvs k b) s = execBvs k b s := rfl
@[simp] theorem exec_bvc (s : State) (k) (b) : exec (.bvc k b) s = execBvc k b s := rfl
@[simp] theorem exec_call (s : State) (k) (b) : exec (.call k b) s = execCall k b s := rfl
@[simp] theorem exec_jmpl (s : State) (k) (b) : exec (.jmpl k b) s = execJmpl k b s := rfl
@[simp] theorem exec_calll (s : State) (k) (b) : exec (.calll k b) s = execCalll k b s := rfl
@[simp] theorem exec_jmpi (s : State) (k) (b) : exec (.jmpi k b) s = execJmpi k b s := rfl
@[simp] theorem exec_calli (s : State) (k) (b) : exec (.calli k b) s = execCalli k b s := rfl
@[simp] theorem exec_ret (s : State) (k) (b) : exec (.ret k b) s = execRet k b s := rfl
@[simp] theorem exec_svc (s : State) (k) (imm) : exec (.svc k imm) s = execSvc k imm s := rfl
@[simp] theorem exec_rett (s : State) (k) : exec (.rett k) s = execRett k s := rfl
@[simp] theorem exec_wait (s : State) (k) : exec (.wait k) s = execWait k s := rfl
@[simp] theorem exec_movs (s : State) (k) : exec (.movs k) s = execMovs k s := rfl
@[simp] theorem exec_cmps (s : State) (k) : exec (.cmps k) s = execCmps k s := rfl
@[simp] theorem exec_fills (s : State) (k) : exec (.fills k) s = execFills k s := rfl
@[simp] theorem exec_scans (s : State) (k) : exec (.scans k) s = execScans k s := rfl
@[simp] theorem exec_xlats (s : State) (k) : exec (.xlats k) s = execXlats k s := rfl
@[simp] theorem exec_dmovs (s : State) (k) : exec (.dmovs k) s = execDmovs k s := rfl
@[simp] theorem exec_inw (s : State) (k) : exec (.inw k) s = execInw k s := rfl
@[simp] theorem exec_ind (s : State) (k) : exec (.ind k) s = execInd k s := rfl
@[simp] theorem exec_outw (s : State) (k) : exec (.outw k) s = execOutw k s := rfl
@[simp] theorem exec_outd (s : State) (k) : exec (.outd k) s = execOutd k s := rfl
@[simp] theorem exec_startio (s : State) (k) : exec (.startio k) s = execStartio k s := rfl
@[simp] theorem exec_haltio (s : State) (k) : exec (.haltio k) s = execHaltio k s := rfl
@[simp] theorem exec_testio (s : State) (k) : exec (.testio k) s = execTestio k s := rfl
@[simp] theorem exec_invpg (s : State) (k) : exec (.invpg k) s = execInvpg k s := rfl
@[simp] theorem exec_invtag (s : State) (k) : exec (.invtag k) s = execInvtag k s := rfl
@[simp] theorem exec_invall (s : State) (k) : exec (.invall k) s = execInvall k s := rfl
@[simp] theorem exec_spilld (s : State) (k) : exec (.spilld k) s = execSpilld k s := rfl
@[simp] theorem exec_spillr (s : State) (k) : exec (.spillr k) s = execSpillr k s := rfl
@[simp] theorem exec_fadd (s : State) (k) (w) : exec (.fadd k w) s = execFadd k w s := rfl
@[simp] theorem exec_fsub (s : State) (k) (w) : exec (.fsub k w) s = execFsub k w s := rfl
@[simp] theorem exec_fmul (s : State) (k) (w) : exec (.fmul k w) s = execFmul k w s := rfl
@[simp] theorem exec_fdiv (s : State) (k) (w) : exec (.fdiv k w) s = execFdiv k w s := rfl
@[simp] theorem exec_fsqrt (s : State) (k) (w) : exec (.fsqrt k w) s = execFsqrt k w s := rfl
@[simp] theorem exec_fma (s : State) (k) (w) : exec (.fma k w) s = execFma k w s := rfl
@[simp] theorem exec_fneg (s : State) (k) (w) : exec (.fneg k w) s = execFneg k w s := rfl
@[simp] theorem exec_fabs (s : State) (k) (w) : exec (.fabs k w) s = execFabs k w s := rfl
@[simp] theorem exec_fcmp (s : State) (k) (w) : exec (.fcmp k w) s = execFcmp k w s := rfl
@[simp] theorem exec_fmin (s : State) (k) (w) : exec (.fmin k w) s = execFmin k w s := rfl
@[simp] theorem exec_fmax (s : State) (k) (w) : exec (.fmax k w) s = execFmax k w s := rfl
@[simp] theorem exec_fclass (s : State) (k) (w) : exec (.fclass k w) s = execFclass k w s := rfl
@[simp] theorem exec_fcvtDS (s : State) (k) : exec (.fcvtDS k) s = execFcvtDS k s := rfl
@[simp] theorem exec_fcvtSD (s : State) (k) : exec (.fcvtSD k) s = execFcvtSD k s := rfl
@[simp] theorem exec_fcvtDL (s : State) (k) : exec (.fcvtDL k) s = execFcvtDL k s := rfl
@[simp] theorem exec_fcvtDLU (s : State) (k) : exec (.fcvtDLU k) s = execFcvtDLU k s := rfl
@[simp] theorem exec_fcvtLD (s : State) (k) : exec (.fcvtLD k) s = execFcvtLD k s := rfl
@[simp] theorem exec_fcvtLUD (s : State) (k) : exec (.fcvtLUD k) s = execFcvtLUD k s := rfl
@[simp] theorem exec_fcvtSL (s : State) (k) : exec (.fcvtSL k) s = execFcvtSL k s := rfl
@[simp] theorem exec_fcvtSLU (s : State) (k) : exec (.fcvtSLU k) s = execFcvtSLU k s := rfl
@[simp] theorem exec_fcvtLS (s : State) (k) : exec (.fcvtLS k) s = execFcvtLS k s := rfl
@[simp] theorem exec_fcvtLUS (s : State) (k) : exec (.fcvtLUS k) s = execFcvtLUS k s := rfl
@[simp] theorem exec_dadd (s : State) (k) : exec (.dadd k) s = execDadd k s := rfl
@[simp] theorem exec_dsub (s : State) (k) : exec (.dsub k) s = execDsub k s := rfl
@[simp] theorem exec_dcmp (s : State) (k) : exec (.dcmp k) s = execDcmp k s := rfl
@[simp] theorem exec_dchk (s : State) (k) : exec (.dchk k) s = execDchk k s := rfl
@[simp] theorem exec_dneg (s : State) (k) : exec (.dneg k) s = execDneg k s := rfl
@[simp] theorem exec_cvbd (s : State) (k) : exec (.cvbd k) s = execCvbd k s := rfl
@[simp] theorem exec_cvdb (s : State) (k) : exec (.cvdb k) s = execCvdb k s := rfl
@[simp] theorem exec_dshl (s : State) (k) : exec (.dshl k) s = execDshl k s := rfl
@[simp] theorem exec_dshr (s : State) (k) : exec (.dshr k) s = execDshr k s := rfl
@[simp] theorem exec_reservedInstruction (s : State) (k) (r) : exec (.reservedInstruction k r) s = execReservedInstruction k r s := rfl
@[simp] theorem exec_takeInterrupt (s : State) (lcn) : exec (.takeInterrupt lcn) s = execTakeInterrupt lcn s := rfl
@[simp] theorem exec_iciSend (s : State) (lcn) (v) : exec (.iciSend lcn v) s = execIciSend lcn v s := rfl
@[simp] theorem exec_deviceResponse (s : State) (lcn) : exec (.deviceResponse lcn) s = execDeviceResponse lcn s := rfl
@[simp] theorem exec_deviceStoreLost (s : State) (lcn) : exec (.deviceStoreLost lcn) s = execDeviceStoreLost lcn s := rfl
@[simp] theorem exec_lostRead (s : State) (lcn) : exec (.lostRead lcn) s = execLostRead lcn s := rfl
@[simp] theorem exec_storePerformed (s : State) (lcn) (idx) : exec (.storePerformed lcn idx) s = execStorePerformed lcn idx s := rfl
@[simp] theorem exec_holdEnd (s : State) (lcn) : exec (.holdEnd lcn) s = execHoldEnd lcn s := rfl
@[simp] theorem exec_instructionRetry (s : State) (lcn) (e) (issued) : exec (.instructionRetry lcn e issued) s = execInstructionRetry lcn e issued s := rfl
@[simp] theorem exec_machineCheckStoredData (s : State) (lcn) (line) : exec (.machineCheckStoredData lcn line) s = execMachineCheckStoredData lcn line s := rfl
@[simp] theorem exec_timerMatch (s : State) (lcn) (i0) : exec (.timerMatch lcn i0) s = execTimerMatch lcn i0 s := rfl
@[simp] theorem exec_rds (s : State) (agent) (line) (bad) : exec (.rds agent line bad) s = execRds agent line bad s := rfl
@[simp] theorem exec_rdx (s : State) (agent) (line) (bad) : exec (.rdx agent line bad) s = execRdx agent line bad s := rfl
@[simp] theorem exec_upg (s : State) (agent) (line) (bad) : exec (.upg agent line bad) s = execUpg agent line bad s := rfl
@[simp] theorem exec_hold (s : State) (agent) (line) : exec (.hold agent line) s = execHold agent line s := rfl
@[simp] theorem exec_rdna (s : State) (agent) (line) (bad) : exec (.rdna agent line bad) s = execRdna agent line bad s := rfl
@[simp] theorem exec_wrna (s : State) (agent) (line) (bytes) : exec (.wrna agent line bytes) s = execWrna agent line bytes s := rfl
@[simp] theorem exec_wb (s : State) (agent) (line) (bad) : exec (.wb agent line bad) s = execWb agent line bad s := rfl
@[simp] theorem exec_evn (s : State) (agent) (line) : exec (.evn agent line) s = execEvn agent line s := rfl
@[simp] theorem exec_snps (s : State) (agent) (line) : exec (.snps agent line) s = execSnps agent line s := rfl
@[simp] theorem exec_snpi (s : State) (agent) (line) : exec (.snpi agent line) s = execSnpi agent line s := rfl
@[simp] theorem exec_snpr (s : State) (agent) (line) : exec (.snpr agent line) s = execSnpr agent line s := rfl
@[simp] theorem exec_binv (s : State) (agent) (line) : exec (.binv agent line) s = execBinv agent line s := rfl
@[simp] theorem exec_lineData (s : State) (agent) (line) : exec (.lineData agent line) s = execLineData agent line s := rfl
@[simp] theorem exec_lineDataE (s : State) (agent) (line) : exec (.lineDataE agent line) s = execLineDataE agent line s := rfl
@[simp] theorem exec_snpAck (s : State) (agent) (line) : exec (.snpAck agent line) s = execSnpAck agent line s := rfl
@[simp] theorem exec_snpData (s : State) (agent) (line) : exec (.snpData agent line) s = execSnpData agent line s := rfl
@[simp] theorem exec_sliceAck (s : State) (agent) (line) : exec (.sliceAck agent line) s = execSliceAck agent line s := rfl
@[simp] theorem exec_ackStale (s : State) (agent) (line) : exec (.ackStale agent line) s = execAckStale agent line s := rfl
@[simp] theorem exec_sliceRetry (s : State) (agent) (line) : exec (.sliceRetry agent line) s = execSliceRetry agent line s := rfl
@[simp] theorem exec_retryResend (s : State) (agent) (line) : exec (.retryResend agent line) s = execRetryResend agent line s := rfl
@[simp] theorem exec_tlbi (s : State) (target) (issuer) : exec (.tlbi target issuer) s = execTlbi target issuer s := rfl
@[simp] theorem exec_tlba (s : State) (sender) (issuer) : exec (.tlba sender issuer) s = execTlba sender issuer s := rfl
@[simp] theorem exec_linkAck (s : State) (station) (ring) : exec (.linkAck station ring) s = execLinkAck station ring s := rfl
@[simp] theorem exec_linkCrcError (s : State) (station) (ring) : exec (.linkCrcError station ring) s = execLinkCrcError station ring s := rfl
@[simp] theorem exec_victimRetry (s : State) (agent) (line) : exec (.victimRetry agent line) s = execVictimRetry agent line s := rfl
@[simp] theorem exec_filteredModeChange (s : State) (e) : exec (.filteredModeChange e) s = execFilteredModeChange e s := rfl
@[simp] theorem exec_hedgerowError (s : State) (core) (line) : exec (.hedgerowError core line) s = execHedgerowError core line s := rfl
@[simp] theorem exec_wayDrainComplete (s : State) (slice) (way) : exec (.wayDrainComplete slice way) s = execWayDrainComplete slice way s := rfl
@[simp] theorem exec_poolwinLock (s : State) : exec (.poolwinLock) s = execPoolwinLock s := rfl
@[simp] theorem exec_windowLockComplete (s : State) : exec (.windowLockComplete) s = execWindowLockComplete s := rfl
@[simp] theorem exec_rangeFlush (s : State) : exec (.rangeFlush) s = execRangeFlush s := rfl
@[simp] theorem exec_rangePurge (s : State) : exec (.rangePurge) s = execRangePurge s := rfl
@[simp] theorem exec_rangeDone (s : State) : exec (.rangeDone) s = execRangeDone s := rfl
@[simp] theorem exec_dramLineRead (s : State) (line) (e) : exec (.dramLineRead line e) s = execDramLineRead line e s := rfl
@[simp] theorem exec_dramLineWrite (s : State) (line) (e) : exec (.dramLineWrite line e) s = execDramLineWrite line e s := rfl
@[simp] theorem exec_scrubLine (s : State) (group) (e) : exec (.scrubLine group e) s = execScrubLine group e s := rfl
@[simp] theorem exec_channelFail (s : State) (channel) (cause) : exec (.channelFail channel cause) s = execChannelFail channel cause s := rfl
@[simp] theorem exec_memoryReady (s : State) : exec (.memoryReady) s = execMemoryReady s := rfl
@[simp] theorem exec_establish (s : State) (typ) (g) : exec (.establish typ g) s = execEstablish typ g s := rfl
@[simp] theorem exec_modify (s : State) (typ) (g) : exec (.modify typ g) s = execModify typ g s := rfl
@[simp] theorem exec_remove (s : State) (typ) (g) : exec (.remove typ g) s = execRemove typ g s := rfl
@[simp] theorem exec_ccwWrite (s : State) (sch) : exec (.ccwWrite sch) s = execCcwWrite sch s := rfl
@[simp] theorem exec_ccwWriteCommitted (s : State) (sch) : exec (.ccwWriteCommitted sch) s = execCcwWriteCommitted sch s := rfl
@[simp] theorem exec_ccwRead (s : State) (sch) : exec (.ccwRead sch) s = execCcwRead sch s := rfl
@[simp] theorem exec_ccwReadJournaled (s : State) (sch) : exec (.ccwReadJournaled sch) s = execCcwReadJournaled sch s := rfl
@[simp] theorem exec_ccwSendMessage (s : State) (sch) : exec (.ccwSendMessage sch) s = execCcwSendMessage sch s := rfl
@[simp] theorem exec_ccwReceiveMessage (s : State) (sch) : exec (.ccwReceiveMessage sch) s = execCcwReceiveMessage sch s := rfl
@[simp] theorem exec_controlClose (s : State) (sch) : exec (.controlClose sch) s = execControlClose sch s := rfl
@[simp] theorem exec_controlAbort (s : State) (sch) : exec (.controlAbort sch) s = execControlAbort sch s := rfl
@[simp] theorem exec_controlQuery (s : State) (sch) : exec (.controlQuery sch) s = execControlQuery sch s := rfl
@[simp] theorem exec_controlPing (s : State) (sch) : exec (.controlPing sch) s = execControlPing sch s := rfl
@[simp] theorem exec_controlPartner (s : State) (sch) : exec (.controlPartner sch) s = execControlPartner sch s := rfl
@[simp] theorem exec_ccwSense (s : State) (sch) : exec (.ccwSense sch) s = execCcwSense sch s := rfl
@[simp] theorem exec_ccwBranch (s : State) (sch) : exec (.ccwBranch sch) s = execCcwBranch sch s := rfl
@[simp] theorem exec_ccwNop (s : State) (sch) : exec (.ccwNop sch) s = execCcwNop sch s := rfl
@[simp] theorem exec_heldCompletionWrite (s : State) (q) : exec (.heldCompletionWrite q) s = execHeldCompletionWrite q s := rfl
@[simp] theorem exec_cqEnable (s : State) (q) (v) : exec (.cqEnable q v) s = execCqEnable q v s := rfl
@[simp] theorem exec_cqDisable (s : State) (q) (v) : exec (.cqDisable q v) s = execCqDisable q v s := rfl
@[simp] theorem exec_journalReserve (s : State) : exec (.journalReserve) s = execJournalReserve s := rfl
@[simp] theorem exec_recordDurable (s : State) (gen) : exec (.recordDurable gen) s = execRecordDurable gen s := rfl
@[simp] theorem exec_recordRelease (s : State) (gen) : exec (.recordRelease gen) s = execRecordRelease gen s := rfl
@[simp] theorem exec_frameReceive (s : State) (port) (f) : exec (.frameReceive port f) s = execFrameReceive port f s := rfl
@[simp] theorem exec_scpOpen (s : State) (sch) (f) : exec (.scpOpen sch f) s = execScpOpen sch f s := rfl
@[simp] theorem exec_scpOpenAck (s : State) (sch) (f) : exec (.scpOpenAck sch f) s = execScpOpenAck sch f s := rfl
@[simp] theorem exec_scpData (s : State) (sch) (f) : exec (.scpData sch f) s = execScpData sch f s := rfl
@[simp] theorem exec_scpAck (s : State) (sch) (f) : exec (.scpAck sch f) s = execScpAck sch f s := rfl
@[simp] theorem exec_scpNak (s : State) (sch) (f) : exec (.scpNak sch f) s = execScpNak sch f s := rfl
@[simp] theorem exec_scpClose (s : State) (sch) (f) : exec (.scpClose sch f) s = execScpClose sch f s := rfl
@[simp] theorem exec_scpCloseAck (s : State) (sch) (f) : exec (.scpCloseAck sch f) s = execScpCloseAck sch f s := rfl
@[simp] theorem exec_scpKeepalive (s : State) (sch) (f) : exec (.scpKeepalive sch f) s = execScpKeepalive sch f s := rfl
@[simp] theorem exec_scpFence (s : State) (sch) (f) : exec (.scpFence sch f) s = execScpFence sch f s := rfl
@[simp] theorem exec_scpFenceAck (s : State) (sch) (f) : exec (.scpFenceAck sch f) s = execScpFenceAck sch f s := rfl
@[simp] theorem exec_scpError (s : State) (sch) (f) : exec (.scpError sch f) s = execScpError sch f s := rfl
@[simp] theorem exec_openResend (s : State) (sch) : exec (.openResend sch) s = execOpenResend sch s := rfl
@[simp] theorem exec_keepaliveTimer (s : State) (sch) : exec (.keepaliveTimer sch) s = execKeepaliveTimer sch s := rfl
@[simp] theorem exec_pathDead (s : State) (sch) : exec (.pathDead sch) s = execPathDead sch s := rfl
@[simp] theorem exec_reopen (s : State) (sch) : exec (.reopen sch) s = execReopen sch s := rfl
@[simp] theorem exec_scpRetransmit (s : State) (sch) : exec (.scpRetransmit sch) s = execScpRetransmit sch s := rfl
@[simp] theorem exec_delayedAck (s : State) (sch) : exec (.delayedAck sch) s = execDelayedAck sch s := rfl
@[simp] theorem exec_fenceResend (s : State) (sch) : exec (.fenceResend sch) s = execFenceResend sch s := rfl
@[simp] theorem exec_tcpSegment (s : State) (sch) (g) : exec (.tcpSegment sch g) s = execTcpSegment sch g s := rfl
@[simp] theorem exec_tcpRetransmitTimeout (s : State) (sch) : exec (.tcpRetransmitTimeout sch) s = execTcpRetransmitTimeout sch s := rfl
@[simp] theorem exec_linkDown (s : State) (port) (sub) : exec (.linkDown port sub) s = execLinkDown port sub s := rfl
@[simp] theorem exec_linkUp (s : State) (port) (sub) (fec) : exec (.linkUp port sub fec) s = execLinkUp port sub fec s := rfl
@[simp] theorem exec_pfcFrame (s : State) (port) (prio) (quanta) : exec (.pfcFrame port prio quanta) s = execPfcFrame port prio quanta s := rfl
@[simp] theorem exec_pfcPauseExpiry (s : State) (port) (prio) : exec (.pfcPauseExpiry port prio) s = execPfcPauseExpiry port prio s := rfl
@[simp] theorem exec_announceRepeat (s : State) (port) : exec (.announceRepeat port) s = execAnnounceRepeat port s := rfl
@[simp] theorem exec_ethcfgWrite (s : State) (port) (v) : exec (.ethcfgWrite port v) s = execEthcfgWrite port v s := rfl
@[simp] theorem exec_czSubmit (s : State) (slice) (tail) : exec (.czSubmit slice tail) s = execCzSubmit slice tail s := rfl
@[simp] theorem exec_czDescriptorFetch (s : State) (engine) : exec (.czDescriptorFetch engine) s = execCzDescriptorFetch engine s := rfl
@[simp] theorem exec_compress (s : State) (engine) : exec (.compress engine) s = execCompress engine s := rfl
@[simp] theorem exec_decompress (s : State) (engine) : exec (.decompress engine) s = execDecompress engine s := rfl
@[simp] theorem exec_czComplete (s : State) (engine) (check) : exec (.czComplete engine check) s = execCzComplete engine check s := rfl
@[simp] theorem exec_czEnable (s : State) (slice) (v) : exec (.czEnable slice v) s = execCzEnable slice v s := rfl
@[simp] theorem exec_czDisable (s : State) (slice) (v) : exec (.czDisable slice v) s = execCzDisable slice v s := rfl
@[simp] theorem exec_keyLoad (s : State) (slice) (slot) : exec (.keyLoad slice slot) s = execKeyLoad slice slot s := rfl
@[simp] theorem exec_keyErase (s : State) (slice) (slot) : exec (.keyErase slice slot) s = execKeyErase slice slot s := rfl
@[simp] theorem exec_keyEraseAll (s : State) (slice) (slot) : exec (.keyEraseAll slice slot) s = execKeyEraseAll slice slot s := rfl
@[simp] theorem exec_cxSubmit (s : State) (slice) (tail) : exec (.cxSubmit slice tail) s = execCxSubmit slice tail s := rfl
@[simp] theorem exec_cxDescriptorFetch (s : State) (engine) : exec (.cxDescriptorFetch engine) s = execCxDescriptorFetch engine s := rfl
@[simp] theorem exec_encrypt (s : State) (engine) : exec (.encrypt engine) s = execEncrypt engine s := rfl
@[simp] theorem exec_decrypt (s : State) (engine) : exec (.decrypt engine) s = execDecrypt engine s := rfl
@[simp] theorem exec_macTag (s : State) (engine) : exec (.macTag engine) s = execMacTag engine s := rfl
@[simp] theorem exec_macVerify (s : State) (engine) : exec (.macVerify engine) s = execMacVerify engine s := rfl
@[simp] theorem exec_hashSha (s : State) (engine) : exec (.hashSha engine) s = execHashSha engine s := rfl
@[simp] theorem exec_cxComplete (s : State) (engine) (check) : exec (.cxComplete engine check) s = execCxComplete engine check s := rfl
@[simp] theorem exec_cxEnable (s : State) (slice) (v) : exec (.cxEnable slice v) s = execCxEnable slice v s := rfl
@[simp] theorem exec_cxDisable (s : State) (slice) (v) : exec (.cxDisable slice v) s = execCxDisable slice v s := rfl
@[simp] theorem exec_saInstall (s : State) (sa) : exec (.saInstall sa) s = execSaInstall sa s := rfl
@[simp] theorem exec_saActivate (s : State) (sa) : exec (.saActivate sa) s = execSaActivate sa s := rfl
@[simp] theorem exec_txAnSwitch (s : State) (p) : exec (.txAnSwitch p) s = execTxAnSwitch p s := rfl
@[simp] theorem exec_saRetire (s : State) (sa) : exec (.saRetire sa) s = execSaRetire sa s := rfl
@[simp] theorem exec_weirEvent (s : State) (r) : exec (.weirEvent r) s = execWeirEvent r s := rfl
@[simp] theorem exec_windowRoll (s : State) (src) : exec (.windowRoll src) s = execWindowRoll src s := rfl
@[simp] theorem exec_statusClear (s : State) (src) (v) : exec (.statusClear src v) s = execStatusClear src v s := rfl
@[simp] theorem exec_logSelect (s : State) (v) : exec (.logSelect v) s = execLogSelect v s := rfl
@[simp] theorem exec_weirParityError (s : State) (logIntact) : exec (.weirParityError logIntact) s = execWeirParityError logIntact s := rfl
@[simp] theorem exec_safeState (s : State) : exec (.safeState) s = execSafeState s := rfl
@[simp] theorem exec_beatOverrun (s : State) (u) (stage) (n) : exec (.beatOverrun u stage n) s = execBeatOverrun u stage n s := rfl
@[simp] theorem exec_spareCore (s : State) (tgt) : exec (.spareCore tgt) s = execSpareCore tgt s := rfl
@[simp] theorem exec_spareCp (s : State) (tgt) : exec (.spareCp tgt) s = execSpareCp tgt s := rfl
@[simp] theorem exec_rescue (s : State) (tgt) : exec (.rescue tgt) s = execRescue tgt s := rfl
@[simp] theorem exec_dump (s : State) (tgt) : exec (.dump tgt) s = execDump tgt s := rfl
@[simp] theorem exec_retire (s : State) (tgt) : exec (.retire tgt) s = execRetire tgt s := rfl
@[simp] theorem exec_pairActive (s : State) (tgt) : exec (.pairActive tgt) s = execPairActive tgt s := rfl
@[simp] theorem exec_pairStandby (s : State) (tgt) : exec (.pairStandby tgt) s = execPairStandby tgt s := rfl
@[simp] theorem exec_leave (s : State) (tgt) : exec (.leave tgt) s = execLeave tgt s := rfl
@[simp] theorem exec_promote (s : State) (tgt) : exec (.promote tgt) s = execPromote tgt s := rfl
@[simp] theorem exec_handover (s : State) (tgt) : exec (.handover tgt) s = execHandover tgt s := rfl
@[simp] theorem exec_coreSparing (s : State) (lcn) (bad) : exec (.coreSparing lcn bad) s = execCoreSparing lcn bad s := rfl
@[simp] theorem exec_spareConfirmationFail (s : State) (slot) : exec (.spareConfirmationFail slot) s = execSpareConfirmationFail slot s := rfl
@[simp] theorem exec_cpSparing (s : State) (lcp) : exec (.cpSparing lcp) s = execCpSparing lcp s := rfl
@[simp] theorem exec_selfTestPass (s : State) (slot) (r) : exec (.selfTestPass slot r) s = execSelfTestPass slot r s := rfl
@[simp] theorem exec_controlAreaWrite (s : State) : exec (.controlAreaWrite) s = execControlAreaWrite s := rfl
@[simp] theorem exec_deltaShip (s : State) : exec (.deltaShip) s = execDeltaShip s := rfl
@[simp] theorem exec_heartbeatSend (s : State) : exec (.heartbeatSend) s = execHeartbeatSend s := rfl
@[simp] theorem exec_healthSend (s : State) : exec (.healthSend) s = execHealthSend s := rfl
@[simp] theorem exec_heartbeat (s : State) (port) (h) : exec (.heartbeat port h) s = execHeartbeat port h s := rfl
@[simp] theorem exec_health (s : State) (h) : exec (.health h) s = execHealth h s := rfl
@[simp] theorem exec_delta (s : State) (h) (beat) (entries) : exec (.delta h beat entries) s = execDelta h beat entries s := rfl
@[simp] theorem exec_deltaEnd (s : State) (h) (beat) (e) : exec (.deltaEnd h beat e) s = execDeltaEnd h beat e s := rfl
@[simp] theorem exec_deltaAckSend (s : State) : exec (.deltaAckSend) s = execDeltaAckSend s := rfl
@[simp] theorem exec_deltaAck (s : State) (h) (beat) : exec (.deltaAck h beat) s = execDeltaAck h beat s := rfl
@[simp] theorem exec_pairedEntry (s : State) : exec (.pairedEntry) s = execPairedEntry s := rfl
@[simp] theorem exec_mirrorHorizonMiss (s : State) (beat) : exec (.mirrorHorizonMiss beat) s = execMirrorHorizonMiss beat s := rfl
@[simp] theorem exec_dyingGasp (s : State) (g) : exec (.dyingGasp g) s = execDyingGasp g s := rfl
@[simp] theorem exec_heartbeatLoss (s : State) : exec (.heartbeatLoss) s = execHeartbeatLoss s := rfl
@[simp] theorem exec_takeoverConfirm (s : State) (m) : exec (.takeoverConfirm m) s = execTakeoverConfirm m s := rfl
@[simp] theorem exec_takeoverDeny (s : State) (m) : exec (.takeoverDeny m) s = execTakeoverDeny m s := rfl
@[simp] theorem exec_soloGrant (s : State) (m) : exec (.soloGrant m) s = execSoloGrant m s := rfl
@[simp] theorem exec_soloDeny (s : State) (m) : exec (.soloDeny m) s = execSoloDeny m s := rfl
@[simp] theorem exec_safeReq (s : State) (m) : exec (.safeReq m) s = execSafeReq m s := rfl
@[simp] theorem exec_witnessResend (s : State) : exec (.witnessResend) s = execWitnessResend s := rfl
@[simp] theorem exec_takeover (s : State) : exec (.takeover) s = execTakeover s := rfl
@[simp] theorem exec_guardedRegionWrite (s : State) (r) (v) : exec (.guardedRegionWrite r v) s = execGuardedRegionWrite r v s := rfl
@[simp] theorem exec_beatBoundary (s : State) : exec (.beatBoundary) s = execBeatBoundary s := rfl
@[simp] theorem exec_referenceLoss (s : State) : exec (.referenceLoss) s = execReferenceLoss s := rfl
@[simp] theorem exec_referenceReturn (s : State) : exec (.referenceReturn) s = execReferenceReturn s := rfl
@[simp] theorem exec_ppsEdge (s : State) : exec (.ppsEdge) s = execPpsEdge s := rfl
@[simp] theorem exec_ppsLoss (s : State) : exec (.ppsLoss) s = execPpsLoss s := rfl
@[simp] theorem exec_todSet (s : State) : exec (.todSet) s = execTodSet s := rfl
@[simp] theorem exec_todLoad (s : State) : exec (.todLoad) s = execTodLoad s := rfl
@[simp] theorem exec_sensorSample (s : State) (n) (v) : exec (.sensorSample n v) s = execSensorSample n v s := rfl
@[simp] theorem exec_thermalLoop (s : State) : exec (.thermalLoop) s = execThermalLoop s := rfl
@[simp] theorem exec_holdup (s : State) (a) : exec (.holdup a) s = execHoldup a s := rfl
@[simp] theorem exec_powerStableChange (s : State) : exec (.powerStableChange) s = execPowerStableChange s := rfl
@[simp] theorem exec_railWindowExit (s : State) (rail) : exec (.railWindowExit rail) s = execRailWindowExit rail s := rfl
@[simp] theorem exec_powerDownAccept (s : State) (lcn) : exec (.powerDownAccept lcn) s = execPowerDownAccept lcn s := rfl
@[simp] theorem exec_regulatorsOff (s : State) : exec (.regulatorsOff) s = execRegulatorsOff s := rfl
@[simp] theorem exec_powerSequence (s : State) : exec (.powerSequence) s = execPowerSequence s := rfl
@[simp] theorem exec_sequenceFail (s : State) (rail) : exec (.sequenceFail rail) s = execSequenceFail rail s := rfl
@[simp] theorem exec_sequenceRetry (s : State) : exec (.sequenceRetry) s = execSequenceRetry s := rfl
@[simp] theorem exec_pwronFall (s : State) : exec (.pwronFall) s = execPwronFall s := rfl
@[simp] theorem exec_coldReset (s : State) (c) (r) : exec (.coldReset c r) s = execColdReset c r s := rfl
@[simp] theorem exec_warmReset (s : State) (c) (r) : exec (.warmReset c r) s = execWarmReset c r s := rfl
@[simp] theorem exec_coreReset (s : State) (issuer) (tgt) (pass) (bad) : exec (.coreReset issuer tgt pass bad) s = execCoreReset issuer tgt pass bad s := rfl
@[simp] theorem exec_mclVerify (s : State) : exec (.mclVerify) s = execMclVerify s := rfl
@[simp] theorem exec_verifyComplete (s : State) : exec (.verifyComplete) s = execVerifyComplete s := rfl
@[simp] theorem exec_mclActivate (s : State) : exec (.mclActivate) s = execMclActivate s := rfl
@[simp] theorem exec_microcodeActivation (s : State) : exec (.microcodeActivation) s = execMicrocodeActivation s := rfl
@[simp] theorem exec_lcChange (s : State) (confirm) (target) : exec (.lcChange confirm target) s = execLcChange confirm target s := rfl
@[simp] theorem exec_raiseBsvn (s : State) (confirm) (target) : exec (.raiseBsvn confirm target) s = execRaiseBsvn confirm target s := rfl
@[simp] theorem exec_raiseMsvn (s : State) (confirm) (target) : exec (.raiseMsvn confirm target) s = execRaiseMsvn confirm target s := rfl
@[simp] theorem exec_sliceEnable (s : State) (slice) : exec (.sliceEnable slice) s = execSliceEnable slice s := rfl
@[simp] theorem exec_sliceFreeze (s : State) (slice) : exec (.sliceFreeze slice) s = execSliceFreeze slice s := rfl
@[simp] theorem exec_freezeComplete (s : State) (slice) : exec (.freezeComplete slice) s = execFreezeComplete slice s := rfl
@[simp] theorem exec_sliceThaw (s : State) (slice) : exec (.sliceThaw slice) s = execSliceThaw slice s := rfl
@[simp] theorem exec_sliceSave (s : State) (slice) : exec (.sliceSave slice) s = execSliceSave slice s := rfl
@[simp] theorem exec_sliceRestore (s : State) (slice) : exec (.sliceRestore slice) s = execSliceRestore slice s := rfl
@[simp] theorem exec_sliceBusyEnd (s : State) : exec (.sliceBusyEnd) s = execSliceBusyEnd s := rfl
@[simp] theorem exec_sliceRelease (s : State) (slice) : exec (.sliceRelease slice) s = execSliceRelease slice s := rfl
@[simp] theorem exec_readClear (s : State) (lcn) (port) : exec (.readClear lcn port) s = execReadClear lcn port s := rfl
@[simp] theorem exec_registerWrite (s : State) (lcn) (port) (v) : exec (.registerWrite lcn port v) s = execRegisterWrite lcn port v s := rfl
@[simp] theorem exec_standbySupplyLoss (s : State) (rail) : exec (.standbySupplyLoss rail) s = execStandbySupplyLoss rail s := rfl
@[simp] theorem exec_standbySupplyOn (s : State) : exec (.standbySupplyOn) s = execStandbySupplyOn s := rfl
@[simp] theorem exec_keySlotEccError (s : State) (slice) (slot) : exec (.keySlotEccError slice slot) s = execKeySlotEccError slice slot s := rfl

end Sys2Proof.Machine
end

