-- ==== Sys2Proof/Laws/State.lean ====
section
/-! SUPPORT. What each named update of the state leaves as it was, and the value of the part that it changes. -/

namespace Sys2Proof.Machine

variable (s : State)

@[simp] theorem State.modCore_mem (n : Nat) (f : Core → Core) : (s.modCore n f).mem = s.mem := rfl
@[simp] theorem State.modCore_pool (n : Nat) (f : Core → Core) : (s.modCore n f).pool = s.pool := rfl
@[simp] theorem State.modCore_mc (n : Nat) (f : Core → Core) : (s.modCore n f).mc = s.mc := rfl
@[simp] theorem State.modCore_weir (n : Nat) (f : Core → Core) : (s.modCore n f).weir = s.weir := rfl
@[simp] theorem State.modCore_ct (n : Nat) (f : Core → Core) : (s.modCore n f).ct = s.ct := rfl
@[simp] theorem State.modCore_css (n : Nat) (f : Core → Core) : (s.modCore n f).css = s.css := rfl
@[simp] theorem State.modCore_eth (n : Nat) (f : Core → Core) : (s.modCore n f).eth = s.eth := rfl
@[simp] theorem State.modCore_cz (n : Nat) (f : Core → Core) : (s.modCore n f).cz = s.cz := rfl
@[simp] theorem State.modCore_cx (n : Nat) (f : Core → Core) : (s.modCore n f).cx = s.cx := rfl
@[simp] theorem State.modCore_slices (n : Nat) (f : Core → Core) : (s.modCore n f).slices = s.slices := rfl
@[simp] theorem State.modCore_plant (n : Nat) (f : Core → Core) : (s.modCore n f).plant = s.plant := rfl
@[simp] theorem State.modCore_life (n : Nat) (f : Core → Core) : (s.modCore n f).life = s.life := rfl
@[simp] theorem State.modCore_free (n : Nat) (f : Core → Core) : (s.modCore n f).free = s.free := rfl
@[simp] theorem State.modCore_pending (n : Nat) (f : Core → Core) : (s.modCore n f).pending = s.pending := rfl

@[simp] theorem State.modTimer_mem (n i : Nat) (f : Timer → Timer) : (s.modTimer n i f).mem = s.mem := rfl
@[simp] theorem State.modTimer_pool (n i : Nat) (f : Timer → Timer) : (s.modTimer n i f).pool = s.pool := rfl
@[simp] theorem State.modTimer_mc (n i : Nat) (f : Timer → Timer) : (s.modTimer n i f).mc = s.mc := rfl
@[simp] theorem State.modTimer_weir (n i : Nat) (f : Timer → Timer) : (s.modTimer n i f).weir = s.weir := rfl
@[simp] theorem State.modTimer_ct (n i : Nat) (f : Timer → Timer) : (s.modTimer n i f).ct = s.ct := rfl
@[simp] theorem State.modTimer_css (n i : Nat) (f : Timer → Timer) : (s.modTimer n i f).css = s.css := rfl
@[simp] theorem State.modTimer_eth (n i : Nat) (f : Timer → Timer) : (s.modTimer n i f).eth = s.eth := rfl
@[simp] theorem State.modTimer_cz (n i : Nat) (f : Timer → Timer) : (s.modTimer n i f).cz = s.cz := rfl
@[simp] theorem State.modTimer_cx (n i : Nat) (f : Timer → Timer) : (s.modTimer n i f).cx = s.cx := rfl
@[simp] theorem State.modTimer_slices (n i : Nat) (f : Timer → Timer) : (s.modTimer n i f).slices = s.slices := rfl
@[simp] theorem State.modTimer_plant (n i : Nat) (f : Timer → Timer) : (s.modTimer n i f).plant = s.plant := rfl
@[simp] theorem State.modTimer_life (n i : Nat) (f : Timer → Timer) : (s.modTimer n i f).life = s.life := rfl
@[simp] theorem State.modTimer_free (n i : Nat) (f : Timer → Timer) : (s.modTimer n i f).free = s.free := rfl
@[simp] theorem State.modTimer_pending (n i : Nat) (f : Timer → Timer) : (s.modTimer n i f).pending = s.pending := rfl

@[simp] theorem State.loseResvs_mem (line : Nat) (f : Core → Bool) : (s.loseResvs line f).mem = s.mem := rfl
@[simp] theorem State.loseResvs_pool (line : Nat) (f : Core → Bool) : (s.loseResvs line f).pool = s.pool := rfl
@[simp] theorem State.loseResvs_mc (line : Nat) (f : Core → Bool) : (s.loseResvs line f).mc = s.mc := rfl
@[simp] theorem State.loseResvs_weir (line : Nat) (f : Core → Bool) : (s.loseResvs line f).weir = s.weir := rfl
@[simp] theorem State.loseResvs_ct (line : Nat) (f : Core → Bool) : (s.loseResvs line f).ct = s.ct := rfl
@[simp] theorem State.loseResvs_css (line : Nat) (f : Core → Bool) : (s.loseResvs line f).css = s.css := rfl
@[simp] theorem State.loseResvs_eth (line : Nat) (f : Core → Bool) : (s.loseResvs line f).eth = s.eth := rfl
@[simp] theorem State.loseResvs_cz (line : Nat) (f : Core → Bool) : (s.loseResvs line f).cz = s.cz := rfl
@[simp] theorem State.loseResvs_cx (line : Nat) (f : Core → Bool) : (s.loseResvs line f).cx = s.cx := rfl
@[simp] theorem State.loseResvs_slices (line : Nat) (f : Core → Bool) : (s.loseResvs line f).slices = s.slices := rfl
@[simp] theorem State.loseResvs_plant (line : Nat) (f : Core → Bool) : (s.loseResvs line f).plant = s.plant := rfl
@[simp] theorem State.loseResvs_life (line : Nat) (f : Core → Bool) : (s.loseResvs line f).life = s.life := rfl
@[simp] theorem State.loseResvs_free (line : Nat) (f : Core → Bool) : (s.loseResvs line f).free = s.free := rfl
@[simp] theorem State.loseResvs_pending (line : Nat) (f : Core → Bool) : (s.loseResvs line f).pending = s.pending := rfl

@[simp] theorem State.modPool_cores (f : Pool → Pool) : (s.modPool f).cores = s.cores := rfl
@[simp] theorem State.modPool_mem (f : Pool → Pool) : (s.modPool f).mem = s.mem := rfl
@[simp] theorem State.modPool_mc (f : Pool → Pool) : (s.modPool f).mc = s.mc := rfl
@[simp] theorem State.modPool_weir (f : Pool → Pool) : (s.modPool f).weir = s.weir := rfl
@[simp] theorem State.modPool_ct (f : Pool → Pool) : (s.modPool f).ct = s.ct := rfl
@[simp] theorem State.modPool_css (f : Pool → Pool) : (s.modPool f).css = s.css := rfl
@[simp] theorem State.modPool_eth (f : Pool → Pool) : (s.modPool f).eth = s.eth := rfl
@[simp] theorem State.modPool_cz (f : Pool → Pool) : (s.modPool f).cz = s.cz := rfl
@[simp] theorem State.modPool_cx (f : Pool → Pool) : (s.modPool f).cx = s.cx := rfl
@[simp] theorem State.modPool_slices (f : Pool → Pool) : (s.modPool f).slices = s.slices := rfl
@[simp] theorem State.modPool_plant (f : Pool → Pool) : (s.modPool f).plant = s.plant := rfl
@[simp] theorem State.modPool_life (f : Pool → Pool) : (s.modPool f).life = s.life := rfl
@[simp] theorem State.modPool_free (f : Pool → Pool) : (s.modPool f).free = s.free := rfl
@[simp] theorem State.modPool_pending (f : Pool → Pool) : (s.modPool f).pending = s.pending := rfl
@[simp] theorem State.modPool_pool (f : Pool → Pool) : (s.modPool f).pool = f s.pool := rfl

@[simp] theorem State.modDir_cores (line : Nat) (f : DirEntry → DirEntry) : (s.modDir line f).cores = s.cores := rfl
@[simp] theorem State.modDir_mem (line : Nat) (f : DirEntry → DirEntry) : (s.modDir line f).mem = s.mem := rfl
@[simp] theorem State.modDir_mc (line : Nat) (f : DirEntry → DirEntry) : (s.modDir line f).mc = s.mc := rfl
@[simp] theorem State.modDir_weir (line : Nat) (f : DirEntry → DirEntry) : (s.modDir line f).weir = s.weir := rfl
@[simp] theorem State.modDir_ct (line : Nat) (f : DirEntry → DirEntry) : (s.modDir line f).ct = s.ct := rfl
@[simp] theorem State.modDir_css (line : Nat) (f : DirEntry → DirEntry) : (s.modDir line f).css = s.css := rfl
@[simp] theorem State.modDir_eth (line : Nat) (f : DirEntry → DirEntry) : (s.modDir line f).eth = s.eth := rfl
@[simp] theorem State.modDir_cz (line : Nat) (f : DirEntry → DirEntry) : (s.modDir line f).cz = s.cz := rfl
@[simp] theorem State.modDir_cx (line : Nat) (f : DirEntry → DirEntry) : (s.modDir line f).cx = s.cx := rfl
@[simp] theorem State.modDir_slices (line : Nat) (f : DirEntry → DirEntry) : (s.modDir line f).slices = s.slices := rfl
@[simp] theorem State.modDir_plant (line : Nat) (f : DirEntry → DirEntry) : (s.modDir line f).plant = s.plant := rfl
@[simp] theorem State.modDir_life (line : Nat) (f : DirEntry → DirEntry) : (s.modDir line f).life = s.life := rfl
@[simp] theorem State.modDir_free (line : Nat) (f : DirEntry → DirEntry) : (s.modDir line f).free = s.free := rfl
@[simp] theorem State.modDir_pending (line : Nat) (f : DirEntry → DirEntry) : (s.modDir line f).pending = s.pending := rfl

@[simp] theorem State.forgetLine_cores (line : Nat) : (s.forgetLine line).cores = s.cores := rfl
@[simp] theorem State.forgetLine_mem (line : Nat) : (s.forgetLine line).mem = s.mem := rfl
@[simp] theorem State.forgetLine_mc (line : Nat) : (s.forgetLine line).mc = s.mc := rfl
@[simp] theorem State.forgetLine_weir (line : Nat) : (s.forgetLine line).weir = s.weir := rfl
@[simp] theorem State.forgetLine_ct (line : Nat) : (s.forgetLine line).ct = s.ct := rfl
@[simp] theorem State.forgetLine_css (line : Nat) : (s.forgetLine line).css = s.css := rfl
@[simp] theorem State.forgetLine_eth (line : Nat) : (s.forgetLine line).eth = s.eth := rfl
@[simp] theorem State.forgetLine_cz (line : Nat) : (s.forgetLine line).cz = s.cz := rfl
@[simp] theorem State.forgetLine_cx (line : Nat) : (s.forgetLine line).cx = s.cx := rfl
@[simp] theorem State.forgetLine_slices (line : Nat) : (s.forgetLine line).slices = s.slices := rfl
@[simp] theorem State.forgetLine_plant (line : Nat) : (s.forgetLine line).plant = s.plant := rfl
@[simp] theorem State.forgetLine_life (line : Nat) : (s.forgetLine line).life = s.life := rfl
@[simp] theorem State.forgetLine_free (line : Nat) : (s.forgetLine line).free = s.free := rfl
@[simp] theorem State.forgetLine_pending (line : Nat) : (s.forgetLine line).pending = s.pending := rfl

@[simp] theorem State.install_cores (line w : Nat) : (s.install line w).cores = s.cores := rfl
@[simp] theorem State.install_mem (line w : Nat) : (s.install line w).mem = s.mem := rfl
@[simp] theorem State.install_weir (line w : Nat) : (s.install line w).weir = s.weir := rfl
@[simp] theorem State.install_ct (line w : Nat) : (s.install line w).ct = s.ct := rfl
@[simp] theorem State.install_css (line w : Nat) : (s.install line w).css = s.css := rfl
@[simp] theorem State.install_eth (line w : Nat) : (s.install line w).eth = s.eth := rfl
@[simp] theorem State.install_cz (line w : Nat) : (s.install line w).cz = s.cz := rfl
@[simp] theorem State.install_cx (line w : Nat) : (s.install line w).cx = s.cx := rfl
@[simp] theorem State.install_slices (line w : Nat) : (s.install line w).slices = s.slices := rfl
@[simp] theorem State.install_plant (line w : Nat) : (s.install line w).plant = s.plant := rfl
@[simp] theorem State.install_life (line w : Nat) : (s.install line w).life = s.life := rfl
@[simp] theorem State.install_free (line w : Nat) : (s.install line w).free = s.free := rfl
@[simp] theorem State.install_pending (line w : Nat) : (s.install line w).pending = s.pending := rfl

@[simp] theorem State.modWays_cores (k : Nat) (f : WayState → WayState) : (s.modWays k f).cores = s.cores := rfl
@[simp] theorem State.modWays_mem (k : Nat) (f : WayState → WayState) : (s.modWays k f).mem = s.mem := rfl
@[simp] theorem State.modWays_mc (k : Nat) (f : WayState → WayState) : (s.modWays k f).mc = s.mc := rfl
@[simp] theorem State.modWays_weir (k : Nat) (f : WayState → WayState) : (s.modWays k f).weir = s.weir := rfl
@[simp] theorem State.modWays_ct (k : Nat) (f : WayState → WayState) : (s.modWays k f).ct = s.ct := rfl
@[simp] theorem State.modWays_css (k : Nat) (f : WayState → WayState) : (s.modWays k f).css = s.css := rfl
@[simp] theorem State.modWays_eth (k : Nat) (f : WayState → WayState) : (s.modWays k f).eth = s.eth := rfl
@[simp] theorem State.modWays_cz (k : Nat) (f : WayState → WayState) : (s.modWays k f).cz = s.cz := rfl
@[simp] theorem State.modWays_cx (k : Nat) (f : WayState → WayState) : (s.modWays k f).cx = s.cx := rfl
@[simp] theorem State.modWays_slices (k : Nat) (f : WayState → WayState) : (s.modWays k f).slices = s.slices := rfl
@[simp] theorem State.modWays_plant (k : Nat) (f : WayState → WayState) : (s.modWays k f).plant = s.plant := rfl
@[simp] theorem State.modWays_life (k : Nat) (f : WayState → WayState) : (s.modWays k f).life = s.life := rfl
@[simp] theorem State.modWays_free (k : Nat) (f : WayState → WayState) : (s.modWays k f).free = s.free := rfl
@[simp] theorem State.modWays_pending (k : Nat) (f : WayState → WayState) : (s.modWays k f).pending = s.pending := rfl

@[simp] theorem State.send_cores (a b : Nat) (m : PoolMsg) : (s.send a b m).cores = s.cores := rfl
@[simp] theorem State.send_mem (a b : Nat) (m : PoolMsg) : (s.send a b m).mem = s.mem := rfl
@[simp] theorem State.send_mc (a b : Nat) (m : PoolMsg) : (s.send a b m).mc = s.mc := rfl
@[simp] theorem State.send_weir (a b : Nat) (m : PoolMsg) : (s.send a b m).weir = s.weir := rfl
@[simp] theorem State.send_ct (a b : Nat) (m : PoolMsg) : (s.send a b m).ct = s.ct := rfl
@[simp] theorem State.send_css (a b : Nat) (m : PoolMsg) : (s.send a b m).css = s.css := rfl
@[simp] theorem State.send_eth (a b : Nat) (m : PoolMsg) : (s.send a b m).eth = s.eth := rfl
@[simp] theorem State.send_cz (a b : Nat) (m : PoolMsg) : (s.send a b m).cz = s.cz := rfl
@[simp] theorem State.send_cx (a b : Nat) (m : PoolMsg) : (s.send a b m).cx = s.cx := rfl
@[simp] theorem State.send_slices (a b : Nat) (m : PoolMsg) : (s.send a b m).slices = s.slices := rfl
@[simp] theorem State.send_plant (a b : Nat) (m : PoolMsg) : (s.send a b m).plant = s.plant := rfl
@[simp] theorem State.send_life (a b : Nat) (m : PoolMsg) : (s.send a b m).life = s.life := rfl
@[simp] theorem State.send_free (a b : Nat) (m : PoolMsg) : (s.send a b m).free = s.free := rfl
@[simp] theorem State.send_pending (a b : Nat) (m : PoolMsg) : (s.send a b m).pending = s.pending := rfl

@[simp] theorem State.modGroup_cores (g : Nat) (f : MemGroup → MemGroup) : (s.modGroup g f).cores = s.cores := rfl
@[simp] theorem State.modGroup_mem (g : Nat) (f : MemGroup → MemGroup) : (s.modGroup g f).mem = s.mem := rfl
@[simp] theorem State.modGroup_pool (g : Nat) (f : MemGroup → MemGroup) : (s.modGroup g f).pool = s.pool := rfl
@[simp] theorem State.modGroup_weir (g : Nat) (f : MemGroup → MemGroup) : (s.modGroup g f).weir = s.weir := rfl
@[simp] theorem State.modGroup_ct (g : Nat) (f : MemGroup → MemGroup) : (s.modGroup g f).ct = s.ct := rfl
@[simp] theorem State.modGroup_css (g : Nat) (f : MemGroup → MemGroup) : (s.modGroup g f).css = s.css := rfl
@[simp] theorem State.modGroup_eth (g : Nat) (f : MemGroup → MemGroup) : (s.modGroup g f).eth = s.eth := rfl
@[simp] theorem State.modGroup_cz (g : Nat) (f : MemGroup → MemGroup) : (s.modGroup g f).cz = s.cz := rfl
@[simp] theorem State.modGroup_cx (g : Nat) (f : MemGroup → MemGroup) : (s.modGroup g f).cx = s.cx := rfl
@[simp] theorem State.modGroup_slices (g : Nat) (f : MemGroup → MemGroup) : (s.modGroup g f).slices = s.slices := rfl
@[simp] theorem State.modGroup_plant (g : Nat) (f : MemGroup → MemGroup) : (s.modGroup g f).plant = s.plant := rfl
@[simp] theorem State.modGroup_life (g : Nat) (f : MemGroup → MemGroup) : (s.modGroup g f).life = s.life := rfl
@[simp] theorem State.modGroup_free (g : Nat) (f : MemGroup → MemGroup) : (s.modGroup g f).free = s.free := rfl
@[simp] theorem State.modGroup_pending (g : Nat) (f : MemGroup → MemGroup) : (s.modGroup g f).pending = s.pending := rfl

@[simp] theorem State.modWeir_cores (f : Weir → Weir) : (s.modWeir f).cores = s.cores := rfl
@[simp] theorem State.modWeir_mem (f : Weir → Weir) : (s.modWeir f).mem = s.mem := rfl
@[simp] theorem State.modWeir_pool (f : Weir → Weir) : (s.modWeir f).pool = s.pool := rfl
@[simp] theorem State.modWeir_mc (f : Weir → Weir) : (s.modWeir f).mc = s.mc := rfl
@[simp] theorem State.modWeir_ct (f : Weir → Weir) : (s.modWeir f).ct = s.ct := rfl
@[simp] theorem State.modWeir_css (f : Weir → Weir) : (s.modWeir f).css = s.css := rfl
@[simp] theorem State.modWeir_eth (f : Weir → Weir) : (s.modWeir f).eth = s.eth := rfl
@[simp] theorem State.modWeir_cz (f : Weir → Weir) : (s.modWeir f).cz = s.cz := rfl
@[simp] theorem State.modWeir_cx (f : Weir → Weir) : (s.modWeir f).cx = s.cx := rfl
@[simp] theorem State.modWeir_slices (f : Weir → Weir) : (s.modWeir f).slices = s.slices := rfl
@[simp] theorem State.modWeir_plant (f : Weir → Weir) : (s.modWeir f).plant = s.plant := rfl
@[simp] theorem State.modWeir_life (f : Weir → Weir) : (s.modWeir f).life = s.life := rfl
@[simp] theorem State.modWeir_free (f : Weir → Weir) : (s.modWeir f).free = s.free := rfl
@[simp] theorem State.modWeir_pending (f : Weir → Weir) : (s.modWeir f).pending = s.pending := rfl
@[simp] theorem State.modWeir_weir (f : Weir → Weir) : (s.modWeir f).weir = f s.weir := rfl

@[simp] theorem State.modCt_cores (f : Ct → Ct) : (s.modCt f).cores = s.cores := rfl
@[simp] theorem State.modCt_mem (f : Ct → Ct) : (s.modCt f).mem = s.mem := rfl
@[simp] theorem State.modCt_pool (f : Ct → Ct) : (s.modCt f).pool = s.pool := rfl
@[simp] theorem State.modCt_mc (f : Ct → Ct) : (s.modCt f).mc = s.mc := rfl
@[simp] theorem State.modCt_weir (f : Ct → Ct) : (s.modCt f).weir = s.weir := rfl
@[simp] theorem State.modCt_css (f : Ct → Ct) : (s.modCt f).css = s.css := rfl
@[simp] theorem State.modCt_eth (f : Ct → Ct) : (s.modCt f).eth = s.eth := rfl
@[simp] theorem State.modCt_cz (f : Ct → Ct) : (s.modCt f).cz = s.cz := rfl
@[simp] theorem State.modCt_cx (f : Ct → Ct) : (s.modCt f).cx = s.cx := rfl
@[simp] theorem State.modCt_slices (f : Ct → Ct) : (s.modCt f).slices = s.slices := rfl
@[simp] theorem State.modCt_plant (f : Ct → Ct) : (s.modCt f).plant = s.plant := rfl
@[simp] theorem State.modCt_life (f : Ct → Ct) : (s.modCt f).life = s.life := rfl
@[simp] theorem State.modCt_free (f : Ct → Ct) : (s.modCt f).free = s.free := rfl
@[simp] theorem State.modCt_pending (f : Ct → Ct) : (s.modCt f).pending = s.pending := rfl
@[simp] theorem State.modCt_ct (f : Ct → Ct) : (s.modCt f).ct = f s.ct := rfl

@[simp] theorem State.modRec_cores (g : Word32) (f : JRec → JRec) : (s.modRec g f).cores = s.cores := rfl
@[simp] theorem State.modRec_mem (g : Word32) (f : JRec → JRec) : (s.modRec g f).mem = s.mem := rfl
@[simp] theorem State.modRec_pool (g : Word32) (f : JRec → JRec) : (s.modRec g f).pool = s.pool := rfl
@[simp] theorem State.modRec_mc (g : Word32) (f : JRec → JRec) : (s.modRec g f).mc = s.mc := rfl
@[simp] theorem State.modRec_weir (g : Word32) (f : JRec → JRec) : (s.modRec g f).weir = s.weir := rfl
@[simp] theorem State.modRec_css (g : Word32) (f : JRec → JRec) : (s.modRec g f).css = s.css := rfl
@[simp] theorem State.modRec_eth (g : Word32) (f : JRec → JRec) : (s.modRec g f).eth = s.eth := rfl
@[simp] theorem State.modRec_cz (g : Word32) (f : JRec → JRec) : (s.modRec g f).cz = s.cz := rfl
@[simp] theorem State.modRec_cx (g : Word32) (f : JRec → JRec) : (s.modRec g f).cx = s.cx := rfl
@[simp] theorem State.modRec_slices (g : Word32) (f : JRec → JRec) : (s.modRec g f).slices = s.slices := rfl
@[simp] theorem State.modRec_plant (g : Word32) (f : JRec → JRec) : (s.modRec g f).plant = s.plant := rfl
@[simp] theorem State.modRec_life (g : Word32) (f : JRec → JRec) : (s.modRec g f).life = s.life := rfl
@[simp] theorem State.modRec_free (g : Word32) (f : JRec → JRec) : (s.modRec g f).free = s.free := rfl
@[simp] theorem State.modRec_pending (g : Word32) (f : JRec → JRec) : (s.modRec g f).pending = s.pending := rfl

@[simp] theorem State.modSlot_cores (i : Nat) (f : Slot → Slot) : (s.modSlot i f).cores = s.cores := rfl
@[simp] theorem State.modSlot_mem (i : Nat) (f : Slot → Slot) : (s.modSlot i f).mem = s.mem := rfl
@[simp] theorem State.modSlot_pool (i : Nat) (f : Slot → Slot) : (s.modSlot i f).pool = s.pool := rfl
@[simp] theorem State.modSlot_mc (i : Nat) (f : Slot → Slot) : (s.modSlot i f).mc = s.mc := rfl
@[simp] theorem State.modSlot_weir (i : Nat) (f : Slot → Slot) : (s.modSlot i f).weir = s.weir := rfl
@[simp] theorem State.modSlot_css (i : Nat) (f : Slot → Slot) : (s.modSlot i f).css = s.css := rfl
@[simp] theorem State.modSlot_eth (i : Nat) (f : Slot → Slot) : (s.modSlot i f).eth = s.eth := rfl
@[simp] theorem State.modSlot_cz (i : Nat) (f : Slot → Slot) : (s.modSlot i f).cz = s.cz := rfl
@[simp] theorem State.modSlot_cx (i : Nat) (f : Slot → Slot) : (s.modSlot i f).cx = s.cx := rfl
@[simp] theorem State.modSlot_slices (i : Nat) (f : Slot → Slot) : (s.modSlot i f).slices = s.slices := rfl
@[simp] theorem State.modSlot_plant (i : Nat) (f : Slot → Slot) : (s.modSlot i f).plant = s.plant := rfl
@[simp] theorem State.modSlot_life (i : Nat) (f : Slot → Slot) : (s.modSlot i f).life = s.life := rfl
@[simp] theorem State.modSlot_free (i : Nat) (f : Slot → Slot) : (s.modSlot i f).free = s.free := rfl
@[simp] theorem State.modSlot_pending (i : Nat) (f : Slot → Slot) : (s.modSlot i f).pending = s.pending := rfl

@[simp] theorem State.modCss_cores (f : Css → Css) : (s.modCss f).cores = s.cores := rfl
@[simp] theorem State.modCss_mem (f : Css → Css) : (s.modCss f).mem = s.mem := rfl
@[simp] theorem State.modCss_pool (f : Css → Css) : (s.modCss f).pool = s.pool := rfl
@[simp] theorem State.modCss_mc (f : Css → Css) : (s.modCss f).mc = s.mc := rfl
@[simp] theorem State.modCss_weir (f : Css → Css) : (s.modCss f).weir = s.weir := rfl
@[simp] theorem State.modCss_ct (f : Css → Css) : (s.modCss f).ct = s.ct := rfl
@[simp] theorem State.modCss_eth (f : Css → Css) : (s.modCss f).eth = s.eth := rfl
@[simp] theorem State.modCss_cz (f : Css → Css) : (s.modCss f).cz = s.cz := rfl
@[simp] theorem State.modCss_cx (f : Css → Css) : (s.modCss f).cx = s.cx := rfl
@[simp] theorem State.modCss_slices (f : Css → Css) : (s.modCss f).slices = s.slices := rfl
@[simp] theorem State.modCss_plant (f : Css → Css) : (s.modCss f).plant = s.plant := rfl
@[simp] theorem State.modCss_life (f : Css → Css) : (s.modCss f).life = s.life := rfl
@[simp] theorem State.modCss_free (f : Css → Css) : (s.modCss f).free = s.free := rfl
@[simp] theorem State.modCss_pending (f : Css → Css) : (s.modCss f).pending = s.pending := rfl
@[simp] theorem State.modCss_css (f : Css → Css) : (s.modCss f).css = f s.css := rfl

@[simp] theorem State.modOp_cores (id : Nat) (f : Operation → Operation) : (s.modOp id f).cores = s.cores := rfl
@[simp] theorem State.modOp_mem (id : Nat) (f : Operation → Operation) : (s.modOp id f).mem = s.mem := rfl
@[simp] theorem State.modOp_pool (id : Nat) (f : Operation → Operation) : (s.modOp id f).pool = s.pool := rfl
@[simp] theorem State.modOp_mc (id : Nat) (f : Operation → Operation) : (s.modOp id f).mc = s.mc := rfl
@[simp] theorem State.modOp_weir (id : Nat) (f : Operation → Operation) : (s.modOp id f).weir = s.weir := rfl
@[simp] theorem State.modOp_ct (id : Nat) (f : Operation → Operation) : (s.modOp id f).ct = s.ct := rfl
@[simp] theorem State.modOp_eth (id : Nat) (f : Operation → Operation) : (s.modOp id f).eth = s.eth := rfl
@[simp] theorem State.modOp_cz (id : Nat) (f : Operation → Operation) : (s.modOp id f).cz = s.cz := rfl
@[simp] theorem State.modOp_cx (id : Nat) (f : Operation → Operation) : (s.modOp id f).cx = s.cx := rfl
@[simp] theorem State.modOp_slices (id : Nat) (f : Operation → Operation) : (s.modOp id f).slices = s.slices := rfl
@[simp] theorem State.modOp_plant (id : Nat) (f : Operation → Operation) : (s.modOp id f).plant = s.plant := rfl
@[simp] theorem State.modOp_life (id : Nat) (f : Operation → Operation) : (s.modOp id f).life = s.life := rfl
@[simp] theorem State.modOp_free (id : Nat) (f : Operation → Operation) : (s.modOp id f).free = s.free := rfl
@[simp] theorem State.modOp_pending (id : Nat) (f : Operation → Operation) : (s.modOp id f).pending = s.pending := rfl

@[simp] theorem State.modCq_cores (q : Nat) (f : Cq → Cq) : (s.modCq q f).cores = s.cores := rfl
@[simp] theorem State.modCq_mem (q : Nat) (f : Cq → Cq) : (s.modCq q f).mem = s.mem := rfl
@[simp] theorem State.modCq_pool (q : Nat) (f : Cq → Cq) : (s.modCq q f).pool = s.pool := rfl
@[simp] theorem State.modCq_mc (q : Nat) (f : Cq → Cq) : (s.modCq q f).mc = s.mc := rfl
@[simp] theorem State.modCq_weir (q : Nat) (f : Cq → Cq) : (s.modCq q f).weir = s.weir := rfl
@[simp] theorem State.modCq_ct (q : Nat) (f : Cq → Cq) : (s.modCq q f).ct = s.ct := rfl
@[simp] theorem State.modCq_eth (q : Nat) (f : Cq → Cq) : (s.modCq q f).eth = s.eth := rfl
@[simp] theorem State.modCq_cz (q : Nat) (f : Cq → Cq) : (s.modCq q f).cz = s.cz := rfl
@[simp] theorem State.modCq_cx (q : Nat) (f : Cq → Cq) : (s.modCq q f).cx = s.cx := rfl
@[simp] theorem State.modCq_slices (q : Nat) (f : Cq → Cq) : (s.modCq q f).slices = s.slices := rfl
@[simp] theorem State.modCq_plant (q : Nat) (f : Cq → Cq) : (s.modCq q f).plant = s.plant := rfl
@[simp] theorem State.modCq_life (q : Nat) (f : Cq → Cq) : (s.modCq q f).life = s.life := rfl
@[simp] theorem State.modCq_free (q : Nat) (f : Cq → Cq) : (s.modCq q f).free = s.free := rfl
@[simp] theorem State.modCq_pending (q : Nat) (f : Cq → Cq) : (s.modCq q f).pending = s.pending := rfl

@[simp] theorem State.modLink_cores (f : LeatLink → LeatLink) : (s.modLink f).cores = s.cores := rfl
@[simp] theorem State.modLink_mem (f : LeatLink → LeatLink) : (s.modLink f).mem = s.mem := rfl
@[simp] theorem State.modLink_pool (f : LeatLink → LeatLink) : (s.modLink f).pool = s.pool := rfl
@[simp] theorem State.modLink_mc (f : LeatLink → LeatLink) : (s.modLink f).mc = s.mc := rfl
@[simp] theorem State.modLink_weir (f : LeatLink → LeatLink) : (s.modLink f).weir = s.weir := rfl
@[simp] theorem State.modLink_ct (f : LeatLink → LeatLink) : (s.modLink f).ct = s.ct := rfl
@[simp] theorem State.modLink_css (f : LeatLink → LeatLink) : (s.modLink f).css = s.css := rfl
@[simp] theorem State.modLink_cz (f : LeatLink → LeatLink) : (s.modLink f).cz = s.cz := rfl
@[simp] theorem State.modLink_cx (f : LeatLink → LeatLink) : (s.modLink f).cx = s.cx := rfl
@[simp] theorem State.modLink_slices (f : LeatLink → LeatLink) : (s.modLink f).slices = s.slices := rfl
@[simp] theorem State.modLink_plant (f : LeatLink → LeatLink) : (s.modLink f).plant = s.plant := rfl
@[simp] theorem State.modLink_life (f : LeatLink → LeatLink) : (s.modLink f).life = s.life := rfl
@[simp] theorem State.modLink_free (f : LeatLink → LeatLink) : (s.modLink f).free = s.free := rfl
@[simp] theorem State.modLink_pending (f : LeatLink → LeatLink) : (s.modLink f).pending = s.pending := rfl

@[simp] theorem State.modPort_cores (p : Nat) (f : EthPort → EthPort) : (s.modPort p f).cores = s.cores := rfl
@[simp] theorem State.modPort_mem (p : Nat) (f : EthPort → EthPort) : (s.modPort p f).mem = s.mem := rfl
@[simp] theorem State.modPort_pool (p : Nat) (f : EthPort → EthPort) : (s.modPort p f).pool = s.pool := rfl
@[simp] theorem State.modPort_mc (p : Nat) (f : EthPort → EthPort) : (s.modPort p f).mc = s.mc := rfl
@[simp] theorem State.modPort_weir (p : Nat) (f : EthPort → EthPort) : (s.modPort p f).weir = s.weir := rfl
@[simp] theorem State.modPort_ct (p : Nat) (f : EthPort → EthPort) : (s.modPort p f).ct = s.ct := rfl
@[simp] theorem State.modPort_css (p : Nat) (f : EthPort → EthPort) : (s.modPort p f).css = s.css := rfl
@[simp] theorem State.modPort_cz (p : Nat) (f : EthPort → EthPort) : (s.modPort p f).cz = s.cz := rfl
@[simp] theorem State.modPort_cx (p : Nat) (f : EthPort → EthPort) : (s.modPort p f).cx = s.cx := rfl
@[simp] theorem State.modPort_slices (p : Nat) (f : EthPort → EthPort) : (s.modPort p f).slices = s.slices := rfl
@[simp] theorem State.modPort_plant (p : Nat) (f : EthPort → EthPort) : (s.modPort p f).plant = s.plant := rfl
@[simp] theorem State.modPort_life (p : Nat) (f : EthPort → EthPort) : (s.modPort p f).life = s.life := rfl
@[simp] theorem State.modPort_free (p : Nat) (f : EthPort → EthPort) : (s.modPort p f).free = s.free := rfl
@[simp] theorem State.modPort_pending (p : Nat) (f : EthPort → EthPort) : (s.modPort p f).pending = s.pending := rfl

@[simp] theorem State.modCz_cores (f : Cz → Cz) : (s.modCz f).cores = s.cores := rfl
@[simp] theorem State.modCz_mem (f : Cz → Cz) : (s.modCz f).mem = s.mem := rfl
@[simp] theorem State.modCz_pool (f : Cz → Cz) : (s.modCz f).pool = s.pool := rfl
@[simp] theorem State.modCz_mc (f : Cz → Cz) : (s.modCz f).mc = s.mc := rfl
@[simp] theorem State.modCz_weir (f : Cz → Cz) : (s.modCz f).weir = s.weir := rfl
@[simp] theorem State.modCz_ct (f : Cz → Cz) : (s.modCz f).ct = s.ct := rfl
@[simp] theorem State.modCz_css (f : Cz → Cz) : (s.modCz f).css = s.css := rfl
@[simp] theorem State.modCz_eth (f : Cz → Cz) : (s.modCz f).eth = s.eth := rfl
@[simp] theorem State.modCz_cx (f : Cz → Cz) : (s.modCz f).cx = s.cx := rfl
@[simp] theorem State.modCz_slices (f : Cz → Cz) : (s.modCz f).slices = s.slices := rfl
@[simp] theorem State.modCz_plant (f : Cz → Cz) : (s.modCz f).plant = s.plant := rfl
@[simp] theorem State.modCz_life (f : Cz → Cz) : (s.modCz f).life = s.life := rfl
@[simp] theorem State.modCz_free (f : Cz → Cz) : (s.modCz f).free = s.free := rfl
@[simp] theorem State.modCz_pending (f : Cz → Cz) : (s.modCz f).pending = s.pending := rfl
@[simp] theorem State.modCz_cz (f : Cz → Cz) : (s.modCz f).cz = f s.cz := rfl

@[simp] theorem State.setCzRing_cores (k : Nat) (r : RingPair) : (s.setCzRing k r).cores = s.cores := rfl
@[simp] theorem State.setCzRing_mem (k : Nat) (r : RingPair) : (s.setCzRing k r).mem = s.mem := rfl
@[simp] theorem State.setCzRing_pool (k : Nat) (r : RingPair) : (s.setCzRing k r).pool = s.pool := rfl
@[simp] theorem State.setCzRing_mc (k : Nat) (r : RingPair) : (s.setCzRing k r).mc = s.mc := rfl
@[simp] theorem State.setCzRing_weir (k : Nat) (r : RingPair) : (s.setCzRing k r).weir = s.weir := rfl
@[simp] theorem State.setCzRing_ct (k : Nat) (r : RingPair) : (s.setCzRing k r).ct = s.ct := rfl
@[simp] theorem State.setCzRing_css (k : Nat) (r : RingPair) : (s.setCzRing k r).css = s.css := rfl
@[simp] theorem State.setCzRing_eth (k : Nat) (r : RingPair) : (s.setCzRing k r).eth = s.eth := rfl
@[simp] theorem State.setCzRing_cx (k : Nat) (r : RingPair) : (s.setCzRing k r).cx = s.cx := rfl
@[simp] theorem State.setCzRing_slices (k : Nat) (r : RingPair) : (s.setCzRing k r).slices = s.slices := rfl
@[simp] theorem State.setCzRing_plant (k : Nat) (r : RingPair) : (s.setCzRing k r).plant = s.plant := rfl
@[simp] theorem State.setCzRing_life (k : Nat) (r : RingPair) : (s.setCzRing k r).life = s.life := rfl
@[simp] theorem State.setCzRing_free (k : Nat) (r : RingPair) : (s.setCzRing k r).free = s.free := rfl
@[simp] theorem State.setCzRing_pending (k : Nat) (r : RingPair) : (s.setCzRing k r).pending = s.pending := rfl

@[simp] theorem State.setCzJob_cores (i : Nat) (j : Option CzJob) : (s.setCzJob i j).cores = s.cores := rfl
@[simp] theorem State.setCzJob_mem (i : Nat) (j : Option CzJob) : (s.setCzJob i j).mem = s.mem := rfl
@[simp] theorem State.setCzJob_pool (i : Nat) (j : Option CzJob) : (s.setCzJob i j).pool = s.pool := rfl
@[simp] theorem State.setCzJob_mc (i : Nat) (j : Option CzJob) : (s.setCzJob i j).mc = s.mc := rfl
@[simp] theorem State.setCzJob_weir (i : Nat) (j : Option CzJob) : (s.setCzJob i j).weir = s.weir := rfl
@[simp] theorem State.setCzJob_ct (i : Nat) (j : Option CzJob) : (s.setCzJob i j).ct = s.ct := rfl
@[simp] theorem State.setCzJob_css (i : Nat) (j : Option CzJob) : (s.setCzJob i j).css = s.css := rfl
@[simp] theorem State.setCzJob_eth (i : Nat) (j : Option CzJob) : (s.setCzJob i j).eth = s.eth := rfl
@[simp] theorem State.setCzJob_cx (i : Nat) (j : Option CzJob) : (s.setCzJob i j).cx = s.cx := rfl
@[simp] theorem State.setCzJob_slices (i : Nat) (j : Option CzJob) : (s.setCzJob i j).slices = s.slices := rfl
@[simp] theorem State.setCzJob_plant (i : Nat) (j : Option CzJob) : (s.setCzJob i j).plant = s.plant := rfl
@[simp] theorem State.setCzJob_life (i : Nat) (j : Option CzJob) : (s.setCzJob i j).life = s.life := rfl
@[simp] theorem State.setCzJob_free (i : Nat) (j : Option CzJob) : (s.setCzJob i j).free = s.free := rfl
@[simp] theorem State.setCzJob_pending (i : Nat) (j : Option CzJob) : (s.setCzJob i j).pending = s.pending := rfl

@[simp] theorem State.modCx_cores (f : Cx → Cx) : (s.modCx f).cores = s.cores := rfl
@[simp] theorem State.modCx_mem (f : Cx → Cx) : (s.modCx f).mem = s.mem := rfl
@[simp] theorem State.modCx_pool (f : Cx → Cx) : (s.modCx f).pool = s.pool := rfl
@[simp] theorem State.modCx_mc (f : Cx → Cx) : (s.modCx f).mc = s.mc := rfl
@[simp] theorem State.modCx_weir (f : Cx → Cx) : (s.modCx f).weir = s.weir := rfl
@[simp] theorem State.modCx_ct (f : Cx → Cx) : (s.modCx f).ct = s.ct := rfl
@[simp] theorem State.modCx_css (f : Cx → Cx) : (s.modCx f).css = s.css := rfl
@[simp] theorem State.modCx_eth (f : Cx → Cx) : (s.modCx f).eth = s.eth := rfl
@[simp] theorem State.modCx_cz (f : Cx → Cx) : (s.modCx f).cz = s.cz := rfl
@[simp] theorem State.modCx_slices (f : Cx → Cx) : (s.modCx f).slices = s.slices := rfl
@[simp] theorem State.modCx_plant (f : Cx → Cx) : (s.modCx f).plant = s.plant := rfl
@[simp] theorem State.modCx_life (f : Cx → Cx) : (s.modCx f).life = s.life := rfl
@[simp] theorem State.modCx_free (f : Cx → Cx) : (s.modCx f).free = s.free := rfl
@[simp] theorem State.modCx_pending (f : Cx → Cx) : (s.modCx f).pending = s.pending := rfl
@[simp] theorem State.modCx_cx (f : Cx → Cx) : (s.modCx f).cx = f s.cx := rfl

@[simp] theorem State.setCxRing_cores (k : Nat) (r : RingPair) : (s.setCxRing k r).cores = s.cores := rfl
@[simp] theorem State.setCxRing_mem (k : Nat) (r : RingPair) : (s.setCxRing k r).mem = s.mem := rfl
@[simp] theorem State.setCxRing_pool (k : Nat) (r : RingPair) : (s.setCxRing k r).pool = s.pool := rfl
@[simp] theorem State.setCxRing_mc (k : Nat) (r : RingPair) : (s.setCxRing k r).mc = s.mc := rfl
@[simp] theorem State.setCxRing_weir (k : Nat) (r : RingPair) : (s.setCxRing k r).weir = s.weir := rfl
@[simp] theorem State.setCxRing_ct (k : Nat) (r : RingPair) : (s.setCxRing k r).ct = s.ct := rfl
@[simp] theorem State.setCxRing_css (k : Nat) (r : RingPair) : (s.setCxRing k r).css = s.css := rfl
@[simp] theorem State.setCxRing_eth (k : Nat) (r : RingPair) : (s.setCxRing k r).eth = s.eth := rfl
@[simp] theorem State.setCxRing_cz (k : Nat) (r : RingPair) : (s.setCxRing k r).cz = s.cz := rfl
@[simp] theorem State.setCxRing_slices (k : Nat) (r : RingPair) : (s.setCxRing k r).slices = s.slices := rfl
@[simp] theorem State.setCxRing_plant (k : Nat) (r : RingPair) : (s.setCxRing k r).plant = s.plant := rfl
@[simp] theorem State.setCxRing_life (k : Nat) (r : RingPair) : (s.setCxRing k r).life = s.life := rfl
@[simp] theorem State.setCxRing_free (k : Nat) (r : RingPair) : (s.setCxRing k r).free = s.free := rfl
@[simp] theorem State.setCxRing_pending (k : Nat) (r : RingPair) : (s.setCxRing k r).pending = s.pending := rfl

@[simp] theorem State.setCxJob_cores (i : Nat) (j : Option CxJob) : (s.setCxJob i j).cores = s.cores := rfl
@[simp] theorem State.setCxJob_mem (i : Nat) (j : Option CxJob) : (s.setCxJob i j).mem = s.mem := rfl
@[simp] theorem State.setCxJob_pool (i : Nat) (j : Option CxJob) : (s.setCxJob i j).pool = s.pool := rfl
@[simp] theorem State.setCxJob_mc (i : Nat) (j : Option CxJob) : (s.setCxJob i j).mc = s.mc := rfl
@[simp] theorem State.setCxJob_weir (i : Nat) (j : Option CxJob) : (s.setCxJob i j).weir = s.weir := rfl
@[simp] theorem State.setCxJob_ct (i : Nat) (j : Option CxJob) : (s.setCxJob i j).ct = s.ct := rfl
@[simp] theorem State.setCxJob_css (i : Nat) (j : Option CxJob) : (s.setCxJob i j).css = s.css := rfl
@[simp] theorem State.setCxJob_eth (i : Nat) (j : Option CxJob) : (s.setCxJob i j).eth = s.eth := rfl
@[simp] theorem State.setCxJob_cz (i : Nat) (j : Option CxJob) : (s.setCxJob i j).cz = s.cz := rfl
@[simp] theorem State.setCxJob_slices (i : Nat) (j : Option CxJob) : (s.setCxJob i j).slices = s.slices := rfl
@[simp] theorem State.setCxJob_plant (i : Nat) (j : Option CxJob) : (s.setCxJob i j).plant = s.plant := rfl
@[simp] theorem State.setCxJob_life (i : Nat) (j : Option CxJob) : (s.setCxJob i j).life = s.life := rfl
@[simp] theorem State.setCxJob_free (i : Nat) (j : Option CxJob) : (s.setCxJob i j).free = s.free := rfl
@[simp] theorem State.setCxJob_pending (i : Nat) (j : Option CxJob) : (s.setCxJob i j).pending = s.pending := rfl

@[simp] theorem State.modKeyPorts_cores (k : Nat) (f : KeyPorts → KeyPorts) : (s.modKeyPorts k f).cores = s.cores := rfl
@[simp] theorem State.modKeyPorts_mem (k : Nat) (f : KeyPorts → KeyPorts) : (s.modKeyPorts k f).mem = s.mem := rfl
@[simp] theorem State.modKeyPorts_pool (k : Nat) (f : KeyPorts → KeyPorts) : (s.modKeyPorts k f).pool = s.pool := rfl
@[simp] theorem State.modKeyPorts_mc (k : Nat) (f : KeyPorts → KeyPorts) : (s.modKeyPorts k f).mc = s.mc := rfl
@[simp] theorem State.modKeyPorts_weir (k : Nat) (f : KeyPorts → KeyPorts) : (s.modKeyPorts k f).weir = s.weir := rfl
@[simp] theorem State.modKeyPorts_ct (k : Nat) (f : KeyPorts → KeyPorts) : (s.modKeyPorts k f).ct = s.ct := rfl
@[simp] theorem State.modKeyPorts_css (k : Nat) (f : KeyPorts → KeyPorts) : (s.modKeyPorts k f).css = s.css := rfl
@[simp] theorem State.modKeyPorts_eth (k : Nat) (f : KeyPorts → KeyPorts) : (s.modKeyPorts k f).eth = s.eth := rfl
@[simp] theorem State.modKeyPorts_cz (k : Nat) (f : KeyPorts → KeyPorts) : (s.modKeyPorts k f).cz = s.cz := rfl
@[simp] theorem State.modKeyPorts_slices (k : Nat) (f : KeyPorts → KeyPorts) : (s.modKeyPorts k f).slices = s.slices := rfl
@[simp] theorem State.modKeyPorts_plant (k : Nat) (f : KeyPorts → KeyPorts) : (s.modKeyPorts k f).plant = s.plant := rfl
@[simp] theorem State.modKeyPorts_life (k : Nat) (f : KeyPorts → KeyPorts) : (s.modKeyPorts k f).life = s.life := rfl
@[simp] theorem State.modKeyPorts_free (k : Nat) (f : KeyPorts → KeyPorts) : (s.modKeyPorts k f).free = s.free := rfl
@[simp] theorem State.modKeyPorts_pending (k : Nat) (f : KeyPorts → KeyPorts) : (s.modKeyPorts k f).pending = s.pending := rfl

@[simp] theorem State.modLeat_cores (p : Nat) (f : LeatSec → LeatSec) : (s.modLeat p f).cores = s.cores := rfl
@[simp] theorem State.modLeat_mem (p : Nat) (f : LeatSec → LeatSec) : (s.modLeat p f).mem = s.mem := rfl
@[simp] theorem State.modLeat_pool (p : Nat) (f : LeatSec → LeatSec) : (s.modLeat p f).pool = s.pool := rfl
@[simp] theorem State.modLeat_mc (p : Nat) (f : LeatSec → LeatSec) : (s.modLeat p f).mc = s.mc := rfl
@[simp] theorem State.modLeat_weir (p : Nat) (f : LeatSec → LeatSec) : (s.modLeat p f).weir = s.weir := rfl
@[simp] theorem State.modLeat_ct (p : Nat) (f : LeatSec → LeatSec) : (s.modLeat p f).ct = s.ct := rfl
@[simp] theorem State.modLeat_css (p : Nat) (f : LeatSec → LeatSec) : (s.modLeat p f).css = s.css := rfl
@[simp] theorem State.modLeat_eth (p : Nat) (f : LeatSec → LeatSec) : (s.modLeat p f).eth = s.eth := rfl
@[simp] theorem State.modLeat_cz (p : Nat) (f : LeatSec → LeatSec) : (s.modLeat p f).cz = s.cz := rfl
@[simp] theorem State.modLeat_slices (p : Nat) (f : LeatSec → LeatSec) : (s.modLeat p f).slices = s.slices := rfl
@[simp] theorem State.modLeat_plant (p : Nat) (f : LeatSec → LeatSec) : (s.modLeat p f).plant = s.plant := rfl
@[simp] theorem State.modLeat_life (p : Nat) (f : LeatSec → LeatSec) : (s.modLeat p f).life = s.life := rfl
@[simp] theorem State.modLeat_free (p : Nat) (f : LeatSec → LeatSec) : (s.modLeat p f).free = s.free := rfl
@[simp] theorem State.modLeat_pending (p : Nat) (f : LeatSec → LeatSec) : (s.modLeat p f).pending = s.pending := rfl

@[simp] theorem State.modSlices_cores (f : Slices → Slices) : (s.modSlices f).cores = s.cores := rfl
@[simp] theorem State.modSlices_mem (f : Slices → Slices) : (s.modSlices f).mem = s.mem := rfl
@[simp] theorem State.modSlices_pool (f : Slices → Slices) : (s.modSlices f).pool = s.pool := rfl
@[simp] theorem State.modSlices_mc (f : Slices → Slices) : (s.modSlices f).mc = s.mc := rfl
@[simp] theorem State.modSlices_weir (f : Slices → Slices) : (s.modSlices f).weir = s.weir := rfl
@[simp] theorem State.modSlices_ct (f : Slices → Slices) : (s.modSlices f).ct = s.ct := rfl
@[simp] theorem State.modSlices_css (f : Slices → Slices) : (s.modSlices f).css = s.css := rfl
@[simp] theorem State.modSlices_eth (f : Slices → Slices) : (s.modSlices f).eth = s.eth := rfl
@[simp] theorem State.modSlices_cz (f : Slices → Slices) : (s.modSlices f).cz = s.cz := rfl
@[simp] theorem State.modSlices_cx (f : Slices → Slices) : (s.modSlices f).cx = s.cx := rfl
@[simp] theorem State.modSlices_plant (f : Slices → Slices) : (s.modSlices f).plant = s.plant := rfl
@[simp] theorem State.modSlices_life (f : Slices → Slices) : (s.modSlices f).life = s.life := rfl
@[simp] theorem State.modSlices_free (f : Slices → Slices) : (s.modSlices f).free = s.free := rfl
@[simp] theorem State.modSlices_pending (f : Slices → Slices) : (s.modSlices f).pending = s.pending := rfl
@[simp] theorem State.modSlices_slices (f : Slices → Slices) : (s.modSlices f).slices = f s.slices := rfl

@[simp] theorem State.modSlice_cores (k : Nat) (f : Slice → Slice) : (s.modSlice k f).cores = s.cores := rfl
@[simp] theorem State.modSlice_mem (k : Nat) (f : Slice → Slice) : (s.modSlice k f).mem = s.mem := rfl
@[simp] theorem State.modSlice_pool (k : Nat) (f : Slice → Slice) : (s.modSlice k f).pool = s.pool := rfl
@[simp] theorem State.modSlice_mc (k : Nat) (f : Slice → Slice) : (s.modSlice k f).mc = s.mc := rfl
@[simp] theorem State.modSlice_weir (k : Nat) (f : Slice → Slice) : (s.modSlice k f).weir = s.weir := rfl
@[simp] theorem State.modSlice_ct (k : Nat) (f : Slice → Slice) : (s.modSlice k f).ct = s.ct := rfl
@[simp] theorem State.modSlice_css (k : Nat) (f : Slice → Slice) : (s.modSlice k f).css = s.css := rfl
@[simp] theorem State.modSlice_eth (k : Nat) (f : Slice → Slice) : (s.modSlice k f).eth = s.eth := rfl
@[simp] theorem State.modSlice_cz (k : Nat) (f : Slice → Slice) : (s.modSlice k f).cz = s.cz := rfl
@[simp] theorem State.modSlice_cx (k : Nat) (f : Slice → Slice) : (s.modSlice k f).cx = s.cx := rfl
@[simp] theorem State.modSlice_plant (k : Nat) (f : Slice → Slice) : (s.modSlice k f).plant = s.plant := rfl
@[simp] theorem State.modSlice_life (k : Nat) (f : Slice → Slice) : (s.modSlice k f).life = s.life := rfl
@[simp] theorem State.modSlice_free (k : Nat) (f : Slice → Slice) : (s.modSlice k f).free = s.free := rfl
@[simp] theorem State.modSlice_pending (k : Nat) (f : Slice → Slice) : (s.modSlice k f).pending = s.pending := rfl

@[simp] theorem State.modGrant_cores (k g : Nat) (f : Grant → Grant) : (s.modGrant k g f).cores = s.cores := rfl
@[simp] theorem State.modGrant_mem (k g : Nat) (f : Grant → Grant) : (s.modGrant k g f).mem = s.mem := rfl
@[simp] theorem State.modGrant_pool (k g : Nat) (f : Grant → Grant) : (s.modGrant k g f).pool = s.pool := rfl
@[simp] theorem State.modGrant_mc (k g : Nat) (f : Grant → Grant) : (s.modGrant k g f).mc = s.mc := rfl
@[simp] theorem State.modGrant_weir (k g : Nat) (f : Grant → Grant) : (s.modGrant k g f).weir = s.weir := rfl
@[simp] theorem State.modGrant_ct (k g : Nat) (f : Grant → Grant) : (s.modGrant k g f).ct = s.ct := rfl
@[simp] theorem State.modGrant_css (k g : Nat) (f : Grant → Grant) : (s.modGrant k g f).css = s.css := rfl
@[simp] theorem State.modGrant_eth (k g : Nat) (f : Grant → Grant) : (s.modGrant k g f).eth = s.eth := rfl
@[simp] theorem State.modGrant_cz (k g : Nat) (f : Grant → Grant) : (s.modGrant k g f).cz = s.cz := rfl
@[simp] theorem State.modGrant_cx (k g : Nat) (f : Grant → Grant) : (s.modGrant k g f).cx = s.cx := rfl
@[simp] theorem State.modGrant_plant (k g : Nat) (f : Grant → Grant) : (s.modGrant k g f).plant = s.plant := rfl
@[simp] theorem State.modGrant_life (k g : Nat) (f : Grant → Grant) : (s.modGrant k g f).life = s.life := rfl
@[simp] theorem State.modGrant_free (k g : Nat) (f : Grant → Grant) : (s.modGrant k g f).free = s.free := rfl
@[simp] theorem State.modGrant_pending (k g : Nat) (f : Grant → Grant) : (s.modGrant k g f).pending = s.pending := rfl

@[simp] theorem State.modPlant_cores (f : Plant → Plant) : (s.modPlant f).cores = s.cores := rfl
@[simp] theorem State.modPlant_mem (f : Plant → Plant) : (s.modPlant f).mem = s.mem := rfl
@[simp] theorem State.modPlant_pool (f : Plant → Plant) : (s.modPlant f).pool = s.pool := rfl
@[simp] theorem State.modPlant_mc (f : Plant → Plant) : (s.modPlant f).mc = s.mc := rfl
@[simp] theorem State.modPlant_weir (f : Plant → Plant) : (s.modPlant f).weir = s.weir := rfl
@[simp] theorem State.modPlant_ct (f : Plant → Plant) : (s.modPlant f).ct = s.ct := rfl
@[simp] theorem State.modPlant_css (f : Plant → Plant) : (s.modPlant f).css = s.css := rfl
@[simp] theorem State.modPlant_eth (f : Plant → Plant) : (s.modPlant f).eth = s.eth := rfl
@[simp] theorem State.modPlant_cz (f : Plant → Plant) : (s.modPlant f).cz = s.cz := rfl
@[simp] theorem State.modPlant_cx (f : Plant → Plant) : (s.modPlant f).cx = s.cx := rfl
@[simp] theorem State.modPlant_slices (f : Plant → Plant) : (s.modPlant f).slices = s.slices := rfl
@[simp] theorem State.modPlant_life (f : Plant → Plant) : (s.modPlant f).life = s.life := rfl
@[simp] theorem State.modPlant_free (f : Plant → Plant) : (s.modPlant f).free = s.free := rfl
@[simp] theorem State.modPlant_pending (f : Plant → Plant) : (s.modPlant f).pending = s.pending := rfl
@[simp] theorem State.modPlant_plant (f : Plant → Plant) : (s.modPlant f).plant = f s.plant := rfl

@[simp] theorem State.modLife_cores (f : Life → Life) : (s.modLife f).cores = s.cores := rfl
@[simp] theorem State.modLife_mem (f : Life → Life) : (s.modLife f).mem = s.mem := rfl
@[simp] theorem State.modLife_pool (f : Life → Life) : (s.modLife f).pool = s.pool := rfl
@[simp] theorem State.modLife_mc (f : Life → Life) : (s.modLife f).mc = s.mc := rfl
@[simp] theorem State.modLife_weir (f : Life → Life) : (s.modLife f).weir = s.weir := rfl
@[simp] theorem State.modLife_ct (f : Life → Life) : (s.modLife f).ct = s.ct := rfl
@[simp] theorem State.modLife_css (f : Life → Life) : (s.modLife f).css = s.css := rfl
@[simp] theorem State.modLife_eth (f : Life → Life) : (s.modLife f).eth = s.eth := rfl
@[simp] theorem State.modLife_cz (f : Life → Life) : (s.modLife f).cz = s.cz := rfl
@[simp] theorem State.modLife_cx (f : Life → Life) : (s.modLife f).cx = s.cx := rfl
@[simp] theorem State.modLife_slices (f : Life → Life) : (s.modLife f).slices = s.slices := rfl
@[simp] theorem State.modLife_plant (f : Life → Life) : (s.modLife f).plant = s.plant := rfl
@[simp] theorem State.modLife_free (f : Life → Life) : (s.modLife f).free = s.free := rfl
@[simp] theorem State.modLife_pending (f : Life → Life) : (s.modLife f).pending = s.pending := rfl
@[simp] theorem State.modLife_life (f : Life → Life) : (s.modLife f).life = f s.life := rfl

@[simp] theorem State.takeFree_cores : s.takeFree.2.cores = s.cores := rfl
@[simp] theorem State.takeFree_mem : s.takeFree.2.mem = s.mem := rfl
@[simp] theorem State.takeFree_pool : s.takeFree.2.pool = s.pool := rfl
@[simp] theorem State.takeFree_mc : s.takeFree.2.mc = s.mc := rfl
@[simp] theorem State.takeFree_weir : s.takeFree.2.weir = s.weir := rfl
@[simp] theorem State.takeFree_ct : s.takeFree.2.ct = s.ct := rfl
@[simp] theorem State.takeFree_css : s.takeFree.2.css = s.css := rfl
@[simp] theorem State.takeFree_eth : s.takeFree.2.eth = s.eth := rfl
@[simp] theorem State.takeFree_cz : s.takeFree.2.cz = s.cz := rfl
@[simp] theorem State.takeFree_cx : s.takeFree.2.cx = s.cx := rfl
@[simp] theorem State.takeFree_slices : s.takeFree.2.slices = s.slices := rfl
@[simp] theorem State.takeFree_plant : s.takeFree.2.plant = s.plant := rfl
@[simp] theorem State.takeFree_life : s.takeFree.2.life = s.life := rfl
@[simp] theorem State.takeFree_pending : s.takeFree.2.pending = s.pending := rfl
@[simp] theorem State.takeFree_free : s.takeFree.2.free = s.free + 1 := rfl

@[simp] theorem State.reportAt_cores (src : Nat) (cls : FaultClass) (st : Nat) (p l : Byte) (d : Option Word32) (a : Word) :
    (s.reportAt src cls st p l d a).cores = s.cores := by cases d <;> rfl
@[simp] theorem State.report_cores (src : Nat) (cls : FaultClass) (d : Option Word32) (a : Word) : (s.report src cls d a).cores = s.cores := by cases d <;> rfl
@[simp] theorem State.reportCore_cores (n k : Nat) (cls : FaultClass) (d : Option Word32) (a : Word) : (s.reportCore n k cls d a).cores = s.cores := by cases d <;> rfl
@[simp] theorem State.reportAt_mem (src : Nat) (cls : FaultClass) (st : Nat) (p l : Byte) (d : Option Word32) (a : Word) :
    (s.reportAt src cls st p l d a).mem = s.mem := by cases d <;> rfl
@[simp] theorem State.report_mem (src : Nat) (cls : FaultClass) (d : Option Word32) (a : Word) : (s.report src cls d a).mem = s.mem := by cases d <;> rfl
@[simp] theorem State.reportCore_mem (n k : Nat) (cls : FaultClass) (d : Option Word32) (a : Word) : (s.reportCore n k cls d a).mem = s.mem := by cases d <;> rfl
@[simp] theorem State.reportAt_pool (src : Nat) (cls : FaultClass) (st : Nat) (p l : Byte) (d : Option Word32) (a : Word) :
    (s.reportAt src cls st p l d a).pool = s.pool := by cases d <;> rfl
@[simp] theorem State.report_pool (src : Nat) (cls : FaultClass) (d : Option Word32) (a : Word) : (s.report src cls d a).pool = s.pool := by cases d <;> rfl
@[simp] theorem State.reportCore_pool (n k : Nat) (cls : FaultClass) (d : Option Word32) (a : Word) : (s.reportCore n k cls d a).pool = s.pool := by cases d <;> rfl
@[simp] theorem State.reportAt_mc (src : Nat) (cls : FaultClass) (st : Nat) (p l : Byte) (d : Option Word32) (a : Word) :
    (s.reportAt src cls st p l d a).mc = s.mc := by cases d <;> rfl
@[simp] theorem State.report_mc (src : Nat) (cls : FaultClass) (d : Option Word32) (a : Word) : (s.report src cls d a).mc = s.mc := by cases d <;> rfl
@[simp] theorem State.reportCore_mc (n k : Nat) (cls : FaultClass) (d : Option Word32) (a : Word) : (s.reportCore n k cls d a).mc = s.mc := by cases d <;> rfl
@[simp] theorem State.reportAt_ct (src : Nat) (cls : FaultClass) (st : Nat) (p l : Byte) (d : Option Word32) (a : Word) :
    (s.reportAt src cls st p l d a).ct = s.ct := by cases d <;> rfl
@[simp] theorem State.report_ct (src : Nat) (cls : FaultClass) (d : Option Word32) (a : Word) : (s.report src cls d a).ct = s.ct := by cases d <;> rfl
@[simp] theorem State.reportCore_ct (n k : Nat) (cls : FaultClass) (d : Option Word32) (a : Word) : (s.reportCore n k cls d a).ct = s.ct := by cases d <;> rfl
@[simp] theorem State.reportAt_css (src : Nat) (cls : FaultClass) (st : Nat) (p l : Byte) (d : Option Word32) (a : Word) :
    (s.reportAt src cls st p l d a).css = s.css := by cases d <;> rfl
@[simp] theorem State.report_css (src : Nat) (cls : FaultClass) (d : Option Word32) (a : Word) : (s.report src cls d a).css = s.css := by cases d <;> rfl
@[simp] theorem State.reportCore_css (n k : Nat) (cls : FaultClass) (d : Option Word32) (a : Word) : (s.reportCore n k cls d a).css = s.css := by cases d <;> rfl
@[simp] theorem State.reportAt_eth (src : Nat) (cls : FaultClass) (st : Nat) (p l : Byte) (d : Option Word32) (a : Word) :
    (s.reportAt src cls st p l d a).eth = s.eth := by cases d <;> rfl
@[simp] theorem State.report_eth (src : Nat) (cls : FaultClass) (d : Option Word32) (a : Word) : (s.report src cls d a).eth = s.eth := by cases d <;> rfl
@[simp] theorem State.reportCore_eth (n k : Nat) (cls : FaultClass) (d : Option Word32) (a : Word) : (s.reportCore n k cls d a).eth = s.eth := by cases d <;> rfl
@[simp] theorem State.reportAt_cz (src : Nat) (cls : FaultClass) (st : Nat) (p l : Byte) (d : Option Word32) (a : Word) :
    (s.reportAt src cls st p l d a).cz = s.cz := by cases d <;> rfl
@[simp] theorem State.report_cz (src : Nat) (cls : FaultClass) (d : Option Word32) (a : Word) : (s.report src cls d a).cz = s.cz := by cases d <;> rfl
@[simp] theorem State.reportCore_cz (n k : Nat) (cls : FaultClass) (d : Option Word32) (a : Word) : (s.reportCore n k cls d a).cz = s.cz := by cases d <;> rfl
@[simp] theorem State.reportAt_cx (src : Nat) (cls : FaultClass) (st : Nat) (p l : Byte) (d : Option Word32) (a : Word) :
    (s.reportAt src cls st p l d a).cx = s.cx := by cases d <;> rfl
@[simp] theorem State.report_cx (src : Nat) (cls : FaultClass) (d : Option Word32) (a : Word) : (s.report src cls d a).cx = s.cx := by cases d <;> rfl
@[simp] theorem State.reportCore_cx (n k : Nat) (cls : FaultClass) (d : Option Word32) (a : Word) : (s.reportCore n k cls d a).cx = s.cx := by cases d <;> rfl
@[simp] theorem State.reportAt_slices (src : Nat) (cls : FaultClass) (st : Nat) (p l : Byte) (d : Option Word32) (a : Word) :
    (s.reportAt src cls st p l d a).slices = s.slices := by cases d <;> rfl
@[simp] theorem State.report_slices (src : Nat) (cls : FaultClass) (d : Option Word32) (a : Word) : (s.report src cls d a).slices = s.slices := by cases d <;> rfl
@[simp] theorem State.reportCore_slices (n k : Nat) (cls : FaultClass) (d : Option Word32) (a : Word) : (s.reportCore n k cls d a).slices = s.slices := by cases d <;> rfl
@[simp] theorem State.reportAt_plant (src : Nat) (cls : FaultClass) (st : Nat) (p l : Byte) (d : Option Word32) (a : Word) :
    (s.reportAt src cls st p l d a).plant = s.plant := by cases d <;> rfl
@[simp] theorem State.report_plant (src : Nat) (cls : FaultClass) (d : Option Word32) (a : Word) : (s.report src cls d a).plant = s.plant := by cases d <;> rfl
@[simp] theorem State.reportCore_plant (n k : Nat) (cls : FaultClass) (d : Option Word32) (a : Word) : (s.reportCore n k cls d a).plant = s.plant := by cases d <;> rfl
@[simp] theorem State.reportAt_life (src : Nat) (cls : FaultClass) (st : Nat) (p l : Byte) (d : Option Word32) (a : Word) :
    (s.reportAt src cls st p l d a).life = s.life := by cases d <;> rfl
@[simp] theorem State.report_life (src : Nat) (cls : FaultClass) (d : Option Word32) (a : Word) : (s.report src cls d a).life = s.life := by cases d <;> rfl
@[simp] theorem State.reportCore_life (n k : Nat) (cls : FaultClass) (d : Option Word32) (a : Word) : (s.reportCore n k cls d a).life = s.life := by cases d <;> rfl
@[simp] theorem State.reportAt_pending (src : Nat) (cls : FaultClass) (st : Nat) (p l : Byte) (d : Option Word32) (a : Word) :
    (s.reportAt src cls st p l d a).pending = s.pending := by cases d <;> rfl
@[simp] theorem State.report_pending (src : Nat) (cls : FaultClass) (d : Option Word32) (a : Word) : (s.report src cls d a).pending = s.pending := by cases d <;> rfl
@[simp] theorem State.reportCore_pending (n k : Nat) (cls : FaultClass) (d : Option Word32) (a : Word) : (s.reportCore n k cls d a).pending = s.pending := by cases d <;> rfl

end Sys2Proof.Machine
end

