-- ==== Sys2Proof/Laws/Instr.lean ====
section
/-! SUPPORT. What one instruction of a core does up to its own execution: cores by number, the start of an instruction, prefixes, fills and spills that are not needed. -/

namespace Sys2Proof.Machine

/-- A core beyond the table, or one that is absent, does not run. -/
theorem State.core_lt {s : State} {n : Nat} (h : (s.core n).run ≠ .absent) : n < s.cores.length := by
  by_cases hn : n < s.cores.length
  · exact hn
  · exfalso
    apply h
    simp [State.core, List.getD, List.getElem?_eq_none (Nat.le_of_not_lt hn), Core.absent]

theorem State.modCore_core (s : State) (n : Nat) (f : Core → Core) (h : n < s.cores.length) : (s.modCore n f).core n = f (s.core n) := by
  simp [State.modCore, State.core, modAt, List.getD, h]

theorem State.modCore_other (s : State) (n m : Nat) (f : Core → Core) (h : m ≠ n) : (s.modCore n f).core m = s.core m := by
  simp [State.modCore, State.core, modAt, List.getD, h.symm]

@[simp] theorem State.modCore_length (s : State) (n : Nat) (f : Core → Core) : (s.modCore n f).cores.length = s.cores.length := by
  simp [State.modCore, modAt]

theorem State.modCore_modCore (s : State) (n : Nat) (f g : Core → Core) : (s.modCore n f).modCore n g = s.modCore n (fun c => g (f c)) := by
  simp [State.modCore, modAt, List.modify_modify_eq, Function.comp_def]

theorem State.modCore_congr (s : State) (n : Nat) {f g : Core → Core} (h : f (s.core n) = g (s.core n)) : s.modCore n f = s.modCore n g := by
  have : modAt s.cores n f = modAt s.cores n g := by
    apply List.ext_getElem?
    intro i
    simp only [modAt, List.getElem?_modify]
    by_cases hi : n = i
    · subst hi
      cases hc : s.cores[n]? with
      | none => rfl
      | some c =>
        simp [State.core, List.getD, hc] at h
        simp [h]
    · simp [hi]
  simp [State.modCore, this]

theorem State.after_congr (s : State) (k : Insn) (len : Nat) {f g : Core → Core} (h : f (s.core k.lcn) = g (s.core k.lcn)) :
    s.after k len f = s.after k len g := by
  simp only [State.after, State.modCore_congr s k.lcn h]

theorem Ready.mayStart {s : State} {n : Nat} (h : Ready s n) (code : List Byte) : s.mayStart n code = .go := by
  obtain ⟨h1, h2, h3, h4, h5, h6, _, _, h7, _⟩ := h
  unfold State.mayStart State.atBoundary
  rcases h7 with h7 | h7 <;> simp [h1, h2, h3, h4, h5, h6, h7]

theorem Ready.lt {s : State} {n : Nat} (h : Ready s n) : n < s.cores.length :=
  State.core_lt (by rw [h.run]; decide)

/-! The monad of an instruction. -/

@[simp] theorem run_bind {α β : Type} (x : Run α) (f : α → Run β) (s : State) :
    (x >>= f) s = (match x s with | .ok a t => f a t | .error e t => .error e t) := by
  change EStateM.bind x f s = _
  unfold EStateM.bind
  cases x s <;> rfl

@[simp] theorem run_pure {α : Type} (a : α) (s : State) : (pure a : Run α) s = .ok a s := rfl

@[simp] theorem run_map {α β : Type} (f : α → β) (x : Run α) (s : State) :
    (f <$> x) s = (match x s with | .ok a t => .ok (f a) t | .error e t => .error e t) := by
  change EStateM.map f x s = _
  unfold EStateM.map
  cases x s <;> rfl

@[simp] theorem run_throw {α : Type} (e : Stop) (s : State) : (throw e : Run α) s = .error e s := rfl

@[simp] theorem run_get (s : State) : (get : Run State) s = .ok s s := rfl

@[simp] theorem run_set (t s : State) : (set t : Run Unit) s = .ok () t := rfl

@[simp] theorem run_modify (f : State → State) (s : State) : (modify f : Run Unit) s = .ok () (f s) := rfl

@[simp] theorem coreOf_run (n : Nat) (s : State) : coreOf n s = .ok (s.core n) s := rfl

@[simp] theorem onCore_run (n : Nat) (f : Core → Core) (s : State) : onCore n f s = .ok () (s.modCore n f) := rfl

@[simp] theorem throwExc_run {α : Type} (e : Exc) (s : State) : (throwExc e : Run α) s = .error (.exc e) s := rfl

@[simp] theorem freeWord_run (s : State) : freeWord s = .ok s.takeFree.1 s.takeFree.2 := rfl

theorem orWait_some {f : State → Option State} {s t : State} (h : f s = some t) : orWait f s = .ok () t := by
  simp [orWait, h]

/-- Steps 3 and 5 of R59 when the prefixes are permitted and the privilege suffices. -/
theorem precheck_ok {k : Insn} {o : Op} {s : State} (hp : pfxCause (s.core k.lcn).delay o k.pfx = none)
    (hv : o.priv = true → s.sup k.lcn = true) : precheck k o s = .ok () s := by
  by_cases h : o.priv = true
  · have := hv h
    simp [precheck, hp, h, State.sup] at *
    simp [this]
  · simp [precheck, hp, h]

/-- No fill and no spill when the entries are cached and there is room (R42). -/
theorem makeRoom_fits {n i o : Nat} {ret : Bool} {s : State} (h : ((s.core n).stack ret).fits ret i o) : makeRoom n ret i o s = .ok () s := by
  obtain ⟨h1, h2⟩ := h
  have e1 : i - ((s.core n).stack ret).cache.length = 0 := by omega
  have e2 : max ((s.core n).stack ret).cache.length i - i + o - stackMax ret = 0 := by omega
  simp [makeRoom, e1, e2, times]

/-- A microcoded sequence of ROM ends without an effect of its own (R234, R238). -/
theorem runSequence_rom {n : Nat} {s : State} (h : RomOnly s n) (e : Option Nat) : runSequence n e s = .ok () s := by
  cases e with
  | none => rfl
  | some a => simp [runSequence, State.microRun, show (s.store n).redir = [] from h]

/-- An instruction whose checks pass and whose stacks need nothing is its own execution. -/
theorem instr_ready {k : Insn} {o : Op} {i j ri ro : Nat} {body : Run Retire} {s : State} (h : Ready s k.lcn) (he : o.entry = none ∨ RomOnly s k.lcn)
    (hp : pfxCause (s.core k.lcn).delay o k.pfx = none) (hv : o.priv = true → s.sup k.lcn = true)
    (hd : (s.core k.lcn).ds.fits false i j) (hr : (s.core k.lcn).rs.fits true ri ro) :
    instr k o i j ri ro body s = settle s k.lcn (k.pfx.length + o.len) (s.sup k.lcn) (body s) := by
  have h1 : makeRoom k.lcn false i j s = .ok () s := makeRoom_fits (by simpa [Core.stack] using hd)
  have h2 : makeRoom k.lcn true ri ro s = .ok () s := makeRoom_fits (by simpa [Core.stack] using hr)
  have h3 : runSequence k.lcn o.entry s = .ok () s := by
    rcases he with he | he
    · rw [he]; rfl
    · exact runSequence_rom he _
  simp [instr, h.mayStart, precheck_ok hp hv, h1, h2, h3, State.sup]

/-- A stack that an instruction does not touch, filled within its capacity. -/
theorem Ready.fitsR {s : State} {n : Nat} (h : Ready s n) : (s.core n).rs.fits true 0 0 := ⟨by omega, by have := h.rsMax; simp [stackMax]; omega⟩
theorem Ready.fitsD {s : State} {n : Nat} (h : Ready s n) : (s.core n).ds.fits false 0 0 := ⟨by omega, by have := h.dsMax; simp [stackMax]; omega⟩

/-- The answer to an instruction that retires. -/
theorem settle_ok (s0 : State) (n len : Nat) (sup : Bool) (r : Retire) (s : State) : settle s0 n len sup (.ok r s) = .next (s.retire n len sup r) := rfl

/-- An instruction that turns entries of the data stack and PSW into others. -/
theorem stackOp_ready {k : Insn} {o : Op} {i j : Nat} {f : List Word → Word → List Word × Word} {s : State} (h : Ready s k.lcn) (he : o.entry = none)
    (hp : pfxCause (s.core k.lcn).delay o k.pfx = none) (hv : o.priv = true → s.sup k.lcn = true)
    (hd : (s.core k.lcn).ds.fits false i j) {r : List Word × Word} (hf : f ((s.core k.lcn).ds.cache.take i) (s.core k.lcn).psw = r) :
    stackOp k o i j f s = .next (s.after k o.len (fun c => c.replaceTop i r.1 r.2)) := by
  subst hf
  rw [stackOp, instr_ready h (.inl he) hp hv hd h.fitsR]
  simp [settle, State.after]

/-- An opcode that may stand in a delay slot admits an empty list of prefixes. -/
theorem pfxCause_nil {d : Bool} {o : Op} (h : d = true → o.noSlot = false) : pfxCause d o [] = none := by
  cases d <;> simp_all [pfxCause, pfxArranged]

/-- An instruction without prefixes on the data stack alone: what its core becomes. -/
theorem stackOp_next {k : Insn} {o : Op} {i j : Nat} {f : List Word → Word → List Word × Word} {s : State} {len : Nat} {g : Core → Core}
    (h : Ready s k.lcn) (he : o.entry = none) (hp : k.pfx = []) (hn : o.noSlot = false) (hv : o.priv = false) (hl : o.len = len)
    (hd : i ≤ (s.core k.lcn).ds.cache.length) (hd2 : (s.core k.lcn).ds.cache.length - i + j ≤ 32)
    (hg : (s.core k.lcn).replaceTop i (f ((s.core k.lcn).ds.cache.take i) (s.core k.lcn).psw).1
      (f ((s.core k.lcn).ds.cache.take i) (s.core k.lcn).psw).2 = g (s.core k.lcn)) :
    stackOp k o i j f s = .next (s.after k len g) := by
  subst hl
  rw [stackOp_ready h he (by rw [hp]; exact pfxCause_nil (fun _ => hn)) (by simp [hv]) ⟨hd, by simpa [stackMax] using hd2⟩ rfl]
  exact congrArg _ (State.after_congr s k _ hg)

/-- An instruction without prefixes: it answers what its own execution gives. -/
theorem instr_next {k : Insn} {o : Op} {i j ri ro : Nat} {body : Run Retire} {s : State} (h : Ready s k.lcn)
    (he : o.entry = none ∨ RomOnly s k.lcn) (hp : k.pfx = []) (hn : (s.core k.lcn).delay = true → o.noSlot = false) (hv : o.priv = true → s.sup k.lcn = true)
    (hd : i ≤ (s.core k.lcn).ds.cache.length) (hd2 : (s.core k.lcn).ds.cache.length - i + j ≤ 32)
    (hr : ri ≤ (s.core k.lcn).rs.cache.length) (hr2 : (s.core k.lcn).rs.cache.length - ri + ro ≤ 16) :
    instr k o i j ri ro body s = settle s k.lcn o.len (s.sup k.lcn) (body s) := by
  rw [instr_ready h he (by rw [hp]; exact pfxCause_nil hn) hv ⟨hd, by simpa [stackMax] using hd2⟩ ⟨hr, by simpa [stackMax] using hr2⟩]
  simp [hp]

end Sys2Proof.Machine
end

