-- ==== Sys2Proof/Laws/Mem.lean ====
section
/-! SUPPORT. What memory operations do: reads after writes, and the canonical form. -/

namespace Sys2Proof.Machine

/-! The form. -/

theorem Mem.wfFrom_mono {a b : Nat} (h : a ≤ b) : ∀ {m : Mem}, Mem.wfFrom b m = true → Mem.wfFrom a m = true
  | [], _ => rfl
  | (x, v) :: t, w => by
    simp only [Mem.wfFrom, Bool.and_eq_true, decide_eq_true_eq] at w ⊢
    exact ⟨⟨Nat.le_trans h w.1.1, w.1.2⟩, w.2⟩

/-- An address below the list's first reads 0. -/
theorem Mem.read_below : ∀ {m : Mem} {lo a : Nat}, Mem.wfFrom lo m = true → a < lo → m.read a = 0
  | [], _, _, _, _ => rfl
  | (x, v) :: t, lo, a, w, h => by
    simp only [Mem.wfFrom, Bool.and_eq_true, decide_eq_true_eq] at w
    have hx : a ≠ x := by omega
    simp only [Mem.read, hx, if_false]
    exact Mem.read_below w.2 (by omega)

theorem Mem.write_wfFrom : ∀ {m : Mem} {lo a : Nat} {v : Byte}, Mem.wfFrom lo m = true → lo ≤ a → Mem.wfFrom lo (m.write a v) = true
  | [], lo, a, v, _, h => by
    unfold Mem.write
    split
    · rfl
    · rename_i hv
      simp only [Mem.wfFrom, h, Bool.and_eq_true, decide_eq_true_eq]
      exact ⟨⟨trivial, hv⟩, trivial⟩
  | (x, u) :: t, lo, a, v, w, h => by
    have w' := w
    simp only [Mem.wfFrom, Bool.and_eq_true, decide_eq_true_eq] at w'
    unfold Mem.write
    split
    · split
      · exact w
      · rename_i hx hv
        simp only [Mem.wfFrom, Bool.and_eq_true, decide_eq_true_eq]
        exact ⟨⟨h, hv⟩, ⟨by omega, w'.1.2⟩, w'.2⟩
    · split
      · split
        · exact Mem.wfFrom_mono (by omega) w'.2
        · rename_i hx ha hv
          simp only [Mem.wfFrom, Bool.and_eq_true, decide_eq_true_eq]
          exact ⟨⟨h, hv⟩, ha ▸ w'.2⟩
      · rename_i hx ha
        simp only [Mem.wfFrom, Bool.and_eq_true, decide_eq_true_eq]
        exact ⟨w'.1, Mem.write_wfFrom w'.2 (by omega)⟩

/-- Storing a byte keeps the form. -/
theorem Mem.write_wf {m : Mem} (h : m.wf = true) (a : Nat) (v : Byte) : (m.write a v).wf = true := Mem.write_wfFrom h (Nat.zero_le a)

/-- Storing bytes keeps the form. -/
theorem Mem.writeN_wf : ∀ {bs : List Byte} {m : Mem} {a : Nat}, m.wf = true → (m.writeN a bs).wf = true
  | [], _, _, h => h
  | b :: bs, _, _, h => Mem.writeN_wf (bs := bs) (Mem.write_wf h _ b)

/-- Storing a list of cells keeps the form. -/
theorem Mem.fold_wf : ∀ {cs : Mem} {m : Mem}, m.wf = true → (cs.foldl (fun m c => m.write c.1 c.2) m).wf = true
  | [], _, h => h
  | c :: cs, _, h => Mem.fold_wf (cs := cs) (Mem.write_wf h c.1 c.2)

theorem Mem.filter_wfFrom (f : Host.Cell → Bool) : ∀ {m : Mem} {lo : Nat}, Mem.wfFrom lo m = true → Mem.wfFrom lo (m.filter f) = true
  | [], _, _ => rfl
  | (x, v) :: t, lo, w => by
    simp only [Mem.wfFrom, Bool.and_eq_true, decide_eq_true_eq] at w
    rw [List.filter_cons]
    split
    · simp only [Mem.wfFrom, Bool.and_eq_true, decide_eq_true_eq]
      exact ⟨w.1, Mem.filter_wfFrom f w.2⟩
    · exact Mem.wfFrom_mono (by omega) (Mem.filter_wfFrom f w.2)

/-- Dropping bytes keeps the form. -/
theorem Mem.filter_wf {m : Mem} (h : m.wf = true) (f : Host.Cell → Bool) : Mem.wf (m.filter f) = true := Mem.filter_wfFrom f h

/-! Reads after writes. -/

theorem Mem.read_write_from : ∀ {m : Mem} {lo a b : Nat} {v : Byte}, Mem.wfFrom lo m = true → (m.write a v).read b = if b = a then v else m.read b
  | [], lo, a, b, v, _ => by
    unfold Mem.write
    by_cases hv : v = 0
    · simp only [hv, if_true, Mem.read]
      split <;> rfl
    · simp only [hv, if_false, Mem.read]
  | (x, u) :: t, lo, a, b, v, w => by
    simp only [Mem.wfFrom, Bool.and_eq_true, decide_eq_true_eq] at w
    unfold Mem.write
    by_cases hx : a < x
    · have below : ∀ c, c < x → Mem.read ((x, u) :: t) c = 0 := fun c hc => by
        have hne : c ≠ x := by omega
        simp only [Mem.read, hne, if_false]
        exact Mem.read_below w.2 (by omega)
      by_cases hv : v = 0
      · simp only [hx, if_true, hv]
        split
        · rename_i e
          rw [e, below a hx]
        · rfl
      · simp only [hx, if_true, hv, if_false, Mem.read]
    · by_cases ha : a = x
      · subst ha
        by_cases hv : v = 0
        · simp only [Nat.lt_irrefl, if_false, if_true, hv]
          by_cases hb : b = a
          · rw [if_pos hb, hb]
            exact Mem.read_below w.2 (by omega)
          · simp only [hb, if_false, Mem.read]
        · simp only [Nat.lt_irrefl, if_false, if_true, hv, Mem.read]
          split <;> rfl
      · simp only [hx, ha, if_false, Mem.read]
        by_cases hb : b = x
        · have : b ≠ a := by omega
          simp only [hb, if_true]
          rw [if_neg (by omega)]
        · simp only [hb, if_false]
          exact Mem.read_write_from w.2

/-- A read after a store of one byte. -/
theorem Mem.read_write {m : Mem} (h : m.wf = true) (a b : Nat) (v : Byte) : (m.write a v).read b = if b = a then v else m.read b :=
  Mem.read_write_from h

/-- Bytes outside a store read as before. -/
theorem Mem.read_writeN_other : ∀ {bs : List Byte} {m : Mem} {a b : Nat}, m.wf = true → (b < a ∨ a + bs.length ≤ b) → (m.writeN a bs).read b = m.read b
  | [], _, _, _, _, _ => rfl
  | x :: bs, m, a, b, h, hb => by
    simp only [List.length_cons] at hb
    unfold Mem.writeN
    rw [Mem.read_writeN_other (Mem.write_wf h a x) (by omega), Mem.read_write h, if_neg (by omega)]

/-- Bytes inside a store read as stored. -/
theorem Mem.read_writeN : ∀ {bs : List Byte} {m : Mem} {a i : Nat} (_ : m.wf = true) (hi : i < bs.length), (m.writeN a bs).read (a + i) = bs[i]
  | x :: bs, m, a, 0, h, _ => by
    unfold Mem.writeN
    rw [Mem.read_writeN_other (Mem.write_wf h a x) (by omega), Mem.read_write h, if_pos (by omega)]
    rfl
  | x :: bs, m, a, i + 1, h, hi => by
    unfold Mem.writeN
    have e : a + (i + 1) = a + 1 + i := by omega
    rw [e, Mem.read_writeN (Mem.write_wf h a x) (by simpa using hi)]
    rfl

/-- What was stored is what is read. -/
theorem Mem.readN_writeN {bs : List Byte} {m : Mem} (h : m.wf = true) (a : Nat) : (m.writeN a bs).readN a bs.length = bs := by
  have go : ∀ (n k : Nat), k + n = bs.length → (m.writeN a bs).readN (a + k) n = bs.drop k := by
    intro n
    induction n with
    | zero => intro k hk; simp [Mem.readN, List.drop_of_length_le (by omega : bs.length ≤ k)]
    | succ n ih =>
      intro k hk
      unfold Mem.readN
      rw [Mem.read_writeN h (by omega : k < bs.length), Nat.add_assoc, ih (k + 1) (by omega)]
      exact (List.drop_eq_getElem_cons (by omega)).symm
  have := go bs.length 0 (by omega)
  simpa using this

/-- A Pool or DRAM copy put back into memory keeps the form. -/
theorem restoreLine_wf {m : Mem} (h : m.wf = true) (xs : List (Nat × Byte)) (line : Nat) : (restoreLine m xs line).wf = true := Mem.fold_wf h

end Sys2Proof.Machine
end

