-- ==== Sys2Proof/Laws/Pool.lean ====
section
/-! SUPPORT. What the named operations of the Pool do: messages sent and taken, directory entries, and requests that are served. -/

namespace Sys2Proof.Machine

variable (s : State)

/-- What a message on its way leaves of the Pool: the flights and the links' counts alone change. -/
theorem Pool.launch_cases (p : Pool) (a : Nat) (r : Ring) (len : Nat) (dests : List Nat) (m : PoolMsg) :
    ∃ fs ls, p.launch a r len dests m = { p with flights := fs, links := ls } := by
  unfold Pool.launch Pool.countLinks
  dsimp only
  split <;> exact ⟨_, _, rfl⟩

theorem State.send_pool (a b : Nat) (m : PoolMsg) : ∃ fs ls, (s.send a b m).pool = { s.pool with flights := fs, links := ls } :=
  s.pool.launch_cases a (s.pool.ringFor a b) (ringDist (s.pool.ringFor a b) a b) [b] m

@[simp] theorem State.send_dir (a b : Nat) (m : PoolMsg) : (s.send a b m).pool.dir = s.pool.dir := by
  obtain ⟨_, _, h⟩ := s.send_pool a b m; rw [h]
@[simp] theorem State.send_agents (a b : Nat) (m : PoolMsg) : (s.send a b m).pool.agents = s.pool.agents := by
  obtain ⟨_, _, h⟩ := s.send_pool a b m; rw [h]
@[simp] theorem State.send_txns (a b : Nat) (m : PoolMsg) : (s.send a b m).pool.txns = s.pool.txns := by
  obtain ⟨_, _, h⟩ := s.send_pool a b m; rw [h]
@[simp] theorem State.send_queue (a b : Nat) (m : PoolMsg) : (s.send a b m).pool.queue = s.pool.queue := by
  obtain ⟨_, _, h⟩ := s.send_pool a b m; rw [h]
@[simp] theorem State.send_evict (a b : Nat) (m : PoolMsg) : (s.send a b m).pool.evict = s.pool.evict := by
  obtain ⟨_, _, h⟩ := s.send_pool a b m; rw [h]
@[simp] theorem State.send_filt (a b : Nat) (m : PoolMsg) : (s.send a b m).pool.filt = s.pool.filt := by
  obtain ⟨_, _, h⟩ := s.send_pool a b m; rw [h]
@[simp] theorem State.send_holds (a b : Nat) (m : PoolMsg) : (s.send a b m).pool.holds = s.pool.holds := by
  obtain ⟨_, _, h⟩ := s.send_pool a b m; rw [h]
@[simp] theorem State.send_ways (a b : Nat) (m : PoolMsg) : (s.send a b m).pool.ways = s.pool.ways := by
  obtain ⟨_, _, h⟩ := s.send_pool a b m; rw [h]

/-- A directory is read through the list of its entries. -/
theorem State.dirEntry_congr {s t : State} (h : t.pool.dir = s.pool.dir) (line : Nat) : t.dirEntry line = s.dirEntry line := by
  simp [State.dirEntry, h]

@[simp] theorem State.send_dirEntry (a b : Nat) (m : PoolMsg) (line : Nat) : (s.send a b m).dirEntry line = s.dirEntry line :=
  State.dirEntry_congr (s.send_dir a b m) line

@[simp] theorem State.send_agentState (a b : Nat) (m : PoolMsg) (x line : Nat) : (s.send a b m).agentState x line = s.agentState x line := by
  simp [State.agentState]

@[simp] theorem State.modDir_txns (line : Nat) (f : DirEntry → DirEntry) : (s.modDir line f).pool.txns = s.pool.txns := rfl
@[simp] theorem State.modDir_agents (line : Nat) (f : DirEntry → DirEntry) : (s.modDir line f).pool.agents = s.pool.agents := rfl
@[simp] theorem State.modDir_queue (line : Nat) (f : DirEntry → DirEntry) : (s.modDir line f).pool.queue = s.pool.queue := rfl
@[simp] theorem State.modDir_evict (line : Nat) (f : DirEntry → DirEntry) : (s.modDir line f).pool.evict = s.pool.evict := rfl
@[simp] theorem State.modDir_filt (line : Nat) (f : DirEntry → DirEntry) : (s.modDir line f).pool.filt = s.pool.filt := rfl
@[simp] theorem State.modDir_holds (line : Nat) (f : DirEntry → DirEntry) : (s.modDir line f).pool.holds = s.pool.holds := rfl
@[simp] theorem State.modDir_poolOld (line : Nat) (f : DirEntry → DirEntry) : (s.modDir line f).pool.poolOld = s.pool.poolOld := rfl
@[simp] theorem State.modDir_dramOld (line : Nat) (f : DirEntry → DirEntry) : (s.modDir line f).pool.dramOld = s.pool.dramOld := rfl
@[simp] theorem State.modDir_ways (line : Nat) (f : DirEntry → DirEntry) : (s.modDir line f).pool.ways = s.pool.ways := rfl

theorem State.modDir_dirEntry (line : Nat) (f : DirEntry → DirEntry) (h : ∀ e, (f e).line = e.line) :
    (s.modDir line f).dirEntry line = (s.dirEntry line).map (fun e => (f e).write) := by
  simp only [State.dirEntry, State.modDir, State.modPool, List.find?_map]
  have : ((fun e : DirEntry => e.line == line) ∘ fun e => if e.line == line then (f e).write else e) = fun e => e.line == line := by
    funext e
    simp only [Function.comp]
    split <;> simp_all [DirEntry.write]
  rw [this]
  cases he : s.pool.dir.find? (fun e => e.line == line) with
  | none => rfl
  | some e => simp [show e.line = line by simpa using List.find?_some he]

@[simp] theorem State.modDir_agentState (line : Nat) (f : DirEntry → DirEntry) (a l : Nat) : (s.modDir line f).agentState a l = s.agentState a l := rfl

theorem State.serveQueue_empty (h : s.pool.queue = []) : s.serveQueue = s := by
  have : (s.modPool fun p => { p with queue := [] }) = s := by
    cases s with
    | mk cores mem pool =>
      cases pool
      simp_all [State.modPool]
  simp [State.serveQueue, h, this]

end Sys2Proof.Machine
end

