-- ==== Sys2Proof/Laws/Retire.lean ====
section
/-! SUPPORT. What the retirement of an instruction changes (R61, R202, R224, R227, R244): its core's pc, delay-slot state, counters, retries and hold, the counter of free values, and the microcode image that the core owes. -/

namespace Sys2Proof.Machine

theorem SameOutside.refl (s : State) : SameOutside s s := ⟨rfl, rfl, rfl, rfl, rfl, rfl, rfl, rfl, rfl, rfl, rfl, rfl, rfl⟩

theorem SameOutside.trans {s t u : State} (a : SameOutside s t) (b : SameOutside t u) : SameOutside s u :=
  ⟨b.mem.trans a.mem, b.pool.trans a.pool, b.mc.trans a.mc, b.weir.trans a.weir, b.ct.trans a.ct, b.css.trans a.css, b.eth.trans a.eth, b.cz.trans a.cz,
    b.cx.trans a.cx, b.slices.trans a.slices, b.plant.trans a.plant, b.life.trans a.life, b.pending.trans a.pending⟩

theorem SameOutside.modCore (s : State) (n : Nat) (f : Core → Core) : SameOutside s (s.modCore n f) :=
  ⟨rfl, rfl, rfl, rfl, rfl, rfl, rfl, rfl, rfl, rfl, rfl, rfl, rfl⟩

theorem SameOutside.takeFree (s : State) : SameOutside s s.takeFree.2 := ⟨rfl, rfl, rfl, rfl, rfl, rfl, rfl, rfl, rfl, rfl, rfl, rfl, rfl⟩

theorem endHold_same (s : State) (n : Nat) : SameOutside s (s.endHold n) := by
  exact .modCore s n _

theorem countHold_same (s : State) (n : Nat) (b : Bool) : SameOutside s (s.countHold n b) := by
  unfold State.countHold
  split
  · exact .refl s
  · split
    · exact endHold_same s n
    · exact .modCore s n _

theorem perfTimed_same (s : State) (n : Nat) (sup : Bool) (i : Nat) : SameOutside s (s.perfTimed n sup i) := by
  unfold State.perfTimed
  split
  · split
    · exact (SameOutside.takeFree s).trans (.modCore _ _ _)
    · exact .refl s
  · exact .refl s

theorem perfTick_same (s : State) (n : Nat) (sup : Bool) : SameOutside s (s.perfTick n sup) := by
  unfold State.perfTick
  generalize List.range 8 = l
  induction l generalizing s with
  | nil => exact .refl s
  | cons i l ih => exact (perfTimed_same s n sup i).trans (ih _)

theorem SameCore.refl (c : Core) : SameCore c c := by constructor <;> rfl

theorem SameCore.trans {a b c : Core} (h : SameCore a b) (g : SameCore b c) : SameCore a c := by
  constructor <;> simp only [h.run, h.sparing, h.waits, h.pcn, h.ds, h.rs, h.psw, h.tsbr, h.vbr, h.iroot, h.droot, h.pid, h.krr, h.mcver, h.cnt, h.src,
    h.dst, h.fpc, h.cyc, h.resv, h.sb, h.devStore, h.devRead, h.mca, h.dsl, h.ici, h.swi, h.iciSrc, h.timers, h.inval, h.stalled, h.withdrawn, h.upc, h.ustack, h.work,
    g.run, g.sparing, g.waits, g.pcn, g.ds, g.rs, g.psw, g.tsbr, g.vbr, g.iroot, g.droot, g.pid, g.krr, g.mcver, g.cnt, g.src,
    g.dst, g.fpc, g.cyc, g.resv, g.sb, g.devStore, g.devRead, g.mca, g.dsl, g.ici, g.swi, g.iciSrc, g.timers, g.inval, g.stalled, g.withdrawn, g.upc, g.ustack, g.work]

/-- A change of one core that no field of SameCore, nor its pc and delay-slot state, shows: counters, hold, retries and translation caches. -/
structure Quiet (s t : State) (n : Nat) : Prop where
  outside : SameOutside s t
  others : ∀ m, m ≠ n → t.core m = s.core m
  core : SameCore (s.core n) (t.core n)
  pc : (t.core n).pc = (s.core n).pc
  delay : (t.core n).delay = (s.core n).delay
  npc : (t.core n).npc = (s.core n).npc
  len : t.cores.length = s.cores.length

theorem Quiet.refl (s : State) (n : Nat) : Quiet s s n := ⟨.refl s, fun _ _ => rfl, .refl _, rfl, rfl, rfl, rfl⟩

theorem Quiet.trans {s t u : State} {n : Nat} (a : Quiet s t n) (b : Quiet t u n) : Quiet s u n :=
  ⟨a.outside.trans b.outside, fun m h => (b.others m h).trans (a.others m h), a.core.trans b.core,
    b.pc.trans a.pc, b.delay.trans a.delay, b.npc.trans a.npc, b.len.trans a.len⟩

theorem Quiet.modCore {s : State} {n : Nat} {f : Core → Core} (h : SameCore (s.core n) (f (s.core n))) (hp : (f (s.core n)).pc = (s.core n).pc)
    (hd : (f (s.core n)).delay = (s.core n).delay) (hn : (f (s.core n)).npc = (s.core n).npc) : Quiet s (s.modCore n f) n := by
  by_cases hl : n < s.cores.length
  · refine ⟨.modCore s n f, fun m hm => s.modCore_other n m f hm, ?_, ?_, ?_, ?_, s.modCore_length n f⟩ <;> rw [s.modCore_core n f hl] <;> assumption
  · have : s.modCore n f = s := by
      simp [State.modCore, modAt, List.modify_eq_self (Nat.le_of_not_lt hl)]
    rw [this]
    exact .refl s n

theorem Quiet.takeFree (s : State) (n : Nat) : Quiet s s.takeFree.2 n := ⟨.takeFree s, fun _ _ => rfl, .refl _, rfl, rfl, rfl, rfl⟩

theorem endHold_quiet (s : State) (n : Nat) : Quiet s (s.endHold n) n := .modCore (by constructor <;> rfl) rfl rfl rfl

theorem countHold_quiet (s : State) (n : Nat) (b : Bool) : Quiet s (s.countHold n b) n := by
  unfold State.countHold
  split
  · exact .refl s n
  · split
    · exact endHold_quiet s n
    · exact .modCore (by constructor <;> rfl) rfl rfl rfl

theorem perfTimed_quiet (s : State) (n : Nat) (sup : Bool) (i : Nat) : Quiet s (s.perfTimed n sup i) n := by
  unfold State.perfTimed
  split
  · split
    · exact (Quiet.takeFree s n).trans (.modCore (by constructor <;> rfl) rfl rfl rfl)
    · exact .refl s n
  · exact .refl s n

theorem perfTick_quiet (s : State) (n : Nat) (sup : Bool) : Quiet s (s.perfTick n sup) n := by
  unfold State.perfTick
  generalize List.range 8 = l
  induction l generalizing s with
  | nil => exact .refl s n
  | cons i l ih => exact (perfTimed_quiet s n sup i).trans (ih _)

theorem perfAddAs_same (c : Core) (sup : Bool) (ev k : Nat) : SameCore c (c.perfAddAs sup ev k) := by constructor <;> rfl

/-- The events of an instruction counted change the counters alone. -/
theorem countDue_same (c : Core) (sup : Bool) (f : Nat → Bool) :
    SameCore c (c.countDue sup f) ∧ (c.countDue sup f).pc = c.pc ∧ (c.countDue sup f).delay = c.delay ∧ (c.countDue sup f).npc = c.npc := by
  have h : ∀ (l : List Nat) (c : Core), SameCore c (l.foldl (fun c ev => c.perfAddAs sup ev 1) c) ∧ (l.foldl (fun c ev => c.perfAddAs sup ev 1) c).pc = c.pc ∧
      (l.foldl (fun c ev => c.perfAddAs sup ev 1) c).delay = c.delay ∧ (l.foldl (fun c ev => c.perfAddAs sup ev 1) c).npc = c.npc := by
    intro l
    induction l with
    | nil => exact fun c => ⟨.refl c, rfl, rfl, rfl⟩
    | cons ev l ih =>
      intro c
      obtain ⟨h1, h2, h3, h4⟩ := ih (c.perfAddAs sup ev 1)
      exact ⟨(perfAddAs_same c sup ev 1).trans h1, h2, h3, h4⟩
  obtain ⟨h1, h2, h3, h4⟩ := h (c.due.filter f) c
  exact ⟨h1.trans (by constructor <;> rfl), h2, h3, h4⟩

/-- What retirement makes of a core that goes on in sequence (R61). -/
theorem advance_same (c : Core) (len : Nat) : SameCore c (c.advance len .next) ∧
    (c.advance len .next).pc = (if c.delay then c.npc else c.pc + BitVec.ofNat 64 len) ∧ (c.advance len .next).delay = false := by
  unfold Core.advance
  dsimp only
  split
  · exact ⟨by constructor <;> rfl, by simp_all, rfl⟩
  · exact ⟨by constructor <;> rfl, by simp_all, by simp_all⟩

/-- An instruction that goes on in sequence, after a quiet change and a change of its core to c (R61). -/
theorem advance_stepped {s t : State} {n len : Nat} {sup : Bool} {f : Nat → Bool} {g : Core → Core} {c : Core} (h : n < t.cores.length) (hout : SameOutside s t)
    (hoth : ∀ m, m ≠ n → t.core m = s.core m) (hc : SameCore c (t.core n)) (hpc : (t.core n).pc = c.pc) (hd : (t.core n).delay = c.delay)
    (hnpc : (t.core n).npc = c.npc) (hg : ∀ x, SameCore x (g x) ∧ (g x).pc = x.pc ∧ (g x).delay = x.delay) :
    Stepped s (t.modCore n (fun c => g ((c.countDue sup f).advance len .next))) n len c := by
  obtain ⟨d1, d2, d3, d4⟩ := countDue_same (t.core n) sup f
  obtain ⟨a1, a2, a3⟩ := advance_same ((t.core n).countDue sup f) len
  obtain ⟨g1, g2, g3⟩ := hg (((t.core n).countDue sup f).advance len .next)
  refine ⟨hout.trans (.modCore _ n _), ?_, ?_, ?_, ?_⟩
  · intro m hm
    rw [State.modCore_other _ n m _ hm, hoth m hm]
  · rw [State.modCore_core _ n _ h]
    exact ((hc.trans d1).trans a1).trans g1
  · rw [State.modCore_core _ n _ h, g2, a2, d2, d3, d4, hpc, hd, hnpc]
  · rw [State.modCore_core _ n _ h, g3, a3]

/-- An instruction that goes on in sequence retires as Retired says, when what it did before was a change of its core to c and else quiet. -/
theorem retire_next {s t : State} {n len : Nat} {sup : Bool} {c : Core} (h : n < t.cores.length) (hout : SameOutside s t)
    (hoth : ∀ m, m ≠ n → t.core m = s.core m) (hc : SameCore c (t.core n))
    (hpc : (t.core n).pc = c.pc) (hd : (t.core n).delay = c.delay) (hnpc : (t.core n).npc = c.npc) :
    Retired s (t.retire n len sup .next) n len c := by
  have q : Quiet t (((t.countHold n false).modCore n (fun c => c.perfAddAs sup 2 1)).perfTick n sup) n :=
    ((countHold_quiet t n false).trans (.modCore (by constructor <;> rfl) rfl rfl rfl)).trans (perfTick_quiet _ n sup)
  have e : t.retire n len sup .next = ((((t.countHold n false).modCore n (fun c => c.perfAddAs sup 2 1)).perfTick n sup).modCore n
      (fun c => { (c.countDue sup (fun _ => true)).advance len .next with retries := 0, ioWait := none, strProgress := false })).switchDue n := by
    have hs : (Retire.next == Retire.stay) = false := by decide
    unfold State.retire
    simp [hs]
  rw [e]
  generalize ((t.countHold n false).modCore n (fun c => c.perfAddAs sup 2 1)).perfTick n sup = u at q ⊢
  exact ⟨_, advance_stepped (g := fun c => { c with retries := 0, ioWait := none, strProgress := false }) (by rw [q.len]; exact h) (hout.trans q.outside)
    (fun m hm => (q.others m hm).trans (hoth m hm)) (hc.trans q.core) (q.pc.trans hpc) (q.delay.trans hd) (q.npc.trans hnpc)
    (fun _ => ⟨by constructor <;> rfl, rfl, rfl⟩), rfl⟩

end Sys2Proof.Machine
end

