-- ==== Sys2Proof/WellFormed.lean ====
section
/-! DEFINITION. Well-formed commands: the ranges that the spec gives the numbers in their operands. -/

namespace Sys2Proof

/-- An LCN (R27); prefixes that R57 does not permit are the program's, and trap. -/
def wfInsn (k : Insn) : Bool := decide (k.lcn < 48)

/-- The length of the instruction in a delay slot (R55): one byte to nine. -/
def wfSlot (n : Nat) : Bool := decide (1 ≤ n) && decide (n ≤ 9)

/-- Bytes of a line by their offsets, none twice (R257, R438). -/
def wfMask (bs : List (Nat × Byte)) : Bool := bs.all (fun p => decide (p.1 < 256)) && decide ((bs.map Prod.fst).Nodup)

/-- An SCP frame's payload fits its port's MTU (R325). -/
def wfScp (f : ScpFrame) : Bool := decide (f.payload.length < 2 ^ 16)

/-- A TCP segment's payload fits its frame (R341). -/
def wfTcp (g : TcpSegment) : Bool := decide (g.payload.length < 2 ^ 16) && decide (g.sack.length ≤ 4)

/-- What a frame carries. -/
def wfBody : EthBody → Bool
  | .scp f => wfScp f
  | .scpUdp _ _ _ _ _ _ f => wfScp f
  | .tcp _ _ _ _ _ _ g => wfTcp g
  | .leat _ _ _ f => wfScp f
  | .macControl => true
  | .query _ _ => true
  | .other => true

/-- A received frame (R352). -/
def wfEth (f : EthFrame) : Bool := decide (f.len < 2 ^ 14) && wfBody f.body

/-- The bursts of one line: a burst is corrected, or bad, or neither (R277). -/
def wfBursts (e : BurstErrors) : Bool :=
  decide e.corrected.Nodup && decide e.bad.Nodup && e.bad.all (fun b => !e.corrected.contains b) && decide ((e.retries.map Prod.fst).Nodup)

/-- A source of an error that R219 lists: one of the 448 physical registers (R207), of the 128 words of the checkpoint (R217), or a line of memory. -/
def wfRetry : RetryError → Bool
  | .physicalRegister n => decide (n < 448)
  | .checkpointWord w _ => decide (w < 128)
  | .executionUnit => true
  | .l1Line _ line => decide (line < 2 ^ 44)
  | .l2CleanLine line => decide (line < 2 ^ 44)
  | .l2DirtyLine line => decide (line < 2 ^ 44)
  | .tlbEntry _ => true
  | .walkRead line => decide (line < 2 ^ 44)

/-- Lines of memory by their numbers. -/
def wfLines (ls : List Nat) : Bool := ls.all (fun l => decide (l < 2 ^ 44))

/-- A way of a core's L2 (R207) and the lines of its drain. -/
def wfFilter : FilterEvent → Bool
  | .atBoundary => true
  | .testBegins core way bad => decide (core < 52) && decide (way < 16) && wfLines bad
  | .testEnds bad => wfLines bad

/-- What the start-up self-test of a reset finds (R28, R263, R271). -/
def wfStart (r : StartTest) : Bool :=
  r.cores.all (fun c => decide (c < 52)) && r.cps.all (fun c => decide (c < 36))
    && r.dimms.length == 20 && r.training.all (fun c => decide (c < 20)) && r.ways.all (fun w => decide (w.1 < 16) && decide (w.2 < 16))

/-- A report names a source number and a station (R401, R524). -/
def wfReport : Option WeirReport → Bool
  | some r => decide (r.src < 4096) && decide (r.station.toNat < 84)
  | none => true

/-- An entry of a delta (R438). -/
def wfEntry : DeltaEntry → Bool
  | .jrec _ _ bs => decide (bs.length < 2 ^ 16)
  | .mem pa bs => decide (pa % 256 = 0) && decide (pa < 2 ^ 52) && wfMask bs
  | .cbs pa bs => decide (pa % 256 = 0) && decide (pa < 2 ^ 52) && decide (bs.length = 128)
  | .retire _ _ => true
  | .reserved t => t == 0 || decide (5 ≤ t.toNat)

/-- The entries of a frame (R437). -/
def wfEntries (es : List DeltaEntry) : Bool := es.all wfEntry

/-- The operands of a command lie in their ranges. -/
def Instr.wf : Instr → Bool
  | .nop k => wfInsn k
  | .dup k => wfInsn k
  | .drop k => wfInsn k
  | .swap k => wfInsn k
  | .over k => wfInsn k
  | .rot k => wfInsn k
  | .nip k => wfInsn k
  | .tuck k => wfInsn k
  | .dup2 k => wfInsn k
  | .drop2 k => wfInsn k
  | .swap2 k => wfInsn k
  | .over2 k => wfInsn k
  | .toR k => wfInsn k
  | .rFrom k => wfInsn k
  | .rFetch k => wfInsn k
  | .rdrop k => wfInsn k
  | .lit8 k _ => wfInsn k
  | .lit16 k _ => wfInsn k
  | .lit32 k _ => wfInsn k
  | .lit64 k _ => wfInsn k
  | .pick k _ => wfInsn k
  | .depth k => wfInsn k
  | .add k => wfInsn k
  | .sub k => wfInsn k
  | .mul k => wfInsn k
  | .mulh k => wfInsn k
  | .mulhu k => wfInsn k
  | .div k => wfInsn k
  | .divu k => wfInsn k
  | .rem k => wfInsn k
  | .remu k => wfInsn k
  | .neg k => wfInsn k
  | .adc k => wfInsn k
  | .sbc k => wfInsn k
  | .cmp k => wfInsn k
  | .tst k => wfInsn k
  | .inc k => wfInsn k
  | .dec k => wfInsn k
  | .addi k _ => wfInsn k
  | .cmpi k _ => wfInsn k
  | .andB k => wfInsn k
  | .orB k => wfInsn k
  | .xorB k => wfInsn k
  | .notB k => wfInsn k
  | .andn k => wfInsn k
  | .shl k => wfInsn k
  | .shr k => wfInsn k
  | .sar k => wfInsn k
  | .rol k => wfInsn k
  | .ror k => wfInsn k
  | .clz k => wfInsn k
  | .ctz k => wfInsn k
  | .popc k => wfInsn k
  | .bswap k => wfInsn k
  | .sxw k => wfInsn k
  | .zxw k => wfInsn k
  | .shli k _ => wfInsn k
  | .shri k _ => wfInsn k
  | .sari k _ => wfInsn k
  | .rdsr k _ => wfInsn k
  | .wrsr k _ => wfInsn k
  | .rdtod k => wfInsn k
  | .wrkrr k => wfInsn k
  | .ldb k _ => wfInsn k
  | .ldbs k _ => wfInsn k
  | .ldh k _ => wfInsn k
  | .ldhs k _ => wfInsn k
  | .ldw k _ => wfInsn k
  | .ldws k _ => wfInsn k
  | .ldd k _ => wfInsn k
  | .ldp k => wfInsn k
  | .stb k _ => wfInsn k
  | .sth k _ => wfInsn k
  | .stw k _ => wfInsn k
  | .std k _ => wfInsn k
  | .stp k => wfInsn k
  | .ldr k => wfInsn k
  | .stc k => wfInsn k
  | .fence k => wfInsn k
  | .isync k => wfInsn k
  | .ldi k => wfInsn k
  | .sti k => wfInsn k
  | .br k b => wfInsn k && wfSlot b.slotLen
  | .bz k b => wfInsn k && wfSlot b.slotLen
  | .bnz k b => wfInsn k && wfSlot b.slotLen
  | .beq k b => wfInsn k && wfSlot b.slotLen
  | .bne k b => wfInsn k && wfSlot b.slotLen
  | .blt k b => wfInsn k && wfSlot b.slotLen
  | .bge k b => wfInsn k && wfSlot b.slotLen
  | .bgt k b => wfInsn k && wfSlot b.slotLen
  | .ble k b => wfInsn k && wfSlot b.slotLen
  | .bltu k b => wfInsn k && wfSlot b.slotLen
  | .bgeu k b => wfInsn k && wfSlot b.slotLen
  | .bgtu k b => wfInsn k && wfSlot b.slotLen
  | .bleu k b => wfInsn k && wfSlot b.slotLen
  | .bvs k b => wfInsn k && wfSlot b.slotLen
  | .bvc k b => wfInsn k && wfSlot b.slotLen
  | .call k b => wfInsn k && wfSlot b.slotLen
  | .jmpl k b => wfInsn k && wfSlot b.slotLen
  | .calll k b => wfInsn k && wfSlot b.slotLen
  | .jmpi k b => wfInsn k && wfSlot b.slotLen
  | .calli k b => wfInsn k && wfSlot b.slotLen
  | .ret k b => wfInsn k && wfSlot b.slotLen
  | .svc k _ => wfInsn k
  | .rett k => wfInsn k
  | .wait k => wfInsn k
  | .movs k => wfInsn k
  | .cmps k => wfInsn k
  | .fills k => wfInsn k
  | .scans k => wfInsn k
  | .xlats k => wfInsn k
  | .dmovs k => wfInsn k
  | .inw k => wfInsn k
  | .ind k => wfInsn k
  | .outw k => wfInsn k
  | .outd k => wfInsn k
  | .startio k => wfInsn k
  | .haltio k => wfInsn k
  | .testio k => wfInsn k
  | .invpg k => wfInsn k
  | .invtag k => wfInsn k
  | .invall k => wfInsn k
  | .spilld k => wfInsn k
  | .spillr k => wfInsn k
  | .fadd k _ => wfInsn k
  | .fsub k _ => wfInsn k
  | .fmul k _ => wfInsn k
  | .fdiv k _ => wfInsn k
  | .fsqrt k _ => wfInsn k
  | .fma k _ => wfInsn k
  | .fneg k _ => wfInsn k
  | .fabs k _ => wfInsn k
  | .fcmp k _ => wfInsn k
  | .fmin k _ => wfInsn k
  | .fmax k _ => wfInsn k
  | .fclass k _ => wfInsn k
  | .fcvtDS k => wfInsn k
  | .fcvtSD k => wfInsn k
  | .fcvtDL k => wfInsn k
  | .fcvtDLU k => wfInsn k
  | .fcvtLD k => wfInsn k
  | .fcvtLUD k => wfInsn k
  | .fcvtSL k => wfInsn k
  | .fcvtSLU k => wfInsn k
  | .fcvtLS k => wfInsn k
  | .fcvtLUS k => wfInsn k
  | .dadd k => wfInsn k
  | .dsub k => wfInsn k
  | .dcmp k => wfInsn k
  | .dchk k => wfInsn k
  | .dneg k => wfInsn k
  | .cvbd k => wfInsn k
  | .cvdb k => wfInsn k
  | .dshl k => wfInsn k
  | .dshr k => wfInsn k
  | .reservedInstruction k _ => wfInsn k
  | .takeInterrupt lcn => decide (lcn < 48)
  | .iciSend lcn _ => decide (lcn < 48)
  | .deviceResponse lcn => decide (lcn < 48)
  | .deviceStoreLost lcn => decide (lcn < 48)
  | .lostRead lcn => decide (lcn < 48)
  | .storePerformed lcn idx => decide (lcn < 48) && decide (idx < 64)
  | .holdEnd lcn => decide (lcn < 48)
  | .instructionRetry lcn e _ => decide (lcn < 48) && wfRetry e
  | .machineCheckStoredData lcn line => decide (lcn < 48) && decide (line < 2 ^ 44)
  | .timerMatch lcn _ => decide (lcn < 48)
  | .rds agent line _ => decide (agent < 84) && decide (line < 2 ^ 44)
  | .rdx agent line _ => decide (agent < 84) && decide (line < 2 ^ 44)
  | .upg agent line _ => decide (agent < 84) && decide (line < 2 ^ 44)
  | .hold agent line => decide (agent < 84) && decide (line < 2 ^ 44)
  | .rdna agent line _ => decide (agent < 84) && decide (line < 2 ^ 44)
  | .wrna agent line bytes => decide (agent < 84) && decide (line < 2 ^ 44) && wfMask bytes
  | .wb agent line _ => decide (agent < 84) && decide (line < 2 ^ 44)
  | .evn agent line => decide (agent < 84) && decide (line < 2 ^ 44)
  | .snps agent line => decide (agent < 84) && decide (line < 2 ^ 44)
  | .snpi agent line => decide (agent < 84) && decide (line < 2 ^ 44)
  | .snpr agent line => decide (agent < 84) && decide (line < 2 ^ 44)
  | .binv agent line => decide (agent < 84) && decide (line < 2 ^ 44)
  | .lineData agent line => decide (agent < 84) && decide (line < 2 ^ 44)
  | .lineDataE agent line => decide (agent < 84) && decide (line < 2 ^ 44)
  | .snpAck agent line => decide (agent < 84) && decide (line < 2 ^ 44)
  | .snpData agent line => decide (agent < 84) && decide (line < 2 ^ 44)
  | .sliceAck agent line => decide (agent < 84) && decide (line < 2 ^ 44)
  | .ackStale agent line => decide (agent < 84) && decide (line < 2 ^ 44)
  | .sliceRetry agent line => decide (agent < 84) && decide (line < 2 ^ 44)
  | .retryResend agent line => decide (agent < 84) && decide (line < 2 ^ 44)
  | .tlbi target issuer => decide (target < 48) && decide (issuer < 48)
  | .tlba sender issuer => decide (sender < 48) && decide (issuer < 48)
  | .linkAck station _ => decide (station < 84)
  | .linkCrcError station _ => decide (station < 84)
  | .victimRetry agent line => decide (agent < 84) && decide (line < 2 ^ 44)
  | .filteredModeChange e => wfFilter e
  | .hedgerowError core line => decide (core < 52) && decide (line < 2 ^ 44)
  | .wayDrainComplete slice way => decide (slice < 16) && decide (way < 16)
  | .poolwinLock => true
  | .windowLockComplete => true
  | .rangeFlush => true
  | .rangePurge => true
  | .rangeDone => true
  | .dramLineRead line e => decide (line < 2 ^ 44) && wfBursts e
  | .dramLineWrite line e => decide (line < 2 ^ 44) && wfBursts e
  | .scrubLine group e => decide (group < 4) && wfBursts e
  | .channelFail channel _ => decide (channel < 20)
  | .memoryReady => true
  | .establish _ _ => true
  | .modify _ _ => true
  | .remove _ _ => true
  | .ccwWrite sch => decide (sch < 2 ^ 20)
  | .ccwWriteCommitted sch => decide (sch < 2 ^ 20)
  | .ccwRead sch => decide (sch < 2 ^ 20)
  | .ccwReadJournaled sch => decide (sch < 2 ^ 20)
  | .ccwSendMessage sch => decide (sch < 2 ^ 20)
  | .ccwReceiveMessage sch => decide (sch < 2 ^ 20)
  | .controlClose sch => decide (sch < 2 ^ 20)
  | .controlAbort sch => decide (sch < 2 ^ 20)
  | .controlQuery sch => decide (sch < 2 ^ 20)
  | .controlPing sch => decide (sch < 2 ^ 20)
  | .controlPartner sch => decide (sch < 2 ^ 20)
  | .ccwSense sch => decide (sch < 2 ^ 20)
  | .ccwBranch sch => decide (sch < 2 ^ 20)
  | .ccwNop sch => decide (sch < 2 ^ 20)
  | .heldCompletionWrite q => decide (q < 4096)
  | .cqEnable q _ => decide (q < 4096)
  | .cqDisable q _ => decide (q < 4096)
  | .journalReserve => true
  | .recordDurable _ => true
  | .recordRelease _ => true
  | .frameReceive port f => decide (port < 16) && wfEth f
  | .scpOpen sch f => decide (sch ≤ 2 ^ 20) && wfScp f
  | .scpOpenAck sch f => decide (sch ≤ 2 ^ 20) && wfScp f
  | .scpData sch f => decide (sch ≤ 2 ^ 20) && wfScp f
  | .scpAck sch f => decide (sch ≤ 2 ^ 20) && wfScp f
  | .scpNak sch f => decide (sch ≤ 2 ^ 20) && wfScp f
  | .scpClose sch f => decide (sch ≤ 2 ^ 20) && wfScp f
  | .scpCloseAck sch f => decide (sch ≤ 2 ^ 20) && wfScp f
  | .scpKeepalive sch f => decide (sch ≤ 2 ^ 20) && wfScp f
  | .scpFence sch f => decide (sch ≤ 2 ^ 20) && wfScp f
  | .scpFenceAck sch f => decide (sch ≤ 2 ^ 20) && wfScp f
  | .scpError sch f => decide (sch ≤ 2 ^ 20) && wfScp f
  | .openResend sch => decide (sch ≤ 2 ^ 20)
  | .keepaliveTimer sch => decide (sch ≤ 2 ^ 20)
  | .pathDead sch => decide (sch ≤ 2 ^ 20)
  | .reopen sch => decide (sch ≤ 2 ^ 20)
  | .scpRetransmit sch => decide (sch ≤ 2 ^ 20 + 1)
  | .delayedAck sch => decide (sch ≤ 2 ^ 20 + 1)
  | .fenceResend sch => decide (sch < 2 ^ 20)
  | .tcpSegment sch g => decide (sch < 2 ^ 20) && wfTcp g
  | .tcpRetransmitTimeout sch => decide (sch < 2 ^ 20)
  | .linkDown port _ => decide (port < 16)
  | .linkUp port _ _ => decide (port < 16)
  | .pfcFrame port _ _ => decide (port < 16)
  | .pfcPauseExpiry port _ => decide (port < 16)
  | .announceRepeat port => decide (port < 16)
  | .ethcfgWrite port _ => decide (port < 16)
  | .czSubmit slice _ => decide (slice < 1024)
  | .czDescriptorFetch _ => true
  | .compress _ => true
  | .decompress _ => true
  | .czComplete _ _ => true
  | .czEnable slice _ => decide (slice < 1024)
  | .czDisable slice _ => decide (slice < 1024)
  | .keyLoad slice _ => decide (slice < 1024)
  | .keyErase slice _ => decide (slice < 1024)
  | .keyEraseAll slice _ => decide (slice < 1024)
  | .cxSubmit slice _ => decide (slice < 1024)
  | .cxDescriptorFetch _ => true
  | .encrypt _ => true
  | .decrypt _ => true
  | .macTag _ => true
  | .macVerify _ => true
  | .hashSha _ => true
  | .cxComplete _ _ => true
  | .cxEnable slice _ => decide (slice < 1024)
  | .cxDisable slice _ => decide (slice < 1024)
  | .saInstall _ => true
  | .saActivate _ => true
  | .txAnSwitch _ => true
  | .saRetire _ => true
  | .weirEvent r => wfReport r
  | .windowRoll src => decide (src < 4096)
  | .statusClear src _ => decide (src < 4096)
  | .logSelect _ => true
  | .weirParityError _ => true
  | .safeState => true
  | .beatOverrun _ _ _ => true
  | .spareCore _ => true
  | .spareCp _ => true
  | .rescue _ => true
  | .dump _ => true
  | .retire _ => true
  | .pairActive _ => true
  | .pairStandby _ => true
  | .leave _ => true
  | .promote _ => true
  | .handover _ => true
  | .coreSparing lcn bad => decide (lcn < 48) && wfLines bad
  | .spareConfirmationFail _ => true
  | .cpSparing lcp => decide (lcp < 32)
  | .selfTestPass _ _ => true
  | .controlAreaWrite => true
  | .deltaShip => true
  | .heartbeatSend => true
  | .healthSend => true
  | .heartbeat _ _ => true
  | .health _ => true
  | .delta _ _ entries => wfEntries entries
  | .deltaEnd _ _ _ => true
  | .deltaAckSend => true
  | .deltaAck _ _ => true
  | .pairedEntry => true
  | .mirrorHorizonMiss _ => true
  | .dyingGasp _ => true
  | .heartbeatLoss => true
  | .takeoverConfirm _ => true
  | .takeoverDeny _ => true
  | .soloGrant _ => true
  | .soloDeny _ => true
  | .safeReq _ => true
  | .witnessResend => true
  | .takeover => true
  | .guardedRegionWrite _ _ => true
  | .beatBoundary => true
  | .referenceLoss => true
  | .referenceReturn => true
  | .ppsEdge => true
  | .ppsLoss => true
  | .todSet => true
  | .todLoad => true
  | .sensorSample _ _ => true
  | .thermalLoop => true
  | .holdup _ => true
  | .powerStableChange => true
  | .railWindowExit _ => true
  | .powerDownAccept lcn => decide (lcn < 48)
  | .regulatorsOff => true
  | .powerSequence => true
  | .sequenceFail _ => true
  | .sequenceRetry => true
  | .pwronFall => true
  | .coldReset _ r => wfStart r
  | .warmReset _ r => wfStart r
  | .coreReset issuer _ _ bad => decide (issuer < 48) && wfLines bad
  | .mclVerify => true
  | .verifyComplete => true
  | .mclActivate => true
  | .microcodeActivation => true
  | .lcChange _ _ => true
  | .raiseBsvn _ _ => true
  | .raiseMsvn _ _ => true
  | .sliceEnable slice => decide (slice < 1024)
  | .sliceFreeze slice => decide (slice < 1024)
  | .freezeComplete slice => decide (slice < 1024)
  | .sliceThaw slice => decide (slice < 1024)
  | .sliceSave slice => decide (slice < 1024)
  | .sliceRestore slice => decide (slice < 1024)
  | .sliceBusyEnd => true
  | .sliceRelease slice => decide (slice < 1024)
  | .readClear lcn _ => decide (lcn < 48)
  | .registerWrite lcn _ _ => decide (lcn < 48)
  | .standbySupplyLoss _ => true
  | .standbySupplyOn => true
  | .keySlotEccError slice _ => decide (slice < 1024)

end Sys2Proof
end

