-- ==== Sys2Proof/Tests/Slice0.lean ====
section
/-! SUPPORT. The model's own tests. A theorem witness_X shows states and operands that meet the hypotheses of Claim.X, clause by clause; a theorem test_X runs one command on a small state. The expected values are worked out by hand from the rules named. -/

namespace Sys2Proof.Tests

set_option Elab.async false

open Sys2Proof.Machine

/-- The next state that a command answers. -/
def got (o : Host.Outcome State Fault Refusal) : Option State :=
  match o with
  | .next t => some t
  | _ => none

/-- An instruction of core 0 without prefixes. -/
def k0 : Insn := { lcn := 0, pfx := [] }

/-- The state after reset with core 0 changed. -/
def core0 (f : Core → Core) : State := State.reset.modCore 0 f

/-- The state after reset with entries on core 0's data stack, the top first. -/
def stk (xs : List Word) : State := core0 fun c => c.withStack xs

/-- The state after reset with n entries on core 0's data stack. -/
def stkN (n : Nat) : State := stk ((List.range n).map (BitVec.ofNat 64))

/-- Core 0's data stack after an outcome. -/
def cacheOf (o : Host.Outcome State Fault Refusal) : Option (List Word) := (got o).map fun t => (t.core 0).ds.cache

/-- A field of core 0 after an outcome. -/
def ofCore {α : Type} (f : Core → α) (o : Host.Outcome State Fault Refusal) : Option α := (got o).map fun t => f (t.core 0)

/-- What Ready asks of core n, as a value. -/
def readyNow (s : State) (n : Nat) : Bool :=
  let c := s.core n
  decide (c.run = .running) && !s.weir.safe && c.devRead.isNone && c.inval.isNone && c.ioWait.isNone && !c.renameStops &&
    decide (c.ds.cache.length ≤ 32) && decide (c.rs.cache.length ≤ 16) && (c.slotFresh || (s.nextEvent n).isNone) && c.due.isEmpty

theorem ready {s : State} {n : Nat} (h : readyNow s n = true) : Ready s n := by
  simp only [readyNow, Bool.and_eq_true, decide_eq_true_eq, Bool.or_eq_true, Bool.not_eq_true', Option.isNone_iff_eq_none, List.isEmpty_iff] at h
  obtain ⟨⟨⟨⟨⟨⟨⟨⟨⟨run, safe⟩, dev⟩, inval⟩, io⟩, rename⟩, ds⟩, rs⟩, due⟩, owes⟩ := h
  exact { run := run, notSafe := safe, devRead := dev, inval := inval, ioWait := io, rename := rename, dsMax := ds, rsMax := rs, due := due, owes := owes }

theorem romOnly {s : State} {n : Nat} (h : (s.store n).redir = []) : RomOnly s n := h

/-- A supervisor page of 16 KiB (R161) that reads, writes and executes, at va, with the dirty bit set. -/
def page (instr : Bool) (va pa : Nat) : TlbEntry :=
  { pid := 0, instr := instr, page := va / 2 ^ 14, size := 14, pa := pa, r := true, w := true, x := true, u := false, g := true, d := true, key := 0, ea := 0 }

/-! Stack, integer and special-register instructions. -/

/-- Every number of cached entries is a state of the statements about stacks (R40). -/
theorem witness_stacks : ∀ n : Fin 33, readyNow (stkN n) 0 = true ∧ ((stkN n).core 0).ds.cache.length = n := by decide +kernel

theorem witness_DataStackMoves : Ready (stk [4, 3, 2, 1]) 0 ∧ ((stk [4, 3, 2, 1]).core 0).ds.cache = 4 :: 3 :: 2 :: 1 :: [] := ⟨ready (by decide +kernel), by decide +kernel⟩
theorem test_over2 : cacheOf (exec (.over2 k0) (stk [4, 3, 2, 1])) = some [2, 1, 4, 3, 2, 1] := by decide +kernel
theorem test_rot : cacheOf (exec (.rot k0) (stk [3, 2, 1])) = some [1, 3, 2] := by decide +kernel
theorem test_tuck : cacheOf (exec (.tuck k0) (stk [2, 1])) = some [2, 1, 2] := by decide +kernel
theorem test_swap2 : cacheOf (exec (.swap2 k0) (stk [4, 3, 2, 1])) = some [2, 1, 4, 3] := by decide +kernel
theorem witness_Literals : Ready (stkN 31) 0 ∧ ((stkN 31).core 0).ds.cache.length < 32 := ⟨ready (by decide +kernel), by decide +kernel⟩
theorem test_lit8 : cacheOf (exec (.lit8 k0 0x80) (stk [])) = some [0xFFFFFFFFFFFFFF80] ∧ ofCore Core.pc (exec (.lit8 k0 0x80) (stk [])) = some 0x1000002 := by decide +kernel
theorem test_lit32 : cacheOf (exec (.lit32 k0 0x80000000) (stk [])) = some [0xFFFFFFFF80000000] := by decide +kernel

/-- Core 0 with entries on both stacks. -/
def both (xs rs : List Word) : State := core0 fun c => (c.withStack xs).withReturn rs

theorem witness_ReturnStackMoves : (Ready (both [7] (List.replicate 15 1)) 0 ∧ ((both [7] (List.replicate 15 1)).core 0).rs.cache.length < 16 ∧ ((both [7] (List.replicate 15 1)).core 0).ds.cache = 7 :: []) ∧
    (Ready (both (List.replicate 31 1) [7]) 0 ∧ ((both (List.replicate 31 1) [7]).core 0).rs.cache = 7 :: [] ∧ ((both (List.replicate 31 1) [7]).core 0).ds.cache.length < 32) :=
  ⟨⟨ready (by decide +kernel), by decide +kernel⟩, ready (by decide +kernel), by decide +kernel⟩
theorem test_toR : ofCore (fun c => (c.ds.cache, c.rs.cache)) (exec (.toR k0) (both [7] [5])) = some ([], [7, 5]) := by decide +kernel
theorem witness_PickAndDepth : Ready (stkN 31) 0 ∧ ((stkN 31).core 0).ds.cache.length < 32 ∧ ((stkN 31).core 0).ds.cache[(30#8).toNat]? = some 30 := ⟨ready (by decide +kernel), by decide +kernel⟩
theorem witness_Depth : Ready (stkN 31) 0 ∧ ((stkN 31).core 0).ds.cache.length < 32 := witness_Literals
/-- R76: d = 2 + (0x1000 - 0xFE0) / 8. -/
theorem test_depth : cacheOf (exec (.depth k0) (core0 fun c => { c with ds := { cache := [9, 8], ptr := 0xFE0, lo := 0, hi := 0x1000 } })) = some [6, 9, 8] := by decide +kernel

theorem witness_IntegerTwoOperands : Ready (stk [2, 1]) 0 ∧ ((stk [2, 1]).core 0).ds.cache = 2 :: 1 :: [] := ⟨ready (by decide +kernel), by decide +kernel⟩
theorem witness_IntegerOneOperand : Ready (stk [2]) 0 ∧ ((stk [2]).core 0).ds.cache = 2 :: [] := ⟨ready (by decide +kernel), by decide +kernel⟩
/-- R77: 2^63 - 1 + 1 overflows without a carry: N and V. -/
theorem test_add : ofCore (fun c => (c.ds.cache, c.psw)) (exec (.add k0) (stk [1, 0x7FFFFFFFFFFFFFFF])) = some ([0x8000000000000000], 0x1706) := by decide +kernel
/-- R77: 3 - 5 borrows: N, and C = 0. -/
theorem test_sub : ofCore (fun c => (c.ds.cache, c.psw)) (exec (.sub k0) (stk [5, 3])) = some ([0xFFFFFFFFFFFFFFFE], 0x1704) := by decide +kernel
/-- R78: the high half of -1 times 2. -/
theorem test_mulh : cacheOf (exec (.mulh k0) (stk [2, 0xFFFFFFFFFFFFFFFF])) = some [0xFFFFFFFFFFFFFFFF] := by decide +kernel
theorem test_mulhu : cacheOf (exec (.mulhu k0) (stk [2, 0xFFFFFFFFFFFFFFFF])) = some [1] := by decide +kernel
/-- R78: C = 0 means a borrow for SBC. -/
theorem test_sbc : cacheOf (exec (.sbc k0) (stk [3, 10])) = some [6] := by decide +kernel
theorem test_addi : cacheOf (exec (.addi k0 (.i8 0xFF)) (stk [5])) = some [4] := by decide +kernel
theorem test_cmpi : ofCore (fun c => (c.ds.cache, c.psw)) (exec (.cmpi k0 5) (stk [5])) = some ([], 0x1709) := by decide +kernel
theorem witness_Division : (Ready (stk [2, 7]) 0 ∧ ((stk [2, 7]).core 0).ds.cache = 2 :: 7 :: [] ∧ (2 : Word) ≠ 0) ∧ (Ready (stk [0, 7]) 0 ∧ ((stk [0, 7]).core 0).ds.cache = 0 :: 7 :: []) :=
  ⟨⟨ready (by decide +kernel), by decide +kernel, by decide⟩, ready (by decide +kernel), by decide +kernel⟩
/-- R79: -7 by 2 truncates to -3. -/
theorem test_div : cacheOf (exec (.div k0) (stk [2, 0xFFFFFFFFFFFFFFF9])) = some [0xFFFFFFFFFFFFFFFD] := by decide +kernel
/-- R79: -2^63 by -1 sets V. -/
theorem test_div_overflow : ofCore (fun c => (c.ds.cache, c.psw)) (exec (.div k0) (stk [0xFFFFFFFFFFFFFFFF, 0x8000000000000000])) = some ([0x8000000000000000], 0x1706) := by decide +kernel
theorem test_rem : cacheOf (exec (.rem k0) (stk [2, 0xFFFFFFFFFFFFFFF9])) = some [0xFFFFFFFFFFFFFFFF] := by decide +kernel
/-- R79, R141: at ML = 7 a divisor of 0 leaves the core checkstopped. -/
theorem test_div_zero : ofCore Core.run (exec (.div k0) (stk [0, 7])) = some .checkstopped := by decide +kernel
theorem witness_LogicAndBits : (Ready (stk [2, 1]) 0 ∧ ((stk [2, 1]).core 0).ds.cache = 2 :: 1 :: []) ∧ (Ready (stk [2]) 0 ∧ ((stk [2]).core 0).ds.cache = 2 :: []) :=
  ⟨witness_IntegerTwoOperands, witness_IntegerOneOperand⟩
theorem test_andn : cacheOf (exec (.andn k0) (stk [0xF0, 0xFF])) = some [0x0F] := by decide +kernel
theorem test_ror : cacheOf (exec (.ror k0) (stk [4, 1])) = some [0x1000000000000000] := by decide +kernel
theorem test_bswap : cacheOf (exec (.bswap k0) (stk [0x0102030405060708])) = some [0x0807060504030201] := by decide +kernel
theorem test_clz : cacheOf (exec (.clz k0) (stk [0])) = some [64] ∧ cacheOf (exec (.clz k0) (stk [0x10])) = some [59] := by decide +kernel
theorem test_ctz : cacheOf (exec (.ctz k0) (stk [0x10])) = some [4] := by decide +kernel
theorem test_popc : cacheOf (exec (.popc k0) (stk [0xF1])) = some [5] := by decide +kernel
theorem witness_Shifts : (Ready (stk [64, 1]) 0 ∧ ((stk [64, 1]).core 0).ds.cache = 64 :: 1 :: []) ∧ (Ready (stk [2]) 0 ∧ ((stk [2]).core 0).ds.cache = 2 :: []) :=
  ⟨⟨ready (by decide +kernel), by decide +kernel⟩, witness_IntegerOneOperand⟩
/-- R80: the bit shifted out last is C. -/
theorem test_shl : ofCore (fun c => (c.ds.cache, c.psw)) (exec (.shl k0) (stk [65, 0x8000000000000001])) = some ([2], 0x1701) := by decide +kernel
theorem test_sari : cacheOf (exec (.sari k0 4) (stk [0x8000000000000000])) = some [0xF800000000000000] := by decide +kernel

theorem witness_SpecialRegisters : (Ready (stkN 31) 0 ∧ (stkN 31).sup 0 = true ∧ ((stkN 31).core 0).ds.cache.length < 32) ∧ (Ready (stk [9]) 0 ∧ RomOnly (stk [9]) 0 ∧ (stk [9]).sup 0 = true ∧ ((stk [9]).core 0).ds.cache = 9 :: []) :=
  ⟨⟨ready (by decide +kernel), by decide +kernel⟩, ready (by decide +kernel), romOnly (by decide +kernel), by decide +kernel⟩
theorem test_rdsr : cacheOf (exec (.rdsr k0 0x00) (stk [])) = some [0x1700] := by decide +kernel
theorem test_wrsr : ofCore Core.fpc (exec (.wrsr k0 0x1C) (stk [0xFFFFFFFFFFFFFFFF])) = some 0x001F1F0F := by decide +kernel
theorem test_wrkrr : ofCore Core.krr (exec (.wrkrr k0) (stk [0x123456789])) = some 0x23456789 := by decide +kernel

/-- Core 0 in user state, ML = 0, with entries on its data stack. -/
def user (xs : List Word) : State := core0 fun c => { c with psw := 0, ds := { c.ds with cache := xs } }

theorem witness_SpecialRegisterTraps : (Ready (user []) 0 ∧ (user []).sup 0 = false ∧ (0x48 - 1 : Nat) < 0x48) ∧ (Ready (stk []) 0 ∧ 0x50 ≤ (0x50#8).toNat) :=
  ⟨⟨ready (by decide +kernel), by decide +kernel, by decide⟩, ready (by decide +kernel), by decide⟩
theorem test_user_wrsr : (cacheOf (exec (.wrsr k0 0x01) (user [5]))).map (fun xs => xs.take 1) = some [11] ∧ ofCore Core.pc (exec (.wrsr k0 0x01) (user [5])) = some 0x10002C0 := by decide +kernel
theorem witness_TimeOfDay : Ready (stkN 30) 0 ∧ (stkN 30).plant.refCycle < 100 ∧ ((stkN 30).core 0).ds.cache.length < 31 := ⟨ready (by decide +kernel), by decide +kernel⟩
/-- R456: at the handover TOD is BEATC. The reference cycle inside the beat is free. -/
theorem test_rdtod : (got (exec (.rdtod k0) (stk []))).map (fun t => t.plant.todBase) = some (1099200 <<< 64) := by decide +kernel

/-! Memory instructions. -/

/-- What Mapped asks, as a value. -/
def mappedNow (s : State) (n : Nat) (va : Word) (w : Nat) (acc : Acc) (t : TlbEntry) : Bool :=
  decide ((if acc.instr then (s.core n).tlb.itlb else (s.core n).tlb.dtlb).filter (fun t => t.serves acc.instr (s.core n).pid va.toNat) = [t]) &&
    decide (t.instr = acc.instr) && decide ((s.core n).tlb.itlb.length ≤ 64) && decide ((s.core n).tlb.dtlb.length ≤ 96) &&
    decide (checkReason acc (s.core n).krr t.r t.w t.x t.u t.key = none) && decide (va.toNat % 2 ^ t.size + w ≤ 2 ^ t.size)

theorem mapped {s : State} {n w : Nat} {va : Word} {acc : Acc} {t : TlbEntry} (h : mappedNow s n va w acc t = true) : Mapped s n va w acc t := by
  simp only [mappedNow, Bool.and_eq_true, decide_eq_true_eq] at h
  obtain ⟨⟨⟨⟨⟨a, b⟩, c⟩, d⟩, e⟩, f⟩ := h
  exact ⟨a, b, ⟨c, d⟩, e, f⟩

theorem readable {s : State} {n pa w : Nat} (h : ∀ i, i < w → s.mustWait n (pa + i) = false ∧ s.paKind (pa + i) ≠ .hole ∧ s.poisoned (lineOf (pa + i)) = false) : Readable s n pa w :=
  ⟨fun i hi => (h i hi).1, fun i hi => (h i hi).2.1, fun i hi => (h i hi).2.2⟩

/-- A sufficient condition for Readable that looks at no single address: nothing is held, in transaction, under way or poisoned. -/
def plainMemory (s : State) (top : Nat) : Bool :=
  s.pool.locked && decide (s.pool.txns = []) && decide (s.pool.holds = []) && decide (s.pool.queue = []) && decide (s.pool.noVictim = []) &&
    s.cores.all (fun c => c.hold.isNone) && decide (top ≤ s.capacity) && s.pool.dir.all (fun e => !e.p) && decide (s.mc.poisonCode = []) && s.mc.groups.all (fun g => !g.lost)

theorem readablePlain {s : State} {n pa w : Nat} (h : plainMemory s (pa + w) = true) : Readable s n pa w := by
  simp only [plainMemory, Bool.and_eq_true, decide_eq_true_eq, List.all_eq_true, Bool.not_eq_true', Option.isNone_iff_eq_none] at h
  obtain ⟨⟨⟨⟨⟨⟨⟨⟨⟨locked, txns⟩, marks⟩, queue⟩, noVictim⟩, holds⟩, top⟩, dir⟩, code⟩, groups⟩ := h
  refine ⟨fun i hi => ?_, fun i hi => ?_, fun i hi => ?_⟩
  · have held : s.heldByOther (s.core n).pcn (lineOf (pa + i)) = false := by
      simp only [State.heldByOther, List.any_eq_false]
      intro c hc
      simp [holds c hc]
    simp [State.mustWait, State.lineWaits, State.markedByOther, State.reqWaiting, State.windowForming, locked, held, txns, marks, queue, noVictim]
  · have : pa + i < s.capacity := by omega
    simp [State.paKind, this]
  · have lost : s.groupLost (lineOf (pa + i)) = false := by
      unfold State.groupLost
      rw [List.getD_eq_getElem?_getD, List.getElem?_map]
      cases hg : s.mc.groups[groupOf (lineOf (pa + i))]? with
      | none => rfl
      | some g => exact groups g (List.mem_of_getElem? hg)
    unfold State.poisoned
    split
    · rename_i e he
      exact dir e (List.mem_of_find?_eq_some he)
    · simp [State.dramPoison, code, lost]

/-- Core 0 with entries on its data stack, with a data page and an instruction page that map 0x4000 to 0x8000, and alone in the line at 0x8000, whose first bytes are given. -/
def inMem (xs : List Word) (bs : List Byte) : State :=
  { core0 (fun c => { c with ds := { c.ds with cache := xs }, tlb := { itlb := [page true 0x4000 0x8000], dtlb := [page false 0x4000 0x8000], l2 := [], walk := [] } }) with
    mem := bootTree ++ cellsFrom 0x8000 bs,
    pool := { Pool.reset with dir := [{ line := 0x80, way := 0, d := false, x := true, p := false, pv := [0], hedge := [], ecc := 0 }], agents := [{ agent := 0, line := 0x80, way := 0, st := .e }] } }

def dpage : TlbEntry := page false 0x4000 0x8000
def ipage : TlbEntry := page true 0x4000 0x8000
def rdAcc : Acc := { instr := false, rd := true, wr := false, fetch := false, user := false, uaOk := false }
def wrAcc : Acc := { instr := false, rd := false, wr := true, fetch := false, user := false, uaOk := false }
def someBytes : List Byte := [0x81, 0x02, 0x03, 0x04, 0x05, 0x06, 0x07, 0x08, 9, 10, 11, 12, 13, 14, 15, 16]

/-- The store buffer of core 0 after an outcome. -/
def sbOf (o : Host.Outcome State Fault Refusal) : Option (List StoreEntry) := ofCore Core.sb o

/-- The last byte of the page, for a byte, and its last doubleword, for a doubleword: the clauses of every width at the page's end. -/
theorem witness_Loads : Ready (inMem [0x4000] someBytes) 0 ∧ LoadPrefixes (inMem [0x4000] someBytes) k0 ∧ ((inMem [0x4000] someBytes).core 0).ds.cache = 0x4000 :: [] ∧
    dataAcc ((inMem [0x4000] someBytes).core 0) false false = rdAcc ∧
    (∀ e ∈ [((0x7FFF : Word), 1), (0x7FFE, 2), (0x7FFC, 4), (0x7FF8, 8), (0x4001, 8)],
      Mapped (inMem [0x4000] someBytes) 0 e.1 e.2 rdAcc dpage ∧ Readable (inMem [0x4000] someBytes) 0 (dpage.addr e.1.toNat) e.2) :=
  ⟨ready (by decide +kernel), ⟨by decide, fun _ => rfl, by decide⟩, by decide +kernel, by decide +kernel, by
    intro e he
    simp only [List.mem_cons, List.not_mem_nil, or_false] at he
    rcases he with rfl | rfl | rfl | rfl | rfl <;> exact ⟨mapped (by decide +kernel), readable (by decide +kernel)⟩⟩
theorem test_ldb : cacheOf (exec (.ldb k0 none) (inMem [0x4000] someBytes)) = some [0x81] := by decide +kernel
theorem test_ldbs : cacheOf (exec (.ldbs k0 none) (inMem [0x4000] someBytes)) = some [0xFFFFFFFFFFFFFF81] := by decide +kernel
theorem test_ldws : cacheOf (exec (.ldws k0 (some 0xFFFF)) (inMem [0x4001] someBytes)) = some [0xFFFFFFFF81020304] := by decide +kernel
theorem test_ldd : cacheOf (exec (.ldd k0 (some 1)) (inMem [0x4000] someBytes)) = some [0x0203040506070809] := by decide +kernel
/-- R184: a load sees the core's own buffered store. -/
theorem test_forward : cacheOf (exec (.ldh k0 none) ((inMem [0x4000] someBytes).modCore 0 fun c => { c with sb := [{ addr := 0x8001, bytes := [0xAA], rel := false }] })) = some [0x81AA] := by decide +kernel

theorem witness_PairAndInstructionLoads : Ready (inMem [0x4000] someBytes) 0 ∧ ((inMem [0x4000] someBytes).core 0).ds.cache = 0x4000 :: [] ∧ LoadPrefixes (inMem [0x4000] someBytes) k0 ∧
    Mapped (inMem [0x4000] someBytes) 0 0x4000 16 rdAcc dpage ∧ Readable (inMem [0x4000] someBytes) 0 (dpage.addr 0x4000) 16 ∧
    Mapped (inMem [0x4000] someBytes) 0 0x4000 8 { instr := true, rd := false, wr := false, fetch := true, user := false, uaOk := false } ipage ∧
    Readable (inMem [0x4000] someBytes) 0 (ipage.addr 0x4000) 8 ∧ (∀ i, i < 8 → (inMem [0x4000] someBytes).isDram (ipage.addr 0x4000 + i) = true) :=
  ⟨ready (by decide +kernel), by decide +kernel, witness_Loads.2.1, mapped (by decide +kernel), readable (by decide +kernel), mapped (by decide +kernel), readable (by decide +kernel), by decide +kernel⟩
theorem test_ldp : cacheOf (exec (.ldp k0) (inMem [0x4000] someBytes)) = some [0x090A0B0C0D0E0F10, 0x8102030405060708] := by decide +kernel
theorem test_ldi : cacheOf (exec (.ldi k0) (inMem [0x4000] someBytes)) = some [0x8102030405060708] := by decide +kernel

theorem witness_Stores : Ready (inMem [0x4000, 7] []) 0 ∧ StorePrefixes (inMem [0x4000, 7] []) k0 ∧ ((inMem [0x4000, 7] []).core 0).ds.cache = 0x4000 :: 7 :: [] ∧ dpage.d = true ∧
    (∀ e ∈ [((0x7FFF : Word), 1), (0x7FFE, 2), (0x4001, 4), (0x7FF8, 8)], Mapped (inMem [0x4000, 7] []) 0 e.1 e.2 wrAcc dpage ∧ ((inMem [0x4000, 7] []).core 0).sb.length + e.2 ≤ 64) :=
  ⟨ready (by decide +kernel), ⟨by decide, fun _ => rfl⟩, by decide +kernel, rfl, by
    intro e he
    simp only [List.mem_cons, List.not_mem_nil, or_false] at he
    rcases he with rfl | rfl | rfl | rfl <;> exact ⟨mapped (by decide +kernel), by decide +kernel⟩⟩
/-- R197: an access that is no multiple of its width is single bytes. -/
theorem test_sth : sbOf (exec (.sth k0 none) (inMem [0x4001, 0x1234] [])) = some [{ addr := 0x8001, bytes := [0x12], rel := false }, { addr := 0x8002, bytes := [0x34], rel := false }] := by decide +kernel
theorem test_std : sbOf (exec (.std k0 none) (inMem [0x4008, 0x0102030405060708] [])) = some [{ addr := 0x8008, bytes := [1, 2, 3, 4, 5, 6, 7, 8], rel := false }] := by decide +kernel
/-- R57, R187: REL marks the store. -/
theorem test_stb_rel : sbOf (exec (.stb { lcn := 0, pfx := [.rel] } none) (inMem [0x4000, 0x1FF] [])) = some [{ addr := 0x8000, bytes := [0xFF], rel := true }] := by decide +kernel
theorem witness_PairAndInstructionStores : Ready (inMem [0x4010, 2, 1] []) 0 ∧ StorePrefixes (inMem [0x4010, 2, 1] []) k0 ∧ Mapped (inMem [0x4010, 2, 1] []) 0 0x4010 16 wrAcc dpage ∧
    Mapped (inMem [0x4010, 2, 1] []) 0 0x4010 8 { instr := true, rd := false, wr := true, fetch := false, user := false, uaOk := false } ipage ∧ ((inMem [0x4010, 2, 1] []).core 0).ds.cache = 0x4010 :: 2 :: 1 :: [] ∧
    (inMem [0x4010, 2, 1] []).paKind (dpage.addr 0x4010) = .dram ∧ (inMem [0x4010, 2, 1] []).isDram (ipage.addr 0x4010) = true ∧ ((inMem [0x4010, 2, 1] []).core 0).sb.length < 64 :=
  ⟨ready (by decide +kernel), ⟨by decide, fun _ => rfl⟩, mapped (by decide +kernel), mapped (by decide +kernel), by decide +kernel⟩
theorem test_stp : sbOf (exec (.stp k0) (inMem [0x4010, 2, 1] [])) = some [{ addr := 0x8010, bytes := [0, 0, 0, 0, 0, 0, 0, 1, 0, 0, 0, 0, 0, 0, 0, 2], rel := false }] := by decide +kernel
theorem test_sti : sbOf (exec (.sti k0) (inMem [0x4010, 2] [])) = some [{ addr := 0x8010, bytes := [0, 0, 0, 0, 0, 0, 0, 2], rel := false }] := by decide +kernel

theorem owned80 (xs : List Word) (bs : List Byte) : Owned (inMem xs bs) 0 0x80 :=
  ⟨⟨{ line := 0x80, way := 0, d := false, x := true, p := false, pv := [0], hedge := [], ecc := 0 }, rfl, rfl⟩, .inl rfl, by rfl, by rfl, by rfl, by rfl⟩
theorem witness_LoadReserve : Ready (inMem [0x4000] someBytes) 0 ∧ LoadPrefixes (inMem [0x4000] someBytes) k0 ∧ Mapped (inMem [0x4000] someBytes) 0 0x4000 8 rdAcc dpage ∧ Readable (inMem [0x4000] someBytes) 0 (dpage.addr 0x4000) 8 ∧
    (inMem [0x4000] someBytes).paKind (dpage.addr 0x4000) = .dram ∧ Owned (inMem [0x4000] someBytes) 0 0x80 ∧ (inMem [0x4000] someBytes).guarded (dpage.addr 0x4000) = false ∧ ((inMem [0x4000] someBytes).core 0).sb = [] ∧
    Mapped (inMem [0x4001] someBytes) 0 0x4001 8 rdAcc dpage :=
  ⟨ready (by decide +kernel), witness_Loads.2.1, mapped (by decide +kernel), readable (by decide +kernel), by decide +kernel, owned80 _ _, by decide +kernel, by decide +kernel, mapped (by decide +kernel)⟩
theorem test_ldr : ofCore (fun c => (c.ds.cache, c.resv, c.hold)) (exec (.ldr k0) (inMem [0x4000] someBytes)) = some ([0x8102030405060708], some { va := 0x4000, granule := 0x80 }, some { line := 0x80, left := 17 }) := by decide +kernel

/-- Core 0 with a reservation on the doubleword at 0x4000. -/
def reserved (xs : List Word) : State := (inMem xs someBytes).modCore 0 fun c => { c with resv := some { va := 0x4000, granule := 0x80 } }
theorem witness_StoreConditional : (Ready (inMem [0x4000, 7] []) 0 ∧ ((inMem [0x4000, 7] []).core 0).resv = none ∧ (inMem [0x4000, 7] []).mem.wf = true ∧ Mapped (inMem [0x4000, 7] []) 0 0x4000 8 wrAcc dpage) ∧
    (Ready (reserved [0x4000, 7]) 0 ∧ Mapped (reserved [0x4000, 7]) 0 0x4000 8 wrAcc dpage ∧ Owned (reserved [0x4000, 7]) 0 0x80 ∧ ((reserved [0x4000, 7]).core 0).ds.cache = 0x4000 :: 7 :: [] ∧
      (reserved [0x4000, 7]).mem.wf = true ∧ ((reserved [0x4000, 7]).core 0).resv = some { va := 0x4000, granule := lineOf (dpage.addr 0x4000) } ∧
      (reserved [0x4000, 7]).paKind (dpage.addr 0x4000) = .dram ∧ (reserved [0x4000, 7]).guarded (dpage.addr 0x4000) = false ∧ (reserved [0x4000, 7]).windowForming (dpage.addr 0x4000) = false) :=
  ⟨⟨ready (by decide +kernel), rfl, by decide +kernel, mapped (by decide +kernel)⟩, ready (by decide +kernel), mapped (by decide +kernel),
    ⟨⟨{ line := 0x80, way := 0, d := false, x := true, p := false, pv := [0], hedge := [], ecc := 0 }, rfl, rfl⟩, .inl rfl, by rfl, by rfl, by rfl, by rfl⟩, by decide +kernel⟩
theorem test_stc : (got (exec (.stc k0) (reserved [0x4000, 7]))).map (fun t => ((t.core 0).ds.cache, (t.core 0).resv, t.mem.readN 0x8000 9)) = some ([1], none, [0, 0, 0, 0, 0, 0, 0, 7, 9]) := by decide +kernel
theorem test_stc_lost : (got (exec (.stc k0) (inMem [0x4000, 7] someBytes))).map (fun t => ((t.core 0).ds.cache, t.mem.read 0x8000)) = some ([0], 0x81) := by decide +kernel

theorem witness_FencesAndWait : Ready (stk []) 0 ∧ RomOnly (stk []) 0 ∧ ((stk []).drain 0).isSome = true ∧ ((stk []).core 0).devStore = none ∧ (stk []).sup 0 = true ∧ (stk []).nextEvent 0 = none := ⟨ready (by decide +kernel), romOnly (by decide +kernel), by decide +kernel⟩
/-- Core 0 at ML = 0 with an inter-core interrupt pending, in the slot after RETT (R139). -/
def interrupted : State := core0 fun c => { c with psw := 0x1000, ici := true, slotFresh := true }
theorem witness_FencesAndWait_due : Ready interrupted 0 ∧ RomOnly interrupted 0 ∧ interrupted.sup 0 = true ∧ interrupted.nextEvent 0 ≠ none := ⟨ready (by decide +kernel), romOnly (by decide +kernel), by decide +kernel⟩
theorem test_fence : (got (exec (.fence k0) ((inMem [] []).modCore 0 fun c => { c with sb := [{ addr := 0x8002, bytes := [5], rel := false }] }))).map (fun t => (t.mem.read 0x8002, (t.core 0).sb, (t.core 0).pc)) = some (5, [], 0x1000001) := by decide +kernel
theorem test_wait : ofCore Core.run (exec (.wait k0) (stk [])) = some .waiting := by decide +kernel

/-- Core 0 with a device store outstanding to port 2303 of an Ethernet port that is out of use. -/
def storeOut : State := { core0 (fun c => { c with devStore := some { port := 0x800000, value := 0, wide := true, issued := 0, cycle := 0 } }) with weir := { Weir.reset with outOfUse := [0x900] } }
theorem witness_FenceWaits : Ready storeOut 0 ∧ (storeOut.core 0).sb = [] ∧ (storeOut.core 0).devStore = some { port := 0x800000, value := 0, wide := true, issued := 0, cycle := 0 } ∧ storeOut.unitAnswers 0x800000 = false :=
  ⟨ready (by decide +kernel), by decide +kernel⟩

/-! Control transfer and exceptions. -/

def b16 (a : Bool) : Branch16 := { slotBit := a, disp := 0x100, slotLen := 2 }
theorem witness_Branches : Ready (stk [3]) 0 ∧ ((stk [3]).core 0).delay = false ∧ ((stk [3]).core 0).ds.cache = 3 :: [] := ⟨ready (by decide +kernel), by decide +kernel⟩
/-- R61: the slot at 0x1000003 runs, then the target. -/
theorem test_br : ofCore (fun c => (c.pc, c.delay, c.npc)) (exec (.br k0 (b16 false)) (stk [])) = some (0x1000003, true, 0x1000100) := by decide +kernel
/-- R61: a conditional branch with A = 1 that is not taken skips its slot. -/
theorem test_bz_annulled : ofCore (fun c => (c.pc, c.delay)) (exec (.bz k0 (b16 true)) (stk [3])) = some (0x1000005, false) := by decide +kernel
theorem test_bnz : ofCore (fun c => (c.pc, c.delay, c.npc)) (exec (.bnz k0 (b16 true)) (stk [3])) = some (0x1000003, true, 0x1000100) := by decide +kernel
/-- R64: with C = 0 and Z = 0, unsigned below holds and unsigned above does not. -/
theorem test_bltu : ofCore Core.npc (exec (.bltu k0 (b16 false)) (stk [])) = some 0x1000100 ∧ ofCore Core.npc (exec (.bgtu k0 (b16 false)) (stk [])) = some 0x1000005 := by decide +kernel
theorem witness_CallsAndReturns : Ready (both [7] (List.replicate 15 1)) 0 ∧ ((both [7] (List.replicate 15 1)).core 0).delay = false ∧ ((both [7] (List.replicate 15 1)).core 0).rs.cache.length < 16 ∧
    ((both [7] (List.replicate 15 1)).core 0).ds.cache = 7 :: [] ∧ Ready (both [] [7]) 0 ∧ ((both [] [7]).core 0).rs.cache = 7 :: [] := ⟨ready (by decide +kernel), rfl, by decide +kernel, rfl, ready (by decide +kernel), by decide +kernel⟩
/-- R93: the return address lies behind the slot, also where the slot is skipped. -/
theorem test_call : ofCore (fun c => (c.pc, c.delay, c.rs.cache)) (exec (.call k0 (b16 true)) (both [] [])) = some (0x1000100, false, [0x1000005]) := by decide +kernel
theorem test_ret : ofCore (fun c => (c.pc, c.npc, c.rs.cache)) (exec (.ret k0 { slotBit := false, slotLen := 1 }) (both [] [0x2000, 9])) = some (0x1000001, 0x2000, [9]) := by decide +kernel
/-- R61: a branch in a delay slot raises Illegal-Prefix; at ML = 7 the core checkstops. -/
theorem test_branch_in_slot : ofCore Core.run (exec (.br k0 (b16 false)) (core0 fun c => { c with delay := true, npc := 0x2000 })) = some .checkstopped := by decide +kernel

/-- Core 0 in supervisor state at a level ML, with an entry on its data stack. -/
def atMl (n : Nat) (xs : List Word) : State := core0 fun c => { c with psw := 0x1000 ||| (BitVec.ofNat 64 n <<< 8), ds := { c.ds with cache := xs } }
def anExc : Exc := Exc.plain 13 4 0x1000000
theorem witness_ExceptionEntry : anExc.level = 4 ∧ ∀ ml ∈ [3, 4, 6, 7], pswML ((atMl ml [5]).core 0).psw = ml ∧ ((atMl ml [5]).store 0).redir = [] ∧ (((atMl ml [5]).drain 0).any fun d => d.tsbUsable (d.core 0).tsbr &&
    ((d.writeTsb 0 anExc 13 0 4).any fun w => decide (0 < w.cores.length)) && ((d.writeTsb 0 anExc 2 13 7).any fun w => decide (0 < w.cores.length)) && (d.writeTsb 0 anExc 13 0 7).isSome) = true := by decide +kernel
/-- R148, R150: Integer-Divide at ML = 0 goes to VBR + 64 * 13 at level 4, the vector above the TSB's address. -/
theorem test_exception_entry : ofCore (fun c => (c.pc, c.psw, c.ds.cache, c.tsbr)) (exec (.div k0) (atMl 0 [0, 7])) = some (0x1000340, 0x1400, [13, 0x10000], 0x10400) := by decide +kernel
/-- R141: at ML = 4 it is a Double Fault at level 7. -/
theorem test_double_fault : ofCore (fun c => (c.pc, c.psw)) (exec (.div k0) (atMl 4 [0, 7])) = some (0x1000080, 0x1700) := by decide +kernel
/-- R146: the first 20 bytes of the TSB of an Integer-Divide raised by a DIV at 0x1000000 with two entries on the data stack. -/
theorem test_tsb : (tsbHeader ((atMl 0 [0, 7]).core 0) { anExc with opc := [0x15], ilen := 1 } 13 0 4 5).take 24 = [1, 13, 0, 4, 2, 0, 1, 1, 0x15, 0, 0, 0, 0, 0, 0, 0, 0, 0, 0, 0, 1, 0, 0, 0] := by decide +kernel
def noTsb : State := core0 fun c => { c with psw := 0x1000, tsbr := 0x10001, ds := { c.ds with cache := [0, 7] } }
theorem witness_UnusableTsbStalls : 0 < noTsb.cores.length ∧ (noTsb.store 0).redir = [] ∧ (noTsb.core 0).sb = [] ∧ noTsb.tsbUsable (noTsb.core 0).tsbr = false ∧ pswML (noTsb.core 0).psw < anExc.level := by decide +kernel
theorem test_stalls : ofCore Core.run (exec (.div k0) noTsb) = some .stalled := by decide +kernel

def svcExc (s : State) : Exc := { Exc.plain 12 4 ((s.core 0).pc + 2) with info := 9 }
theorem witness_SupervisorCall : ∀ ml ∈ [0, 3, 4, 6], readyNow (atMl ml []) 0 = true ∧ ((atMl ml []).store 0).redir = [] ∧ ((atMl ml []).core 0).delay = false ∧ pswML ((atMl ml []).core 0).psw = ml ∧ (((atMl ml []).drain 0).any fun d => d.tsbUsable (d.core 0).tsbr &&
    ((d.writeTsb 0 (svcExc (atMl ml [])) 12 0 4).any fun w => decide (0 < w.cores.length)) && ((d.writeTsb 0 (svcExc (atMl ml [])) 2 12 7).any fun w => decide (0 < w.cores.length))) = true := by decide +kernel
theorem test_svc : ofCore (fun c => (c.pc, c.ds.cache)) (exec (.svc k0 9) (atMl 0 [])) = some (0x1000300, [12, 0x10000]) := by decide +kernel

/-- Core 0 in a handler, with a TSB below TSBR (R147): VER, two entries of the data stack, none of the return stack, the saved pc 0x1000002, PSW 0; one byte of it may differ. -/
def inTsb (o : Nat) (v : Byte) : State :=
  { core0 (fun c => { c with psw := 0x1400, tsbr := 0x10400 }) with
    mem := bootTree ++ (cellsFrom 0x10000 ([1, 0, 0, 0, 2, 0, 0, 0].set o v) ++ cellsFrom 0x10010 [0, 0, 0, 0, 1, 0, 0, 2] ++ cellsFrom 0x10107 [6] ++ cellsFrom 0x1010F [5]) }
def inHandler : State := inTsb 0 1
theorem witness_ReturnFromException : Ready inHandler 0 ∧ Readable inHandler 0 0x10000 0x400 ∧ (inHandler.store 0).redir = [] ∧ (inHandler.core 0).delay = false ∧ inHandler.sup 0 = true ∧
    (inHandler.core 0).sb = [] ∧ 0x400 ≤ (inHandler.core 0).tsbr.toNat ∧
    inHandler.tsbUsable ((inHandler.core 0).tsbr - 0x400) = true ∧ (inHandler.core 0).tsbr.toNat - 0x400 = 0x10000 ∧ inHandler.mem.read 0x10000 = 1 ∧
    (inHandler.mem.read 0x10004).toNat ≤ 32 ∧ (inHandler.mem.read 0x10005).toNat ≤ 16 :=
  ⟨ready (by decide +kernel), readablePlain (by decide +kernel), by decide +kernel⟩
/-- R152: RETT brings back the state before the SVC, its pc behind it. -/
theorem test_rett : ofCore (fun c => (c.pc, c.psw, c.ds.cache, c.tsbr)) (exec (.rett k0) inHandler) = some (0x1000002, 0, [6, 5], 0x10000) := by decide +kernel
theorem witness_ReturnChecks : (Ready (user []) 0 ∧ ((user []).core 0).delay = false ∧ (user []).sup 0 = false) ∧
    (let s := core0 fun c => { c with tsbr := 0x3FF }; Ready s 0 ∧ (s.store 0).redir = [] ∧ s.sup 0 = true ∧ (s.core 0).sb = [] ∧ (s.core 0).tsbr.toNat < 0x400) ∧
    (∀ e ∈ [(0, (2 : Byte)), (4, 33), (5, 17)], readyNow (inTsb e.1 e.2) 0 = true ∧ plainMemory (inTsb e.1 e.2) (0x10000 + 0x400) = true ∧ ((inTsb e.1 e.2).store 0).redir = [] ∧ ((inTsb e.1 e.2).core 0).sb = [] ∧ (inTsb e.1 e.2).sup 0 = true ∧ (inTsb e.1 e.2).tsbUsable (((inTsb e.1 e.2).core 0).tsbr - 0x400) = true ∧ (inTsb e.1 e.2).mem.read (0x10000 + e.1) = e.2) :=
  ⟨⟨ready (by decide +kernel), by decide +kernel⟩, ⟨ready (by decide +kernel), by decide +kernel⟩, by decide +kernel⟩
/-- R152: TSB-Format, vector 22, above the handler's ML of 4 has no level left: Double Fault. -/
theorem test_rett_format : ofCore (fun c => c.pc) (exec (.rett k0) (inTsb 0 2)) = some 0x1000080 := by decide +kernel

def swiDue : State := core0 fun c => { c with psw := 0x1000, swi := true, ici := true }
theorem witness_InterruptEntry : (swiDue.core 0).run = .running ∧ swiDue.weir.safe = false ∧ (swiDue.core 0).ioWait = none ∧ (swiDue.store 0).redir = [] ∧ (swiDue.core 0).devRead = none ∧ (swiDue.core 0).inval = none ∧ (swiDue.core 0).slotFresh = false ∧
    ((27, 3) : Nat × Nat) ∈ swiDue.pendingEvents 0 ∧ pswML (swiDue.core 0).psw < 3 ∧ (∀ e ∈ swiDue.pendingEvents 0, e.2 < 3 ∨ (e.2 = 3 ∧ 27 ≤ e.1)) ∧
    (((swiDue.modCore 0 fun c => c.clearTaken 27).drain 0).any fun d => d.tsbUsable (d.core 0).tsbr && ((d.writeTsb 0 (intExc (swiDue.core 0) 27 3) 27 0 3).any fun w => decide (0 < w.cores.length))) = true := by decide +kernel
/-- R137, R139: the inter-core interrupt at level 3 comes before the software interrupt at level 1. -/
theorem test_take_interrupt : ofCore (fun c => (c.pc, c.psw)) (exec (.takeInterrupt 0) swiDue) = some (0x10006C0, 0x1300) := by decide +kernel
/-- R139: the event comes before the instruction. -/
theorem test_interrupt_first : ofCore (fun c => (c.pc, c.psw)) (exec (.nop k0) swiDue) = some (0x10006C0, 0x1300) := by decide +kernel
theorem witness_ReservedOpcodes : Ready (atMl 0 []) 0 ∧ primaryReserved (0xFF : Byte).toNat = true ∧ escapeReserved (0xF1 : Byte).toNat (0x39 : Byte).toNat = true := ⟨ready (by decide +kernel), by decide +kernel⟩
theorem test_reserved : ofCore Core.pc (exec (.reservedInstruction k0 (.primary 0xFF)) (atMl 0 [])) = some 0x1000240 := by decide +kernel
def kp (p : List Pfx) : Insn := { lcn := 0, pfx := p }
theorem witness_IllegalPrefixes : Ready (core0 fun c => { c with delay := true }) 0 ∧ ((core0 fun c => { c with delay := true }).core 0).delay = true ∧ Ready (atMl 0 []) 0 ∧ pfxArranged (kp [.rep, .rep]).pfx = false ∧ pfxArranged (kp [.usr]).pfx = true :=
  ⟨ready (by decide +kernel), by decide +kernel, ready (by decide +kernel), by decide +kernel⟩
/-- R57: an ADD with a prefix raises Illegal-Prefix, vector 10. -/
theorem test_prefix : ofCore Core.pc (exec (.add (kp [.acq])) (atMl 0 [1, 2])) = some 0x1000280 := by decide +kernel

/-! String, floating-point and decimal instructions, translations, spills. -/

/-- inMem with SRC at 0x4000, DST at 0x4100 and CNT given. -/
def strState (xs : List Word) (cnt : Word) : State := (inMem xs someBytes).modCore 0 fun c => { c with src := 0x4000, dst := 0x4100, cnt := cnt }
theorem witness_Strings : (Ready (strState [0x4000] 0) 0 ∧ Ready (strState [0x4000] 2) 0) ∧ ((strState [0x4000] 2).core 0).ds.cache = 0x4000 :: [] ∧ ((strState [0x4000] 0).core 0).cnt = 0 ∧ ((strState [0x4000] 2).core 0).cnt ≠ 0 ∧
    ((strState [0x4000] 2).core 0).sb.length < 56 ∧ dpage.d = true ∧ ByteAt (strState [0x4000] 2) 0 0x4000 8 rdAcc dpage ∧ ByteAt (strState [0x4000] 2) 0 0x4100 1 rdAcc dpage ∧ Mapped (strState [0x4000] 2) 0 0x4100 8 wrAcc dpage ∧
    ByteAt (strState [0x4000] 2) 0 (0x4000 + 0x81) 1 rdAcc dpage :=
  ⟨⟨ready (by decide +kernel), ready (by decide +kernel)⟩, rfl, rfl, by decide +kernel, by decide +kernel, rfl, ⟨mapped (by decide +kernel), readable (by decide +kernel)⟩, ⟨mapped (by decide +kernel), readable (by decide +kernel)⟩,
    mapped (by decide +kernel), ⟨mapped (by decide +kernel), readable (by decide +kernel)⟩⟩
/-- R111, R112: one element of a repeated MOVS; the pc stays. -/
theorem test_movs : ofCore (fun c => (c.cnt, c.src, c.dst, c.pc, c.sb)) (exec (.movs (kp [.rep])) (strState [] 2)) = some (1, 0x4001, 0x4101, 0x1000000, [{ addr := 0x8100, bytes := [0x81], rel := false }]) := by decide +kernel
/-- R113: SCANS with REPNZ ends at the byte that it finds. -/
theorem test_scans : ofCore (fun c => (c.cnt, c.src, c.pc, c.psw)) (exec (.scans (kp [.repnz])) (strState [0x81] 9)) = some (8, 0x4001, 0x1000002, 0x1709) := by decide +kernel
theorem test_xlats : sbOf (exec (.xlats k0) (strState [0x3F81] 0)) = some [{ addr := 0x8100, bytes := [3], rel := false }] := by decide +kernel
theorem test_fills : sbOf (exec (.fills k0) (strState [0x1AB] 0)) = some [{ addr := 0x8100, bytes := [0xAB], rel := false }] := by decide +kernel
theorem test_dmovs : ofCore (fun c => (c.src, c.dst)) (exec (.dmovs k0) (strState [] 0)) = some (0x4008, 0x4108) := by decide +kernel

/-- Core 0 with entries on its data stack and FPC given. -/
def fp (xs : List Word) (fpc : Word32) : State := core0 fun c => { c with ds := { c.ds with cache := xs }, fpc := fpc }
def one : Word := 0x3FF0000000000000
theorem witness_FloatArithmetic : Ready (fp [one, one, one] 0) 0 ∧ ((fp [one, one, one] 0).core 0).ds.cache = one :: one :: one :: [] ∧ FpUsable 0 fmtD one ∧ FpUsable 0 fmtS 0x3F800000 ∧ FpUsable 8 fmtD 1 ∧
    fpRaise 0 (fmtD.add (rmOf 0) (fpDatum 0 fmtD one) (fpDatum 0 fmtD one)) = none ∧ fpRaise 0 (fmtD.sqrt (rmOf 0) (fpDatum 0 fmtD one)) = none ∧
    fpRaise 0 (fmtD.fma (rmOf 0) (fpDatum 0 fmtD one) (fpDatum 0 fmtD one) (fpDatum 0 fmtD one)) = none :=
  ⟨ready (by decide +kernel), by decide +kernel, .inr (by decide +kernel), .inr (by decide +kernel), .inl (by decide), by decide +kernel⟩
/-- 1 + 2 = 3 in binary64. -/
theorem test_fadd : cacheOf (exec (.fadd k0 .d) (fp [0x4000000000000000, one] 0)) = some [0x4008000000000000] := by decide +kernel
/-- 1 / 3 rounds to 0x3FD5555555555555, inexact. -/
theorem test_fdiv : ofCore (fun c => (c.ds.cache, c.fpc &&& 0x1F0000 != 0)) (exec (.fdiv k0 .d) (fp [0x4008000000000000, one] 0)) = some ([0x3FD5555555555555], true) := by decide +kernel
/-- The square root of 2. -/
theorem test_fsqrt : cacheOf (exec (.fsqrt k0 .d) (fp [0x4000000000000000] 0)) = some [0x3FF6A09E667F3BCD] := by decide +kernel
/-- 2 * 3 + 1 in binary32. -/
theorem test_fma : cacheOf (exec (.fma k0 .s) (fp [0x3F800000, 0x40400000, 0x40000000] 0)) = some [0x40E00000] := by decide +kernel
theorem test_fmin : cacheOf (exec (.fmin k0 .d) (fp [one, 0xBFF0000000000000] 0)) = some [0xBFF0000000000000] := by decide +kernel
theorem witness_FloatConversions : Ready (fp [one] 0) 0 ∧ ((fp [one] 0).core 0).ds.cache = one :: [] ∧ FpUsable 0 fmtD one ∧ FpUsable 0 fmtS one ∧ fpRaise 0 (fmtS.convert (rmOf 0) (fpDatum 0 fmtD one)) = none ∧
    fpRaise 0 (fmtD.convert (rmOf 0) (fpDatum 0 fmtS one)) = none ∧ fpRaise 0 (fmtD.fromInteger (rmOf 0) one.toInt) = none ∧ fpRaise 0 (toInteger (rmOf 0) 0 (2 ^ 64 - 1) 0 (fpDatum 0 fmtS one)) = none :=
  ⟨ready (by decide +kernel), by decide +kernel, .inr (by decide +kernel), .inr (by decide +kernel), by decide +kernel⟩
theorem test_fcvtSD : cacheOf (exec (.fcvtSD k0) (fp [one] 0)) = some [0x3F800000] := by decide +kernel
/-- 2.5 rounds to the even 2. -/
theorem test_fcvtLD : cacheOf (exec (.fcvtLD k0) (fp [0x4004000000000000] 0)) = some [2] := by decide +kernel
theorem test_fcvtDL : cacheOf (exec (.fcvtDL k0) (fp [0xFFFFFFFFFFFFFFFD] 0)) = some [0xC008000000000000] := by decide +kernel
theorem witness_FloatSignsAndCompare : (Ready (fp [one] 0) 0 ∧ ((fp [one] 0).core 0).ds.cache = one :: []) ∧ (Ready (fp [one, one] 0) 0 ∧ ((fp [one, one] 0).core 0).ds.cache = one :: one :: [] ∧ FpUsable 0 fmtD one ∧
    fpRaise 0 { FpRes.exact 0 with nv := false } = none) := ⟨⟨ready (by decide +kernel), by decide +kernel⟩, ready (by decide +kernel), by decide +kernel, .inr (by decide +kernel), by decide +kernel⟩
theorem test_fneg : cacheOf (exec (.fneg k0 .s) (fp [0xFFFFFFFF3F800000] 0)) = some [0xBF800000] := by decide +kernel
/-- R130: 1 below 2 gives N alone. -/
theorem test_fcmp : ofCore Core.psw (exec (.fcmp k0 .d) (fp [0x4000000000000000, one] 0)) = some 0x1704 := by decide +kernel
/-- Flush mode and every condition masked. -/
theorem masked8 : FpMasked 8 := ⟨by decide, fun i h1 h2 => by
  have h : i = 8 ∨ i = 9 ∨ i = 10 ∨ i = 11 ∨ i = 12 := by omega
  rcases h with rfl | rfl | rfl | rfl | rfl <;> decide⟩
theorem witness_FloatCompletes : ∀ xs ∈ [[one], [one, one], [one, one, one]], readyNow (fp xs 8) 0 = true ∧ ((fp xs 8).core 0).ds.cache = xs ∧ ((fp xs 8).core 0).fpc = 8 := by decide +kernel
/-- R126, R128: the square root of -1 in flush mode, every condition masked. -/
theorem test_fsqrt_masked : cacheOf (exec (.fsqrt k0 .d) (fp [0xBFF0000000000000] 8)) = some [0x7FF8000000000000] := by decide +kernel
/-- FPC with every trap enabled. -/
theorem witness_FloatTraps : (Ready (fp [1, 1] 0) 0 ∧ ((fp [1, 1] 0).core 0).ds.cache = 1 :: 1 :: [] ∧ (0 : Word32).getLsbD 3 = false ∧ (fmtD.unpack ((1 : Word).toNat % 2 ^ fmtD.width)).isSub = true) ∧
    (Ready (fp [1, one] 0) 0 ∧ (fmtD.unpack (one.toNat % 2 ^ fmtD.width)).isSub = false) ∧
    (let x : Word := 0x7FEFFFFFFFFFFFFF; Ready (fp [x, x] 0xFFFFFFF7) 0 ∧ ((fp [x, x] 0xFFFFFFF7).core 0).ds.cache = x :: x :: [] ∧ FpUsable 0xFFFFFFF7 fmtD x ∧
      fpRaise 0xFFFFFFF7 (fmtD.add (rmOf 0xFFFFFFF7) (fpDatum 0xFFFFFFF7 fmtD x) (fpDatum 0xFFFFFFF7 fmtD x)) = some 17) :=
  ⟨⟨ready (by decide +kernel), by decide +kernel, by decide, by decide +kernel⟩, ⟨ready (by decide +kernel), by decide +kernel⟩, ready (by decide +kernel), by decide +kernel, .inr (by decide +kernel), by decide +kernel⟩

theorem decValidOf {x : Nat} (h : (decide (x < 2 ^ 128) && (x % 16 == 12 || x % 16 == 13) && (List.range 32).all fun i => i == 0 || decide (x / 16 ^ i % 16 ≤ 9)) = true) : DecValid x := by
  simp only [Bool.and_eq_true, decide_eq_true_eq, Bool.or_eq_true, beq_iff_eq, List.all_eq_true, List.mem_range] at h
  refine ⟨h.1.1, h.1.2, fun i h1 h2 => ?_⟩
  rcases h.2 i h2 with h0 | h0
  · omega
  · exact h0
theorem witness_DecimalArithmetic : DecValid (decPair 0 0x12C) ∧ DecValid (decPair 0 0x5D) ∧ (∀ xs ∈ [[0x5D, 0, 0x12C, 0], [(0x5D : Word), 0], [1, 0x5D, 0]], readyNow (stk xs) 0 = true ∧ ((stk xs).core 0).ds.cache = xs) :=
  ⟨decValidOf (by decide +kernel), decValidOf (by decide +kernel), by decide +kernel⟩
/-- 12 + (-5) = 7. -/
theorem test_dadd : cacheOf (exec (.dadd k0) (stk [0x5D, 0, 0x12C, 0])) = some [0x7C, 0] := by decide +kernel
theorem test_dcmp : ofCore Core.psw (exec (.dcmp k0) (stk [0x5D, 0, 0x12C, 0])) = some 0x1700 := by decide +kernel
theorem test_cvdb : cacheOf (exec (.cvdb k0) (stk [0x123D, 0])) = some [0xFFFFFFFFFFFFFF85] := by decide +kernel
theorem test_cvbd : cacheOf (exec (.cvbd k0) (stk [0xFFFFFFFFFFFFFF85])) = some [0x123D, 0] := by decide +kernel
theorem test_dshr : cacheOf (exec (.dshr k0) (stk [2, 0x1234C, 0])) = some [0x12C, 0] := by decide +kernel
theorem witness_DecimalChecks : (∀ xs ∈ [(0x1A3C : Word) :: 0 :: []], readyNow (stk xs) 0 = true ∧ ((stk xs).core 0).ds.cache = xs) ∧ ¬(decPair 0 0x1A3C / 16 ^ 2 % 16 ≤ 9) ∧ decPair 0 0x1A3C / 16 ^ 1 % 16 ≤ 9 ∧ decPair 0 0x1A3C % 16 = 12 := by decide +kernel
/-- R122: nibble 2 is invalid. -/
theorem test_dchk : cacheOf (exec (.dchk k0) (stk [0x1A3C, 0])) = some [4, 0x1A3C, 0] := by decide +kernel

/-- The other LCNs. -/
def others : List Nat := (List.range 48).filter fun m => m != 0
theorem witness_Invalidations : (∀ xs ∈ [[], [(7 : Word)], [7, 0x4000]], readyNow (stk xs) 0 = true ∧ ((stk xs).store 0).redir = [] ∧ (stk xs).sup 0 = true ∧ ((stk xs).core 0).ds.cache = xs) ∧
    (List.range 48).filter (fun m => m != k0.lcn && ((stk []).core m).run != .absent) ≠ [] := by decide +kernel
theorem test_invall : ofCore (fun c => (c.tlb, c.inval)) (exec (.invall k0) (inMem [] [])) = some (.empty, some { kind := .all, toReach := others, toAck := [] }) := by decide +kernel
/-- A message on its way over one link, acknowledged there. -/
def oneHop (src dst : Nat) (m : PoolMsg) : Flight := { src := src, dst := dst, ring := .cw, dests := [dst], body := m, copies := [] }

/-- An INVTAG of core 0 whose TLBIs have still to reach some cores and whose TLBAs are awaited of some, with messages on their way. -/
def inTag (reach ack : List Nat) (ms : List Flight) : State :=
  (core0 fun c => { c with ds := { c.ds with cache := [7] }, inval := some { kind := .tag 7, toReach := reach, toAck := ack } }).modPool fun p => { p with flights := ms }
def tlbiSent : State := inTag [1] [] [oneHop 0 1 (.tlbi 0)]
def tlbaSent (ack : List Nat) : State := inTag [] ack [oneHop 1 0 (.tlba 1 0)]
theorem witness_InvalidationMessages : (1 < tlbiSent.cores.length ∧ 0 < tlbiSent.cores.length ∧ (1 : Nat) ≠ 0) ∧
    ((tlbiSent.core 0).inval = some { kind := .tag 7, toReach := [1], toAck := [] } ∧ (tlbiSent.takeMsg (tlbiSent.core 1).pcn (· == .tlbi 0)).isSome = true) ∧
    (∀ ack ∈ [[1], [1, 2]], ((tlbaSent ack).core 0).inval = some { kind := .tag 7, toReach := [], toAck := ack } ∧ ((tlbaSent ack).takeMsg ((tlbaSent ack).core 0).pcn (· == .tlba 1 0)).isSome = true) ∧
    [2] ≠ ([] : List Nat) ∧ 1 ∉ [2] := by decide +kernel
theorem test_tlbi : (got (exec (.tlbi 1 0) tlbiSent)).map (fun t => (t.core 0).inval) = some (some { kind := .tag 7, toReach := [], toAck := [1] }) := by decide +kernel
theorem test_tlba : ofCore (fun c => (c.inval, c.ds.cache)) (exec (.tlba 1 0) (tlbaSent [1])) = some (none, []) := by decide +kernel

/-- One entry on each stack, both stacks between 0x4000 and 0x4200 with the pointers at 0x4100. -/
def spills (xs rs : List Word) (ptr : Word) : State :=
  (inMem [] someBytes).modCore 0 fun c => { c with ds := { cache := xs, ptr := ptr, lo := 0x4000, hi := 0x4200 }, rs := { cache := rs, ptr := ptr, lo := 0x4000, hi := 0x4200 } }
theorem witness_SpillAll : (Ready (spills [] [] 0x4100) 0 ∧ ((spills [] [] 0x4100).core 0).ds.cache = [] ∧ ((spills [] [] 0x4100).core 0).rs.cache = []) ∧
    (Ready (spills [5] [6] 0x4008) 0 ∧ ((spills [5] [6] 0x4008).core 0).ds.cache = [5] ∧ ((spills [5] [6] 0x4008).core 0).rs.cache = [6] ∧ dpage.d = true ∧ Mapped (spills [5] [6] 0x4008) 0 0x4000 8 wrAcc dpage ∧
      (spills [5] [6] 0x4008).paKind (dpage.addr 0x4000) = .dram ∧ ((spills [5] [6] 0x4008).core 0).sb.length < 64) :=
  ⟨⟨ready (by decide +kernel), by decide +kernel⟩, ready (by decide +kernel), by decide +kernel, by decide +kernel, rfl, mapped (by decide +kernel), by decide +kernel⟩
theorem test_spilld : ofCore (fun c => (c.ds.cache, c.ds.ptr, c.sb)) (exec (.spilld k0) (spills [5] [] 0x4008)) = some ([], 0x4000, [{ addr := 0x8000, bytes := [0, 0, 0, 0, 0, 0, 0, 5], rel := false }]) := by decide +kernel
theorem witness_StackFills : (Ready (spills [] [] 0x41F8) 0 ∧ ((spills [] [] 0x41F8).core 0).ds.cache = [] ∧ Mapped (spills [] [] 0x41F8) 0 0x41F8 8 rdAcc dpage ∧ Readable (spills [] [] 0x41F8) 0 (dpage.addr 0x41F8) 8 ∧
      (spills [] [] 0x41F8).paKind (dpage.addr 0x41F8) = .dram) ∧ (Ready (spills [] [] 0x4200) 0 ∧ 0x4200 < (0x4200 : Word).toNat + 8) ∧ Ready (spills [] [] 0x3FF8) 0 ∧ (0x3FF8 : Word).toNat < 0x4000 :=
  ⟨⟨ready (by decide +kernel), by decide +kernel, mapped (by decide +kernel), readable (by decide +kernel), by decide +kernel⟩, ⟨ready (by decide +kernel), by decide⟩, ready (by decide +kernel), by decide⟩
theorem test_fill : ofCore (fun c => (c.ds.cache, c.ds.ptr)) (exec (.neg k0) (spills [] [] 0x4000)) = some ([0x7EFDFCFBFAF9F8F8], 0x4008) := by decide +kernel

/-! Port and channel instructions, and events of a core. -/

/-- Slice 0 with PID 0, in a state of its own, granted the first 16 MiB. -/
def slice0 (st : SliceState) : Slices :=
  { Slices.reset with tab := [(0, { pid := 0, st := st, grants := [{ en := true, base := 0, size := 8 }, { en := false, base := 0, size := 0 }, { en := false, base := 0, size := 0 }, { en := false, base := 0, size := 0 }], since := 0, thawAt := none })] }

/-- inMem with subchannel 0 established in slice 0: its STATE, its type, its BIND, the operations, and the bytes at 0x8000. -/
def chan (st typ : Nat) (bind : Word) (xs : List Word) (ops : List Operation) (bs : List Byte) : State :=
  let status : Word := 0x8000000000000000 ||| (BitVec.ofNat 64 typ <<< 61) ||| (BitVec.ofNat 64 st <<< 57)
  { inMem xs [] with
    mem := bootTree ++ (cellsFrom 0x8000 bs ++ cellsFrom windowBase (wordBytes status ++ wordBytes 0 ++ wordBytes bind)),
    slices := slice0 .running, css := { Css.reset with ops := ops, nextOp := 1 } }

/-- An operation of subchannel 0 whose next command stands at 0x8000. -/
def op0 (ph : OpPhase) : Operation :=
  { id := 0, sch := 0, slice := 0, q := 0, parm := 7, ccw := 0x8000, reached := 0, phase := ph, cmd := none, past := false, halting := false, recs := [], jgen := none, mirrored := 0, unmirrored := 0, acks := [], code := 0,
    detail := 0, ccwpa := 0, resid := 0, bg := [] }

theorem portOpen {s : State} {n : Nat} {p : Word} {q : Port} (h : (decide (p.toNat < 2 ^ 32) && decide (portAt p.toNat = some q) && (s.sup n || q.userOk) && decide (q.page = none) && decide ((s.core n).sb = []) &&
    decide ((s.core n).devStore = none) && decide ((s.core n).hold = none)) = true) : PortOpen s n p q := by
  simp only [Bool.and_eq_true, decide_eq_true_eq, Bool.or_eq_true] at h
  obtain ⟨⟨⟨⟨⟨⟨a, b⟩, c⟩, d⟩, e⟩, f⟩, g⟩ := h
  exact ⟨a, b, c, (fun j hj => by rw [d] at hj; cases hj), e, f, g⟩
/-- A port that answers, one that does not, and the first port of a slice page with the PID of its slice. -/
def deadPort (xs : List Word) : State := { stk xs with weir := { Weir.reset with outOfUse := [0x900] } }
theorem witness_PortInstructions : (Ready (stk [0xE00008, 5]) 0 ∧ PortOpen (stk [0xE00008, 5]) 0 0xE00008 .wstat ∧ ((stk [0xE00008, 5]).core 0).ds.cache = 0xE00008 :: 5 :: [] ∧ (stk [0xE00008]).portAnswers .wstat = true) ∧
    (Ready (deadPort [0x800000]) 0 ∧ PortOpen (deadPort [0x800000]) 0 0x800000 (.ethcfg 0) ∧ ((deadPort [0x800000]).core 0).ds.cache = 0x800000 :: [] ∧ (deadPort [0x800000]).portAnswers (.ethcfg 0) = false) :=
  ⟨⟨ready (by decide +kernel), portOpen (by decide +kernel), by decide +kernel⟩, ready (by decide +kernel), portOpen (by decide +kernel), by decide +kernel⟩
/-- R140: ICISRC reads as zero after its read. -/
theorem test_ind : ofCore (fun c => (c.ds.cache, c.iciSrc)) (exec (.ind k0) ((stk [0x10110]).modCore 0 fun c => { c with iciSrc := 6 })) = some ([6], 0) := by decide +kernel
theorem test_outd : ofCore (fun c => (c.ds.cache, c.devStore.map PortAccess.value)) (exec (.outd k0) (stk [0xE00008, 5])) = some ([], some 5) := by decide +kernel
/-- R23, R523: no port is a word wide: I/O-Protection, vector 21. -/
theorem test_inw : ofCore Core.pc (exec (.inw k0) (atMl 0 [0xE00008])) = some 0x1000540 := by decide +kernel
theorem witness_PortChecks : (∀ xs ∈ [[0x100000000, 5], [(0xFFFFFF : Word), 5], [0xE00008, 5]], readyNow (user xs) 0 = true ∧ ((user xs).core 0).ds.cache = xs) ∧ 2 ^ 32 ≤ (0x100000000 : Word).toNat ∧ portAt (0xFFFFFF : Word).toNat = none ∧
    portAt (0xE00008 : Word).toNat = some .wstat ∧ (user []).sup 0 = false ∧ Port.userOk .wstat = false := by decide +kernel
theorem test_user_port : ofCore Core.pc (exec (.ind k0) (user [0xE00008])) = some 0x1000540 := by decide +kernel

theorem schOpen {s : State} {n k : Nat} (h : (decide (k < 2 ^ 20) && s.schValid (s.sch k) && decide (s.sliceOfPid (s.core n).pid = some (s.sch k).slice) && decide ((s.core n).sb = []) && decide ((s.core n).devStore = none) &&
    decide ((s.core n).hold = none)) = true) : SchOpen s n k := by
  simp only [Bool.and_eq_true, decide_eq_true_eq] at h
  obtain ⟨⟨⟨⟨⟨a, b⟩, c⟩, d⟩, e⟩, f⟩ := h
  exact ⟨a, b, c, d, e, f⟩
theorem witness_StartIo : (Ready (chan 0 0 0 [0, 0x4000, 7] [] []) 0 ∧ RomOnly (chan 0 0 0 [0, 0x4000, 7] [] []) 0 ∧ SchOpen (chan 0 0 0 [0, 0x4000, 7] [] []) 0 0 ∧ (chan 0 0 0 [0, 0x4000, 7] [] []).mem.wf = true ∧
      ((chan 0 0 0 [0, 0x4000, 7] [] []).core 0).ds.cache = BitVec.ofNat 64 0 :: 0x4000 :: 7 :: [] ∧ (0x4000 : Word).toNat % 32 = 0 ∧ Mapped (chan 0 0 0 [0, 0x4000, 7] [] []) 0 0x4000 8 rdAcc dpage ∧
      ((chan 0 0 0 [0, 0x4000, 7] [] []).sch 0).state = 0 ∧ ((chan 0 0 0 [0, 0x4000, 7] [] []).slice ((chan 0 0 0 [0, 0x4000, 7] [] []).sch 0).slice).st = .running) ∧
    (SchOpen (chan 1 0 0 [0, 0x4000, 7] [] []) 0 0 ∧ ((chan 1 0 0 [0, 0x4000, 7] [] []).sch 0).state = 1) ∧ (SchOpen (chan 4 0 0 [0, 0x4000, 7] [] []) 0 0 ∧ ((chan 4 0 0 [0, 0x4000, 7] [] []).sch 0).state = 4) :=
  ⟨⟨ready (by decide +kernel), romOnly (by decide +kernel), schOpen (by decide +kernel), by decide +kernel, rfl, by decide, mapped (by decide +kernel), by decide +kernel⟩, ⟨schOpen (by decide +kernel), by decide +kernel⟩,
    schOpen (by decide +kernel), by decide +kernel⟩
/-- Every operation block taken (R301). -/
def noBlock : State := chan 0 0 0 [0, 0x4000, 7] (List.replicate 65536 { op0 .background with sch := 1 }) []
theorem witness_StartIo_busy : 65536 ≤ noBlock.css.ops.length := Nat.le_of_eq (List.length_replicate ..).symm
theorem test_startio : (got (exec (.startio k0) (chan 0 0 0 [0, 0x4000, 7] [] []))).map (fun t => ((t.core 0).ds.cache, (t.sch 0).state, t.css.ops.map fun o => (o.parm, o.ccw))) = some ([0], 1, [(7, 0x8000)]) := by decide +kernel
theorem test_startio_down : cacheOf (exec (.startio k0) (chan 4 0 0 [0, 0x4000, 7] [] [])) = some [3] := by decide +kernel
/-- An idle, halting, active (halted or past its halt point) or down subchannel. -/
theorem witness_HaltIoAndTestIo : (∀ st ∈ [0, 1, 2, 4], readyNow (chan st 0 0 [0] [op0 .ended] []) 0 = true ∧ ((chan st 0 0 [0] [op0 .ended] []).store 0).redir = [] ∧ ((chan st 0 0 [0] [op0 .ended] []).sch 0).state = st) ∧ SchOpen (chan 2 0 0 [0] [] []) 0 0 ∧ ((chan 2 0 0 [0] [] []).core 0).ds.cache = BitVec.ofNat 64 0 :: [] ∧
    (chan 1 0 0 [0] [{ op0 .ready with past := true }] []).opOfSch 0 = some { op0 .ready with past := true } ∧ Operation.pastHalt { op0 .ready with past := true } = true ∧
    (chan 1 0 0 [0] [op0 .ready] []).opOfSch 0 = some (op0 .ready) ∧ (op0 .ready).pastHalt = false ∧ ((chan 1 0 0 [0] [op0 .ready] []).haltOp (op0 .ready)).isSome = true :=
  ⟨by decide +kernel, schOpen (by decide +kernel), by decide +kernel⟩
theorem test_haltio : cacheOf (exec (.haltio k0) (chan 0 0 0 [0] [] [])) = some [2] := by decide +kernel
theorem test_testio : cacheOf (exec (.testio k0) (chan 0 2 0 [0] [] [])) = some [0, 0xC000000000000000] := by decide +kernel
theorem witness_ChannelChecks : (readyNow (chan 0 0 0 [0x100000] [] []) 0 = true ∧ ((chan 0 0 0 [0x100000] [] []).store 0).redir = [] ∧ ((chan 0 0 0 [0x100000] [] []).core 0).ds.cache = 0x100000 :: [] ∧ readyNow (chan 0 0 0 [1] [] []) 0 = true ∧ ((chan 0 0 0 [1] [] []).core 0).ds.cache = 1 :: []) ∧ 2 ^ 20 ≤ (0x100000 : Word).toNat ∧ (stk [0]).sliceOfPid ((stk [0]).core 0).pid = none ∧
    (chan 0 0 0 [1] [] []).sliceOfPid 0 = some 0 ∧ (chan 0 0 0 [1] [] []).schValid ((chan 0 0 0 [1] [] []).sch 1) = false ∧
    (let s := { chan 0 0 0 [0] [] [] with slices := { slice0 .running with tab := (slice0 .running).tab.map fun (p : Nat × Slice) => (1, p.2) } }; s.sliceOfPid 0 = some 1 ∧ s.schValid (s.sch 0) = true ∧ (s.sch 0).slice ≠ 1) := by decide +kernel

/-- An access to a port, issued at a beat, as a device store or a device read of core 0; the first Ethernet port is out of use. -/
def access (p : BitVec 32) (v b : Word) : PortAccess := { port := p, value := v, wide := true, issued := b, cycle := 0 }
def storing (p : BitVec 32) (v b : Word) : State := { core0 (fun c => { c with devStore := some (access p v b) }) with weir := { Weir.reset with outOfUse := [0x900] } }
def reading (p : BitVec 32) (b : Word) : State := { core0 (fun c => { c with ds := { c.ds with cache := [p.setWidth 64] }, devRead := some (access p 0 b) }) with weir := { Weir.reset with outOfUse := [0x900] } }
/-- An access of two beats ago to a port that answers, and one that has just become 4 beats old to a port that does not. -/
theorem witness_PortAnswers :
    (let s := storing 0xF00008 9 1099198
     0 < s.cores.length ∧ (s.core 0).devRead = none ∧ (s.core 0).devStore = some (access 0xF00008 9 1099198) ∧ portAt 0xF00008 = some .ctarg ∧ s.portAnswers .ctarg = true ∧
       s.overdue (access 0xF00008 9 1099198) = false ∧ (s.portWrite 0 .ctarg 9).isSome = true) ∧
    (let s := reading 0x10110 1099198
     (s.core 0).devRead = some (access 0x10110 0 1099198) ∧ portAt 0x10110 = some .icisrc ∧ s.portAnswers .icisrc = true ∧ s.overdue (access 0x10110 0 1099198) = false ∧
       0 < (s.portRead 0 .icisrc).2.cores.length ∧ ((s.portRead 0 .icisrc).2.core 0).ds.cache = 0x10110 :: []) ∧
    (let s := storing 0x800000 0x24000000 1099196
     (s.core 0).devStore = some (access 0x800000 0x24000000 1099196) ∧ 4 ≤ (s.beatc - 1099196).toNat ∧ (s.expire (access 0x800000 0x24000000 1099196)).isSome = true) ∧
    (let s := reading 0x800000 1099196
     (s.core 0).devRead = some (access 0x800000 0 1099196) ∧ (s.core 0).delay = false ∧ (s.core 0).ds.cache = 0x800000 :: [] ∧ 4 ≤ (s.beatc - 1099196).toNat) := by decide +kernel
theorem test_device_response : (got (exec (.deviceResponse 0) (storing 0xF00008 9 1099198))).map (fun t => (t.ct.arg, (t.core 0).devStore)) = some (9, none) := by decide +kernel
/-- R194: a response 4 beats after the issue comes too late. -/
theorem test_late_response : (got (exec (.deviceResponse 0) (storing 0xF00008 9 1099196))).map (fun t => t.ct.arg) = some 0 := by decide +kernel
theorem test_lost_read : ofCore (fun c => (c.ds.cache, c.pc, c.devRead)) (exec (.lostRead 0) (reading 0x800000 1099196)) = some ([0xFFFFFFFFFFFFFFFF], 0x1000001, none) := by decide +kernel

def buffered : State := (inMem [] someBytes).modCore 0 fun c => { c with sb := [{ addr := 0x8000, bytes := [1], rel := false }, { addr := 0x8001, bytes := [7, 8], rel := false }] }
theorem witness_StorePerformed : Owned buffered 0 (lineOf 0x8001) ∧ 0 < buffered.cores.length ∧ buffered.weir.safe = false ∧ buffered.mem.wf = true ∧ (buffered.core 0).sb[1]? = some { addr := 0x8001, bytes := [7, 8], rel := false } ∧
    (∀ o ∈ (buffered.core 0).sb.take 1, o.addr + o.bytes.length ≤ 0x8001 ∨ 0x8001 + 2 ≤ o.addr) ∧ buffered.paKind 0x8001 = .dram ∧ buffered.guarded 0x8001 = false ∧ buffered.windowForming 0x8001 = false ∧ ([7, 8] : List Byte) ≠ [] :=
  ⟨⟨⟨{ line := 0x80, way := 0, d := false, x := true, p := false, pv := [0], hedge := [], ecc := 0 }, rfl, rfl⟩, .inl rfl, by rfl, by rfl, by rfl, by rfl⟩, by decide +kernel⟩
theorem test_store_performed : (got (exec (.storePerformed 0 1) buffered)).map (fun t => ((t.core 0).sb.length, t.mem.readN 0x8000 4)) = some (1, [0x81, 7, 8, 4]) := by decide +kernel

/-- Core 0 with a comparator that matched at the boundary, and a hold. -/
def armed0 : State := core0 fun c => { c with timers := [{ cmp := 5, ctl := 1, prevCmp := 5, prevCtl := 1 }, Timer.reset], hold := some { line := 0x80, left := 3 }, resv := some { va := 0x4000, granule := 0x80 } }
/-- The same with the hold's mark at the slice. -/
def marked0 : State := armed0.modPool fun p => { p with holds := [{ agent := 0, line := 0x80, beat := 1099200 }] }
theorem witness_CoreEvents : (0 < armed0.cores.length ∧ (1 : Word).toNat % 256 = 1 ∧ (armed0.core 1).run ≠ .absent ∧ (armed0.core 0).run ≠ .absent ∧ (armed0.core 0).sb = [] ∧ (armed0.core 0).devStore = none ∧ (1 : Nat) ≠ 0) ∧ armed0.pool.oldestHold (armed0.core 0).pcn = none ∧
    (marked0.pool.oldestHold (marked0.core 0).pcn = some { agent := 0, line := 0x80, beat := 1099200 } ∧ (marked0.core 0).hold.map HoldMark.line = some 0x80 ∧ marked0.pool.queue = []) ∧
    ((armed0.core 0).timers[0]? = some { cmp := 5, ctl := 1, prevCmp := 5, prevCtl := 1 } ∧ (1 : Word).getLsbD 0 = true ∧ (5 : Word).toNat ≤ armed0.beatc.toNat ∧ (1 : Word).extractLsb' 32 32 = 0) := by decide +kernel
theorem test_ici : (got (exec (.iciSend 0 0x2F) State.reset)).map (fun t => ((t.core 47).ici, (t.core 47).iciSrc)) = some (true, 1) := by decide +kernel
theorem test_hold_end : ofCore (fun c => (c.hold, c.resv.isSome)) (exec (.holdEnd 0) armed0) = some (none, true) := by decide +kernel
theorem test_hold_end_mark : (got (exec (.holdEnd 0) marked0)).map (fun t => ((t.core 0).hold, t.pool.holds)) = some (none, []) := by decide +kernel
theorem test_timer : ofCore (fun c => c.timers.map Timer.ctl) (exec (.timerMatch 0 0) armed0) = some [4, 0] := by decide +kernel
/-- Core 0 whose execution-unit source has RETRY in its CORRECTED field, after a number of retries. -/
def retried (n : Nat) : State := core0 fun c => { c with retries := n, resv := some { va := 0, granule := 0 } }
theorem witness_InstructionRetry : ∀ n ∈ [0, 1, 2], 0 < (retried n).cores.length ∧ ((retried n).core 0).run = .running ∧ ((retried n).core 0).devRead = none ∧ ((retried n).store 0).redir = [] ∧ ((retried n).weir.source (16 * ((retried n).core 0).pcn)).actC.getLsbD 12 = true ∧ ((retried n).core 0).retries = n := by decide +kernel
theorem test_retry : ofCore (fun c => (c.retries, c.resv, c.run)) (exec (.instructionRetry 0 .executionUnit none) (retried 1)) = some (2, none, .running) := by decide +kernel
theorem test_retry_limit : ofCore Core.run (exec (.instructionRetry 0 .executionUnit none) (retried 2)) = some .paused := by decide +kernel
theorem witness_StoredDataCheck : 0 < (inMem [] []).cores.length ∧ ((inMem [] []).core 0).run ≠ .absent ∧ (inMem [] []).paKind (0x80 * 256) = .dram ∧ ((inMem [] []).dirEntry 0x80).isSome = true := by decide +kernel
theorem test_stored_data : (got (exec (.machineCheckStoredData 0 0x80) (inMem [] []))).map (fun t => ((t.core 0).mca, t.poisoned 0x80)) = some (some { line := 0x80, src := 3 }, true) := by decide +kernel

/-! The Pool, Millrace and main memory. -/

def entry (pv : List Nat) (x : Bool) : DirEntry := { line := 0x80, way := 0, d := false, x := x, p := false, pv := pv, hedge := [], ecc := 0 }
/-- An agent's copy of line 0x80. -/
def copyOf (a : Nat) (st : AgentState) : AgentLine := { agent := a, line := 0x80, way := 0, st := st }
/-- The state after reset with one directory entry for line 0x80, agents that hold it, messages in flight and transactions. -/
def pool (pv : List Nat) (x : Bool) (agents : List AgentLine) (fs : List Flight) (txns : List PoolTxn) : State :=
  { State.reset with pool := { Pool.reset with dir := [entry pv x], agents := agents, flights := fs, txns := txns } }
/-- The messages that have still to reach a station, after an outcome. -/
def msgsOf (o : Host.Outcome State Fault Refusal) : Option (List PoolMsg) := (got o).map fun t => (t.pool.flights.filter (fun f => !f.dests.isEmpty)).map Flight.body

theorem lineFree {s : State} {l : Nat} (h : (s.poolOpen && !s.txnOpen l && decide (s.pool.queue = []) && decide (s.pool.txns = []) && !s.windowForming (l * 256) && decide (s.paKind (l * 256) ≠ .hole) && !s.guarded (l * 256) &&
    decide (l < 2 ^ 44)) = true) : LineFree s l := by
  simp only [Bool.and_eq_true, decide_eq_true_eq, Bool.not_eq_true'] at h
  obtain ⟨⟨⟨⟨⟨⟨⟨a, b⟩, c⟩, d⟩, e⟩, f⟩, g⟩, i⟩ := h
  exact ⟨a, b, (by rw [c]; intro q hq; cases hq), (by rw [d]; exact Nat.zero_lt_succ _), e, f, g, i⟩
/-- Agent 55 asks for a line that no agent holds, one that core 3 shares, and one that core 3 has modified. -/
theorem witness_PoolAgentRequests : (LineFree (pool [] false [] [] []) 0x80 ∧ (pool [] false [] [] []).dirEntry 0x80 = some (entry [] false) ∧ (pool [] false [] [] []).agentState 55 0x80 = none ∧ (pool [] false [] [] []).freeWay 55 0x80 = some 0) ∧
    (LineFree (pool [3] false [copyOf 3 .s] [] []) 0x80 ∧ (pool [3] false [copyOf 3 .s] [] []).dirEntry 0x80 = some (entry [3] false) ∧ (pool [3] false [copyOf 3 .s] [] []).agentState 55 0x80 = none ∧
      (pool [3] false [copyOf 3 .s] [] []).freeWay 55 0x80 = some 0) ∧
    (LineFree (pool [3] true [copyOf 3 .m] [] []) 0x80 ∧ (pool [3] true [copyOf 3 .m] [] []).dirEntry 0x80 = some (entry [3] true) ∧ (pool [3] true [copyOf 3 .m] [] []).agentState 55 0x80 = none) :=
  ⟨⟨lineFree (by decide +kernel), by decide +kernel⟩, ⟨lineFree (by decide +kernel), by decide +kernel⟩, lineFree (by decide +kernel), by decide +kernel⟩
theorem test_rds : msgsOf (exec (.rds 5 0x80 false) (pool [3] true [copyOf 3 .m] [] [])) = some [.snoop .snps 0x80] := by decide +kernel
theorem test_rdx : msgsOf (exec (.rdx 5 0x80 false) (pool [] false [] [] [])) = some [.data 5 0x80 true 0] := by decide +kernel
/-- A modified line of the Pool that no agent holds. -/
def dirtyPool : State := (pool [] false [] [] []).modPool fun p => { p with dir := [{ entry [] false with d := true }] }
theorem witness_PoolUpgrade : (LineFree (pool [5] false [copyOf 5 .s] [] []) 0x80 ∧ (pool [5] false [copyOf 5 .s] [] []).dirEntry 0x80 = some (entry [5] false) ∧ (pool [5] false [copyOf 5 .s] [] []).agentState 5 0x80 = some .s) ∧
    (LineFree dirtyPool 0x80 ∧ dirtyPool.dirEntry 0x80 = some { entry [] false with d := true } ∧ dirtyPool.agentState 5 0x80 = none ∧ dirtyPool.freeWay 5 0x80 = some 0) :=
  ⟨⟨lineFree (by decide +kernel), by decide +kernel⟩, lineFree (by decide +kernel), by decide +kernel⟩
theorem test_upg : msgsOf (exec (.upg 5 0x80 false) (pool [5] false [copyOf 5 .s] [] [])) = some [.ackUpg 5 0x80] := by decide +kernel
/-- R264: the only good copy cannot be read. -/
theorem test_rds_bad : (got (exec (.rds 5 0x80 true) dirtyPool)).map (fun t => t.poisoned 0x80) = some true := by decide +kernel
theorem witness_PoolMasterRequests : (LineFree (pool [] false [] [] []) 0x80 ∧ (pool [] false [] [] []).dirEntry 0x80 = some (entry [] false) ∧ (pool [] false [] [] []).mem.wf = true ∧ (83 : Nat) < 84 ∧ (255 : Nat) < 256) ∧
    (LineFree (pool [3] true [copyOf 3 .e] [] []) 0x80 ∧ (pool [3] true [copyOf 3 .e] [] []).dirEntry 0x80 = some (entry [3] true)) :=
  ⟨⟨lineFree (by decide +kernel), by decide +kernel⟩, lineFree (by decide +kernel), by decide +kernel⟩
theorem test_wrna : (got (exec (.wrna 60 0x80 [(255, 9)]) (pool [] false [] [] []))).map (fun t => (t.mem.read 0x80FF, t.pool.dir.map DirEntry.d)) = some (9, [true]) ∧
    msgsOf (exec (.wrna 60 0x80 [(255, 9)]) (pool [] false [] [] [])) = some [.ack 60 0x80] := by decide +kernel
theorem test_rdna : msgsOf (exec (.rdna 60 0x80 false) (pool [3] true [copyOf 3 .e] [] [])) = some [.snoop .snpr 0x80] := by decide +kernel
def aReq (k : ReqKind) : PoolReq := { agent := 5, line := 0x80, kind := k, bad := false }
def again : State := (pool [] false [] [] []).modPool fun p => { p with resend := [aReq .rds], noVictim := [aReq .rds] }
/-- Line 0x80 in guarded region 0. -/
def guardedPool : State := { pool [] false [] [] [] with ct := { Ct.reset with regions := Ct.reset.regions.set 0 { en := true, err := false, base := 0, size := 1 } } }
theorem witness_PoolRequestsAgain : (again.poolOpen = true ∧ again.pool.resend = aReq .rds :: [] ∧ again.pool.noVictim = aReq .rds :: []) ∧ (guardedPool.poolOpen = true ∧ (aReq .rdx).kind = .rdx ∧ (aReq .rdx).bad = false ∧
    guardedPool.guarded ((aReq .rdx).line * 256) = true ∧ guardedPool.paKind ((aReq .rdx).line * 256) ≠ .hole ∧ guardedPool.dirEntry (aReq .rdx).line = some (entry [] false) ∧ guardedPool.mustQueue (aReq .rdx) = false ∧ guardedPool.pool.queue = [] ∧
    guardedPool.agentState 5 0x80 = none ∧ guardedPool.freeWay 5 0x80 = some 0) := by decide +kernel
/-- R435: a guarded line is granted shared. -/
theorem test_guarded_rdx : msgsOf (exec (.rdx 5 0x80 false) guardedPool) = some [.data 5 0x80 false 0] := by decide +kernel
theorem test_retry_resend : msgsOf (exec (.retryResend 5 0x80) { again with pool := { again.pool with noVictim := [] } }) = some [.data 5 0x80 true 0] := by decide +kernel

/-- A snoop on its way to core 3, which holds the line. -/
def snooping (k : SnoopKind) (st : AgentState) : State := pool [3] (st != .s) [copyOf 3 st] [oneHop (homeStation 0x80) 3 (.snoop k 0x80)] []
theorem snoopDue {s : State} {k : SnoopKind} {a l : Nat} (h : ((s.takeMsg (agentStation a) (· == .snoop k l)).isSome && !s.grantFlying a l && !s.defers a l && !s.bufferDirty a l && !s.wantsNoData l) = true) : ∃ u, SnoopDue s u k a l := by
  simp only [Bool.and_eq_true, Bool.not_eq_true'] at h
  obtain ⟨⟨⟨⟨came, order⟩, free⟩, buffer⟩, wants⟩ := h
  obtain ⟨⟨m, u⟩, hm⟩ := Option.isSome_iff_exists.mp came
  exact ⟨u, { came := ⟨m, hm⟩, order := order, free := free, buffer := buffer, wants := wants }⟩
theorem witness_PoolSnoops : (∀ st : Fin 2, (snooping .snpi ([.s, .m].getD st .s)).agentState 3 0x80 = some ([.s, .m].getD st .s)) ∧ (∃ u, SnoopDue (snooping .snpi .m) u .snpi 3 0x80) ∧ (∃ u, SnoopDue (snooping .binv .s) u .binv 3 0x80) ∧
    (∃ u, SnoopDue (snooping .snps .m) u .snps 3 0x80) ∧ ∃ u, SnoopDue (snooping .snpr .m) u .snpr 3 0x80 := ⟨by decide +kernel, snoopDue (by decide +kernel), snoopDue (by decide +kernel), snoopDue (by decide +kernel), snoopDue (by decide +kernel)⟩
theorem test_snpi : msgsOf (exec (.snpi 3 0x80) (snooping .snpi .m)) = some [.answer 3 0x80 true] ∧ (got (exec (.snpi 3 0x80) (snooping .snpi .m))).map (fun t => t.agentState 3 0x80) = some none := by decide +kernel
theorem test_snps : msgsOf (exec (.snps 3 0x80) (snooping .snps .e)) = some [.answer 3 0x80 false] ∧ (got (exec (.snps 3 0x80) (snooping .snps .e))).map (fun t => t.agentState 3 0x80) = some (some .s) := by decide +kernel
def aTxn : PoolTxn := { line := 0x80, req := some (aReq .rdx), snoop := .snpi, await := [3], filtered := false }
/-- The answer of core 3 to aTxn, with data or without, on its way. -/
def answering (d : Bool) : State := pool [3] true [] [oneHop 3 (homeStation 0x80) (.answer 3 0x80 d)] [aTxn]
theorem witness_PoolAnswers : ∀ d : Bool, (answering d).pool.txns = [aTxn] ∧ aTxn.line = 0x80 ∧ aTxn.await = [3] ∧ aTxn.snoop = .snpi ∧ aTxn.req = some { agent := 5, line := 0x80, kind := .rdx, bad := false } ∧
    (answering d).pool.queue = [] ∧ (answering d).dirEntry 0x80 = some (entry [3] true) ∧ (answering d).agentState 5 0x80 = none ∧
    (((answering d).takeMsg (homeStation 0x80) (· == .answer 3 0x80 d)).map fun x => x.2.freeWay 5 0x80) = some (some 0) := by decide +kernel
theorem test_snp_ack : msgsOf (exec (.snpAck 3 0x80) (answering false)) = some [.data 5 0x80 true 0] := by decide +kernel
/-- A message on its way to core 5, whose copy of the line PV names. -/
def arriving (m : PoolMsg) : State := pool [5] true [] [oneHop (homeStation 0x80) (agentStation 5) m] []
theorem witness_PoolDeliveries : (∀ m ∈ [PoolMsg.data 5 0x80 false 0, .dataNa 5 0x80 false, .data 5 0x80 true 0, .ackUpg 5 0x80, .ack 5 0x80, .ackStale 5 0x80, .retry (aReq .rds)],
      (arriving m).pool.flights = oneHop (homeStation 0x80) 5 m :: []) ∧ agentStation 5 = 5 ∧ (aReq .rds).agent = 5 ∧ (aReq .rds).line = 0x80 ∧
    ((arriving (.ack 5 0x80)).dirEntry 0x80 = some (entry [5] true) ∧ (arriving (.ack 5 0x80)).agentOut 5 = false ∧ 5 ∈ (entry [5] true).pv ∧ 6 ∉ (entry [5] true).pv) ∧
    ((pool [5] true [copyOf 5 .s] [] []).dirEntry 0x80 = some (entry [5] true) ∧ (pool [5] true [copyOf 5 .s] [] []).agentState 5 0x80 = some .s) := by decide +kernel
theorem test_line_data : (got (exec (.lineDataE 5 0x80) (arriving (.data 5 0x80 true 0)))).map (fun t => t.agentState 5 0x80) = some (some .e) := by decide +kernel
/-- R247: a grant that the slice has called back leaves no copy. -/
theorem test_line_data_late : (got (exec (.lineDataE 6 0x80) (pool [5] true [] [oneHop (homeStation 0x80) 6 (.data 6 0x80 true 0)] []))).map (fun t => t.agentState 6 0x80) = some none := by decide +kernel
/-- Core 5 with a hold on line 0x80, which its agent holds. -/
def held5 : State := (pool [5] true [copyOf 5 .m] [] []).modCore 5 fun c => { c with hold := some { line := 0x80, left := 3 } }
def copy5 (st : AgentState) : State := pool [5] true [copyOf 5 st] [] []
theorem witness_PoolNotices : ((copy5 .m).pool.queue = [] ∧ (copy5 .m).snooped 5 0x80 = false ∧ (copy5 .m).defers 5 0x80 = false ∧ (copy5 .m).agentState 5 0x80 = some .m ∧ ((copy5 .m).dirEntry 0x80).isSome = true) ∧
    ((copy5 .e).pool.queue = [] ∧ (copy5 .e).snooped 5 0x80 = false ∧ (copy5 .e).defers 5 0x80 = false ∧ (copy5 .e).agentState 5 0x80 = some .e) ∧
    (held5.pool.queue = [] ∧ held5.snooped 5 0x80 = false ∧ held5.pool.holds = [] ∧ 5 < held5.cores.length ∧ (held5.core 5).run ≠ .absent ∧ (held5.core 5).pcn = 5 ∧
      (held5.core 5).hold = some { line := 0x80, left := 3 }) := by decide +kernel
/-- R202: a held line stays. -/
theorem test_wb_held : (got (exec (.wb 5 0x80 false) held5)).map (fun t => t.agentState 5 0x80) = some (some .m) := by decide +kernel
theorem test_wb : msgsOf (exec (.wb 5 0x80 false) (copy5 .m)) = some [.ack 5 0x80] ∧ (got (exec (.wb 5 0x80 false) (copy5 .m))).map (fun t => t.agentState 5 0x80) = some none := by decide +kernel
theorem test_hold : (got (exec (.hold 5 0x80) held5)).map (fun t => t.pool.holds) = some [{ agent := 5, line := 0x80, beat := 1099200 }] := by decide +kernel
/-- A station that keeps two messages on its clockwise hop, the older with sequence number 7. -/
def ringState : State :=
  { State.reset with pool := { Pool.reset with filtDue := false, flights := [7, 8].map fun n => { oneHop 83 0 (.ack 0 n) with copies := [{ station := 83, seq := n }] } } }
theorem witness_Millrace : ringState.pool.ringUp .cw = true ∧ ringState.pool.retryBuffer 83 .cw = (.ack 0 7, 7) :: [(.ack 0 8, 8)] ∧ (∀ f ∈ ringState.pool.flights, (f.copies.filter (fun c => c.station == 83)).length ≤ 1) ∧
    ringState.pool.filt ≠ ringState.pool.filtDue ∧ (ringState.pool.atest = none ∧ (ringState.lcnOfPcn 0).isSome = true ∧ ringState.pool.agents = []) := by decide +kernel
theorem test_link_ack : (got (exec (.linkAck 83 .cw) ringState)).map (fun t => t.pool.retryBuffer 83 .cw) = some [(.ack 0 8, 8)] := by decide +kernel
/-- R401: the clockwise hop of station 83. -/
theorem test_link_crc : (got (exec (.linkCrcError 83 .cw) ringState)).map (fun t => t.weir.inFlight.map WeirReport.src) = some [0x7A6] := by decide +kernel
def wayState : State := (pool [3] true [copyOf 3 .e] [] []).modPool fun p => { p with ways := [{ dis := 0, drain := [5] }] }
theorem witness_PoolWays : (wayState.dirEntry 0x80 = some (entry [3] true) ∧ (3 : Nat) < 52 ∧ 3 ∈ (entry [3] true).pv ∧ wayState.txnOpen 0x80 = false) ∧ (wayState.pool.ways[0]? = some { dis := 0, drain := [5] } ∧ (5 : Nat) ∈ [5] ∧
    ∀ x ∈ wayState.pool.dir, ¬(x.way = 5 ∧ sliceOf x.line = 0)) := by decide +kernel
theorem test_way_drained : (got (exec (.wayDrainComplete 0 5) wayState)).map (fun t => t.pool.ways) = some [{ dis := 0x20, drain := [] }] := by decide +kernel
/-- R245: the digits of 0x80 give slice 8; source 0x500 + 32 * 8 + 18. -/
theorem test_hedgerow : (got (exec (.hedgerowError 3 0x80) wayState)).map (fun t => t.weir.inFlight.map WeirReport.src) = some [0x612] ∧ msgsOf (exec (.hedgerowError 3 0x80) wayState) = some [.snoop .snpr 0x80] := by decide +kernel
def forming : State := { State.reset with pool := { Pool.reset with locked := false } }
def ranged (busy : Bool) (lines : BitVec 44) : State := (pool [] false [] [] []).modPool fun p => { p with ribBase := 0x81, ribLines := lines, ricBusy := busy }
theorem witness_WindowAndRanges : (forming.pool.lock = true ∧ forming.pool.locked = false ∧ forming.pool.lockFail = false ∧ forming.pool.queue = [] ∧ (∀ v ∈ forming.pool.ways, v.dis.getLsbD 15 = false) ∧ forming.pool.dir = []) ∧
    ((ranged false 4).portLives .poolric = true ∧ (ranged false 4).pool.ricBusy = false ∧ (ranged false 4).pool.ribLines ≠ 0) ∧ ((ranged false 0).portLives .poolric = true ∧ (ranged false 0).pool.ricBusy = false ∧ (ranged false 0).pool.ribLines = 0) ∧
    ((ranged true 4).portLives .poolric = true ∧ (ranged true 4).pool.ricBusy = true ∧ ∀ e ∈ (ranged true 4).pool.dir, e.line < (ranged true 4).pool.ribBase.toNat) := by decide +kernel
theorem test_range_done : (got (exec .rangeDone (ranged true 4))).map (fun t => (t.pool.ricBusy, t.pool.ricDone)) = some (false, true) := by decide +kernel
theorem test_range_empty : (got (exec .rangeFlush (ranged false 0))).map (fun t => (t.pool.ricBusy, t.pool.ricDone)) = some (false, true) := by decide +kernel

def noErrors : BurstErrors := { corrected := [], bad := [], retries := [], parityOff := false }
theorem lineWhole (l : Nat) (s : State) (h : (s.isDram (l * 256) && s.poolOpen && !(s.group (groupOf l)).lost && !(s.group (groupOf l)).deg && decide (l ∉ s.mc.poisonCode) &&
    decide (∀ b : Fin 5, s.channelFailed (5 * groupOf l + b.val) = false)) = true) : LineWhole s l := by
  simp only [Bool.and_eq_true, decide_eq_true_eq, Bool.not_eq_true'] at h
  obtain ⟨⟨⟨⟨⟨a, b⟩, c⟩, d⟩, e⟩, f⟩ := h
  exact ⟨a, b, ⟨c, d⟩, e, f⟩
/-- A read of line 0x80 that its controller has not completed, and the Pool copy that it fills. -/
def readDue : State := { pool [] false [] [] [] with mc := { MemCtl.reset with reads := [0x80] } }
theorem witness_MemoryReads : LineWhole readDue 0x80 ∧ readDue.readsLine 0x80 = true ∧ ((3 : Fin 5).val < 4 ∧ (0 : Fin 5).val < 4 ∧ (3 : Fin 5) ≠ 0) ∧ (readDue.dirEntry 0x80).isSome = true := ⟨lineWhole _ _ (by decide +kernel), by decide +kernel⟩
/-- R275, R277: line 0x80 lies in group 0: burst 3 corrected is channel source 0x803; two bad bursts lose the line. -/
theorem test_corrected : (got (exec (.dramLineRead 0x80 { noErrors with corrected := [3] }) readDue)).map (fun t => t.weir.inFlight.map WeirReport.src) = some [0x803] := by decide +kernel
theorem test_two_bad : (got (exec (.dramLineRead 0x80 { noErrors with bad := [0, 3] }) readDue)).map (fun t => (t.mc.poisonCode, t.weir.inFlight.map WeirReport.src, t.pool.dir.map DirEntry.p)) = some ([0x80], [0x818], [true]) := by decide +kernel
/-- A modified line, with the controller's copy behind it. -/
def dirtyLine (p : Bool) : State := (pool [] false [] [] []).modPool fun q => { q with dir := [{ entry [] false with d := true, p := p }], dramOld := [(0x8000, 1)] }
theorem witness_MemoryWrites : (∀ p : Bool, (dirtyLine p).isDram (0x80 * 256) = true ∧ (dirtyLine p).dirEntry 0x80 = some { entry [] false with d := true, p := p }) ∧ (pool [] false [] [] []).dirEntry 0x80 = some (entry [] false) ∧
    0x80 ∈ ((dirtyLine false).writeBack 0x80).mc.writes := by decide +kernel
theorem test_line_write : (got (exec (.dramLineWrite 0x80 noErrors) ((dirtyLine true).writeBack 0x80))).map (fun t => (t.pool.dramOld, t.mc.poisonCode, t.mc.writes)) = some ([], [0x80], []) := by decide +kernel
/-- The last line of group 0 and the first of group 3 (R279). -/
def scrubbing (n : Nat) : State := { State.reset with mc := { MemCtl.reset with groups := MemCtl.reset.groups.map fun g => { g with scrubAt := n } } }
theorem witness_Scrubbing : ∀ p ∈ [(0, 512 * 2 ^ 20 - 1), (3, 0)], p.1 < 4 ∧ (scrubbing p.2).mc.groups[p.1]? = some { deg := false, fch := 0, lost := false, scrubAt := p.2, passes := 0 } ∧ (scrubbing p.2).poolOpen = true ∧
    scrubLineOf p.1 p.2 ∉ (scrubbing p.2).mc.poisonCode := by decide +kernel
theorem test_scrub_wraps : (got (exec (.scrubLine 0 noErrors) (scrubbing (512 * 2 ^ 20 - 1)))).map (fun t => (t.mc.groups.getD 0 { deg := false, fch := 0, lost := false, scrubAt := 9, passes := 0 })) =
    some { deg := false, fch := 0, lost := false, scrubAt := 0, passes := 1 } := by decide +kernel
/-- Main memory that is still being zeroed; one whose channel 19 the counting has made SEVERE. -/
def notReady (deg : Bool) : State := { State.reset with mc := { MemCtl.reset with ready := false, zeroing := true, groups := MemCtl.reset.groups.map fun g => { g with deg := deg } } }
def severe19 (deg : Bool) : State := { notReady deg with weir := Weir.reset.modSource 0x813 fun x => { x with sev := true } }
theorem witness_ChannelsAndReady : (∀ deg : Bool, (19 : Nat) < 20 ∧ (severe19 deg).mc.channels[19]? = some { failed := false, cause := 0, pres := 1 } ∧ (severe19 deg).mc.groups[19 / 5]? = some { deg := deg, fch := 0, lost := false, scrubAt := 0, passes := 0 } ∧
      ((severe19 deg).weir.source (0x800 + 19)).sev = true) ∧
    (notReady false).mc.zeroing = true ∧ (notReady false).plant.power = .on ∧ (notReady false).pool.start = false := by decide +kernel
theorem test_channel_fail : (got (exec (.channelFail 19 .link) State.reset)).map (fun t => ((t.mc.groups.getD 3 { deg := false, fch := 0, lost := true, scrubAt := 0, passes := 0 }).fch, t.weir.inFlight.map WeirReport.src)) = some (4, [0x813]) := by decide +kernel
/-- R281: a promotion of a source that is not SEVERE fails nothing. -/
theorem test_channel_promotion : (got (exec (.channelFail 19 .promotion) State.reset)).map (fun t => t.channelFailed 19) = some false := by decide +kernel
theorem test_memory_ready : (got (exec .memoryReady (notReady false))).map (fun t => t.mc.ready) = some true := by decide +kernel

/-! Completion queues, subchannels, channel programs and the journal. -/

/-- An enabled queue of slice 0 whose ring stands at 0x8000, or other queues. -/
def ring0 : Cq := { Cq.reset with base := 0x8000, en := true }
def withCq (q : Cq) (s : State) : State := { s with css := { s.css with queues := [(0, q)] } }
theorem storable {s : State} {a n : Nat} (h : (s.isDram a && decide (a % 256 + n ≤ 256) && !s.windowForming a && !s.lineBusy (lineOf a) && !s.guarded a && (s.dirEntry (lineOf a)).isSome && decide (s.pool.queue = [])) = true) : Storable s a n := by
  simp only [Bool.and_eq_true, decide_eq_true_eq, Bool.not_eq_true'] at h
  obtain ⟨⟨⟨⟨⟨⟨dram, line⟩, formed⟩, free⟩, plain⟩, valid⟩, queue⟩ := h
  exact { dram := dram, oneLine := line, forming := formed, free := free, plain := plain, valid := valid, unqueued := by rw [queue]; intro r hr; cases hr }
def heldDone : HeldEntry := { q := 0, op := 9, sch := 0, final := true, parm := 7, code := 0, flags := 0, detail := 0, ccwpa := 0, resid := 0, jgen := none, acks := [] }
/-- The ring at its last entry, with a completion that is held. -/
def wrapping : State := let s := inMem [] []; { s with css := { Css.reset with queues := [(0, { ring0 with base := 0x7020, head := 5, tail := 127 })], held := [heldDone] } }
theorem witness_CompletionQueues : (let s := withCq { ring0 with en := false } State.reset
      s.portLives (.cq (0 / 4) (0 % 4) 4) = true ∧ bitAt (1 : Word) 0 = true ∧ (s.cq 0).en = false ∧ (4095 : Nat) < 4096 ∧ (s.cq 0).base.toNat + 32 * (s.cq 0).entries ≤ s.capacity) ∧
    (State.reset.capacity < ((withCq { ring0 with en := false, base := 0x8000000000 } State.reset).cq 0).base.toNat + 32 * 128) ∧ bitAt (0 : Word) 0 = false ∧
    (Storable wrapping ((wrapping.cq 0).base.toNat + 32 * (wrapping.cq 0).tail.toNat) 32 ∧ wrapping.portLives (.cq 0 0 4) = true ∧ wrapping.css.held = heldDone :: [] ∧ heldDone.q = 0 ∧ wrapping.weir.safe = false ∧ (wrapping.cq 0).en = true ∧ (wrapping.cq 0).isFull = false) :=
  ⟨by decide +kernel, by decide +kernel, rfl, storable (by decide +kernel), by decide +kernel⟩
/-- R307: the phase is inverted when TAIL wraps. -/
theorem test_held_write : (got (exec (.heldCompletionWrite 0) wrapping)).map (fun t => ((t.cq 0).tail, (t.cq 0).phase, t.css.held.length)) = some (0, false, 0) := by decide +kernel
theorem test_cq_enable : (got (exec (.cqEnable 0 0x503) (withCq { ring0 with en := false, tail := 3 } State.reset))).map (fun t => t.cq 0) = some { ring0 with lcn := 5, irq := true, tail := 0 } := by decide +kernel
theorem test_cq_err : (got (exec (.cqEnable 0 1) (withCq { ring0 with en := false, base := 0x8000000000 } State.reset))).map (fun t => ((t.cq 0).en, (t.cq 0).err)) = some (false, true) := by decide +kernel

/-- Subchannel 0 selected, slice 0 with its first queue enabled. -/
def selected (st : Nat) (v : Bool) : State := withCq ring0 (if v then chan st 1 0 [] [] [] else { chan st 1 0 [] [] [] with mem := bootTree })
theorem witness_SubchannelCommands : (forming.portLives .mschcmd = true ∧ forming.pool.locked = false) ∧ ((selected 0 true).portLives .mschcmd = true ∧ (selected 0 true).pool.locked = true ∧ (selected 0 true).sliceBusy (selected 0 true).css.cfgSlice = false ∧ ((selected 0 true).sch (selected 0 true).css.sel.toNat).v = true ∧
      ((selected 0 true).sch 0).state = stIdle ∧ (selected 0 true).sliceBusy ((selected 0 true).sch 0).slice = false ∧ ((selected 0 true).sch 0).pend = false ∧ (selected 0 true).mem.wf = true ∧
      ((selected 0 true).cq (4 * (selected 0 true).css.cfgSlice + (fld (selected 0 true).css.cfg 13 2).toNat)).en = true ∧ (selected 0 true).lcpPresent (fld (selected 0 true).css.cfg 8 5).toNat = true) ∧
    (((selected 0 false).sch 0).v = false ∧ (selected 0 false).pool.locked = true) ∧ (∀ st ∈ [stActive, 5], ((selected st true).sch 0).state = st ∧ st ≠ stIdle ∧ st ≠ stDown) ∧ (({ selected 0 false with css := Css.reset } : State).cq 0).en = false ∧
    (({ selected 0 false with ct := { Ct.reset with lcp := Ct.reset.lcp.set 0 none } } : State).lcpPresent 0) = false := by decide +kernel
theorem test_establish : (got (exec (.establish 1 false) (selected 0 false))).map (fun t => (t.css.result, t.css.inc 0)) = some (0, 1) := by decide +kernel
theorem test_establish_again : (got (exec (.establish 1 false) (selected 0 true))).map (fun t => t.css.result) = some 2 := by decide +kernel
theorem test_remove : (got (exec (.remove 0 false) (selected 0 true))).map (fun t => (t.css.result, (t.sch 0).v)) = some (0, false) := by decide +kernel

/-- The 32 bytes of a CCW (R293). -/
def ccw (addr count : Nat) (cmd ctl : Byte) (aux key : Word) : List Byte := bytesOf 8 addr ++ bytesOf 4 count ++ [cmd, ctl, 0, 0] ++ wordBytes aux ++ wordBytes key
/-- Subchannel 0, active, of a type, with an operation at the CCW given and its connection in a state. -/
def running (typ : Nat) (ps : Nat) (c : List Byte) : State :=
  let s := chan 1 typ 0 [] [op0 .ready] c
  { s with css := { s.css with conns := [(0, { Conn.closed with typ := typ, pstate := ps, xidOut := 3 })] } }
def fetched (s : State) : Option (Command × Ccw × Nat) := (s.fetchCommand (op0 .ready)).toOption
theorem atCommand {s : State} (h : (decide (s.opOfSch 0 = some (op0 .ready)) && decide (s.op 0 = some (op0 .ready)) && !s.weir.safe && s.cpRuns (s.sch 0).lcp && (fetched s).any (fun x => !x.1.mark)) = true) :
    ∃ c lead n, AtCommand s 0 (op0 .ready) c lead n ∧ fetched s = some (c, lead, n) := by
  simp only [Bool.and_eq_true, decide_eq_true_eq, Bool.not_eq_true'] at h
  obtain ⟨⟨⟨⟨a, b⟩, c⟩, d⟩, e⟩ := h
  unfold fetched at e ⊢
  generalize hx : s.fetchCommand (op0 .ready) = r at e ⊢
  cases r with
  | error x => exact absurd e (by simp [Except.toOption])
  | ok x => exact ⟨x.1, x.2.1, x.2.2, { op := a, byId := b, onSch := rfl, ready := rfl, going := rfl, safe := c, runs := d, command := hx, mark := by simpa [Except.toOption] using e }, rfl⟩
theorem witness_OneCcw : let s := running 0 psUp (ccw 0x8080 32 0x41 0x40 0 0)
    (op0 .ready).reached < 65536 ∧ s.granted (op0 .ready).slice (op0 .ready).ccw 32 = true ∧ s.readPoison (op0 .ready).ccw 32 = false ∧ (s.ccwAt 0x8000).cmd = 0x41 ∧ (s.ccwAt 0x8000).seq < 2 ∧ (s.ccwAt 0x8000).len < 2 ∧ bitAt (s.ccwAt 0x8000).ctl 0 = false ∧
      (s.ccwAt 0x8000).drop = false ∧ (s.ccwAt 0x8000).reserved = 0 ∧ (s.ccwAt 0x8000).j = false ∧ 0 < (s.ccwAt 0x8000).count ∧ (s.ccwAt 0x8000).count ≤ 0x1000000 ∧ s.granted 0 (s.ccwAt 0x8000).addr (s.ccwAt 0x8000).count = true ∧
      (ccwTypes (s.ccwAt 0x8000).cmd).getD (s.sch 0).typ false = true := by decide +kernel
/-- What a command shows of itself to the statements: its code, function, NEXT and data list. -/
def shows (s : State) : Option (Nat × Nat × Bool × List (Nat × Nat)) := (fetched s).map fun x => (x.2.1.cmd, x.2.1.func, x.1.seqNext, x.1.data)
def nopState : State := running 0 psUp (ccw 0 0 0x51 0x40 0 0)
def branchState : State := running 0 psUp (ccw 0x8040 0 0x50 0x40 0 0)
def readJState : State := running 0 psUp (ccw 0x8080 64 0x21 0x40 0 0)
def senseState : State := running 0 psUp (ccw 0x8080 32 0x41 0x40 0 0)
def queryState : State := running 0 psUp (ccw 0x8080 64 0x40 0x40 3 0)
theorem witness_LocalCommands : (∃ c lead n, AtCommand nopState 0 (op0 .ready) c lead n ∧ fetched nopState = some (c, lead, n)) ∧ (∃ c lead n, AtCommand branchState 0 (op0 .ready) c lead n ∧ fetched branchState = some (c, lead, n)) ∧
    (∃ c lead n, AtCommand readJState 0 (op0 .ready) c lead n ∧ fetched readJState = some (c, lead, n)) ∧ (∃ c lead n, AtCommand senseState 0 (op0 .ready) c lead n ∧ fetched senseState = some (c, lead, n)) ∧
    (∃ c lead n, AtCommand queryState 0 (op0 .ready) c lead n ∧ fetched queryState = some (c, lead, n)) ∧
    shows nopState = some (0x51, 0, true, []) ∧ shows branchState = some (0x50, 0, true, []) ∧ shows readJState = some (0x21, 0, true, [(0x8080, 64)]) ∧ shows senseState = some (0x41, 0, true, [(0x8080, 32)]) ∧ shows queryState = some (0x40, 3, true, [(0x8080, 64)]) ∧
    (op0 .ready).halting = false ∧ nopState.mem.wf = true ∧ readJState.ct.recs = [] ∧ Storable senseState 0x8080 32 ∧ Storable queryState 0x8080 64 :=
  ⟨atCommand (by decide +kernel), atCommand (by decide +kernel), atCommand (by decide +kernel), atCommand (by decide +kernel), atCommand (by decide +kernel), by decide +kernel, by rfl, by decide +kernel, by rfl, by decide +kernel,
    rfl, by decide +kernel, rfl, storable (by decide +kernel), storable (by decide +kernel)⟩
def ccwOf (o : Host.Outcome State Fault Refusal) : Option (List Nat) := (got o).map fun t => t.css.ops.map Operation.ccw
theorem test_ccw_nop : ccwOf (exec (.ccwNop 0) nopState) = some [0x8020] := by decide +kernel
theorem test_ccw_branch : ccwOf (exec (.ccwBranch 0) branchState) = some [0x8040] := by decide +kernel
/-- R346: the sense data of a subchannel without an unusual completion are zeros; the byte behind them is untouched. -/
theorem test_ccw_sense : (got (exec (.ccwSense 0) { senseState with mem := (senseState.mem.write 0x8080 5).write 0x80A0 6 })).map (fun t => (t.mem.read 0x8080, t.mem.read 0x80A0)) = some (0, 6) := by decide +kernel

def writeState : State := running 0 psUp (ccw 0x8080 2 0x10 0x40 9 4 ++ List.replicate 96 0 ++ [7, 8])
def readState : State := running 0 psUp (ccw 0x8080 2 0x20 0x40 9 4)
def sendState (j : Byte) : State := running 1 psUp (ccw 0x8080 2 0x30 (0x40 ||| j) 0 4)
def committedState : State := running 0 psUp (ccw 0x8080 2 0x11 0x40 9 4)
def receiveState : State := running 1 psUp (ccw 0x8080 2 0x31 0x40 0 0)
def controlState (func : Word) : State := running 1 psUp (ccw 0x8080 2 0x40 0x40 func 0)
theorem witness_PathCommands : ((writeState.conn 0).isOpen = true ∧ (writeState.conn 0).pstate ≠ psFencing ∧ (writeState.conn 0).isTcp = false) ∧ (∃ c lead n, AtCommand writeState 0 (op0 .ready) c lead n ∧ fetched writeState = some (c, lead, n)) ∧
    (∃ c lead n, AtCommand readState 0 (op0 .ready) c lead n ∧ fetched readState = some (c, lead, n)) ∧ (∃ c lead n, AtCommand (sendState 0) 0 (op0 .ready) c lead n ∧ fetched (sendState 0) = some (c, lead, n)) ∧
    (∃ c lead n, AtCommand (sendState 8) 0 (op0 .ready) c lead n ∧ fetched (sendState 8) = some (c, lead, n)) ∧ (∃ c lead n, AtCommand committedState 0 (op0 .ready) c lead n ∧ fetched committedState = some (c, lead, n)) ∧
    (∃ c lead n, AtCommand receiveState 0 (op0 .ready) c lead n ∧ fetched receiveState = some (c, lead, n)) ∧ (∃ c lead n, AtCommand (controlState 5) 0 (op0 .ready) c lead n ∧ fetched (controlState 5) = some (c, lead, n)) ∧
    (∀ x ∈ fetched writeState, writeState.poisonedCcw x.1 = none ∧ x.2.1.cmd = 0x10) ∧ (∀ x ∈ fetched (sendState 0), x.1.journal = false ∧ x.2.1.cmd = 0x30 ∧ (sendState 0).poisonedCcw x.1 = none) ∧ (∀ x ∈ fetched (sendState 8), x.1.journal = true) ∧
    (∀ x ∈ fetched committedState, x.2.1.cmd = 0x11 ∧ committedState.poisonedCcw x.1 = none) ∧ (receiveState.conn 0).nextMessage = none ∧ ((controlState 5).sch 0).typ ≠ 3 :=
  ⟨by decide +kernel, atCommand (by decide +kernel), atCommand (by decide +kernel), atCommand (by decide +kernel), atCommand (by decide +kernel), atCommand (by decide +kernel), atCommand (by decide +kernel), atCommand (by decide +kernel),
    by decide +kernel⟩
theorem test_ccw_write : (got (exec (.ccwWrite 0) writeState)).map (fun t => ((t.conn 0).xidOut, (t.conn 0).outEx.map OutExchange.data)) = some (4, [[7, 8]]) := by decide +kernel
theorem test_ccw_committed : (got (exec (.ccwWriteCommitted 0) committedState)).map (fun t => (t.css.ops.map Operation.phase, t.ct.waits.map JWait.pos)) = some ([.reserve], [9]) := by decide +kernel
theorem witness_PathControls : (∀ f ∈ [1, 2, 4], (controlState (BitVec.ofNat 64 f)).conn 0 = (writeState.conn 0 |> fun c => { c with typ := 1 }) ∧ ((controlState (BitVec.ofNat 64 f)).conn 0).isOpen = true ∧
      ((controlState (BitVec.ofNat 64 f)).conn 0).pstate ≠ psFencing) ∧
    (∃ c lead n, AtCommand (controlState 1) 0 (op0 .ready) c lead n ∧ fetched (controlState 1) = some (c, lead, n)) ∧ (∃ c lead n, AtCommand (controlState 2) 0 (op0 .ready) c lead n ∧ fetched (controlState 2) = some (c, lead, n)) ∧
    (∃ c lead n, AtCommand (controlState 4) 0 (op0 .ready) c lead n ∧ fetched (controlState 4) = some (c, lead, n)) ∧ (∀ f ∈ [1, 2, 4], shows (controlState (BitVec.ofNat 64 f)) = some (0x40, f, true, [])) :=
  ⟨by decide +kernel, atCommand (by decide +kernel), atCommand (by decide +kernel), atCommand (by decide +kernel), by decide +kernel⟩
/-- An operation whose CCW lies outside the grants of its slice. -/
def failing : State := let s := chan 1 0 0 [] [{ op0 .ready with ccw := 0x1000000 }] []; { s with css := { s.css with queues := [] } }
theorem witness_ProgramChecks : failing.opOfSch 0 = some { op0 .ready with ccw := 0x1000000 } ∧ failing.op 0 = some { op0 .ready with ccw := 0x1000000 } ∧ failing.weir.safe = false ∧ failing.cpRuns (failing.sch 0).lcp = true ∧ failing.granted 0 0x1000000 32 = false ∧ (failing.cq 0).en = false := by decide +kernel
theorem test_program_check : (got (exec (.ccwNop 0) failing)).map (fun t => t.css.held.map fun h => (h.code, h.detail, h.ccwpa)) = some [(codeProgramCheck, 5, 0x1000000)] := by decide +kernel

/-- A record of subchannel 0 in the journal, of one unit. -/
def rec0 : JRec := { gen := 4, kind := 1, sch := 0, guarded := false, mirror := false, key := 0, pos := 0, beat := 0, parm := 7, total := 2, data := [1, 2], unit := 0, units := 1, written := 256, shipped := 0, lastShip := 0, ackBeat := 0, durable := false, mirrored := false, released := false, retired := false, broken := false }
def wait0 : JWait := { op := 0, kind := 1, sch := 0, guarded := false, key := 0, pos := 0, parm := 7, data := [1, 2], started := false, done := false }
def journal (rs : List JRec) (ws : List JWait) (ops : List Operation) : State := let s := chan 1 0 0 [] ops []; { s with ct := { Ct.reset with recs := rs, waits := ws, nextgen := 5 } }
theorem witness_JournalRecords : ((journal [] [wait0] [op0 .reserve]).journalOpen = true ∧ (journal [] [wait0] [op0 .reserve]).ct.waits = wait0 :: [] ∧ (journal [] [wait0] [op0 .reserve]).op wait0.op = some (op0 .reserve) ∧ (op0 .reserve).id = wait0.op ∧
      (journal [] [wait0] [op0 .reserve]).ct.fits (unitsFor wait0.data.length) = true) ∧ ((journal [rec0] [] []).record 4 = some rec0 ∧ (journal [rec0] [] []).ct.mirIn = [] ∧ rec0.data.length = rec0.total ∧ 256 * rec0.units ≤ rec0.written) ∧
    ((journal [{ rec0 with durable := true }] [] []).record 4 = some { rec0 with durable := true } ∧ (journal [{ rec0 with durable := true }] [] []).weir.safe = false ∧ (journal [{ rec0 with durable := true }] [] []).css.ops = [] ∧ (journal [{ rec0 with durable := true }] [] []).writeOpen 4 = false) := by decide +kernel
theorem test_journal_reserve : (got (exec .journalReserve (journal [] [wait0] [op0 .reserve]))).map (fun t => (t.ct.nextgen, t.css.ops.map Operation.phase, t.ct.recs.map fun r => (r.gen, r.data))) = some (6, [.release 5], [(5, [1, 2])]) := by decide +kernel
theorem test_record_durable : (got (exec (.recordDurable 4) (journal [rec0] [] []))).map (fun t => t.ct.recs.map JRec.durable) = some [true] := by decide +kernel
def ctlInput : CtlInput := { beat := 1100000, nextgen := 7, tailgen := 5, tail := 9 }
def thousandth : State := { State.reset with ct := { Ct.reset with ctlDue := [ctlInput] } }
/-- The same with the heartbeat of that boundary still to be sent. -/
def crowded : State := { thousandth with ct := { thousandth.ct with hbDue := [(1100000, { hseq := 1, nextgen := 0, fgen := 0, role := .active, pstate := .paired, safe := false, armed := false })] } }
theorem witness_ControlArea : thousandth.ct.ctlDue = ctlInput :: [] ∧ thousandth.stagesLeft ctlInput.beat = false ∧ crowded.ct.ctlDue = ctlInput :: [] ∧ crowded.stagesLeft ctlInput.beat = true := by decide +kernel
theorem test_control_area : (got (exec .controlAreaWrite thousandth)).map (fun t => (t.ct.useB, t.ct.copyB.cseq, t.ct.copyB.nextgen)) = some (true, 1, 7) := by decide +kernel

/-! SCP, message TCP and Ethernet. -/

/-- A configuration part (R323) with FLAGS as given, the encapsulation, PPORT 5, and a receive area of 64 KiB at 0x10000; PMAX 1024. -/
def config (enc flags : Byte) : List Byte := [enc, flags, 0, 0, 0, 0, 0, 5] ++ List.replicate 0x38 0 ++ bytesOf 8 0x10000 ++ bytesOf 4 0x10000 ++ bytesOf 2 1024 ++ List.replicate 50 0
/-- Subchannel 0 of type peer, with a connection that is f of an open one. -/
def linked (flags : Byte) (f : Conn → Conn) : State :=
  let s := chan 0 1 0 [] [] []
  { s with
    css := { s.css with conns := [(0, f { Conn.closed with cfg := config 0 flags, typ := 1, pstate := psUp, pmax := 1024, lcid := 0x100000, rcvNxt := 10, sndNxt := 5, sndUna := 5, rto := 64 })] }
    eth := { s.eth with ports := s.eth.ports.map fun x => { x with link := true } } }
/-- A frame of a type for subchannel 0 in its incarnation. -/
def frame (typ : BitVec 4) (payload : List Byte) : ScpFrame :=
  { version := 1, typ := typ, cls := 1, first := false, last := false, acknow := false, len := BitVec.ofNat 16 payload.length, dcid := 0x100000, scid := 9, seq := 10, ack := 5, xid := 0, cxid := 0, fgen := 0, win := 7,
    reservedZero := true, crcOk := true, payload := payload }
theorem scpArrives {s : State} {k typ : Nat} {f : ScpFrame} (h : (decide (k < 2 ^ 20) && decide (f.typ.toNat = typ) && s.frameReaches k && !s.weir.safe && f.crcOk &&
    !f.malformed (if (s.conn k).pstate = psClosed ∨ (s.conn k).pmax = 0 then 8192 else (s.conn k).pmax) && s.established k f && decide (f.cls = (s.conn k).cls) && !(s.conn k).fenced f && (s.conn k).fgenOk f) = true) : ScpArrives s k typ f := by
  simp only [Bool.and_eq_true, decide_eq_true_eq, Bool.not_eq_true'] at h
  obtain ⟨⟨⟨⟨⟨⟨⟨⟨⟨a, b⟩, c⟩, d⟩, e⟩, f'⟩, g⟩, i⟩, j⟩, l⟩ := h
  exact ⟨a, b, c, d, e, f', g, i, j, l⟩
theorem quietConn {s : State} {k : Nat} {f : ScpFrame} (h : (decide ((s.conn k).pstate = psUp) && decide ((s.conn k).tx = []) && decide (s.css.ops = []) && decide (f.ack = (s.conn k).sndUna) && decide (f.cxid = (s.conn k).cxidOut)) = true) : QuietConn s k f := by
  simp only [Bool.and_eq_true, decide_eq_true_eq] at h
  obtain ⟨⟨⟨⟨a, b⟩, c⟩, d⟩, e⟩ := h
  exact ⟨a, b, c, d, e⟩
def openBytes : List Byte := [0, 0, 0, 0, 0, 0, 4, 0] ++ List.replicate 8 0
def opening (passive : Bool) : State := linked (if passive then 1 else 0) fun c => { c with pstate := psOpening }
def closing : State := linked 0 fun c => { c with pstate := psClosing, closeSent := true }
theorem witness_ScpPaths : ScpArrives (opening true) 0 1 (frame 1 openBytes) ∧ ScpArrives (opening false) 0 2 (frame 2 openBytes) ∧ ScpArrives (linked 0 id) 0 6 (frame 6 [0, 3, 0, 0]) ∧ ScpArrives closing 0 7 (frame 7 []) ∧
    ((opening true).conn 0).pstate = psOpening ∧ ((opening true).conn 0).passive = true ∧ ((opening true).conn 0).outEx = [] ∧ ((opening false).conn 0).pstate = psOpening ∧ ((opening false).conn 0).passive = false ∧
    (linked 0 id).css.ops = [] ∧ (closing.conn 0).pstate = psClosing ∧ (closing.conn 0).closeSent = true :=
  ⟨scpArrives (by decide +kernel), scpArrives (by decide +kernel), scpArrives (by decide +kernel), scpArrives (by decide +kernel), by decide +kernel⟩
def linkOf (o : Host.Outcome State Fault Refusal) : Option Conn := (got o).map fun t => t.conn 0
def data (seq : Word32) : ScpFrame := { frame 3 [] with seq := seq }
theorem witness_ScpData : (ScpArrives (linked 0 id) 0 3 (data 10) ∧ QuietConn (linked 0 id) 0 (data 10) ∧ (data 10).acknow = false ∧ ((linked 0 id).conn 0).kept = [] ∧ ((linked 0 id).conn 0).oldExchange (data 10) = true ∧ (data 10).data.length ≤ ((linked 0 id).conn 0).areaFree) ∧
    (ScpArrives (linked 0 id) 0 3 (data 73) ∧ QuietConn (linked 0 id) 0 (data 73) ∧ ((data 73).seq - ((linked 0 id).conn 0).rcvNxt).toNat < ((linked 0 id).conn 0).win.toNat ∧ (data 73).acknow = false ∧ ∀ g ∈ ((linked 0 id).conn 0).kept, g.seq ≠ (data 73).seq) ∧
    (ScpArrives (linked 0 id) 0 3 (data 74) ∧ QuietConn (linked 0 id) 0 (data 74) ∧ ((linked 0 id).conn 0).win.toNat ≤ ((data 74).seq - ((linked 0 id).conn 0).rcvNxt).toNat) :=
  ⟨⟨scpArrives (by decide +kernel), quietConn (by decide +kernel), rfl, by decide +kernel⟩, ⟨scpArrives (by decide +kernel), quietConn (by decide +kernel), by decide +kernel⟩,
    scpArrives (by decide +kernel), quietConn (by decide +kernel), by decide +kernel⟩
/-- R330: a frame ahead is kept, one beyond the window of 64 frames is not. -/
theorem test_data_ahead : (linkOf (exec (.scpData 0 (data 73)) (linked 0 id))).map (fun c => (c.rcvNxt, c.kept.length)) = some (10, 1) ∧ (linkOf (exec (.scpData 0 (data 74)) (linked 0 id))).map (fun c => c.kept.length) = some 0 := by decide +kernel
def txFrame (seq : Word32) : TxFrame := { seq := seq, first := true, last := true, xid := 1, payload := [], sent := true }
def unacked : State := linked 0 fun c => { c with tx := [txFrame 5], sndNxt := 6 }
def bgEx : OutExchange := { xid := 4, seq := 3, xop := 1, total := 0, aux := 0, tag := 0, data := [], use := .background 0 (some 9) }
def background : State := linked 0 fun c => { c with outEx := [bgEx], xidOut := 6 }
theorem witness_ScpAnswers : (ScpArrives unacked 0 4 { frame 4 [] with ack := 6 } ∧ (unacked.conn 0).pstate = psUp ∧ unacked.css.ops = [] ∧ follows 6 (unacked.conn 0).sndUna = true ∧ notAfter 6 (unacked.conn 0).sndNxt = true) ∧
    (ScpArrives unacked 0 5 (frame 5 [0, 0, 0, 5, 0, 0, 0, 5]) ∧ (frame 5 [0, 0, 0, 5, 0, 0, 0, 5]).ack = (unacked.conn 0).sndUna ∧ (frame 5 []).cxid = (unacked.conn 0).cxidOut ∧ unacked.mayTransmit (unacked.conn 0).port (unacked.conn 0).prio = true ∧
      (unacked.conn 0).tx = [txFrame 5] ∧ (frame 5 [0, 0, 0, 5, 0, 0, 0, 5]).num 0 4 = (txFrame 5).seq.toNat ∧ (frame 5 [0, 0, 0, 5, 0, 0, 0, 5]).num 4 4 = (txFrame 5).seq.toNat) ∧
    (ScpArrives (linked 0 id) 0 8 { frame 8 [] with acknow := true } ∧ QuietConn (linked 0 id) 0 { frame 8 [] with acknow := true } ∧ (linked 0 id).mayTransmit 0 0 = true) ∧
    (ScpArrives background 0 11 (frame 11 [0, 1, 0, 0, 0, 0, 0, 4, 0, 0, 0, 0, 0, 0, 0, 0]) ∧ QuietConn background 0 (frame 11 []) ∧ (background.conn 0).outEx = [bgEx] ∧ bgEx.use = .background 0 (some 9) ∧ bgEx.xid.toNat = (frame 11 [0, 1, 0, 0, 0, 0, 0, 4, 0, 0, 0, 0, 0, 0, 0, 0]).num 4 4) :=
  ⟨⟨scpArrives (by decide +kernel), by decide +kernel⟩, ⟨scpArrives (by decide +kernel), by decide +kernel⟩,
    ⟨scpArrives (by decide +kernel), quietConn (by decide +kernel), by decide +kernel⟩, scpArrives (by decide +kernel), quietConn (by decide +kernel), by decide +kernel, rfl, by decide +kernel⟩
theorem test_scp_ack : (linkOf (exec (.scpAck 0 { frame 4 [] with ack := 6 }) unacked)).map (fun c => (c.sndUna, c.tx.length, c.pwin)) = some (6, 0, 7) := by decide +kernel
theorem test_scp_crc : (got (exec (.scpAck 0 { frame 4 [] with ack := 6, crcOk := false }) unacked)).map (fun t => (t.css.crcErr, (t.conn 0).sndUna)) = some (1, 5) := by decide +kernel
def fencing : State := linked 0 fun c => { c with pstate := psFencing }
theorem witness_ScpFences : (ScpArrives (linked 0 id) 0 9 { frame 9 (List.replicate 8 0) with fgen := 3 } ∧ ((linked 0 id).conn 0).pstate = psUp ∧ ((linked 0 id).conn 0).outEx = []) ∧ (ScpArrives fencing 0 10 (frame 10 (List.replicate 8 0)) ∧ (fencing.conn 0).pstate = psFencing ∧ fencing.css.ops = []) :=
  ⟨⟨scpArrives (by decide +kernel), by decide +kernel⟩, scpArrives (by decide +kernel), by decide +kernel⟩
/-- Subchannel 0 whose connection has waited for longer than every timer. -/
def waited (passive : Bool) (f : Conn → Conn) : State := let s := linked (if passive then 1 else 0) f; { s with plant := { s.plant with beatc := 3000000 } }
/-- A closed subchannel 0 that is due to reopen. -/
def reopening : State := waited false fun c => { c with pstate := psClosed, reopenAt := some 3000000 }
/-- The same, of a slice, with a configuration record that stands. -/
def reopenWith (slice : Nat) (enc : Byte) : State := { reopening with mem := bootTree ++ (cellsFrom 0x8000 (config enc 0) ++ cellsFrom windowBase ([0xA8, 0, 0, 0, 0, 0, 0, 0] ++ bytesOf 8 (slice * 2 ^ 54) ++ wordBytes 0x8000)) }
/-- The same, guarded, on a standby core. -/
def reopenStandby : State := { reopening with ct := { Ct.reset with role := .standby }, mem := bootTree ++ cellsFrom windowBase [0xB8] }
/-- Whether the configuration that an opening would read passes, none where it reads none. -/
def opensAt (s : State) : Option Bool :=
  let c := s.freshConn 0 (s.sch 0)
  let r := s.readConfig 0 c
  r.1.map fun cfg => r.2.configOk { c with cfg := cfg } false
theorem witness_ScpTimers : (((waited false fun c => { c with pstate := psOpening }).conn 0).passive = false ∧ ((waited false fun c => { c with pstate := psOpening }).conn 0).isTcp = false ∧
      ((waited false fun c => { c with pstate := psOpening }).conn 0).rtob ≤ (waited false fun c => { c with pstate := psOpening }).since 0 ∧ (waited false id).mayTransmit 0 0 = true ∧ (waited false id).weir.safe = false) ∧
    (((waited false id).conn 0).isUp = true ∧ ((waited false id).conn 0).ka ≤ (waited false id).since ((waited false id).conn 0).sentBeat ∧ ((waited false id).conn 0).deadt ≤ (waited false id).since ((waited false id).conn 0).rcvdBeat ∧ (waited false id).css.ops = []) ∧
    (((reopenWith 9 0).conn 0).reopenAt = some 3000000 ∧ (3000000 : Word).toNat ≤ (reopenWith 9 0).beatc.toNat ∧ ((reopenWith 9 0).sch 0).guarded = false ∧ opensAt (reopenWith 9 0) = none) ∧
    (opensAt (reopenWith 0 0) = some true ∧ opensAt (reopenWith 0 9) = some false ∧ ((reopenWith 0 0).sch 0).guarded = false) ∧
    ((reopenStandby.sch 0).guarded = true ∧ reopenStandby.ct.role = .standby) ∧
    (let s := waited false fun c => { c with tx := [txFrame 5] }; (s.conn 0).tx = txFrame 5 :: [] ∧ (s.conn 0).isUp = true ∧ (txFrame 5).sent = true ∧ (s.conn 0).rto ≤ s.since (s.conn 0).ackBeat) ∧
    (let s := waited false fun c => { c with ackDue := some 2999999 }; (s.conn 0).ackDue = some 2999999 ∧ 1 ≤ s.since 2999999) ∧
    (let s := waited false fun c => { c with pstate := psFencing }; (s.conn 0).pstate = psFencing ∧ (s.conn 0).rtob ≤ s.since (s.conn 0).openBeat) := by decide +kernel
theorem test_retransmit : (linkOf (exec (.scpRetransmit 0) (waited false fun c => { c with tx := [txFrame 5] }))).map (fun c => c.rto) = some 128 := by decide +kernel
theorem test_keepalive : (got (exec (.keepaliveTimer 0) (waited false id))).map (fun t => t.eth.sent.map fun f => f.port) = some [0] := by decide +kernel

def tcpOf (ph : TcpPhase) : Tcp :=
  { phase := ph, iss := 0, irs := 0, pport := 5, mss := 1460, sndEnd := 0, got := 0, timer := 0, chunks := [], ahead := [], inbound := [], finAt := none, finSent := none, cwnd := 4380, ssthresh := 65535, dupAcks := 0, srtt := 0, rttvar := 0,
    timed := none, backoffs := 0, tsRecent := 0, tsOn := false, wsOn := false, sackOn := false, recover := none, wl1 := 0, wl2 := 0 }
/-- Subchannel 0 of type message over TCP, in a phase. -/
def overTcp (ph : TcpPhase) (ps : Nat) (beat : Word) : State :=
  let s := linked 1 fun c => { c with cfg := config 3 1, typ := 2, pstate := ps, rto := 1000, tcp := some (tcpOf ph) }
  { s with plant := { s.plant with beatc := beat } }
def segment : TcpSegment := { seq := 10, ack := 0, syn := false, ackFlag := false, fin := false, rst := false, window := 100, wscale := none, mss := none, sackOk := false, sack := [], ts := none, checksumOk := true, payload := [] }
theorem witness_TcpPaths : (((overTcp .listen psOpening 2000).conn 0).tcp = some (tcpOf .listen) ∧ (overTcp .listen psOpening 2000).frameReaches 0 = true ∧ (overTcp .listen psOpening 2000).weir.safe = false ∧ segment.checksumOk = true ∧ (tcpOf .listen).phase = .listen) ∧
    (((overTcp .established psUp 2000).conn 0).tcp = some (tcpOf .established) ∧ ((overTcp .established psUp 2000).conn 0).pstate ≠ psClosed ∧ (overTcp .established psUp 2000).css.ops = [] ∧ segment.seq = ((overTcp .established psUp 2000).conn 0).rcvNxt) ∧
    (((overTcp .synSent psOpening 2000).conn 0).rto ≤ (overTcp .synSent psOpening 2000).since 0 ∧ (overTcp .synSent psOpening 2000).since 0 < 180000000) ∧ (180000000 ≤ (overTcp .synSent psOpening 180000000).since ((overTcp .synSent psOpening 180000000).conn 0).ackBeat) := by decide +kernel

/-- The ports with every link up, in mode 0b001, the first with priority flow control for priority 3; or down. -/
def ports (up : Bool) : State := { State.reset with eth := { Eth.reset with ports := Eth.reset.ports.map fun x => { x with link := up, mode := 1, pfcEn := 8, paused := [], announce := [5, 6] } } }
def ethFrame (len : Nat) : EthFrame := { fcsOk := true, fecCorrected := 3, fecLost := 0, vid := 0, prio := 0, smac := 2, len := len, backlog := 0, body := .other }
/-- Ports whose links are up with FEC. -/
def withFec : State := { State.reset with eth := { Eth.reset with ports := Eth.reset.ports.map fun x => { x with link := true, fec := 1 } } }
theorem witness_EthernetPorts : (∃ x, (ports true).eth.ports[15]? = some x ∧ x.cnt.length = 12 ∧ x.link = true ∧ (ethFrame 9216).len ≤ x.mtuBytes ∧ x.mtuBytes < (ethFrame 9217).len ∧ x.leat = false ∧ (ports true).isStandby 15 = false ∧ x.modeAt 15 ≠ 3 ∧
      (ports true).portLives (.ethcfg 15) = true ∧ (ethFrame 9217).fecLost = 0 ∧ fld (0 : Word) 16 14 ≠ x.mtu ∧ fld (0x24000001 : Word) 16 14 = x.mtu ∧ fld (0x24000001 : Word) 0 3 = x.mode) ∧
    (∃ x, (ports false).eth.ports[0]? = some x ∧ x.link = false ∧ x.modeAt 0 ≠ 0 ∧ x.modeAt 0 ≠ 3 ∧ (ports false).portOut 0 = false ∧ (ports false).css.conns = [] ∧ (ports false).css.ops = []) ∧
    (∃ x, withFec.eth.ports[0]? = some x ∧ x.cnt.length = 12 ∧ x.link = true ∧ x.fec ≠ 0 ∧ (ethFrame 9217).fcsOk = true ∧ x.mtuBytes < (ethFrame 9217).len) :=
  ⟨⟨_, rfl, by decide +kernel⟩, ⟨_, rfl, by decide +kernel⟩, _, rfl, by decide +kernel⟩
/-- R351, R362: a frame with three codewords corrected and two lost is two CORRECTED events. -/
theorem test_fec : (got (exec (.frameReceive 0 { ethFrame 60 with fecLost := 2 }) withFec)).map (fun t => ((t.port 0).cnt.getD 5 9, (t.port 0).cnt.getD 6 9, t.weir.inFlight.map WeirReport.src)) = some (3, 2, [0x900, 0x900]) := by decide +kernel
/-- R362: a frame of 60 bytes of client data counts 82 bytes; one whose FCS fails counts in FCSERR alone. -/
theorem test_frame : (got (exec (.frameReceive 0 (ethFrame 60)) (ports true))).map (fun t => (t.port 0).cnt.take 2) = some [1, 82] ∧ (got (exec (.frameReceive 0 { ethFrame 60 with fcsOk := false }) (ports true))).map (fun t => ((t.port 0).cnt.getD 0 9, (t.port 0).cnt.getD 4 9)) = some (0, 1) := by decide +kernel
theorem test_link_down : (got (exec (.linkDown 3 0) (ports true))).map (fun t => ((t.port 3).link, t.weir.inFlight.map WeirReport.src)) = some (false, [0x903]) := by decide +kernel
theorem witness_PauseAndAnnounce : (∃ x, (ports true).eth.ports[0]? = some x ∧ x.link = true ∧ x.leat = false ∧ (ports true).isStandby 0 = false ∧ bitAt x.pfcEn (3 : Fin 8).val = true ∧ (3 : Fin 8).val ≠ 7 ∧ (9 : BitVec 16) ≠ 0 ∧ x.announce = 5 :: [6] ∧ (5 : Word).toNat ≤ (ports true).beatc.toNat ∧ (ports true).weir.safe = false) ∧
    (∃ x, ({ ports true with eth := { Eth.reset with ports := Eth.reset.ports.map fun x => { x with paused := [(3, 9)] } } } : State).eth.ports[0]? = some x ∧ x.paused = [((3 : Fin 8).val, 9)]) := ⟨⟨_, rfl, by decide +kernel⟩, _, rfl, by decide +kernel⟩
theorem test_pfc : (got (exec (.pfcFrame 0 3 9) (ports true))).map (fun t => (t.mayTransmit 0 3, t.mayTransmit 0 2)) = some (false, true) := by decide +kernel
theorem test_announce : (got (exec (.announceRepeat 0) (ports true))).map (fun t => (t.port 0).announce) = some [6] := by decide +kernel


/-! Check sums, ciphers and DEFLATE against the examples of their own standards. -/

/-- RFC 3720, B.4, and the catalogue of CRCs: the check value of the digits. -/
theorem test_crc32c : crc32c [0x31, 0x32, 0x33, 0x34, 0x35, 0x36, 0x37, 0x38, 0x39] = 0xE3069283 := by decide +kernel
theorem test_crc32 : crc32 [0x31, 0x32, 0x33, 0x34, 0x35, 0x36, 0x37, 0x38, 0x39] = 0xCBF43926 := by decide +kernel
theorem test_adler32 : adler32 [0x31, 0x32, 0x33, 0x34, 0x35, 0x36, 0x37, 0x38, 0x39] = 0x091E01DE := by decide +kernel
/-- FIPS 180-4: the digest of abc. -/
theorem test_sha256 : (sha sha256 [0x61, 0x62, 0x63]).take 8 = [0xBA, 0x78, 0x16, 0xBF, 0x8F, 0x01, 0xCF, 0xEA] := by decide +kernel
theorem test_sha512 : (sha sha512 [0x61, 0x62, 0x63]).take 8 = [0xDD, 0xAF, 0x35, 0xA1, 0x93, 0x61, 0x7A, 0xBA] := by decide +kernel
theorem test_sha384 : (sha sha384 [0x61, 0x62, 0x63]).take 8 = [0xCB, 0x00, 0x75, 0x3F, 0x45, 0xA3, 0x5E, 0x8B] := by decide +kernel
def aesKey : List Byte := (List.range 32).map (BitVec.ofNat 8)
def aesText : List Byte := [0x00, 0x11, 0x22, 0x33, 0x44, 0x55, 0x66, 0x77, 0x88, 0x99, 0xAA, 0xBB, 0xCC, 0xDD, 0xEE, 0xFF]
def aesCoded : List Byte := [0x8E, 0xA2, 0xB7, 0xCA, 0x51, 0x67, 0x45, 0xBF, 0xEA, 0xFC, 0x49, 0x90, 0x4B, 0x49, 0x60, 0x89]
/-- FIPS 197, C.3. -/
theorem test_aes : aesEnc aesKey aesText = aesCoded ∧ aesDec aesKey aesCoded = aesText := by decide +kernel
/-- The GCM specification, test cases 1 and 2: a zero key of 128 bits and a zero nonce. -/
theorem test_gcm : gcmTag (List.replicate 16 0) (List.replicate 12 0) [] [] = [0x58, 0xE2, 0xFC, 0xCE, 0xFA, 0x7E, 0x30, 0x61, 0x36, 0x7F, 0x1D, 0x57, 0xA4, 0xE7, 0x45, 0x5A] := by decide +kernel
theorem test_gcm_crypt : gcmCrypt (List.replicate 16 0) (List.replicate 12 0) (List.replicate 16 0) = [0x03, 0x88, 0xDA, 0xCE, 0x60, 0xB6, 0xA3, 0x92, 0xF3, 0x28, 0xC2, 0xB9, 0x71, 0xB2, 0xFE, 0x78] := by decide +kernel
/-- RFC 4493: the empty message. -/
theorem test_cmac : cmac [0x2B, 0x7E, 0x15, 0x16, 0x28, 0xAE, 0xD2, 0xA6, 0xAB, 0xF7, 0x15, 0x88, 0x09, 0xCF, 0x4F, 0x3C] [] = [0xBB, 0x1D, 0x69, 0x29, 0xE9, 0x59, 0x37, 0x28, 0x7F, 0xA3, 0x7D, 0x12, 0x9B, 0x75, 0x67, 0x46] := by decide +kernel
/-- RFC 1951: a stored block, and a block with fixed codes of the one letter a. -/
def storedAbc : List Byte := [0x01, 0x03, 0x00, 0xFC, 0xFF, 0x61, 0x62, 0x63]
theorem test_inflate : (inflate 0 storedAbc 3).1 = none ∧ (inflate 0 storedAbc 3).2.out = [0x61, 0x62, 0x63] ∧ (inflate 0 [0x4B, 0x04, 0x00] 9).1 = none ∧ (inflate 0 [0x4B, 0x04, 0x00] 9).2.out = [0x61] := by decide +kernel

/-! Rings and engines. -/

/-- A ring pair at 0x8000 and 0x9000 with one descriptor submitted. -/
def pair1 : RingPair := { RingPair.reset with sqBase := 8, cqBase := 9, sqTail := 1, en := true }
/-- Memory with bytes at 0x8000 and slice 5 granted the first 16 MiB. -/
def withBytes (bs : List Byte) : State := { inMem [] bs with slices := { (slice0 .running) with tab := (slice0 .running).tab.map fun p => (5, p.2) } }
def czAt (bs : List Byte) (rings : List (Nat × RingPair)) (e : Option CzJob) : State := { withBytes bs with cz := { Cz.reset with rings := rings, engines := [e, none, none, none] } }
def cxAt (bs : List Byte) (rings : List (Nat × RingPair)) (keys : List (Nat × KeySlot)) (e : Option CxJob) : State :=
  { withBytes bs with cx := { Cx.reset with rings := rings, keys := keys, engines := [e, none, none, none, none, none, none, none] } }
theorem witness_EngineRings : (1023 : Nat) < 1024 ∧ bitAt (1 : Word) 0 = true ∧ bitAt (0 : Word) 0 = false ∧ (State.reset.czRing 1023).en = false ∧ (State.reset.cxRing 1023).en = false ∧
    ((czAt [] [(5, pair1)] none).czRing 5).en = true ∧ ((cxAt [] [(5, pair1)] [] none).cxRing 5).en = true ∧ ∀ r ∈ [1, 4], State.reset.portLives (.cz 1023 r) = true ∧ State.reset.portLives (.cx 1023 r) = true := by decide +kernel
theorem test_cz_submit : (got (exec (.czSubmit 5 0xFFFF) State.reset)).map (fun t => (t.czRing 5).tailAt) = some 63 := by decide +kernel
theorem test_cz_enable : (got (exec (.czEnable 5 0x703) (withBytes []))).map (fun t => t.czRing 5) = some { RingPair.reset with en := true, irq := true, lcn := 7 } := by decide +kernel
/-- R365: slice 6 has no grant. -/
theorem test_cx_enable_err : (got (exec (.cxEnable 6 1) (withBytes []))).map (fun t => ((t.cxRing 6).en, (t.cxRing 6).err)) = some (false, true) := by decide +kernel

/-- A compression descriptor (R369): OP, FLAGS, and the source at 0x8000 with its destination at 0x8080. -/
def czBytes (op flags : Byte) (srcLen dstLen : Nat) : List Byte := [op, 0, flags, 0, 0, 0, 0, 0] ++ bytesOf 8 0x8000 ++ bytesOf 4 srcLen ++ bytesOf 4 dstLen ++ bytesOf 8 0x8080 ++ List.replicate 32 0
/-- A cipher descriptor (R388). -/
def cxBytes (op alg flags tagLen : Byte) (srcLen dstLen iva : Nat) : List Byte :=
  [op, alg, flags, 0, tagLen, 0, 0, 0] ++ bytesOf 8 0x8000 ++ bytesOf 4 srcLen ++ bytesOf 4 0 ++ bytesOf 8 0x8080 ++ bytesOf 8 0 ++ bytesOf 8 iva ++ List.replicate 8 0 ++ bytesOf 4 dstLen ++ List.replicate 4 0
theorem witness_DescriptorFetch :
    (let s := czAt (czBytes 1 3 3 9) [(5, pair1)] none; s.weir.safe = false ∧ pair1.hasWork = true ∧ s.sliceFetches 5 = true ∧ s.cz.rings = [(5, pair1)] ∧ s.cz.reruns = [] ∧ s.readPoison (pair1.sqAddr + 64 * pair1.sqHead) 64 = false ∧ s.cz.engines.length = 4 ∧ s.czJob (3 : Fin 4) = none ∧ bitAt s.cz.insvc (3 : Fin 4) = true ∧ s.ctxBusy (czDesc (s.headDesc pair1)) = false) ∧
    (let s := cxAt (cxBytes 1 1 3 0 16 32 0) [(5, pair1)] [] none; s.weir.safe = false ∧ s.sliceFetches 5 = true ∧ s.cx.rings = [(5, pair1)] ∧ s.cx.reruns = [] ∧ s.readPoison (pair1.sqAddr + 64 * pair1.sqHead) 64 = false ∧ s.cx.engines.length = 8 ∧ s.cxJob (7 : Fin 8) = none ∧ bitAt s.cx.insvc (7 : Fin 8) = true ∧ s.shaBusy (cxDesc (s.headDesc pair1)) = false ∧
      s.chunksNeeded 5 (cxDesc (s.headDesc pair1)) ≤ s.cx.chunksFree ∧ (cxDesc (s.headDesc pair1)).isSha = false ∧ s.keySlot 5 (cxDesc (s.headDesc pair1)).kslot = none) ∧
    ((czDesc (czBytes 3 3 3 9)).op = 3) := by decide +kernel
/-- R370: a context without its bit, and an operation that is not assigned. -/
theorem test_cz_fetch : (got (exec (.czDescriptorFetch 3) (czAt (czBytes 3 3 3 9) [(5, pair1)] none))).map (fun t => ((t.czJob 3).bind fun j => j.result, (t.czRing 5).sqHead, (t.czRing 5).taken)) = some (some (czFail 7 1), 1, 1) := by decide +kernel
theorem test_cx_fetch : (got (exec (.cxDescriptorFetch 7) (cxAt (cxBytes 1 1 3 0 16 32 0) [(5, pair1)] [] none))).map (fun t => (t.cxJob 7).bind fun j => j.result) = some (some (cxFail 3 0)) := by decide +kernel

def czJobOf (d : List Byte) : CzJob := { slice := 5, desc := d, rerun := false, aborted := false, beat := 0, result := none, input := [], syms := [] }
/-- COMPRESS of 64 bytes into 128, and DECOMPRESS of a stored block. The length that DEFLATE gives is free, so that the first meets one of the two cases of its clause, whichever it is. -/
theorem witness_Compression :
    (let s := czAt (List.replicate 64 7) [] (some (czJobOf (czBytes 1 3 64 128))); let d := czDesc (czBytes 1 3 64 128); Storable s d.dst d.dstLen ∧ s.czJob (0 : Fin 4) = some (czJobOf (czBytes 1 3 64 128)) ∧ s.cz.engines.length = 4 ∧ s.weir.safe = false ∧ s.mem.wf = true ∧ d.ctx = false ∧ d.first = true ∧ d.last = true ∧ d.ngth = 0 ∧ s.readPoison d.src d.srcLen = false ∧
      d.op = 1) ∧
    (let s := czAt storedAbc [] (some (czJobOf (czBytes 2 3 8 9))); let d := czDesc (czBytes 2 3 8 9); Storable s d.dst (inflate d.fmt (s.devBytes d.src d.srcLen) d.dstLen).2.out.length ∧ s.czJob (0 : Fin 4) = some (czJobOf (czBytes 2 3 8 9)) ∧ s.mem.wf = true ∧ d.ctx = false ∧ d.first = true ∧ d.last = true ∧ d.ngth = 0 ∧ s.readPoison d.src d.srcLen = false ∧
      d.op = 2 ∧ (inflate d.fmt (s.devBytes d.src d.srcLen) d.dstLen).1 = none) :=
  ⟨⟨storable (by decide +kernel), by decide +kernel⟩, storable (by decide +kernel), by decide +kernel⟩
theorem test_decompress : (got (exec (.decompress 0) (czAt storedAbc [] (some (czJobOf (czBytes 2 3 8 9)))))).map (fun t => (((t.czJob 0).bind fun j => j.result).map fun r => (r.status, r.consumed, r.produced), t.mem.readN 0x8080 4)) =
    some (some (0, 8, 3), [0x61, 0x62, 0x63, 0]) := by decide +kernel

def someKey (typ : Nat) (key : List Byte) : KeySlot := { typ := typ, hlen := 4, use := 0xF, fixed := 0, key := key, invoc := 9 }
def cxJobOf (d : List Byte) (key : Option KeySlot) : CxJob := { slice := 5, desc := d, key := key, invoc := some 9, chunks := [], rerun := false, erased := false, aborted := false, beat := 0, result := none }
/-- What every clause of Claim.Cipher asks of a state, and that its output can be stored. -/
def cipherNow (s : State) (j : CxJob) (n : Nat) : Bool :=
  let d := cxDesc j.desc
  decide (s.cxJob (0 : Fin 8) = some j) && decide (s.cx.engines.length = 8) && j.result.isNone && !j.erased && !j.aborted && !s.weir.safe && s.mem.wf && decide (s.cxPoison d = none) &&
    (s.isDram d.dst && decide (d.dst % 256 + n ≤ 256) && !s.windowForming d.dst && !s.lineBusy (lineOf d.dst) && !s.guarded d.dst && (s.dirEntry (lineOf d.dst)).isSome && decide (s.pool.queue = []) && (s.stage 0 j.chunks []).isSome)
/-- What stands at 0x8000 and the descriptor over it, with a key. -/
def cipherOn (bs d : List Byte) (key : Option KeySlot) : State := cxAt bs [] [] (some (cxJobOf d key))
def key256 : KeySlot := someKey 3 aesKey
def gcmIn : List Byte := cxBytes 2 4 3 4 4 0 0x8040
def macIn (op : Byte) : List Byte := cxBytes op 0xB 3 4 7 4 0
/-- A message of no bytes under GCM whose tag of 4 bytes is right, and one whose tag is zero; the same for HMAC over abc. -/
def goodTag : List Byte := (gcmTag aesKey (List.replicate 12 0) [] []).take 4
def goodMac : List Byte := (hmac sha256 [1, 2, 3, 4] [0x61, 0x62, 0x63]).take 4
theorem witness_Cipher_block : cipherNow (cipherOn aesText (cxBytes 1 1 1 0 16 32 0) (some key256)) (cxJobOf (cxBytes 1 1 1 0 16 32 0) (some key256)) 32 = true ∧
    (cxDesc (cxBytes 1 1 1 0 16 32 0)).op = 1 ∧ (cxDesc (cxBytes 1 1 1 0 16 32 0)).alg = 1 ∧
    cipherNow (cipherOn aesText (cxBytes 1 4 3 4 16 32 0) (some key256)) (cxJobOf (cxBytes 1 4 3 4 16 32 0) (some key256)) 20 = true ∧ (cxDesc (cxBytes 1 4 3 4 16 32 0)).alg = 4 := by decide +kernel
theorem witness_Cipher_open : cipherNow (cipherOn goodTag gcmIn (some key256)) (cxJobOf gcmIn (some key256)) 0 = true ∧ cipherNow (cipherOn [] gcmIn (some key256)) (cxJobOf gcmIn (some key256)) 0 = true ∧ (cxDesc gcmIn).op = 2 ∧ (cxDesc gcmIn).alg = 4 ∧
    goodTag = (((cipherOn goodTag gcmIn (some key256)).devBytes 0x8000 4).drop (cxDesc gcmIn).msgLen) ∧ goodTag ≠ (((cipherOn [] gcmIn (some key256)).devBytes 0x8000 4).drop (cxDesc gcmIn).msgLen) := by decide +kernel
theorem witness_Cipher_mac : cipherNow (cipherOn [0x61, 0x62, 0x63] (macIn 3) (some (someKey 6 [1, 2, 3, 4]))) (cxJobOf (macIn 3) (some (someKey 6 [1, 2, 3, 4]))) 4 = true ∧ (cxDesc (macIn 3)).op = 3 ∧
    cipherNow (cipherOn ([0x61, 0x62, 0x63] ++ goodMac) (macIn 4) (some (someKey 6 [1, 2, 3, 4]))) (cxJobOf (macIn 4) (some (someKey 6 [1, 2, 3, 4]))) 0 = true ∧ (cxDesc (macIn 4)).op = 4 ∧
    cipherNow (cipherOn [0x61, 0x62, 0x63] (cxBytes 5 8 3 0 3 32 0) none) (cxJobOf (cxBytes 5 8 3 0 3 32 0) none) 32 = true ∧ (cxDesc (cxBytes 5 8 3 0 3 32 0)).op = 5 ∧ (cxDesc (cxBytes 5 8 3 0 3 32 0)).usesCtx = false := by decide +kernel
theorem test_encrypt : (got (exec (.encrypt 0) (cipherOn aesText (cxBytes 1 1 1 0 16 32 0) (some key256)))).map (fun t => t.mem.readN 0x8080 16) = some aesCoded := by decide +kernel
theorem test_decrypt_auth : (got (exec (.decrypt 0) (cipherOn [] gcmIn (some key256)))).map (fun t => ((t.cxJob 0).bind fun j => j.result).map fun r => r.status) = some (some 1) := by decide +kernel
theorem test_mac_verify : (got (exec (.macVerify 0) (cipherOn ([0x61, 0x62, 0x63] ++ goodMac) (macIn 4) (some (someKey 6 [1, 2, 3, 4]))))).map (fun t => ((t.cxJob 0).bind fun j => j.result).map fun r => r.status) = some (some 0) := by decide +kernel
theorem test_hash : (got (exec (.hashSha 0) (cipherOn [0x61, 0x62, 0x63] (cxBytes 5 8 3 0 3 32 0) none))).map (fun t => t.mem.readN 0x8080 8) = some [0xBA, 0x78, 0x16, 0xBF, 0x8F, 0x01, 0xCF, 0xEA] := by decide +kernel

/-- A job that has a result, with the completion ring at 0x8000 about to wrap. -/
def nearWrap : RingPair := { pair1 with cqBase := 8, cqTail := 7, taken := 1 }
def lastSlot : RingPair := { nearWrap with cqTail := 63, cqBase := 8 }
def czDone : CzJob := { czJobOf (czBytes 1 3 3 9) with result := some (czFail 7 1) }
def cxDone : CxJob := { cxJobOf (cxBytes 1 1 3 0 16 32 0) none with result := some (cxFail 3 0) }
/-- The same on an engine that has left service. -/
def czLeft : State := let s := czAt [] [(5, nearWrap)] (some czDone); { s with cz := { s.cz with insvc := 0xE } }
theorem witness_EngineCompletions :
    (let s := czAt [] [(5, nearWrap)] (some czDone); Storable s ((s.czRing czDone.slice).cqAddr + 32 * (s.czRing czDone.slice).cqTail) 32 ∧ s.weir.safe = false ∧ s.mem.wf = true ∧ s.czJob (0 : Fin 4) = some czDone ∧ s.cz.engines.length = 4 ∧
      czDone.aborted = false ∧ czDone.desc.length = 64 ∧ (czFail 7 1).ctx = none ∧ (czFail 7 1).undefinedOut (czDesc czDone.desc).op = false ∧ (s.czRing czDone.slice).taken ≠ 0 ∧
      czDone.rerun = false ∧ s.mayRetry (0x980 + (0 : Fin 4)) = true ∧ bitAt s.cz.insvc (0 : Fin 4) = true) ∧
    (let s := czLeft; s.czJob (0 : Fin 4) = some czDone ∧ s.mayRetry (0x980 + (0 : Fin 4)) = true ∧ bitAt s.cz.insvc (0 : Fin 4) = false) ∧
    (let s := cxAt [] [(5, nearWrap)] [] (some cxDone); Storable s ((s.cxRing cxDone.slice).cqAddr + 32 * (s.cxRing cxDone.slice).cqTail) 32 ∧ s.zeroChunks (0 : Fin 8) cxDone.chunks = some s ∧ s.weir.safe = false ∧ s.mem.wf = true ∧ s.cxJob (0 : Fin 8) = some cxDone ∧
      s.cx.engines.length = 8 ∧ cxDone.erased = false ∧ cxDone.aborted = false ∧ cxDone.desc.length = 64 ∧ (cxFail 3 0).tail = none ∧ (cxFail 3 0).undefinedOut (cxDesc cxDone.desc) = false ∧
      (s.cxRing cxDone.slice).taken ≠ 0 ∧ cxDone.rerun = false ∧ s.mayRetry (0x990 + (0 : Fin 8)) = true ∧ bitAt s.cx.insvc (0 : Fin 8) = true) :=
  ⟨⟨storable (by decide +kernel), by decide +kernel⟩, by decide +kernel, storable (by decide +kernel), rfl, by decide +kernel⟩
/-- R368: the phase is inverted at the wrap. -/
theorem test_push : lastSlot.push.phase = false ∧ lastSlot.push.cqTail = 0 ∧ nearWrap.push.phase = true := by decide
theorem test_cz_complete : (got (exec (.czComplete 0 false) (czAt [] [(5, nearWrap)] (some czDone)))).map (fun t => ((t.czJob 0).isNone, (t.czRing 5).cqTail, t.mem.readN 0x80E8 2)) = some (true, 8, [7, 1]) := by decide +kernel

/-- Slice 5 with a key in KDATA, of a type that is permitted or none. -/
def keyPage (attr : Word) : State := { State.reset with cx := { Cx.reset with ports := [(5, { slot := 0, result := 9, attr := attr, data := [1, 2, 3, 4, 5, 6, 7, 8] })], keys := [(64 * 5 + 63, key256)] } }
theorem witness_KeySlots : (5 : Nat) < 1024 ∧ ((keyPage 0x3001).keyPorts 5).loadResult = 0 ∧ ((keyPage 0x3000).keyPorts 5).loadResult ≠ 0 ∧ (keyPage 0).keySlot 5 63 = some key256 := by decide +kernel
theorem test_key_load : (got (exec (.keyLoad 5 2) (keyPage 0x3001))).map (fun t => ((t.keySlot 5 2).map fun k => (k.typ, k.key), (t.keyPorts 5).data.head?)) = some (some (1, [0, 0, 0, 0, 0, 0, 0, 1, 0, 0, 0, 0, 0, 0, 0, 2]), some 0) := by decide +kernel
/-- R383: KATTR without a type. -/
theorem test_key_load_bad : (got (exec (.keyLoad 5 2) (keyPage 0x3000))).map (fun t => ((t.keySlot 5 2).isSome, (t.keyPorts 5).result)) = some (false, 1) := by decide +kernel

/-- Leat port 12 with associations 0 and 3, and 3 in use. -/
def leat12 : State :=
  { State.reset with plant := { State.reset.plant with beatc := 5 }, cx := { Cx.reset with lkData := [1, 2, 3, 4, 5, 6], leat := [{ LeatSec.reset with tx := [some ⟨[], 1⟩, none, none, some ⟨[], 8⟩], txOn := true, txAn := 3, switchTo := some (0, 4) }, LeatSec.reset] } }
theorem witness_LeatAssociations : leat12.cx.leat.length = 2 ∧ (leat12.leatSec (0 : Fin 2)).tx.length = 4 ∧ (leat12.leatSec (0 : Fin 2)).rx.length = 4 ∧ leat12.saInUse ⟨false, 0, 3⟩ = true ∧ leat12.saInUse ⟨false, 0, 2⟩ = false ∧
    leat12.sa ⟨false, 0, 2⟩ = none ∧ leat12.sa ⟨false, 0, 0⟩ ≠ none ∧ leat12.saInUse ⟨false, 0, 0⟩ = false ∧ (leat12.leatSec (0 : Fin 2)).switchTo = some ((0 : Fin 4).val, 4) ∧ 1 ≤ leat12.since 4 ∧ leat12.portLives .lkcmd = true ∧ leat12.sa ⟨false, 0, 3⟩ ≠ none := by decide +kernel
theorem test_sa_install : (got (exec (.saInstall ⟨false, 0, 2⟩) leat12)).map (fun t => (t.sa ⟨false, 0, 2⟩, t.cx.lkData, t.cx.lkResult)) = some (some ⟨[1, 2, 3, 4, 5, 6], 1⟩, [0, 0, 0, 0, 0, 0], 0) := by decide +kernel
theorem test_sa_retire : (got (exec (.saRetire ⟨false, 0, 3⟩) leat12)).map (fun t => (t.cx.lkResult, (t.sa ⟨false, 0, 3⟩).isSome)) = some (2, true) := by decide +kernel
theorem test_an_switch : (got (exec (.txAnSwitch 0) leat12)).map (fun t => (t.leatSec 0).txAn) = some 0 := by decide +kernel

/-! Weir. -/

/-- An event at the beat of reset, and a source with LOG alone in its fields. -/
def ev (src : Nat) (cls : FaultClass) : WeirReport := { src := src, cls := cls, beat := 1099200, pcn := 0, lcn := 0, station := 0, detail := 5, addr := 7 }
def logOnly (src : Nat) (cnt : Byte) : WeirSource := { srcReset src with actC := 0x0080, actR := 0x0080, actS := 0x0080, actF := 0x0080, wcnt := cnt }
/-- A source in a state, with events on their way. -/
def alarmed (src : Nat) (x : WeirSource) (es : List WeirReport) : State := { State.reset with weir := { Weir.reset with sources := [(src, x)], inFlight := es } }
theorem eventArrives {s : State} {e : WeirReport} (h : ((decide (s.weir.inFlight = [e])) && srcAssigned e.src && !s.weir.parity && !s.weir.rollDue.contains e.src && !s.isLate e) = true) : EventArrives s (.weirEvent none) e := by
  simp only [Bool.and_eq_true, decide_eq_true_eq, Bool.not_eq_true'] at h
  obtain ⟨⟨⟨⟨a, b⟩, c⟩, d⟩, f⟩ := h
  exact ⟨.inl ⟨rfl, a⟩, b, c, by simpa using d, f⟩
theorem eventComes {s : State} {e : WeirReport} (h : ((decide (s.weir.inFlight = [])) && decide (e.beat.toNat ≤ s.beatc.toNat) && decide (e.station.toNat < 84) && srcAssigned e.src && !s.weir.parity && !s.weir.rollDue.contains e.src &&
    !s.isLate e) = true) : EventArrives s (.weirEvent (some e)) e := by
  simp only [Bool.and_eq_true, decide_eq_true_eq, Bool.not_eq_true'] at h
  obtain ⟨⟨⟨⟨⟨⟨a, b⟩, c⟩, d⟩, f⟩, g⟩, i⟩ := h
  exact ⟨.inr ⟨rfl, a, b, c⟩, d, f, by simpa using g, i⟩
/-- The threshold of source 0 is 3: the third event of a window is promoted, the second is not. -/
theorem witness_EventsCounted : EventArrives (alarmed 0 (logOnly 0 2) [ev 0 .corrected]) (.weirEvent none) (ev 0 .corrected) ∧ EventArrives (alarmed 0 (logOnly 0 1) []) (.weirEvent (some (ev 0 .recoverable))) (ev 0 .recoverable) ∧
    EventArrives (alarmed 0 (logOnly 0 2) [ev 0 .recoverable]) (.weirEvent none) (ev 0 .recoverable) ∧ EventArrives (alarmed 0 (logOnly 0 1) [ev 0 .corrected]) (.weirEvent none) (ev 0 .corrected) ∧
    EventArrives (alarmed 0 (logOnly 0 1) [ev 0 .severe]) (.weirEvent none) (ev 0 .severe) ∧ EventArrives (alarmed 0 (logOnly 0 1) [ev 0 .fatal]) (.weirEvent none) (ev 0 .fatal) ∧
    ((alarmed 0 (logOnly 0 2) []).weir.source 0 = logOnly 0 2 ∧ (logOnly 0 2).prm = false ∧ (logOnly 0 2).nAt 0 ≤ (logOnly 0 2).wcnt.toNat + 1 ∧ ¬((logOnly 0 1).nAt 0 ≤ (logOnly 0 1).wcnt.toNat + 1) ∧ isSequencing (ev 0 .fatal) = false) ∧
    (EventArrives (alarmed 9 (logOnly 9 0) []) (.weirEvent (some (ev 9 .fatal))) (ev 9 .fatal) ∧ isSequencing (ev 9 .fatal) = true ∧ (alarmed 9 (logOnly 9 0) []).lcnOfPcn (9 / 16) = some 0 ∧ ((alarmed 9 (logOnly 9 0) []).weir.source 9).actF = 0x0080) :=
  ⟨eventArrives (by decide +kernel), eventComes (by decide +kernel), eventArrives (by decide +kernel), eventArrives (by decide +kernel), eventArrives (by decide +kernel), eventArrives (by decide +kernel), by decide +kernel, eventComes (by decide +kernel), by decide +kernel⟩
/-- R405, R408: the third CORRECTED event of a core's window is promoted, and its SEVERE actions notify at level 3 and spare the core. -/
theorem test_promotion : (got (exec (.weirEvent none) (alarmed 0 { srcReset 0 with wcnt := 2 } [ev 0 .corrected]))).map (fun t => ((t.weir.source 0).sev, (t.weir.source 0).level, (t.core 0).run, t.weir.log.map fun r => (r.flags, r.act))) =
    some (true, 3, .paused, [(4, 0xF0)]) := by decide +kernel

def acting (src : Nat) (f : WeirSource → WeirSource) (cls : FaultClass) : State := alarmed src (f (logOnly src 0)) [ev src cls]
theorem witness_EventActions : (EventArrives (acting 0x7A8 (fun x => { x with actS := 0x0B80 }) .severe) (.weirEvent none) (ev 0x7A8 .severe) ∧ ((acting 0x7A8 (fun x => { x with actS := 0x0B80 }) .severe).weir.source 0x7A8).actS = 0x0B80) ∧
    (EventArrives (acting 0x7A8 (fun x => { x with actF := 0x8080 }) .fatal) (.weirEvent none) (ev 0x7A8 .fatal) ∧ ((acting 0x7A8 (fun x => { x with actF := 0x8080 }) .fatal).weir.source 0x7A8).actF = 0x8080 ∧
      (acting 0x7A8 (fun x => { x with actF := 0x8080 }) .fatal).weir.safe = false ∧ (acting 0x7A8 (fun x => { x with actF := 0x8080 }) .fatal).weir.safeNext = none) ∧
    (EventArrives (acting 0x2F9 (fun x => { x with actS := 0x2080 }) .severe) (.weirEvent none) (ev 0x2F9 .severe) ∧ 0x2F9 = 16 * 47 + 9 ∧ ((acting 0x2F9 (fun x => { x with actS := 0x2080 }) .severe).weir.source 0x2F9).actS = 0x2080 ∧
      (acting 0x2F9 (fun x => { x with actS := 0x2080 }) .severe).lcnOfPcn 47 = some 47 ∧ (acting 0x2F9 (fun x => { x with actS := 0x2080 }) .severe).spareIgnored 47 = false ∧
      (acting 0x2F9 (fun x => { x with actS := 0x2080 }) .severe).readySlot = some 0) :=
  ⟨⟨eventArrives (by decide +kernel), by decide +kernel⟩, ⟨eventArrives (by decide +kernel), by decide +kernel⟩, eventArrives (by decide +kernel), by decide +kernel⟩

/-- 1,025 CORRECTED events of a source whose window has been promoted. -/
def flood (n : Nat) : State := alarmed 0 { logOnly 0 9 with prm := true } (List.replicate n (ev 0 .corrected))
theorem witness_LogOverflow : (flood 1025).weir.inFlight = ev 0 .corrected :: List.replicate 1024 (ev 0 .corrected) ∧ 1024 < (flood 1025).weir.inFlight.length ∧ srcAssigned 0 = true ∧ (flood 1025).weir.parity = false ∧
    0 ∉ (flood 1025).weir.rollDue ∧ ((flood 1025).weir.source 0).prm = true ∧ ((flood 1025).weir.source 0).actC = 0x0080 := by decide +kernel
theorem test_drop : (got (exec (.weirEvent none) (flood 1025))).map (fun t => (t.weir.drop, t.weir.log.length)) = some (1, 0) ∧ (got (exec (.weirEvent none) (flood 1024))).map (fun t => (t.weir.drop, t.weir.log.length)) = some (0, 1) := by decide +kernel

/-- A source whose window is due to roll; a lost memory group, whose FAT stays (R525). -/
def rolling : State := { (alarmed 0 { logOnly 0 9 with prm := true, sev := true } []) with weir := { (alarmed 0 { logOnly 0 9 with prm := true, sev := true } []).weir with rollDue := [0] } }
def lostGroup : State := { (alarmed 0x818 { logOnly 0x818 0 with fat := true } []) with mc := { MemCtl.reset with groups := MemCtl.reset.groups.map fun g => { g with lost := true } } }
theorem witness_WindowsAndStatus : (srcAssigned 0 = true ∧ 0 ∈ rolling.weir.rollDue) ∧ (0 ∉ (alarmed 0 (logOnly 0 2) []).weir.rollDue ∧ bitAt (0x14 : Word) 2 = true ∧ (alarmed 0 (logOnly 0 2) []).sevPresent 0 = false ∧ (2 : Byte).toNat < (logOnly 0 2).nAt 0 ∧
      bitAt (0x14 : Word) 3 = false ∧ bitAt (0x8 : Word) 2 = false ∧ (alarmed 0 (logOnly 0 2) []).fatPresent 0 = false) ∧
    (srcAssigned 0x818 = true ∧ 0x818 ∉ lostGroup.weir.rollDue ∧ bitAt (8 : Word) 2 = false ∧ bitAt (8 : Word) 3 = true ∧ lostGroup.fatPresent 0x818 = true) := by decide +kernel
theorem test_window_roll : (got (exec (.windowRoll 0) rolling)).map (fun t => ((t.weir.source 0).wcnt, (t.weir.source 0).prm, (t.weir.source 0).sev)) = some (0, false, true) := by decide +kernel
/-- R413: the cause still holds. -/
theorem test_status_clear : (got (exec (.statusClear 0x818 8) lostGroup)).map (fun t => ((t.weir.source 0x818).fat, t.weir.log.map WeirRecord.flags)) = some (true, [0xB]) ∧
    (got (exec (.statusClear 0 4) (alarmed 0 { logOnly 0 2 with sev := true } []))).map (fun t => (t.weir.source 0).sev) = some false := by decide +kernel

def logged (n : Word32) : State := { State.reset with weir := { Weir.reset with log := [{ beat := 1, seq := n, src := 2, flags := 3, act := 4, pcn := 5, lcn := 6, wcnt := 7, station := 8, detail := 9, addr := 10 }] } }
theorem witness_LogWindow : (∀ r ∈ (logged 4096).weir.log, r.seq.toNat % 4096 ≠ (fld (1 : Word) 0 12).toNat) ∧ (∃ r ∈ (logged 4096).weir.log, r.seq.toNat % 4096 = (fld (0x1000 : Word) 0 12).toNat ∧
    ∀ q ∈ (logged 4096).weir.log, q.seq.toNat % 4096 = (fld (0x1000 : Word) 0 12).toNat → q = r) := ⟨by decide +kernel, _, List.Mem.head _, by decide +kernel⟩
/-- R417: the 32 bytes of a record. -/
theorem test_log_select : (got (exec (.logSelect 0) (logged 4096))).map (fun t => t.weir.logD) = some [1, 0x0000100000020304, 0x0506070800000009, 10] := by decide +kernel

def deciding (gasp : Option Half) : State := { State.reset with weir := { Weir.reset with safeNext := some 1099199, gaspDue := gasp } }
theorem witness_SafeState : ((deciding none).weir.safeNext = some 1099199 ∧ 1 ≤ (deciding none).since 1099199 ∧ (deciding none).weir.gaspDue = none ∧ (deciding (some 9)).weir.gaspDue = some 9) ∧ State.reset.weir.safe = false ∧ State.reset.weir.safeNext = none := by decide +kernel
theorem test_safe_state : (got (exec .safeState (deciding (some 9)))).map (fun t => (t.weir.safe, t.weir.safeNext)) = some (true, none) := by decide +kernel
theorem test_parity : (got (exec (.weirParityError true) State.reset)).map (fun t => (t.weir.safeNext, t.weir.log.map fun r => (r.src, r.act))) = some (some 1099200, [(0xB00, 0x88)]) := by decide +kernel
/-- Stage 4 of the thermal unit has missed its limit once. -/
def lateStage : State := { State.reset with weir := { Weir.reset with late := [(.plant, 4, 7)] } }
theorem witness_BeatOverruns : (1099200 : Word).toNat ≤ State.reset.beatc.toNat ∧ (.plant, 4, 7) ∈ lateStage.weir.late ∧ (OverrunUnit.memController 3, (2 : BitVec 8), (7 : Word)) ∉ lateStage.weir.late ∧
    hasStages (.memController 3) = false ∧ (OverrunUnit.plant, (4 : BitVec 8), (8 : Word)) ∉ lateStage.weir.late ∧ hasStages .plant = true := by decide +kernel
/-- R37: each miss is one event. -/
theorem test_overrun_once : (got (exec (.beatOverrun .plant 4 7) lateStage)).map (fun t => (t.weir.late.length, t.weir.inFlight.map WeirReport.addr)) = some (0, [7]) ∧ got (exec (.beatOverrun .plant 4 8) lateStage) = some lateStage := by decide +kernel
theorem test_overrun : (got (exec (.beatOverrun (.memController 3) 2 7) State.reset)).map (fun t => t.weir.inFlight.map fun r => (r.src, r.detail, r.addr)) = some [(0x81F, 2, 7)] := by decide +kernel

/-! The Coppice. -/

/-- A core that runs, one that is absent, one that is stalled; and a Coppice without a spare. -/
def coreIs (r : RunState) (spares : Bool) : State :=
  { (core0 fun c => { c with run := r }) with ct := { Ct.reset with slots := if spares then slotsReset else slotsReset.map fun x => { x with st := .failed } } }
theorem witness_SpareCore : (coreIs .running true).portLives .ctcmd = true ∧ (48 : Nat) ≤ (48 : BitVec 8).toNat ∧ ((coreIs .absent true).core 0).run = .absent ∧ ((coreIs .stalled true).core 0).run ≠ .absent ∧ (coreIs .stalled true).spareIgnored 0 = true ∧
    (coreIs .running true).spareIgnored 0 = false ∧ (coreIs .running true).readySlot = some 0 ∧ (coreIs .running false).spareIgnored 0 = false ∧ (coreIs .running false).readySlot = none ∧ (coreIs .running false).weir.safe = false ∧
    State.reset.spareIgnored 47 = false := by decide +kernel
theorem test_spare_core : (got (exec (.spareCore 47) State.reset)).map (fun t => (t.ct.result, (t.core 47).run, (t.slot 0).st)) = some (0, .paused, .claimed) ∧ (got (exec (.spareCore 48) State.reset)).map (fun t => t.ct.result) = some 2 := by decide +kernel
/-- Core 0 paused for a spare since beat 1,098,941, 259 beats ago. -/
def sparingX (b : Word) : Sparing := { unit := 0, slot := 0, since := b, src := none }
def sparing (b : Word) (more : Bool) : State :=
  { (core0 fun c => { c with run := .paused, sparing := true }) with
    ct := { Ct.reset with coreSpar := [sparingX b], slots := { slotsReset.headD ⟨.empty, 48, 0, 0, 0⟩ with st := .claimed } :: (if more then slotsReset.drop 1 else (slotsReset.drop 1).map fun x => { x with st := .failed }) } }
theorem witness_CoreSparing : ((sparing 1098941 true).weir.safe = false ∧ (sparing 1098941 true).ct.coreSpar = [sparingX 1098941] ∧ ((sparing 1098941 true).core 0).run ≠ .absent ∧ 259 ≤ (sparing 1098941 true).since 1098941 ∧
      ((sparing 1098941 true).core 0).devStore = none ∧ ((sparing 1098941 true).core 0).devRead = none ∧ ((sparing 1098941 true).core 0).sb = [] ∧ (sparing 1098941 true).drainable ((sparing 1098941 true).core 0).pcn = true ∧
      (sparing 1098941 true).life.coreResets = [] ∧ (sparing 1098941 true).life.masterStore.redir = []) ∧
    ((sparingX 0).slot = (0 : Fin 8).val ∧ ((sparing 0 true).slot (0 : Fin 8)).st = .claimed ∧ (sparing 0 true).readySlot = some (1 : Fin 8).val ∧ ((sparing 0 false).slot (0 : Fin 8)).st = .claimed ∧ (sparing 0 false).readySlot = none) := by decide +kernel
theorem test_core_sparing : (got (exec (.coreSparing 0 []) (sparing 1098941 true))).map (fun t => ((t.core 0).pcn, (t.core 0).run)) = some (48, .running) ∧ got (exec (.coreSparing 0 []) (sparing 1098942 true)) = some (sparing 1098942 true) := by decide +kernel

def selfTest (b : Word) : State := { State.reset with ct := { Ct.reset with slots := slotsReset.map fun x => { x with since := b } } }
theorem witness_SelfTests : ((selfTest 599200).slot (7 : Fin 8)).st = .ready ∧ 500000 ≤ (selfTest 599200).since ((selfTest 599200).slot (7 : Fin 8)).since := by decide +kernel
theorem test_self_test : (got (exec (.selfTestPass 7 .corrected) (selfTest 599200))).map (fun t => ((t.slot 7).passes, (t.slot 7).fails)) = some (1, 1) := by decide +kernel

def cpSpare (b : Word) : State := { State.reset with ct := { Ct.reset with cpSpar := [{ unit := 31, slot := 7, since := b, src := none }] } }
theorem witness_CpSpares : (cpSpare 0).portLives .ctcmd = true ∧ (cpSpare 0).css.ops = [] ∧ (32 : Nat) ≤ (32 : BitVec 8).toNat ∧ ({ State.reset with ct := { Ct.reset with lcp := Ct.reset.lcp.set 0 none } } : State).lcpPresent 0 = false ∧ State.reset.weir.safe = false ∧ State.reset.lcpPresent 31 = true ∧
    State.reset.cpRuns 31 = true ∧ (State.reset.slot (4 + 31 / 8)).st = .ready ∧ (cpSpare 1098944).ct.cpSpar = [{ unit := 31, slot := 7, since := 1098944, src := none }] ∧ 256 ≤ (cpSpare 1098944).since 1098944 ∧ 31 < (cpSpare 1098944).ct.lcp.length := by decide +kernel
theorem test_cp_sparing : (got (exec (.cpSparing 31) (cpSpare 1098944))).map (fun t => t.ct.lcp.getD 31 none) = some (some 35) := by decide +kernel

/-- Core 0 stalled for an exception, and a checkpoint kept, with CTARG. -/
def rescuing (arg : Word) : State := { (core0 fun c => { c with run := .stalled, stalled := some { anExc with level := 4 }, ds := { c.ds with cache := [] } }) with ct := { Ct.reset with arg := arg, kept := [(0, State.reset.core 0)] } }
def stalledExc : Exc := { anExc with level := 4 }
theorem witness_RescueDumpRetire : (rescuing 1).portLives .ctcmd = true ∧ (48 : Nat) ≤ (48 : BitVec 8).toNat ∧ (rescuing 1).weir.safe = false ∧ ((rescuing 1).core 0).run = .stalled ∧ ((rescuing 1).core 0).stalled = some stalledExc ∧ (rescuing 1).tsbUsable (rescuing 1).ct.arg = false ∧
    (rescuing 0x10000).tsbUsable (rescuing 0x10000).ct.arg = true ∧ (((rescuing 0x10000).modCore 0 fun c => { c with tsbr := (rescuing 0x10000).ct.arg }).writeTsb 0 stalledExc stalledExc.vec stalledExc.orig stalledExc.level).any (fun w => decide (0 < w.cores.length)) = true ∧
    State.reset.ct.kept = [] ∧ (rescuing 1).ct.kept = [(0, State.reset.core 0)] ∧ ((rescuing 0x10000).devWrite 0xA00 (rescuing 0x10000).ct.arg.toNat ((rescuing 0x10000).dumpImage (State.reset.core 0))).isSome = true := by decide +kernel
theorem test_rescue : (got (exec (.rescue 0) (rescuing 0x10000))).map (fun t => (t.ct.result, (t.core 0).run, (t.core 0).pc)) = some (0, .running, 0x1000340) := by decide +kernel
theorem test_dump : (got (exec (.dump 0) (rescuing 1))).map (fun t => t.ct.result) = some 3 := by decide +kernel
def released0 : State := { State.reset with ct := { Ct.reset with arg := 4, recs := [{ rec0 with released := true }, { rec0 with gen := 5, released := true }, rec0] } }
theorem test_retire : (got (exec (.retire 0) released0)).map (fun t => t.ct.recs.map fun r => r.retired) = some [true, false, false] := by decide +kernel

/-! The pair. -/

/-- A continuity unit in a role and a pair state. -/
def paired (r : Role) (p : PState) (f : Ct → Ct) : State := { State.reset with ct := f { Ct.reset with role := r, pstate := p } }
theorem witness_PairCommands : State.reset.portLives .ctcmd = true ∧ (State.reset.weir.safe = false ∧ State.reset.ct.pstate = .solo ∧ State.reset.ct.role = .active ∧ State.reset.eth.ports.length = 16 ∧ State.reset.guardedSchs = []) ∧
    (paired .active .paired id).ct.pstate ≠ .solo ∧ ((paired .standby .solo id).ct.role = .standby ∧ (paired .standby .solo id).ct.witReqs = [] ∧ (paired .standby .solo id).witUp = false) ∧
    ((paired .active .paired id).ct.pstate = .paired ∧ (paired .active .paired id).ct.role = .active ∧ (paired .active .paired id).weir.safeNext = none) := by decide +kernel
theorem test_pair_active : (got (exec (.pairActive 0) State.reset)).map (fun t => (t.ct.result, t.ct.pstate)) = some (0, .joining) := by decide +kernel
theorem test_handover : (got (exec (.handover 0) (paired .active .joining id))).map (fun t => t.ct.result) = some 1 := by decide +kernel

/-- Leat ports that are up, with a transmit association that may send one last packet. -/
def leat (r : Role) (p : PState) (f : Ct → Ct) : State :=
  { paired r p f with
    eth := { Eth.reset with ports := Eth.reset.ports.map fun x => { x with leat := true, link := true }, link := { LeatLink.off with rcvNxt := 40, pwin := 8 } }
    cx := { Cx.reset with leat := List.replicate 2 { LeatSec.reset with tx := [some ⟨[], 0xFFFFFFFFFFFFFFFD⟩, none, none, none], txOn := true } } }
theorem leatCarries {s : State} {p : Fin 2} {a : Sa} (h : ((s.port (12 + p)).leat && (s.port (12 + p)).link && !s.portOut (12 + p) && (s.leatSec p).txOn && decide ((s.leatSec p).tx.getD (s.leatSec p).txAn none = some a) && decide (a.pn.toNat < 2 ^ 64 - 2)) = true) : LeatCarries s p := by
  simp only [Bool.and_eq_true, decide_eq_true_eq, Bool.not_eq_true'] at h
  obtain ⟨⟨⟨⟨⟨b, c⟩, d⟩, e⟩, f⟩, g⟩ := h
  exact ⟨b, c, d, e, a, f, g⟩
def lastSa : Sa := ⟨[], 0xFFFFFFFFFFFFFFFD⟩
def beating : State := leat .standby .paired fun c => { c with hbDue := [(7, { hseq := 5, nextgen := 1, fgen := 2, role := .standby, pstate := .paired, safe := false, armed := true })], healthDue := [{ beat := 7, bytes := [], msg := { role := .standby, pstate := .paired, safe := false, armed := true, fgen := 2, nextgen := 1 } }], hseqLast := some 0xFFFF }
def hb (n : BitVec 16) : HeartbeatMsg := { hseq := n, nextgen := 1, fgen := 2, role := .active, pstate := .paired, safe := false, armed := false }
def peerActive (g : Word32) : HealthMsg := { role := .active, pstate := .solo, safe := false, armed := false, fgen := g, nextgen := 0 }
def leatActive : State := leat .active .paired id
theorem witness_Heartbeats : LeatCarries beating 0 ∧ LeatCarries beating 1 ∧ ((beating.ct.hbDue.map Prod.fst) = 7 :: [] ∧ (beating.ct.healthDue.map fun x => x.msg.pstate) = .paired :: [] ∧ beating.ct.pstate ≠ .solo ∧ beating.weir.safe = false ∧ beating.witUp = false) ∧
    (beating.ct.hseqLast = some ((hb 0).hseq - 1) ∧ beating.ct.role = .standby ∧ (hb 0).role = .active ∧ (hb 0).pstate ≠ .solo) ∧ (beating.ct.hseqLast ≠ some ((hb 1).hseq - 1)) ∧
    ((leatActive.port (12 + (1 : Fin 2))).leat = true ∧ leatActive.weir.safe = false ∧ leatActive.weir.safeNext = none ∧ leatActive.ct.role = .active ∧ (peerActive 1).role = .active ∧ follows (peerActive 1).fgen leatActive.ct.fgen = true ∧
      follows (peerActive 0).fgen leatActive.ct.fgen = false) :=
  ⟨leatCarries (a := lastSa) (by decide +kernel), leatCarries (a := lastSa) (by decide +kernel), by decide +kernel⟩
/-- R444: HSEQ 0 follows 0xFFFF; 1 does not. -/
theorem test_heartbeat : (got (exec (.heartbeat 1 (hb 0)) beating)).map (fun t => (t.ct.hseqAcc, t.ct.armed, t.ct.rej)) = some (0, true, 0) ∧ (got (exec (.heartbeat 1 (hb 1)) beating)).map (fun t => (t.ct.hseqLast, t.ct.rej)) = some (some 1, 1) := by decide +kernel
theorem test_heartbeat_send : (got (exec .heartbeatSend beating)).map (fun t => t.eth.sent.map fun f => f.port) = some [12, 13] := by decide +kernel
/-- R450: a peer that is ACTIVE under a later FGEN. -/
theorem test_health : (got (exec (.health (peerActive 1)) leatActive)).map (fun t => t.weir.safeNext) = some (some 1099200) := by decide +kernel

def armed (lost : Half) : State := leat .standby .paired fun c => { c with armed := true, lost := lost }
theorem witness_Armed : (armed 2000).weir.safe = false ∧ (armed 2000).ct.armed = true ∧ (armed 2000).ct.takeOver = none ∧ 2000 ≤ (armed 2000).ct.lost.toNat ∧ (armed 2000).ct.witReqs = [] ∧ (armed 2000).witUp = false ∧
    (armed 0).leatUp = true ∧ (armed 0).ct.role = .standby ∧ (armed 0).weir.safeNext = none ∧ (armed 0).ct.rxDeltas = [] := by decide +kernel
theorem test_loss : (got (exec .heartbeatLoss (armed 2000))).map (fun t => t.ct.witReqs.map fun r => r.kind) = some [2] ∧ got (exec .heartbeatLoss (armed 1999)) = some (armed 1999) := by decide +kernel
theorem test_gasp : (got (exec (.dyingGasp { reason := 5, fgen := 0, nextgen := 0, lastDelta := 0 }) (armed 0))).map (fun t => t.ct.takeOver) = some (some { t := 1099200, roleDone := false }) := by decide +kernel

/-- The header of a sequenced mirror message. -/
def head (seq : Word32) : MirrorHead := { seq := seq, ack := 0, win := 8, acknow := false }
theorem inOrder {s : State} {h : MirrorHead} (g : (s.leatUp && !s.weir.safe && decide (h.seq = s.eth.link.rcvNxt) && decide (s.eth.link.kept = [])) = true) : NextInOrder s h := by
  simp only [Bool.and_eq_true, decide_eq_true_eq, Bool.not_eq_true'] at g
  obtain ⟨⟨⟨up, safe⟩, seq⟩, kept⟩ := g
  exact { up := up, safe := safe, seq := seq, kept := kept }
def shipping : State := leat .active .joining fun c => { c with gathering := true, toShip := [{ beat := 1099199, entries := [.retire 1 2], baseDone := true }] }
def shipped (b : Word) (base : Bool) : State := leat .active .joining fun c => { c with gathering := true, shipped := [{ beat := b, baseDone := base }] }
def readyPair : State := leat .active .joining fun c => { c with pairedDue := some 1099199 }
theorem witness_DeltasSent : (shipping.weir.safe = false ∧ shipping.ct.toShip = { beat := 1099199, entries := [.retire 1 2], baseDone := true } :: [] ∧ shipping.leatUp = true) ∧ NextInOrder (shipped 1099197 true) (head 40) ∧
    ((shipped 1099197 true).gathers = true ∧ (shipped 1099197 true).ct.shipped = [{ beat := 1099197, baseDone := true }] ∧ (shipped 1099197 true).beatc.toNat < (1099197 : Word).toNat + 4 ∧ (shipped 1099197 true).ct.pairedDue = none) ∧
    (readyPair.ct.pairedDue = some 1099199 ∧ 1 ≤ readyPair.since 1099199 ∧ readyPair.ct.pstate = .joining) ∧
    ((shipped 1099196 false).ct.role = .active ∧ (shipped 1099196 false).ct.unacked 1099196 = true ∧ (1099196 : Word).toNat + 4 ≤ (shipped 1099196 false).beatc.toNat ∧ (shipped 1099196 false).ct.witReqs = [] ∧ (shipped 1099196 false).witUp = false) :=
  ⟨by decide +kernel, inOrder (by decide +kernel), by decide +kernel⟩
theorem test_delta_ack : (got (exec (.deltaAck (head 40) 1099197) (shipped 1099197 true))).map (fun t => (t.ct.shipped.length, t.ct.pairedDue)) = some (0, some 1099200) := by decide +kernel
theorem test_horizon : (got (exec (.mirrorHorizonMiss 1099196) (shipped 1099196 false))).map (fun t => (t.ct.pstate, t.ct.witReqs.map fun r => r.kind)) = some (.broken, [5]) ∧ got (exec (.mirrorHorizonMiss 1099197) (shipped 1099197 false)) = some (shipped 1099197 false) := by decide +kernel

/-- A standby with the frame of a delta of two bytes of a line. -/
def memEntry : DeltaEntry := .mem 0x8000 [(0, 7), (255, 9)]
def deltaEnd0 : DeltaEndMsg := { nframes := 1, nbytes := 46, ecrc := crc32c memEntry.raw, baseDone := false }
def taking : State :=
  { leat .standby .paired (fun c => { c with applied := some 8, rxFrames := [(9, [memEntry])] }) with
    mem := bootTree ++ cellsFrom 0x8000 [1], pool := { Pool.reset with dir := [{ line := 0x80, way := 0, d := false, x := false, p := false, pv := [], hedge := [], ecc := 0 }] } }
def acking : State := leat .standby .paired fun c => { c with acksDue := [{ beat := 9, needs := [], since := 1099199 }] }
theorem witness_DeltasTaken : NextInOrder taking (head 40) ∧ LeatCarries acking 0 ∧ taking.takesDeltas = true ∧ taking.ct.rxFrames = [(9, [memEntry])] ∧ (0 : Word32) ≠ crc32c ([memEntry].flatMap fun e => e.raw) ∧
    (0 < ((head 41).seq - taking.eth.link.rcvNxt).toNat ∧ ∀ x ∈ taking.eth.link.kept, x.1 ≠ (head 41).seq) ∧
    (taking.ct.rxDeltas = [] ∧ taking.ct.applied = some (9 - 1) ∧ ([(0, 7), (255, 9)] : List (Nat × Byte)).length ≤ 256 ∧ (([(0, 7), (255, 9)] : List (Nat × Byte)).map Prod.fst).Nodup ∧ (∀ x ∈ ([(0, 7), (255, 9)] : List (Nat × Byte)), x.1 < 256) ∧
      deltaEnd0.nbytes.toNat = 44 + 2 ∧ taking.isDram 0x8000 = true ∧ taking.windowForming 0x8000 = false ∧ taking.lineBusy (lineOf 0x8000) = false ∧ (taking.dirEntry (lineOf 0x8000)).isSome = true ∧ taking.mem.wf = true ∧ taking.pool.agents = [] ∧
      taking.heldByOther 255 (lineOf 0x8000) = false) ∧
    (acking.eth.link.tx = [] ∧ (acking.eth.link.sndNxt - acking.eth.link.sndUna).toNat < acking.eth.link.pwin.toNat ∧ acking.takesDeltas = true ∧ acking.ct.rxDeltas = [] ∧ acking.ct.acksDue = [{ beat := 9, needs := [], since := 1099199 }] ∧ 1 ≤ acking.since 1099199) :=
  ⟨inOrder (by decide +kernel), leatCarries (a := lastSa) (by decide +kernel), by decide +kernel⟩
theorem test_delta_end : (got (exec (.deltaEnd (head 40) 9 deltaEnd0) taking)).map (fun t => (t.mem.read 0x8000, t.mem.read 0x80FF, t.ct.applied)) = some (7, 9, some 9) := by decide +kernel
/-- R438: a count that does not agree. -/
theorem test_delta_bad : (got (exec (.deltaEnd (head 40) 9 { deltaEnd0 with nframes := 2 }) taking)).map (fun t => (t.mem.read 0x8000, t.ct.applied, t.ct.rxFrames)) = some (1, some 8, []) := by decide +kernel

/-- A module whose witness connection is up and waits for an answer to a request. -/
def asking (r : Role) (p : PState) (kind : Nat) (sent : Option Word) : State :=
  { paired r p (fun c => { c with armed := true, witEn := true, witReqs := [{ kind := kind, nonce := 77, sent := sent }] }) with css := { Css.reset with conns := [(witnessKey, { Conn.closed with pstate := psUp })] } }
def answer (s : State) (kind : Nat) (nonce : Word) : WitnessMsg :=
  let m : WitnessMsg := { role := 0, fgen := 0, pairId := 0, beat := 0, nonce := nonce, tag := 0 }
  { m with tag := s.witTagOf kind m }
def askTake : State := asking .standby .paired 2 none
def askSolo (b : Word) : State := asking .active .broken 5 (some b)
theorem witnessHeard {s : State} {kind : Nat} {n : Word} (h : (s.witUp && !s.weir.safe && decide (s.ct.pairId = 0) && (kind == wkSafeReq || s.ct.witReqs.any fun r => r.kind == answers kind && r.nonce == n)) = true) : WitnessHeard s kind (answer s kind n) := by
  simp only [Bool.and_eq_true, decide_eq_true_eq, Bool.not_eq_true'] at h
  obtain ⟨⟨⟨a, b⟩, c⟩, d⟩ := h
  refine ⟨a, b, ?_⟩
  show ((s.witTagOf kind (answer s kind n) == s.witTagOf kind (answer s kind n)) && ((0 : Word) == s.ct.pairId) && (kind == wkSafeReq || s.ct.witReqs.any fun r => r.kind == answers kind && r.nonce == n)) = true
  rw [c, d]; simp
theorem otherPair {s : State} {kind : Nat} {m : WitnessMsg} (h : (m.pairId == s.ct.pairId) = false) : s.witChecks kind m = false := by
  unfold State.witChecks; rw [h]; simp
theorem witness_Witness : (WitnessHeard askTake 3 (answer askTake 3 77) ∧ askTake.ct.takeOver = none ∧ askTake.weir.safeNext = none ∧ askTake.ct.rxDeltas = []) ∧ WitnessHeard askTake 4 (answer askTake 4 77) ∧
    (WitnessHeard (askSolo 0) 6 (answer (askSolo 0) 6 77) ∧ (askSolo 0).ct.pstate = .broken) ∧ (WitnessHeard (askSolo 0) 7 (answer (askSolo 0) 7 77) ∧ (askSolo 0).weir.safeNext = none) ∧ WitnessHeard (askSolo 0) 8 (answer (askSolo 0) 8 0) ∧
    (∀ kind, askTake.witChecks kind { answer askTake kind 77 with pairId := 1 } = false) ∧
    ((askSolo 1098200).ct.witReqs = [{ kind := 5, nonce := 77, sent := some 1098200 }] ∧ witPeriod 5 ≤ (askSolo 1098200).since 1098200 ∧ (askSolo 1098200).witUp = true ∧ (askSolo 1098200).weir.safe = false) :=
  ⟨⟨witnessHeard (by decide +kernel), by decide +kernel⟩, witnessHeard (by decide +kernel), ⟨witnessHeard (by decide +kernel), by decide +kernel⟩, ⟨witnessHeard (by decide +kernel), by decide +kernel⟩, witnessHeard (by decide +kernel),
    fun _ => otherPair (show ((1 : Word) == askTake.ct.pairId) = false by decide +kernel), by decide +kernel⟩
theorem test_confirm : (got (exec (.takeoverConfirm (answer askTake 3 77)) askTake)).map (fun t => (t.ct.takeOver, t.ct.witReqs)) = some (some { t := 1099200, roleDone := false }, []) := by decide +kernel
theorem test_solo_grant : (got (exec (.soloGrant (answer (askSolo 0) 6 77)) (askSolo 0))).map (fun t => t.ct.pstate) = some .solo := by decide +kernel
theorem test_resend : (got (exec .witnessResend (askSolo 1098200))).map (fun t => t.ct.witOut.map fun w => (w.kind, w.msg.nonce)) = some [(5, 77)] ∧ got (exec .witnessResend (askSolo 1098201)) = some (askSolo 1098201) := by decide +kernel

def takingOver : State := paired .active .solo fun c => { c with takeOver := some { t := 5, roleDone := true } }
theorem witness_TakeOver : takingOver.weir.safe = false ∧ takingOver.ct.takeOver = some { t := 5, roleDone := true } ∧ takingOver.establishedSchs = [] := by decide +kernel
theorem test_takeover : (got (exec .takeover takingOver)).map (fun t => (t.ct.takeOver, t.weir.inFlight.map fun r => r.src)) = some (none, [0xA00]) := by decide +kernel

/-- CTGREG values: 64 GiB from 0, one unit, and one unit past the end of memory. -/
def region (base size : Nat) : Word := 0x8000000000000000 ||| (BitVec.ofNat 64 base <<< 21) ||| BitVec.ofNat 64 size
theorem witness_GuardedRegions : (∀ r : Fin 16, State.reset.portLives (.ctgreg r) = true) ∧ State.reset.ct.regions.length = 16 ∧ (paired .active .paired id).ct.pstate ≠ .solo ∧ bitAt (region 0 32768) 63 = true ∧
    (((0 + 32768) * 2 ^ 21 ≤ State.reset.capacity ∧ guardedUnits (State.reset.ct.regions.set 0 { en := true, err := false, base := 0, size := 32768 }) ≤ 32768)) ∧
    ¬((State.reset.capacity / 2 ^ 21 + 1) * 2 ^ 21 ≤ State.reset.capacity) ∧ State.reset.ct.regions[(0 : Fin 16).val]? = some { en := false, err := false, base := 0, size := 0 } := by decide +kernel
def fullRegions : State := paired .active .solo fun c => { c with regions := c.regions.set 0 { en := true, err := false, base := 0, size := 32768 } }
/-- R434: one unit more than 64 GiB. -/
theorem test_region : (got (exec (.guardedRegionWrite 15 (region 1 1)) fullRegions)).map (fun t => t.ct.regions.getLast?.map fun g => (g.en, g.err)) = some (some (false, true)) := by decide +kernel

/-! Time and the plant. -/

/-- The state after reset with the plant controller changed. -/
def withPlant (f : Plant → Plant) : State := { State.reset with plant := f Plant.reset }
theorem witness_Boundaries : ((withPlant fun p => { p with beatc := 1099999 }).plant.power ≠ .off ∧ (withPlant fun p => { p with beatc := 1099999 }).ct.takeOver = none ∧ (withPlant fun p => { p with beatc := 1099999 }).css.conns = [] ∧
      (withPlant fun p => { p with beatc := 1099999 }).weir.safeNext = none ∧ ((withPlant fun p => { p with beatc := 1099999 }).beatc + 1).toNat % 1000 = 0) ∧ (withPlant fun p => { p with power := .standby }).plant.power ≠ .on ∧
    (withPlant fun p => { p with loadDue := some (7, 9), setDue := some 1099199 }).plant.stableNext = none ∧ (withPlant fun p => { p with beatc := 1099999 }).ct.leatOffDue = false ∧ (withPlant fun p => { p with beatc := 1099999 }).pool.holds = [] ∧ ({ paired .active .paired id with weir := Weir.reset } : State).ct.pstate ≠ .solo := by decide +kernel
theorem test_boundary : (got (exec .beatBoundary (withPlant fun p => { p with beatc := 1099999 }))).map (fun t => (t.beatc, t.plant.loopDue.length, t.plant.holdDue.length)) = some (1100000, 1, 1) := by decide +kernel
/-- R455: at zero slew TOD gains exactly one beat. -/
theorem test_tod : (got (exec .beatBoundary State.reset)).map (fun t => t.plant.todBase) = some (0x10C5C1#128 <<< 64) := by decide +kernel

theorem witness_ReferenceAndPps : (State.reset.plant.power = .on ∧ State.reset.plant.refOk = true) ∧ ((withPlant fun p => { p with refOk := false, refLost := 1098200 }).plant.refOk = false ∧ 1000 ≤ (withPlant fun p => { p with refOk := false, refLost := 1098200 }).since 1098200) ∧
    (withPlant fun p => { p with refCycle := 99 }).plant.refCycle < 100 ∧ ((withPlant fun p => { p with ppsOk := true, beatc := 1200000, lastPps := 100000 }).plant.ppsOk = true ∧ 1100000 ≤ (withPlant fun p => { p with ppsOk := true, beatc := 1200000, lastPps := 100000 }).since 100000) ∧
    ((withPlant fun p => { p with todValid := true }).plant.todValid = true ∧ State.reset.plant.todValid = false ∧ State.reset.plant.loadDue = none ∧ State.reset.portLives .pltodsetl = true) ∧ (withPlant fun p => { p with loadDue := some (7, 9) }).plant.loadDue = some (7, 9) := by decide +kernel
theorem test_reference : (got (exec .referenceLoss State.reset)).map (fun t => (t.plant.refOk, t.weir.inFlight.map fun r => r.src)) = some (false, [0xA80]) := by decide +kernel
theorem test_tod_load : (got (exec .todLoad (withPlant fun p => { p with loadDue := some (7, 9) }))).map (fun t => (t.plant.todBase, t.plant.todValid)) = some (0x70000000000000009, true) := by decide +kernel

/-- Channel 207, a rail, with limits -5 and 5; outside the upper one, or without limits. -/
def limits (hi : Bool) (h l : BitVec 16) : State := withPlant fun p => { p with sensors := [(207, { Sensor.reset with hi := hi, limHi := h, limLo := l })] }
theorem witness_Sensors : sensorType 207 ≠ 0 ∧ (limits false 5 (-5)).plant.power = .on ∧ ((limits false 5 (-5)).plant.sensor 207 = { Sensor.reset with limHi := 5, limLo := -5 } ∧ (5 : BitVec 16).toInt < (6 : BitVec 16).toInt ∧ (-6 : BitVec 16).toInt < (-5 : BitVec 16).toInt ∧
      ¬((5 : BitVec 16).toInt < (5 : BitVec 16).toInt)) ∧ ((limits true 5 (-5)).plant.sensor 207).hi = true ∧ ((limits false 0 0).plant.sensor 207).limHi = 0 := by decide +kernel
theorem witness_SensorLimits : sensorType 128 ≠ 0 ∧ sensorType 144 ≠ 0 ∧ sensorType 207 ≠ 0 ∧ sensorType 208 ≠ 0 ∧ (limits false 5 (-5)).plant.power = .on ∧ (5 : BitVec 16).toInt < (6 : BitVec 16).toInt := by decide +kernel
theorem test_limit : (got (exec (.sensorSample 207 6) (limits false 5 (-5)))).map (fun t => ((t.plant.sensor 207).hi, t.weir.inFlight.map fun r => r.src)) = some (true, [0xA85]) := by decide +kernel
theorem test_limit_off : (got (exec (.sensorSample 207 6) (limits false 0 0))).map (fun t => ((t.plant.sensor 207).hi, t.weir.inFlight.length)) = some (false, 0) := by decide +kernel

/-- A loop stage with temperatures, a speed of pump A, and the settings of reset. -/
def loopIn (ts : List Int) (a : Option Int) (safe : Bool) : LoopInput :=
  { beat := 1099000, temps := ts, flow := none, speedA := a, speedB := none, tset := 850, tcrit := 1050, tshut := 1150, fmin := 0, pmin := 600, dmin := 64, man := false, safe := safe, down := false }
def looping (i : LoopInput) (low : Nat) : State := withPlant fun p => { p with loopDue := [i], lowA := low }
theorem witness_ThermalLoop : ((looping (loopIn [1049, 860] none false) 0).plant.power = .on ∧ (looping (loopIn [1049, 860] none false) 0).plant.loopDue = loopIn [1049, 860] none false :: [] ∧ (loopIn [1049, 860] none false).temps = 1049 :: [860] ∧
      (loopIn [1049, 860] none false).speedA = none ∧ (loopIn [1049, 860] none false).fmin = 0 ∧ ¬((looping (loopIn [1049, 860] none false) 0).plant.failA = true ∧ (looping (loopIn [1049, 860] none false) 0).plant.failB = true)) ∧
    (loopIn [1050] none false).temps = 1050 :: [] ∧ (loopIn [1149] none false).temps = 1149 :: [] ∧ (loopIn [1150] none true).temps = 1150 :: [] ∧ (loopIn [1150] none true).safe = true ∧ (looping (loopIn [1150] none true) 0).plant.downAt = none := by decide +kernel
/-- R464: e = 1, I = 1, so that the duty is DMIN + 9; at TCRIT the event is SEVERE. -/
theorem test_thermal : (got (exec .thermalLoop (looping (loopIn [860] none false) 0))).map (fun t => (t.plant.duty, t.plant.acc, t.weir.inFlight.length)) = some (73, 1, 0) ∧
    (got (exec .thermalLoop (looping (loopIn [1050] none false) 0))).map (fun t => t.weir.inFlight.map fun r => (r.src, r.cls)) = some [(0xA84, .severe)] := by decide +kernel
theorem witness_PumpFailure : (looping (loopIn [860] (some 599) false) 2).plant.power = .on ∧ (looping (loopIn [860] (some 599) false) 2).plant.loopDue = loopIn [860] (some 599) false :: [] ∧ (loopIn [860] (some 599) false).temps = 860 :: [] ∧
    (∀ y ∈ (loopIn [860] (some 599) false).temps, y < (loopIn [860] (some 599) false).tcrit.toInt ∧ y < (loopIn [860] (some 599) false).tshut.toInt) ∧ (looping (loopIn [860] (some 599) false) 2).plant.failA = false ∧ (looping (loopIn [860] (some 599) false) 2).plant.failB = false ∧
    (599 : Int) < ((loopIn [860] (some 599) false).pmin.toNat : Int) ∧ 2 ≤ (looping (loopIn [860] (some 599) false) 2).plant.lowA ∧ (looping (loopIn [860] (some 599) false) 1).plant.lowA < 2 := by decide +kernel
theorem test_pump : (got (exec .thermalLoop (looping (loopIn [860] (some 599) false) 2))).map (fun t => (t.plant.failA, t.plant.duty)) = some (true, 255) ∧ (got (exec .thermalLoop (looping (loopIn [860] (some 600) false) 2))).map (fun t => (t.plant.failA, t.plant.lowA)) = some (false, 0) := by decide +kernel

/-- A hold-up stage that is due. -/
def holdIn : HoldInput := { beat := 1099000, hmin := 60, hstop := 20, hupol := false, railsIn := true }
def holding (f : Plant → Plant) : State := withPlant fun p => f { p with holdDue := [holdIn] }
theorem witness_HoldUp : ((holding id).plant.power = .on ∧ (holding id).plant.holdDue = holdIn :: [] ∧ holdIn.railsIn = true ∧ (holding id).plant.known = true ∧ (holding id).plant.railsOut = []) ∧
    (bitAt (1 : Byte) 0 = true ∧ (holding id).plant.inp = true ∧ (holding id).plant.okPrev = true ∧ (holding fun p => { p with stable := false }).plant.stable = false) ∧
    (bitAt (0 : Byte) 0 = false ∧ (holding fun p => { p with inp := false }).plant.inp = false ∧ (19 : BitVec 16).toNat < holdIn.stop ∧ holdIn.stop ≤ holdIn.hmin.toNat ∧ (holding fun p => { p with inp := false }).plant.downAt = none) ∧
    (holdIn.stop ≤ (20 : BitVec 16).toNat ∧ (59 : BitVec 16).toNat < holdIn.hmin.toNat) ∧ (holding id).plant.unread = 0 := by decide +kernel
theorem test_holdup : (got (exec (.holdup (some { source := 0, reserve := 19 })) (holding fun p => { p with inp := false }))).map (fun t => (t.plant.downAt, t.plant.stableNext)) = some (some 1099200, some (false, 1099200)) ∧
    (got (exec (.holdup (some { source := 1, reserve := 19 })) (holding fun p => { p with stable := false }))).map (fun t => t.plant.stableNext) = some (some (true, 1099200)) := by decide +kernel
theorem witness_StableAndRails : ((withPlant fun p => { p with stableNext := some (true, 1099199) }).plant.stableNext = some (true, 1099199) ∧ 1 ≤ (withPlant fun p => { p with stableNext := some (true, 1099199) }).since 1099199) ∧
    (withPlant fun p => { p with stableNext := some (false, 0) }).plant.stableNext = some (false, 0) ∧ 2 ≤ (2 : Fin 32).val ∧ State.reset.plant.power = .on := by decide +kernel
theorem test_rail : (got (exec (.railWindowExit 31) State.reset)).map (fun t => (t.plant.stable, t.plant.railsOut, t.weir.inFlight.map fun r => r.src)) = some (false, [31], [0xA85]) := by decide +kernel

def goingDown (b : Word) : State := withPlant fun p => { p with downAt := some b }
theorem witness_Supplies : ((goingDown 1099190).plant.downAt = some 1099190 ∧ ((goingDown 1099190).core 47).run ≠ .absent ∧ 47 ∉ (goingDown 1099190).plant.accepted ∧ (goingDown 1099190).weir.safe = false ∧ (goingDown 1099190).fatalWaits = false ∧
      ((goingDown 1099190).core 47).devStore = none ∧ ((goingDown 1099190).core 47).sb = [] ∧ 10 ≤ (goingDown 1099190).since 1099190 ∧ (goingDown 1099190).life.change = none) ∧
    ((withPlant fun p => { p with power := .standby, pwron := false, standbyAt := 1089200 }).plant.power = .standby ∧ 10000 ≤ (withPlant fun p => { p with power := .standby, pwron := false, standbyAt := 1089200 }).since 1089200) ∧
    ((withPlant fun p => { p with power := .sequencing, seqAt := 1094200 }).plant.power = .sequencing ∧ 5000 ≤ (withPlant fun p => { p with power := .sequencing, seqAt := 1094200 }).since 1094200) ∧
    ((withPlant fun p => { p with power := .standby, seqAt := 99200, attempts := 2 }).plant.attempts = 2 ∧ (withPlant fun p => { p with power := .standby, seqAt := 99200, attempts := 2 }).plant.pwron = true ∧ 1000000 ≤ (withPlant fun p => { p with power := .standby, seqAt := 99200 }).since 99200) ∧
    (State.reset.plant.pwron = true ∧ State.reset.plant.power = .on ∧ State.reset.plant.downAt = none ∧ State.reset.plant.power ≠ .off ∧ State.reset.life.change = none) ∧ (withPlant fun p => { p with power := .off }).plant.power = .off := by decide +kernel
theorem test_regulators : (got (exec .regulatorsOff (goingDown 1099190))).map (fun t => (t.plant.power, t.mem, (t.core 0).run)) = some (.standby, [], .absent) ∧ (got (exec .regulatorsOff (goingDown 1099191))) = some (goingDown 1099191) := by decide +kernel
theorem test_sequence : (got (exec .powerSequence (withPlant fun p => { p with power := .standby, pwron := false, standbyAt := 1089200 }))).map (fun t => (t.plant.power, t.plant.attempts)) = some (.sequencing, 1) := by decide +kernel

/-! Resets, the life cycle and slices. -/

/-- The state after reset with the life cycle changed. -/
def withLife (f : Life → Life) : State := { State.reset with life := f Life.reset }
/-- The public key of RFC 6979, A.2.6, as an uncompressed point. -/
def rfcKey : List Byte := 4 :: (bytesOf 48 0xEC3A4E415B4E19A4568618029F427FA5DA9A8BC4AE92E02E06AAE5286B300C64DEF8F0EA9055866064A254515480BC13 ++ bytesOf 48 0x8015D9B72D7D57244EA8EF9AC0C621896708A59367F9DFB9F54CA84B3F1C9DB1288B231C3AE0D4FE7344FD2533264720)
/-- RFC 6979, A.2.6, with SHA-384: the signature of the message sample; with one bit of it changed. -/
def rfcSig : List Byte := bytesOf 48 0x94EDBB92A5ECB8AAD4736E56C691916B3F88140666CE9FA73D64C4EA95AD133C81A648152E44ACF96E36DD1E80FABE46 ++ bytesOf 48 0x99EF4AEB15F178CEA1FE40DB2603138F130E740A19624526203B6351D0A3A94FA329C145786E679E7B82C71A38628AC8
theorem test_ecdsa : ecdsaOk rfcKey [0x73, 0x61, 0x6D, 0x70, 0x6C, 0x65] rfcSig = true ∧ ecdsaOk rfcKey [0x73, 0x61, 0x6D, 0x70, 0x6C, 0x64] rfcSig = false := by decide +kernel
/-- A boot image of one byte for state 2, signed with that key, and the directory that names it as copy A (R489, R490). -/
def bootImage : List Byte :=
  [0x5A, 0x42, 0x4F, 0x54, 0, 1, 0, 0, 0, 0, 0, 1] ++ List.replicate 9 0 ++ [4, 0, 0] ++ rfcKey ++ List.replicate 7 0 ++ [11] ++
  bytesOf 48 0xD8A17E55B8E2F47BC369FD9616695CE273DCE4E307830A65F5A4A9AA8967C987AEEA7AD365677A13BFD65C3FE5A66939 ++ bytesOf 48 0x1B379619E2CC3D5F0CEEE45A4ADB2D40FDFAB77E00E0DE632EB367CC6870DA604464C5272EAE4B2049E0D63ACA2CF1C8
def flash0 : Flash := { data := [0x5A, 0x46, 0x4C, 0x53, 0, 0, 0, 0] ++ bytesOf 4 64 ++ bytesOf 4 225 ++ List.replicate 44 0 ++ bytesOf 4 0xBB45F2C8 ++ bootImage }
/-- The life cycle of a module that starts: the flash, and the digest of the key in the fuses. -/
def life0 : Life := { Life.reset with flash := flash0, fuses := { Fuses.reset with okeyh := 0xEBE1F3B0FED114EAF158783D8C3227F2D8E05EA982EF00C64A08460B4649011FE3DA6E291A22AF14445CCAE1981DFF5B } }
def bootCopy0 : BootCopy := { entry := 0, vbrOff := 0, payload := [11] }
theorem life0_copy : life0.bootCopy = some bootCopy0 := by decide +kernel
/-- R491: a changed payload, and a boot image of a state that the module is not in, do not run. -/
theorem test_boot_invalid : bootValid life0.fuses (bootImage.set 128 12) = false ∧ bootValid { life0.fuses with svc := 1 } bootImage = false ∧ bootValid { life0.fuses with bsvn := 1 } bootImage = false := by decide +kernel
/-- A state that starts from that flash. -/
def starts (f : State → State) (g : Life → Life) : State := f { State.reset with life := g life0 }
theorem boots {s : State} (flash : s.life.flash = flash0) (fuses : s.life.fuses = life0.fuses) (h : (s.life.change.isNone && (s.ct.copyA.valid && s.ct.copyB.valid && !follows s.ct.copyB.cseq s.ct.copyA.cseq && decide (s.ct.copyA.pstate = .solo)) && s.ct.recs.isEmpty) = true) : Boots s bootCopy0 := by
  simp only [Bool.and_eq_true, decide_eq_true_eq, Bool.not_eq_true', Option.isNone_iff_eq_none, List.isEmpty_iff] at h
  obtain ⟨⟨change, ⟨⟨valA, valB⟩, older⟩, solo⟩, recs⟩ := h
  have copy : s.life.bootCopy = some bootCopy0 := by
    have run := life0_copy
    unfold Life.bootCopy at run ⊢
    rw [flash, fuses]; exact run
  exact { copy := copy, change := change, flash := by rw [flash]; decide +kernel, control := ⟨valA, valB, older, solo⟩, empty := recs }
/-- A start-up that finds everything good and a module full of DIMMs; one that finds core 5 and the CP 40 bad before the zeroing has ended. -/
def goodStart : StartTest := { cores := [], cps := [], dimms := List.replicate 20 (3, 1), training := [], ways := [], zeroed := true, spoilt := [] }
def badStart : StartTest := { goodStart with cores := [5], cps := [35], zeroed := false }
theorem witness_Resets : Boots (starts id id) bootCopy0 ∧ Boots (starts id fun l => { l with resetDue := some (.cold 1099199) }) bootCopy0 ∧ Boots (starts id fun l => { l with resetDue := some (.warm 1099199) }) bootCopy0 ∧
    Boots (starts (fun s => { s with plant := { s.plant with power := .sequencing, seqAt := 1094200 } }) id) bootCopy0 ∧ Sound goodStart ∧ Populated goodStart ∧ State.reset.plant.power = .on ∧ State.reset.mem.wf = true ∧ State.reset.mc.ready = true ∧
    State.reset.ct.spent = [] ∧ (∀ w ∈ State.reset.pool.ways, bitAt w.dis 15 = false) ∧ State.reset.weir.safe = false ∧ 1 ≤ State.reset.since 1099199 ∧ 5000 ≤ State.reset.since 1094200 ∧ badStart.zeroed = false ∧
    (withPlant fun p => { p with power := .standby }).plant.power ≠ .on :=
  ⟨boots rfl rfl (by decide +kernel), boots rfl rfl (by decide +kernel), boots rfl rfl (by decide +kernel), boots rfl rfl (by decide +kernel), ⟨rfl, rfl, rfl, rfl⟩, ⟨(3, 1), by decide, rfl, rfl, rfl⟩, by decide +kernel⟩

/-- A change of life-cycle state under way, in safe state since long. -/
def changing (target : Nat) (f : Fuses) : State := { (withLife fun l => { l with fuses := f, change := some { target := target, beat := 965200 }, lcData := [1, 2, 3, 4, 5, 6] }) with weir := { Weir.reset with safe := true } }
theorem witness_LifeCycleReset : ((changing 4 Fuses.reset).life.change = some { target := 4, beat := 965200 } ∧ (changing 4 Fuses.reset).weir.safe = true ∧ 134000 ≤ (changing 4 Fuses.reset).since 965200) ∧
    (changing 2 { Fuses.reset with oper := false }).life.fuses.state = 1 ∧ (changing 2 { Fuses.reset with svc := 1 }).life.fuses.state = 3 ∧ (changing 3 Fuses.reset).life.fuses.state = 2 ∧ (changing 1 { Fuses.reset with prov := false, oper := false }).life.fuses.state = 0 := by decide +kernel

/-- A core reset while nothing is under way. -/
theorem witness_CoreReset : State.reset.weir.safe = false ∧ State.reset.life.coreResets = [] ∧ State.reset.life.masterStore.redir = [] ∧ (48 : Nat) ≤ (48 : BitVec 8).toNat ∧ (State.reset.core 47).run ≠ .absent ∧ (47 : Nat) ≠ 0 ∧ (State.reset.core 47).sparing = false ∧
    State.reset.drainable (State.reset.core 47).pcn = true ∧ (State.reset.core 47).devStore = none ∧ State.reset.readySlot = some 0 ∧ (coreIs .running false).readySlot = none ∧ ((coreIs .absent true).core 0).run = .absent ∧
    (coreIs .running false).drainable ((coreIs .running false).core 0).pcn = true := by decide +kernel
theorem test_core_reset : (got (exec (.coreReset 0 47 false []) State.reset)).map (fun t => ((t.core 47).pcn, t.ct.rstResult, (t.slot 0).st)) = some (48, 0, .empty) ∧ (got (exec (.coreReset 47 47 true []) State.reset)).map (fun t => t.ct.rstResult) = some 2 := by decide +kernel

/-- A buffer of 352 bytes that is framed as R239 says, of an image without words; one that is not. -/
def image0 : List Word := 0x5A504D4300010100 :: 0x0000000000000001 :: 0xFFFFFFFF00000000 :: List.replicate 41 0
def loaded : State := withLife fun l => { l with mclBuf := image0.zipIdx.map (fun p => (p.2, p.1)), mclLen := 352, mclBusy := true }
def unframed : State := withLife fun l => { l with mclBusy := true }
/-- A module in SERVICE, whose buffer is verified or not. -/
def serving (verified : Bool) : State := withLife fun l => { l with fuses := { l.fuses with svc := 1 }, mclVerified := verified }
def imgBytes : List Byte := [1, 2]
def activating (r : RunState) : State := { (core0 fun c => { c with run := r }) with life := { Life.reset with mclVerified := true, mclActive := true, mclDue := some 1099199, mclNext := some { version := 0x0001000000000003, image := imgBytes } } }
theorem witness_MicrocodeLoad : ((serving false).portLives .mclctl = true ∧ (serving false).life.mclBusy = false ∧ (serving false).life.mclActive = false ∧ (serving true).portLives .mclctl = true ∧ (serving true).life.mclVerified = true ∧ (serving true).life.mclActive = false) ∧ (activating .running).life.mclNext = some { version := 0x0001000000000003, image := imgBytes } ∧ (State.reset.life.mclBusy = false ∧ State.reset.life.mclActive = false ∧ unframed.life.mclBusy = true ∧ imgNat unframed.life.buffer 0 4 ≠ 0x5A504D43) ∧ (loaded.life.mclBusy = true ∧ imgFrame loaded.life.buffer = 0) ∧
    ((withLife fun l => { l with mclVerified := true }).life.mclVerified = true ∧ State.reset.life.mclVerified = false) ∧
    ((activating .stalled).life.mclDue = some 1099199 ∧ (activating .stalled).life.mclActive = true ∧ 1 ≤ (activating .stalled).since 1099199 ∧ (activating .stalled).weir.safe = false ∧ ((activating .stalled).core 0).run = .stalled) ∧
    ((activating .running).cores.length = 48 ∧ ∀ c ∈ (activating .running).cores, c.run = .absent ∨ c.run = .checkstopped ∨ c.betweenInstrs = true) := by decide +kernel
/-- The state that the last clause asks about every number: a number past 47 names no core. -/
theorem witness_MicrocodeLoad_every : ∀ n, ((activating .running).core n).run = .absent ∨ ((activating .running).core n).run = .checkstopped ∨ ((activating .running).core n).betweenInstrs = true := by
  intro n
  rcases Nat.lt_or_ge n 48 with h | h
  · have := witness_MicrocodeLoad.2.2.2.2.2.2
    have hn : n < (activating .running).cores.length := by rw [this.1]; exact h
    have e : (activating .running).core n = (activating .running).cores[n] := by simp [State.core, List.getD_eq_getElem?_getD, List.getElem?_eq_getElem hn]
    rw [e]; exact this.2 _ (List.getElem_mem hn)
  · have hn : (activating .running).cores.length ≤ n := by rw [witness_MicrocodeLoad.2.2.2.2.2.2.1]; exact h
    have e : (activating .running).core n = (activating .running).core 48 := by simp [State.core, List.getD_eq_getElem?_getD, List.getElem?_eq_none hn, List.getElem?_eq_none (Nat.le_of_eq witness_MicrocodeLoad.2.2.2.2.2.2.1)]
    rw [e]; decide +kernel
theorem test_verify_frame : (got (exec .verifyComplete unframed)).map (fun t => (t.life.mclStatus, t.life.mclVerified)) = some (1, false) := by decide +kernel
theorem test_activation_stalled : (got (exec .microcodeActivation (activating .stalled))).map (fun t => (t.life.mclStatus, t.life.mclActive)) = some (8, false) := by decide +kernel

def fused (f : Fuses → Fuses) : State := withLife fun l => { l with fuses := f l.fuses }
theorem witness_LifeCycleCommands : State.reset.weir.safe = false ∧ (0 : BitVec 32) ≠ 0x5A4C4331 ∧ State.reset.life.fuses.state = 2 ∧ ((fused fun f => { f with svc := 256 }).life.fuses.state = 2 ∧ 254 < (fused fun f => { f with svc := 256 }).life.fuses.svc) ∧
    (State.reset.life.fuses.svc ≤ 254 ∧ (paired .active .paired id).ct.pstate ≠ .solo ∧ (paired .active .paired id).life.fuses.state = 2) ∧ ((fused fun f => { f with prov := false }).life.fuses.state = 0 ∧ (fused fun f => { f with prov := false }).ct.pstate = .solo ∧ State.reset.life.okeyh = 0) ∧
    (State.reset.life.change = none ∧ State.reset.weir.safeNext = none) ∧ 64 ≤ (fused fun f => { f with bsvn := 64, msvn := 64 }).life.fuses.bsvn ∧ 64 ≤ (fused fun f => { f with bsvn := 64, msvn := 64 }).life.fuses.msvn ∧
    (fused fun f => { f with bsvn := 63, msvn := 63 }).life.fuses.bsvn < 64 ∧ (fused fun f => { f with bsvn := 63, msvn := 63 }).life.fuses.msvn < 64 := by decide +kernel
theorem test_change : (got (exec (.lcChange 0x5A4C4331 3) State.reset)).map (fun t => (t.life.lcResult, t.weir.safeNext)) = some (0, some 1099200) ∧ (got (exec (.lcChange 0x5A4C4331 1) State.reset)).map (fun t => t.life.lcResult) = some 2 := by decide +kernel
theorem test_raise : (got (exec (.raiseBsvn 0x5A4C4331 0) State.reset)).map (fun t => t.life.fuses.bsvn) = some 1 := by decide +kernel

/-- Slice 1023 in a state, with a PID that slice 5 may hold too. -/
def sliceIs (st : SliceState) (other : SliceState) : State :=
  { State.reset with slices := { Slices.reset with tab := [(5, { Slice.reset with pid := 3, st := other }), (1023, { Slice.reset with pid := 3, st := st, since := 1099199 })] } }
/-- Subchannel 0 established in slice 0. -/
def namedSlice : State := { chan 4 1 0 [] [] [] with slices := slice0 .frozen }
theorem witness_SliceStates : (sliceIs .running .free).portLives .slcmd = true ∧ (1023 : Nat) < 1024 ∧ (sliceIs .running .free).slices.job = none ∧ (sliceIs .running .free).slice 1023 = { Slice.reset with pid := 3, st := .running, since := 1099199 } ∧ (sliceIs .running .free).sliceOps 1023 = [] ∧
    (sliceIs .free .saved).pidInUse 1023 = true ∧ (sliceIs .free .free).pidInUse 1023 = false ∧ ((sliceIs .freezing .free).slice 1023).st = .freezing ∧ 1 ≤ (sliceIs .freezing .free).since ((sliceIs .freezing .free).slice 1023).since ∧
    (sliceIs .freezing .free).sliceOps 1023 = [] ∧ (sliceIs .freezing .free).weir.safe = false ∧ ((sliceIs .frozen .free).slice 1023).st = .frozen ∧ ((sliceIs .saved .free).slice 1023).st = .saved ∧ namedSlice.sliceNamed 0 = true ∧ (namedSlice.slice 0).st ≠ .freezing ∧
    (sliceIs .running .free).sliceNamed 1023 = false := by decide +kernel
theorem test_slice_enable : (got (exec (.sliceEnable 1023) (sliceIs .free .saved))).map (fun t => t.slices.result) = some 2 ∧ (got (exec (.sliceEnable 1023) (sliceIs .free .free))).map (fun t => (t.slice 1023).st) = some .running := by decide +kernel
theorem test_slice_release : (got (exec (.sliceRelease 0) namedSlice)).map (fun t => t.slices.result) = some 9 := by decide +kernel

/-- A SAVE of slice 0 under way to 0x8000. -/
def saving (st : SliceState) : State := { inMem [] [] with slices := { slice0 st with job := some (.save 0 9), addr := 0x1000 } }
/-- CRC-32C byte by byte on numbers, each evaluated before the next. -/
def crcGo : List Byte → Nat → Nat
  | [], a => a
  | b :: bs, 0 => crcGo bs (crcByte 0x82F63B78 0 b).toNat
  | b :: bs, n + 1 => crcGo bs (crcByte 0x82F63B78 (BitVec.ofNat 32 (n + 1)) b).toNat
theorem crcGo_eq (bs : List Byte) : ∀ c : Word32, crcGo bs c.toNat = (crcOver 0x82F63B78 c bs).toNat := by
  induction bs with
  | nil => intro c; rfl
  | cons b bs ih =>
    intro c
    have e : crcGo (b :: bs) c.toNat = crcGo bs (crcByte 0x82F63B78 c b).toNat := by
      rcases h : c.toNat with _ | n
      · have : c = 0 := by apply BitVec.eq_of_toNat_eq; simpa using h
        subst this; rfl
      · have : c = BitVec.ofNat 32 (n + 1) := by rw [← h]; simp
        show crcGo bs (crcByte 0x82F63B78 (BitVec.ofNat 32 (n + 1)) b).toNat = _
        rw [← this]
    rw [e, ih]; rfl
/-- An image of a slice without subchannels, written at beat 9 (R480): PHASE of the four queues and of the two rings stands at 1, and grant 0 gives 16 MiB. -/
def imgBody : List Byte :=
  [0x5A, 0x53, 0x4C, 0x43, 0, 1, 0, 0, 0, 0, 6, 8] ++ List.replicate 11 0 ++ [9] ++ List.replicate 8 0 ++ [0x80] ++ List.replicate 14 0 ++ [8] ++ List.replicate 237 0 ++
  [1] ++ List.replicate 39 0 ++ [1] ++ List.replicate 39 0 ++ [1] ++ List.replicate 39 0 ++ [1] ++ List.replicate 37 0 ++ [1] ++ List.replicate 39 0 ++ [1] ++ List.replicate 1052 0
def savedImage : List Byte := imgBody ++ [0, 0, 0, 0, 0xC5, 0x96, 0x4C, 0x7C]
theorem imgBody_crc : crc32c imgBody = 0xC5964C7C := by
  have h : (crcOver 0x82F63B78 0xFFFFFFFF imgBody).toNat = (0x3A69B383 : Word32).toNat := by rw [← crcGo_eq]; decide +kernel
  have e := BitVec.eq_of_toNat_eq h
  unfold crc32c; rw [e]; decide
/-- A RESTORE of slice 0 under way from 0x8000, where the image stands. -/
def restoring (st : SliceState) : State := { inMem [] [] with mem := [(0x8000, 0x5A), (0x8001, 0x53), (0x8002, 0x4C), (0x8003, 0x43), (0x8005, 0x1), (0x800A, 0x6), (0x800B, 0x8), (0x8017, 0x9), (0x8020, 0x80), (0x802F, 0x8), (0x811D, 0x1), (0x8145, 0x1), (0x816D, 0x1), (0x8195, 0x1), (0x81BB, 0x1), (0x81E3, 0x1), (0x8604, 0xC5), (0x8605, 0x96), (0x8606, 0x4C), (0x8607, 0x7C)], slices := { slice0 st with job := some (.restore 0 9), addr := 0x1000 } }
theorem witness_SaveAndRestore : State.reset.portLives .slcmd = true ∧ State.reset.slices.job = none ∧ (saving .frozen).slices.job = some (.save 0 9) ∧ (saving .frozen).weir.safe = false ∧ ((saving .running).slice 0).st ≠ .frozen ∧
    (((saving .frozen).slice 0).st = .frozen ∧ (saving .frozen).sliceActive 0 = false ∧ (saving .frozen).saveVerdict 0 = 0) ∧
    (({ saving .frozen with css := { Css.reset with held := [heldDone] } } : State).sliceActive 0 = true) ∧
    ((restoring .frozen).slices.job = some (.restore 0 9) ∧ ((restoring .frozen).slice 0).st ≠ .free) := by decide +kernel
theorem witness_Save : ((saving .frozen).devWrite 0x880 (saving .frozen).slices.imageAt ((saving .frozen).image 0 9)).isSome = true := by decide +kernel
theorem witness_SaveJournaled : (let s : State := { chan 4 1 0 [] [] [] with slices := { slice0 .frozen with job := some (.save 0 9) }, ct := { Ct.reset with recs := [rec0] } }; (s.slice 0).st = .frozen ∧ s.sliceActive 0 = false ∧ s.sliceJournaled 0 = true) := by decide +kernel
theorem imgFormat_saved : imgFormat savedImage = true := by
  have e : savedImage.take (savedImage.length - 8) = imgBody := by decide +kernel
  unfold imgFormat; rw [e, imgBody_crc]; decide +kernel
theorem restoring_image : (restoring .free).readImage = (1544, savedImage, restoring .free) := by decide +kernel
theorem witness_Restore : (restoring .free).slices.job = some (.restore 0 9) ∧ (restoring .free).weir.safe = false ∧ (restoring .free).readImage.2.2.restoreVerdict 0 (restoring .free).readImage.1 (restoring .free).readImage.2.1 = 0 ∧
    imgSchs (restoring .free).readImage.2.1 = 0 := by
  rw [restoring_image]
  refine ⟨by decide +kernel, by decide +kernel, ?_, by decide +kernel⟩
  unfold State.restoreVerdict; rw [imgFormat_saved]; decide +kernel
theorem test_save : (got (exec .sliceBusyEnd (saving .frozen))).map (fun t => (t.slices.result, t.slices.len, (t.slice 0).st)) = some (0, 1544, .saved) := by decide +kernel

/-! Ports and the whole machine. -/

theorem witness_PortAccesses : (47 : Nat) < State.reset.cores.length ∧ (State.reset.core 47).run ≠ .absent ∧ State.reset.life.fuses.state = 2 ∧ ¬((fused fun f => { f with prov := false }).life.fuses.state = 2 ∨ (fused fun f => { f with prov := false }).life.fuses.state = 3) := by decide +kernel
theorem test_read_clear : (got (exec (.readClear 3 0xE00010) { State.reset with weir := { Weir.reset with drop := 7 } })).map (fun t => t.weir.drop) = some 0 := by decide +kernel
theorem witness_TodAdvances : (-2147483 : BitVec 32).toInt.natAbs ≤ 2147483 ∧ Plant.reset.slew = 0 ∧ ({ Plant.reset with refCycle := 99 } : Plant).refCycle < 100 ∧ Plant.reset.todBase.toNat + 2 ^ 65 < 2 ^ 128 := by decide +kernel
theorem witness_Retirement : k0.lcn < State.reset.cores.length := by decide +kernel
def queued (c : Instr) (s : State) : State := { s with pending := [c] }
theorem witness_MemoryStaysCanonical : (queued (.nop k0) State.reset).mem.wf = true ∧ (got (step (queued (.nop k0) State.reset))).isSome = true := by decide +kernel
theorem witness_FusesOnlyBlown : (got (step (queued (.raiseMsvn 0x5A4C4331 0) State.reset))).isSome = true := by decide +kernel
theorem witness_SafeStateHolds : (let s := queued (.referenceLoss) { State.reset with weir := { Weir.reset with safe := true } }; s.pending = .referenceLoss :: [] ∧ endsSafe .referenceLoss = false ∧ s.weir.safe = true ∧ (got (step s)).isSome = true) := by decide +kernel
theorem test_step_front : (got (step { State.reset with pending := [.pwronFall, .nop k0] })).map (fun t => t.pending) = some [.nop k0] := by decide +kernel
theorem witness_StepRunsFront : ({ State.reset with pending := [.pwronFall, .nop k0] } : State).pending = .pwronFall :: [.nop k0] ∧ State.reset.pending = [] := ⟨rfl, rfl⟩
theorem test_step_idle : step State.reset = .next State.reset := rfl
theorem test_no_word : decodeTableWord 8 0 = none ∧ State.reset.withFetchWord 8 0 = State.reset := ⟨rfl, rfl⟩

/-! Well-formedness: an ill-formed command for each check, which it refuses. -/

def badInsn : Insn := { k0 with lcn := 48 }
theorem test_wf_lcn : (Instr.nop badInsn).wf = false ∧ (Instr.nop { k0 with lcn := 47 }).wf = true ∧ (Instr.takeInterrupt 48).wf = false ∧ (Instr.coreSparing 48 []).wf = false ∧ (Instr.powerDownAccept 48).wf = false ∧ (Instr.readClear 48 0).wf = false ∧
    (Instr.registerWrite 48 0 0).wf = false ∧ (Instr.coreReset 48 0 true []).wf = false ∧ (Instr.tlbi 48 0).wf = false ∧ (Instr.tlba 0 48).wf = false := by decide
theorem test_wf_slot : (Instr.br k0 { slotBit := true, disp := 0, slotLen := 0 }).wf = false ∧ (Instr.br k0 { slotBit := true, disp := 0, slotLen := 10 }).wf = false ∧ (Instr.br k0 { slotBit := true, disp := 0, slotLen := 9 }).wf = true ∧ (Instr.ret k0 { slotBit := true, slotLen := 0 }).wf = false := by decide
theorem test_wf_store : (Instr.storePerformed 0 64).wf = false ∧ (Instr.machineCheckStoredData 0 (2 ^ 44)).wf = false := by decide +kernel
theorem test_wf_line : (Instr.rds 84 0 false).wf = false ∧ (Instr.rds 83 (2 ^ 44) false).wf = false ∧ (Instr.rds 83 (2 ^ 44 - 1) true).wf = true ∧ (Instr.hedgerowError 52 0).wf = false ∧ (Instr.wayDrainComplete 16 0).wf = false ∧ (Instr.wayDrainComplete 0 16).wf = false := by decide +kernel
theorem test_wf_mask : (Instr.wrna 0 0 [(256, 1)]).wf = false ∧ (Instr.wrna 0 0 [(3, 1), (3, 2)]).wf = false ∧ (Instr.wrna 0 0 [(0, 1), (255, 2)]).wf = true := by decide
theorem test_wf_bursts : (Instr.dramLineRead 0 { corrected := [1, 1], bad := [], retries := [], parityOff := false }).wf = false ∧ (Instr.dramLineRead 0 { corrected := [1], bad := [1], retries := [], parityOff := false }).wf = false ∧
    (Instr.dramLineRead 0 { corrected := [], bad := [2, 2], retries := [], parityOff := false }).wf = false ∧ (Instr.scrubLine 4 { corrected := [], bad := [], retries := [], parityOff := false }).wf = false ∧ (Instr.channelFail 20 .link).wf = false := by decide
theorem test_wf_subchannel : (Instr.ccwNop (2 ^ 20)).wf = false ∧ (Instr.ccwNop (2 ^ 20 - 1)).wf = true ∧ (Instr.scpAck (2 ^ 20 + 1) (frame 4 [])).wf = false ∧ (Instr.scpAck (2 ^ 20) (frame 4 [])).wf = true ∧ (Instr.tcpSegment (2 ^ 20) segment).wf = false ∧
    (Instr.scpRetransmit (2 ^ 20 + 2)).wf = false ∧ (Instr.scpRetransmit leatKey).wf = true ∧ (Instr.delayedAck leatKey).wf = true ∧ (Instr.keepaliveTimer witnessKey).wf = true ∧ (Instr.fenceResend witnessKey).wf = false := by decide +kernel
theorem test_wf_payload (bs : List Byte) (h : bs.length = 65536) : (Instr.scpData 0 (frame 3 bs)).wf = false := by
  show (decide (0 ≤ 2 ^ 20) && decide (bs.length < 2 ^ 16)) = false
  simp [h]
theorem test_wf_sack : (Instr.tcpSegment 0 { segment with sack := List.replicate 5 (0, 0) }).wf = false := by decide +kernel
theorem test_wf_queue : (Instr.cqEnable 4096 0).wf = false ∧ (Instr.heldCompletionWrite 4095).wf = true ∧ (Instr.czSubmit 1024 0).wf = false ∧ (Instr.keyLoad 1023 0).wf = true ∧ (Instr.sliceEnable 1024).wf = false := by decide
theorem test_wf_port : (Instr.linkDown 16 0).wf = false ∧ (Instr.frameReceive 0 (ethFrame 16384)).wf = false ∧ (Instr.frameReceive 15 (ethFrame 16383)).wf = true := by decide
theorem test_wf_report : (Instr.weirEvent (some { ev 4096 .fatal with station := 0 })).wf = false ∧ (Instr.weirEvent (some { ev 0 .fatal with station := 84 })).wf = false ∧ (Instr.windowRoll 4096).wf = false ∧ (Instr.cpSparing 32).wf = false := by decide
theorem test_wf_entries : (Instr.delta (head 1) 0 [.mem 1 []]).wf = false ∧ (Instr.delta (head 1) 0 [.mem (2 ^ 52) []]).wf = false ∧ (Instr.delta (head 1) 0 [.cbs 0 [1]]).wf = false ∧ (Instr.delta (head 1) 0 [.reserved 4]).wf = false ∧ (Instr.delta (head 1) 0 [.reserved 5, .retire 0 0]).wf = true := by decide +kernel
/-- R207, R217, R219: 448 physical registers and 128 words of the checkpoint. -/
theorem test_wf_retry : (Instr.instructionRetry 0 (.physicalRegister 448) none).wf = false ∧ (Instr.instructionRetry 0 (.physicalRegister 447) none).wf = true ∧ (Instr.instructionRetry 0 (.checkpointWord 128 true) none).wf = false ∧
    (Instr.instructionRetry 0 (.l1Line true (2 ^ 44)) none).wf = false ∧ (Instr.instructionRetry 0 (.walkRead (2 ^ 44)) none).wf = false := by decide +kernel
theorem test_wf_filter : (Instr.filteredModeChange (.testBegins 52 0 [])).wf = false ∧ (Instr.filteredModeChange (.testBegins 0 16 [])).wf = false ∧ (Instr.filteredModeChange (.testEnds [2 ^ 44])).wf = false ∧ (Instr.filteredModeChange .atBoundary).wf = true := by decide +kernel
/-- R28, R271: 52 cores, 36 CPs, 20 channels, 16 ways in 16 slices. -/
theorem test_wf_start : (Instr.coldReset .command { goodStart with cores := [52] }).wf = false ∧ (Instr.coldReset .command { goodStart with cps := [36] }).wf = false ∧ (Instr.warmReset .command { goodStart with dimms := [] }).wf = false ∧
    (Instr.warmReset .command { goodStart with training := [20] }).wf = false ∧ (Instr.warmReset .command { goodStart with ways := [(16, 0)] }).wf = false ∧ (Instr.coldReset .boardInput badStart).wf = true := by decide
theorem test_wf_station : (Instr.linkAck 84 .cw).wf = false := by decide

end Sys2Proof.Tests
end

section
/-! SUPPORT. The port instructions IN and OUT (R98, R99) and the checks of R523, which settle O24. -/

namespace Sys2Proof.Machine

/-! The start of an instruction, and changes that leave a core as it is. -/

/-- An instruction without prefixes that produces no more entries of the data stack than it consumes, all of them cached: its own execution decides. -/
theorem Ready.instr_shrinking {k : Insn} {o : Op} {i j : Nat} {body : Run Retire} {s : State} (h : Ready s k.lcn) (he : o.entry = none) (hk : k.pfx = [])
    (hn : o.noSlot = false) (hv : o.priv = false) (hi : i ≤ (s.core k.lcn).ds.cache.length) (hj : j ≤ i) :
    instr k o i j 0 0 body s = settle s k.lcn o.len (s.sup k.lcn) (body s) := by
  have hds := h.dsMax
  have hrs := h.rsMax
  exact instr_next h (.inl he) hk (fun _ => hn) (by simp [hv]) hi (by omega) (Nat.zero_le _) (by omega)

/-- A core whose change leaves it as it was: the state is the same. -/
theorem State.modCore_self {s : State} {n : Nat} {f : Core → Core} (h : f (s.core n) = s.core n) : s.modCore n f = s := by
  rw [s.modCore_congr n (g := id) h]
  simp [State.modCore, modAt]

theorem Core.countDue_nil {c : Core} (h : c.due = []) (sup : Bool) (f : Nat → Bool) : c.countDue sup f = c := by
  cases c
  simp_all [Core.countDue]

/-- A core that owes no event and waits for nothing is as it was when its instruction does not retire. -/
theorem Core.unretired_self {c : Core} (hd : c.due = []) (hw : c.ioWait = none) (sup : Bool) : c.unretired sup = c := by
  rw [Core.unretired, Core.countDue_nil hd]
  cases c
  simp_all

/-- An instruction that raises an exception before it changes anything (R141). -/
theorem Ready.settle_exc {s : State} {n : Nat} (h : Ready s n) (len : Nat) (sup : Bool) (e : Exc) :
    settle s n len sup (.error (.exc e) s) = s.raises n e := by
  have hself : s.modCore n (fun c => c.unretired sup) = s := State.modCore_self (Core.unretired_self h.owes h.ioWait sup)
  rw [settle, hself, State.raises]

/-- An activation's switch waits while an IN of the core is outstanding (R244). -/
theorem State.switchDue_reading {s : State} {n : Nat} {a : PortAccess} (h : (s.core n).devRead = some a) : s.switchDue n = s := by
  simp [State.switchDue, Core.betweenInstrs, h]

/-- An IN that is left outstanding keeps its place at the pc (R99): only the marks of a retirement change. -/
theorem State.retire_reading {s : State} {n : Nat} {a : PortAccess} (hn : n < s.cores.length) (hd : (s.core n).due = [])
    (ha : (s.core n).devRead = some a) (len : Nat) (sup : Bool) :
    (s.retire n len sup .stay).core n = { s.core n with slotFresh := false, retries := 0, ioWait := none, strProgress := false } := by
  have hdone : s.retire n len sup .stay = (s.modCore n fun c => { c with slotFresh := false, retries := 0, ioWait := none, strProgress := false }).switchDue n := by
    unfold State.retire
    rw [if_pos rfl]
    refine congrArg (State.switchDue · n) (State.modCore_congr s n ?_)
    simp [Core.countDue_nil hd, Core.advance, ha]
  rw [hdone, State.switchDue_reading (a := a) (by simpa [State.modCore_core _ _ _ hn] using ha), State.modCore_core _ _ _ hn]

/-- An IN of core n left outstanding at its unit (R99). -/
def State.leaveRead (s : State) (n : Nat) (a : PortAccess) : State := s.modCore n fun c => { c with devRead := some a }

@[simp] theorem State.leaveRead_length (s : State) (n : Nat) (a : PortAccess) : (s.leaveRead n a).cores.length = s.cores.length :=
  s.modCore_length n _

theorem State.leaveRead_core {s : State} {n : Nat} (h : n < s.cores.length) (a : PortAccess) : (s.leaveRead n a).core n = { s.core n with devRead := some a } :=
  s.modCore_core n _ h

/-- The core of an IN that is left outstanding: the access, and the marks of a retirement, alone. -/
theorem State.leaveRead_stays {s : State} {n : Nat} (hn : n < s.cores.length) (hd : (s.core n).due = []) (a : PortAccess) (len : Nat) (sup : Bool) :
    ((s.leaveRead n a).retire n len sup .stay).core n =
      { s.core n with devRead := some a, slotFresh := false, retries := 0, ioWait := none, strProgress := false } := by
  have hcore := State.leaveRead_core hn a
  rw [State.retire_reading (s := s.leaveRead n a) (a := a) (by simpa using hn) (by rw [hcore]; exact hd) (by rw [hcore]), hcore]

/-! The checks of R523, in their order. -/

/-- The upper half of a port address is zero exactly below 2^32. -/
theorem fld_high_eq_zero_iff {p : Word} : fld p 32 32 = 0 ↔ p.toNat < 2 ^ 32 := by
  have hp := p.isLt
  have hv : (fld p 32 32).toNat = p.toNat / 2 ^ 32 % 2 ^ 32 := by simp [fld, BitVec.extractLsb'_toNat, Nat.shiftRight_eq_div_pow]
  rw [← BitVec.toNat_inj, hv]
  simp
  omega

theorem State.checkPort_high {s : State} {c : Core} {p : Word} (wide : Bool) (h : 2 ^ 32 ≤ p.toNat) : s.checkPort c p wide = .inl 3 := by
  rw [State.checkPort, if_pos (fld_high_eq_zero_iff.not.mpr (by omega))]

theorem State.checkPort_undefined {s : State} {c : Core} {p : Word} (wide : Bool) (h : p.toNat < 2 ^ 32) (hp : portAt p.toNat = none) :
    s.checkPort c p wide = .inl 1 := by
  simp [State.checkPort, fld_high_eq_zero_iff.mpr h, hp]

theorem State.checkPort_denied {s : State} {c : Core} {p : Word} {q : Port} (wide : Bool) (h : p.toNat < 2 ^ 32) (hp : portAt p.toNat = some q)
    (hd : (pswS c.psw = false ∧ q.userOk = false) ∨ ∃ j, q.page = some j ∧ s.sliceOfPid c.pid ≠ some j) : s.checkPort c p wide = .inl 0 := by
  rcases hd with ⟨hs, hu⟩ | ⟨j, hj, hn⟩
  · simp [State.checkPort, fld_high_eq_zero_iff.mpr h, hp, hs, hu]
  · simp [State.checkPort, fld_high_eq_zero_iff.mpr h, hp, hj, hn]

theorem PortOpen.checkPort {s : State} {n : Nat} {p : Word} {q : Port} (h : PortOpen s n p q) (wide : Bool) :
    s.checkPort (s.core n) p wide = if wide then .inr q else .inl 2 := by
  have hpage : (q.page.isSome && s.sliceOfPid (s.core n).pid != q.page) = false := by
    cases hq : q.page with
    | none => rfl
    | some j => simp [h.page j hq]
  have hpriv : (!pswS (s.core n).psw && !q.userOk) = false := by
    rcases h.privilege with hs | hu
    · simp [show pswS (s.core n).psw = true from hs]
    · simp [hu]
  cases wide <;> simp [State.checkPort, fld_high_eq_zero_iff.mpr h.low, h.defined, hpriv, hpage]

/-! The course of a port instruction. -/

/-- The exception of a port instruction of core n that a check of R523 refuses. -/
def State.portFault (s : State) (n cause : Nat) (p : Word) : Exc :=
  { Exc.plain 21 4 (s.core n).pc with cause := BitVec.ofNat 16 cause, info := p }

theorem openPort_refused {s : State} {n cause : Nat} {b : Byte} {p : Word} {wide : Bool} (h : s.checkPort (s.core n) p wide = .inl cause) :
    openPort n b p wide s = .error (.exc (s.portFault n cause p)) s := by
  simp [openPort, h, ioProtection, State.portFault]

/-- Nothing is left to wait for (R99): the drain changes nothing. -/
theorem ioDrain_idle {s : State} {n : Nat} {code : List Byte} (hsb : (s.core n).sb = []) (hds : (s.core n).devStore = none) :
    ioDrain n code s = .ok () s := by
  have hself : s.modCore n (fun c => { c with sb := [] }) = s := State.modCore_self (by rw [← hsb])
  have hdrain : s.drain n = some s := by simp [State.drain, hsb, State.performAll, hself]
  have hwait : orWait (fun s => s.drain n) s = .ok () s := orWait_some hdrain
  have hsettle : s.settleStore n = some s := by simp [State.settleStore, hds]
  simp [ioDrain, hwait, hsettle]

theorem PortOpen.openPort {s : State} {n : Nat} {p : Word} {q : Port} (h : PortOpen s n p q) (b : Byte) : openPort n b p true s = .ok q s := by
  have hself : s.endHold n = s := State.modCore_self (by rw [← h.held])
  simp [Machine.openPort, h.checkPort, hself, ioDrain_idle h.drained h.answered]

section
variable {k : Insn} {s : State} {b : Byte} {p x : Word} {rest : List Word} {wide : Bool} {cause : Nat} {q : Port}

theorem portIn_refused (h : Ready s k.lcn) (hk : k.pfx = []) (hc : (s.core k.lcn).ds.cache = p :: rest)
    (hq : s.checkPort (s.core k.lcn) p wide = .inl cause) : portIn k b wide s = s.raises k.lcn (s.portFault k.lcn cause p) := by
  rw [portIn, h.instr_shrinking rfl hk rfl rfl (by simp [hc]) (by decide)]
  simp [hc, t0, openPort_refused hq, h.settle_exc]

theorem portOut_refused (h : Ready s k.lcn) (hk : k.pfx = []) (hc : (s.core k.lcn).ds.cache = p :: x :: rest)
    (hq : s.checkPort (s.core k.lcn) p wide = .inl cause) : portOut k b wide s = s.raises k.lcn (s.portFault k.lcn cause p) := by
  rw [portOut, h.instr_shrinking rfl hk rfl rfl (by simp [hc]) (by decide)]
  simp [hc, t0, openPort_refused hq, h.settle_exc]

/-- IN from a unit that answers (R98, R99, R11). -/
theorem portIn_answered (h : Ready s k.lcn) (hk : k.pfx = []) (hq : PortOpen s k.lcn p q) (hc : (s.core k.lcn).ds.cache = p :: rest)
    (ha : s.portAnswers q = true) : portIn k b true s = .next
      (((s.portRead k.lcn q).2.modCore k.lcn (fun c => c.pushes 1 [(s.portRead k.lcn q).1])).retire k.lcn 1 (s.sup k.lcn) .next) := by
  rw [portIn, h.instr_shrinking rfl hk rfl rfl (by simp [hc]) (by decide)]
  simp [hc, t0, hq.openPort, ha, settle_ok, op]

/-- IN from a unit that does not answer leaves the access outstanding, and the instruction where it stands (R99, R195). -/
theorem portIn_outstanding (h : Ready s k.lcn) (hk : k.pfx = []) (hq : PortOpen s k.lcn p q) (hc : (s.core k.lcn).ds.cache = p :: rest)
    (ha : s.portAnswers q = false) : portIn k b true s = .next
      ((s.leaveRead k.lcn (s.access p 0 true)).retire k.lcn 1 (s.sup k.lcn) .stay) := by
  rw [portIn, h.instr_shrinking rfl hk rfl rfl (by simp [hc]) (by decide)]
  simp [hc, t0, hq.openPort, ha, settle_ok, op, State.leaveRead]

/-- OUT leaves a device store outstanding (R98, R99). -/
theorem portOut_issued (h : Ready s k.lcn) (hk : k.pfx = []) (hq : PortOpen s k.lcn p q) (hc : (s.core k.lcn).ds.cache = p :: x :: rest) :
    portOut k b true s = .next (s.after k 1 fun c => { c.withStack rest with devStore := some (s.access p x true) }) := by
  rw [portOut, h.instr_shrinking rfl hk rfl rfl (by simp [hc]) (by decide)]
  rw [State.after_congr s k 1 (g := fun c => { c.pushes 2 [] with devStore := some (s.access p x true) }) (by simp [Core.pushes, Core.withStack, hc])]
  simp [hc, t0, t1, hq.openPort, settle_ok, op, State.after, hk]

end

/-- A port instruction that a check of R523 refuses, whatever its width would do: its exception, with nothing issued. -/
theorem port_refused {k : Insn} {s : State} {p x : Word} {rest : List Word} {i : Instr} {cause : Nat} (h : Ready s k.lcn) (hk : k.pfx = [])
    (hc : (s.core k.lcn).ds.cache = p :: x :: rest) (hi : i ∈ ([.ind k, .inw k, .outd k, .outw k] : List Instr))
    (hq : ∀ wide, s.checkPort (s.core k.lcn) p wide = .inl cause) : exec i s = s.raises k.lcn (s.portFault k.lcn cause p) := by
  simp only [List.mem_cons, List.not_mem_nil, or_false] at hi
  obtain rfl | rfl | rfl | rfl := hi
  · exact portIn_refused h hk hc (hq _)
  · exact portIn_refused h hk hc (hq _)
  · exact portOut_refused h hk hc (hq _)
  · exact portOut_refused h hk hc (hq _)

theorem portInstructions_of_open : Claim.PortInstructions := by
  intro k s p x rest q h hk hq c wrong
  have narrow : s.checkPort (s.core k.lcn) p false = .inl 2 := hq.checkPort false
  refine ⟨fun hc => ⟨portIn_answered h hk hq hc, fun ha => ?_, portIn_refused h hk hc narrow⟩, fun hc => ⟨portOut_issued h hk hq hc, portOut_refused h hk hc narrow⟩⟩
  have hstay := State.leaveRead_stays h.lt h.owes (s.access p 0 true) 1 (s.sup k.lcn)
  exact ⟨_, portIn_outstanding h hk hq hc ha, by rw [hstay]; rfl, by rw [hstay], by rw [hstay]⟩

theorem portChecks_in_order : Claim.PortChecks := by
  intro k s p x rest i h hk hc hi c bad
  exact ⟨fun hp => port_refused h hk hc hi fun wide => State.checkPort_high wide hp,
    fun hp hn => port_refused h hk hc hi fun wide => State.checkPort_undefined wide hp hn,
    fun q hp hs hd => port_refused h hk hc hi fun wide => State.checkPort_denied wide hp hs hd⟩

/-- Settles O24: what IN and OUT of an open port do, and the checks of R523 in their order. -/
theorem portInstructions : Obligations.PortInstructions := ⟨portInstructions_of_open, portChecks_in_order⟩

end Sys2Proof.Machine
end

section
/-! SUPPORT. The slice table: its commands (R474 to R478, R483), SAVE and RESTORE (R479 to R482), and the ports whose reads clear, which settle O57. -/

namespace Sys2Proof.Machine

/-! Tables by number. -/

section
variable {α : Type} (xs : List (Nat × α)) (k m : Nat) (v d : α)

/-- Where a number is looked up after an entry was set. -/
theorem find?_assoc : (assoc xs k v).find? (fun p => p.1 == m) = if m = k then some (k, v) else xs.find? (fun p => p.1 == m) := by
  unfold assoc
  split
  · rename_i hk
    have hkey : ((fun p : Nat × α => p.1 == m) ∘ fun p => if p.1 == k then (k, v) else p) = fun p => p.1 == m := by
      funext p
      by_cases hp : p.1 = k <;> simp [hp]
    rw [List.find?_map, hkey]
    by_cases hm : m = k
    · subst hm
      obtain ⟨q, hq⟩ := Option.isSome_iff_exists.mp ((List.find?_isSome (p := fun p : Nat × α => p.1 == m)).mpr (List.any_eq_true.mp hk))
      have hqm : q.1 = m := by simpa using List.find?_some hq
      simp [hq, hqm]
    · cases hq : xs.find? (fun p => p.1 == m) with
      | none => simp [hm]
      | some q =>
        have hqm : q.1 = m := by simpa using List.find?_some hq
        simp [hm, hqm]
  · rename_i hk
    by_cases hm : m = k
    · simp [hm]
    · simp [hm, Ne.symm hm]

theorem lookupD_assoc_same : lookupD (assoc xs k v) k d = v := by
  simp [lookupD, find?_assoc]

theorem lookupD_assoc_other (h : m ≠ k) : lookupD (assoc xs k v) m d = lookupD xs m d := by
  simp [lookupD, find?_assoc, h]

theorem lookupD_unassoc_same : lookupD (unassoc xs k) k d = d := by
  have : (unassoc xs k).find? (fun p => p.1 == k) = none := by simp [unassoc]
  simp [lookupD, this]

theorem lookupD_unassoc_other (h : m ≠ k) : lookupD (unassoc xs k) m d = lookupD xs m d := by
  have : (unassoc xs k).find? (fun p => p.1 == m) = xs.find? (fun p => p.1 == m) := by
    rw [unassoc, List.find?_filter]
    congr 1
    funext p
    by_cases hp : p.1 = m <;> simp [hp, h]
  simp [lookupD, this]

end

/-! A slice and the slice commands. -/

section
variable (s : State) (k : Nat) (f : Slice → Slice)

@[simp] theorem State.modSlice_slice_same : (s.modSlice k f).slice k = f (s.slice k) := lookupD_assoc_same _ _ _ _

theorem State.modSlice_slice_other {m : Nat} (h : m ≠ k) : (s.modSlice k f).slice m = s.slice m := lookupD_assoc_other _ _ _ _ _ h

/-- A slice changed with its RESULT: that slice and RESULT alone. -/
theorem State.modSlice_result (r : Byte) : ((s.modSlice k f).slResult r).slice k = f (s.slice k) ∧ (∀ m, m ≠ k → ((s.modSlice k f).slResult r).slice m = s.slice m) ∧
    ((s.modSlice k f).slResult r).slices.result = r ∧ ((s.modSlice k f).slResult r).mem = s.mem :=
  ⟨s.modSlice_slice_same k f, fun _ h => s.modSlice_slice_other k f h, rfl, rfl⟩

@[simp] theorem State.slResult_slice (r : Byte) (m : Nat) : (s.slResult r).slice m = s.slice m := rfl
@[simp] theorem State.slResult_result (r : Byte) : (s.slResult r).slices.result = r := rfl
@[simp] theorem State.setSliceState_mem (st : SliceState) : (s.setSliceState k st).mem = s.mem := rfl
@[simp] theorem State.setSliceState_slice_same (st : SliceState) : (s.setSliceState k st).slice k = { s.slice k with st := st } := s.modSlice_slice_same k _

/-- A change of the slice table that keeps its rows keeps every slice. -/
theorem State.modSlices_slice {g : Slices → Slices} (h : ∀ x, (g x).tab = x.tab) (m : Nat) : (s.modSlices g).slice m = s.slice m := by
  rw [State.slice, State.modSlices_slices, h, State.slice]

@[simp] theorem State.slResult_job (r : Byte) : (s.slResult r).slices.job = s.slices.job := rfl
@[simp] theorem State.slResult_len (r : Byte) : (s.slResult r).slices.len = s.slices.len := rfl
@[simp] theorem State.slResult_cx (r : Byte) : (s.slResult r).cx = s.cx := rfl
@[simp] theorem State.slResult_mem (r : Byte) : (s.slResult r).mem = s.mem := rfl

/-- SLICE of SLCMD as a command writes it (R474). -/
def State.selectSlice : State := s.modSlices fun x => { x with slice := BitVec.ofNat 10 k }

@[simp] theorem State.selectSlice_slice (m : Nat) : (s.selectSlice k).slice m = s.slice m := rfl
@[simp] theorem State.selectSlice_beatc : (s.selectSlice k).beatc = s.beatc := rfl

end

section
variable {s : State} {k : Nat}

/-- A slice command whose port lives acts as the write of SLCMD does (R10, R474). -/
theorem sliceRow_acts {op : Nat} {r : Option State} (hk : k < 1024) (hl : s.portLives .slcmd = true) (hr : s.sliceCommand op k = r) :
    sliceRow op k s = orSame s r := by
  rw [sliceRow, if_neg (by omega), portRow, if_pos hl, hr]

/-- A write of SLCMD while the port is BUSY (R474). -/
theorem sliceCommand_busy {op : Nat} (hj : s.slices.job ≠ none) : s.sliceCommand op k = some s := by
  rw [State.sliceCommand, if_pos (Option.isSome_iff_ne_none.mpr hj)]

/-- While the port is BUSY no command acts, whether the port lives or not (R10, R474). -/
theorem sliceRow_busy {op : Nat} (hk : k < 1024) (hj : s.slices.job ≠ none) : sliceRow op k s = .next s := by
  rw [sliceRow, if_neg (by omega), portRow, sliceCommand_busy hj]
  split <;> rfl

section
variable (hk : k < 1024) (hl : s.portLives .slcmd = true) (hj : s.slices.job = none)
include hk hl hj

/-! Each command writes SLICE and then acts (R474). -/

theorem exec_sliceEnable_eq : exec (.sliceEnable k) s = .next ((s.selectSlice k).slEnable k) :=
  sliceRow_acts hk hl (r := some _) (by simp [State.sliceCommand, hj, State.selectSlice])
theorem exec_sliceFreeze_eq : exec (.sliceFreeze k) s = orSame s ((s.selectSlice k).slFreeze k) :=
  sliceRow_acts hk hl (by simp [State.sliceCommand, hj, State.selectSlice])
theorem exec_sliceThaw_eq : exec (.sliceThaw k) s = .next ((s.selectSlice k).slThaw k) :=
  sliceRow_acts hk hl (r := some _) (by simp [State.sliceCommand, hj, State.selectSlice])
theorem exec_sliceSave_eq : exec (.sliceSave k) s = .next ((s.selectSlice k).modSlices fun x => { x with job := some (.save k s.beatc) }) :=
  sliceRow_acts hk hl (r := some _) (by simp [State.sliceCommand, hj, State.selectSlice, State.beatc])
theorem exec_sliceRestore_eq : exec (.sliceRestore k) s = .next ((s.selectSlice k).modSlices fun x => { x with job := some (.restore k s.beatc) }) :=
  sliceRow_acts hk hl (r := some _) (by simp [State.sliceCommand, hj, State.selectSlice, State.beatc])
theorem exec_sliceRelease_eq : exec (.sliceRelease k) s = .next ((s.selectSlice k).slRelease k) :=
  sliceRow_acts hk hl (r := some _) (by simp [State.sliceCommand, hj, State.selectSlice])

end

/-! What each command does, in every state. -/

theorem slEnable_notFree (h : (s.slice k).st ≠ .free) : s.slEnable k = s.slResult 1 := by rw [State.slEnable, if_pos h]
theorem slEnable_pidInUse (h : (s.slice k).st = .free) (hp : s.pidInUse k = true) : s.slEnable k = s.slResult 2 := by
  rw [State.slEnable, if_neg (not_not.mpr h), if_pos hp]
theorem slEnable_runs (h : (s.slice k).st = .free) (hp : s.pidInUse k = false) : s.slEnable k = (s.setSliceState k .running).slResult 0 := by
  rw [State.slEnable, if_neg (not_not.mpr h), if_neg (by simp [hp])]

theorem slFreeze_notRunning (h : (s.slice k).st ≠ .running) : s.slFreeze k = some (s.slResult 1) := by rw [State.slFreeze, if_pos h]
/-- FREEZE of a slice without operations in flight halts nothing (R476). -/
theorem slFreeze_idle (h : (s.slice k).st = .running) (ho : s.sliceOps k = []) :
    s.slFreeze k = some (((s.modSlice k fun x => { x with st := .freezing, since := s.beatc }).abortJobs k).slResult 0) := by
  rw [State.slFreeze, if_neg (not_not.mpr h)]
  have : (s.modSlice k fun x => { x with st := .freezing, since := s.beatc }).sliceOps k = [] := ho
  simp [this, State.haltAll]

theorem slThaw_runs (h : (s.slice k).st = .frozen ∨ (s.slice k).st = .saved) :
    s.slThaw k = (s.modSlice k fun x => { x with st := .running, thawAt := some s.beatc }).slResult 0 := by rw [State.slThaw, if_pos h]
theorem slThaw_refused (hf : (s.slice k).st ≠ .frozen) (hs : (s.slice k).st ≠ .saved) : s.slThaw k = s.slResult 1 := by
  rw [State.slThaw, if_neg (by simp [hf, hs])]

theorem slRelease_freezing (h : (s.slice k).st = .freezing) : s.slRelease k = s.slResult 1 := by rw [State.slRelease, if_pos h]
theorem slRelease_named (h : (s.slice k).st ≠ .freezing) (hn : s.sliceNamed k = true) : s.slRelease k = s.slResult 9 := by
  rw [State.slRelease, if_neg h, if_pos hn]

@[simp] theorem eraseAll_mem (s : State) (k i : Nat) : (s.eraseAll k i).mem = s.mem := rfl
@[simp] theorem abortJobs_mem (s : State) (k : Nat) : (s.abortJobs k).mem = s.mem := rfl
@[simp] theorem abortJobs_slice (s : State) (k m : Nat) : (s.abortJobs k).slice m = s.slice m := rfl
@[simp] theorem eraseAll_keys (s : State) (k i : Nat) : (s.eraseAll k i).cx.keys = s.cx.keys.filter (fun p => p.1 / 64 != k) := rfl
@[simp] theorem abortJobs_keys (s : State) (k : Nat) : (s.abortJobs k).cx.keys = s.cx.keys := rfl

/-- What a change makes of every job holds of the jobs of the engines after it. -/
theorem engine_mapped {α : Type} {f : α → α} {P : α → Prop} (hf : ∀ j, P (f j)) {xs : List (Option α)} {j : α} (h : some j ∈ xs.map (Option.map f)) : P j := by
  obtain ⟨x, -, hx⟩ := List.mem_map.mp h
  obtain ⟨y, rfl, rfl⟩ := Option.map_eq_some_iff.mp hx
  exact hf y

/-- The descriptors of a slice in an engine are aborted (R380, R398). -/
theorem abortJobs_cz (s : State) (k : Nat) {j : CzJob} (h : some j ∈ (s.abortJobs k).cz.engines) : j.slice = k → j.aborted = true :=
  engine_mapped (P := fun j => j.slice = k → j.aborted = true) (fun j => by by_cases hk : j.slice = k <;> simp [hk]) h
theorem abortJobs_cx (s : State) (k : Nat) {j : CxJob} (h : some j ∈ (s.abortJobs k).cx.engines) : j.slice = k → j.aborted = true :=
  engine_mapped (P := fun j => j.slice = k → j.aborted = true) (fun j => by by_cases hk : j.slice = k <;> simp [hk]) h

/-- Keys that are not of a slice leave its slots empty (R383). -/
theorem keySlot_none {s : State} {k : Nat} {ks : List (Nat × KeySlot)} (h : s.cx.keys = ks.filter (fun p => p.1 / 64 != k)) (slot : Fin 64) :
    s.keySlot k slot = none := by
  rw [State.keySlot, h, Option.map_eq_none_iff, List.find?_eq_none]
  intro p hp
  have := (List.mem_filter.mp hp).2
  simp only [bne_iff_ne, beq_iff_eq] at this ⊢
  omega

/-- RELEASE of a slice that no subchannel names (R483). -/
theorem slRelease_released (h : (s.slice k).st ≠ .freezing) (hn : s.sliceNamed k = false) :
    (s.slRelease k).slice k = Slice.reset ∧ (∀ m, m ≠ k → (s.slRelease k).slice m = s.slice m) ∧ (s.slRelease k).slices.result = 0 ∧
      (∀ slot : Fin 64, (s.slRelease k).keySlot k slot = none) ∧ (s.slRelease k).mem = s.mem := by
  rw [State.slRelease, if_neg h, if_neg (by simp [hn])]
  exact ⟨lookupD_unassoc_same _ _ _, fun m hm => lookupD_unassoc_other _ _ _ _ hm, rfl, keySlot_none (ks := s.cx.keys) (by simp), by simp⟩

end

/-- The states of a slice, command by command. -/
theorem sliceStates : Claim.SliceStates := by
  intro s k hk hl hj x moves
  have enable := exec_sliceEnable_eq hk hl hj
  have freeze := exec_sliceFreeze_eq hk hl hj
  have thaw := exec_sliceThaw_eq hk hl hj
  have release := exec_sliceRelease_eq hk hl hj
  refine ⟨fun h => ?_, fun h hp => ?_, fun h hp => ?_, fun h => ?_, fun h ho => ?_, fun h hd ho hw => ?_, fun h => ?_, fun hf hs => ?_, fun h => ?_, fun h hn => ?_, fun h hn => ?_⟩
  · exact enable.trans (congrArg _ (slEnable_notFree (s := s.selectSlice k) h))
  · exact enable.trans (congrArg _ (slEnable_pidInUse (s := s.selectSlice k) h hp))
  · rw [slEnable_runs (s := s.selectSlice k) h hp] at enable
    exact ⟨_, enable, State.modSlice_result (s.selectSlice k) k _ 0⟩
  · exact freeze.trans (congrArg _ (slFreeze_notRunning (s := s.selectSlice k) h))
  · rw [slFreeze_idle (s := s.selectSlice k) h ho] at freeze
    exact ⟨_, freeze, by simp [x], rfl, fun j => abortJobs_cz _ k, fun j => abortJobs_cx _ k, rfl⟩
  · exact ⟨s.setSliceState k .frozen, if_pos ⟨h, hd, ho, hw⟩, s.setSliceState_slice_same k _, rfl⟩
  · rw [slThaw_runs (s := s.selectSlice k) h] at thaw
    exact ⟨_, thaw, State.modSlice_result (s.selectSlice k) k _ 0⟩
  · exact thaw.trans (congrArg _ (slThaw_refused (s := s.selectSlice k) hf hs))
  · exact release.trans (congrArg _ (slRelease_freezing (s := s.selectSlice k) h))
  · exact release.trans (congrArg _ (slRelease_named (s := s.selectSlice k) h hn))
  · exact ⟨_, release, slRelease_released (s := s.selectSlice k) h hn⟩

/-! SAVE and RESTORE. -/

/-- What a master's access to a hole records leaves the slice table and memory as they were (R273). -/
theorem holeAccess_same (s : State) (src a : Nat) : (s.holeAccess src a).slices = s.slices ∧ (s.holeAccess src a).mem = s.mem := by
  have hfree : s.freeClass.2.slices = s.slices ∧ s.freeClass.2.mem = s.mem := ⟨rfl, rfl⟩
  unfold State.holeAccess
  split_ifs
  · simp
  · simpa using hfree

/-- So does every read of a master. -/
theorem devRead_same (s : State) (src a n : Nat) : (s.devRead src a n).2.slices = s.slices ∧ (s.devRead src a n).2.mem = s.mem := by
  have step : ∀ (ls : List Nat) (t : State), t.slices = s.slices ∧ t.mem = s.mem →
      (ls.foldl (fun t l => if s.paKind l = .hole then t.holeAccess src l else t) t).slices = s.slices ∧
      (ls.foldl (fun t l => if s.paKind l = .hole then t.holeAccess src l else t) t).mem = s.mem := by
    intro ls
    induction ls with
    | nil => exact fun t ht => ht
    | cons l ls ih =>
      intro t ht
      apply ih
      by_cases hl : s.paKind l = .hole
      · simpa [hl, holeAccess_same] using ht
      · simpa [hl] using ht
  exact step _ s ⟨rfl, rfl⟩

/-- The read of an image leaves the slice table and memory as they were. -/
theorem readImage_same {s u : State} {len : Nat} {img : List Byte} (hi : s.readImage = (len, img, u)) : u.slices = s.slices ∧ u.mem = s.mem := by
  have hread := devRead_same s 0x880 s.slices.imageAt (min (sliceNat (s.devBytes s.slices.imageAt 16) 8 4) (imageLength (2 ^ 20)))
  have hu : u = s.readImage.2.2 := by rw [hi]
  subst hu
  unfold State.readImage
  extract_lets a len
  split_ifs
  · exact ⟨rfl, rfl⟩
  · split <;> rename_i hr <;> rwa [hr] at hread

theorem State.slice_congr {s u : State} (h : u.slices = s.slices) (k : Nat) : u.slice k = s.slice k := by simp [State.slice, h]

/-- What an image gives rests on the slice table alone. -/
theorem relocate_congr {s u : State} (h : u.slices = s.slices) (k : Nat) (img : List Byte) : u.relocate k img = s.relocate k img := by
  funext a
  simp [State.relocate, State.slice_congr h]

theorem imgCq_congr {s u : State} (h : u.slices = s.slices) (k : Nat) (img : List Byte) : u.imgCq k img = s.imgCq k img := by
  funext j
  simp [State.imgCq, relocate_congr h]

theorem imgPair_congr {s u : State} (h : u.slices = s.slices) (k : Nat) (img : List Byte) : u.imgPair k img = s.imgPair k img := by
  funext off
  simp [State.imgPair, relocate_congr h]

/-- BUSY falls (R474). -/
def State.notBusy (s : State) : State := s.modSlices fun x => { x with job := none }

section
variable (s : State)

@[simp] theorem State.notBusy_slice (m : Nat) : s.notBusy.slice m = s.slice m := rfl
@[simp] theorem State.notBusy_mem : s.notBusy.mem = s.mem := rfl
@[simp] theorem State.notBusy_result : s.notBusy.slices.result = s.slices.result := rfl
@[simp] theorem State.notBusy_len : s.notBusy.slices.len = s.slices.len := rfl
@[simp] theorem State.notBusy_job : s.notBusy.slices.job = none := rfl

end

/-- SLICE_BUSY_END of a SAVE (R474). -/
theorem sliceBusyEnd_save {s : State} {k : Nat} {b : Word} (hj : s.slices.job = some (.save k b)) (hw : s.weir.safe = false) :
    exec .sliceBusyEnd s = orSame s ((s.endSave k b).map State.notBusy) := by
  rw [exec_sliceBusyEnd, execSliceBusyEnd, if_neg (by simp [hw]), hj]
  rfl

/-- SLICE_BUSY_END of a RESTORE (R474). -/
theorem sliceBusyEnd_restore {s : State} {k : Nat} {b : Word} (hj : s.slices.job = some (.restore k b)) (hw : s.weir.safe = false) :
    exec .sliceBusyEnd s = .next (s.endRestore k).notBusy := by
  rw [exec_sliceBusyEnd, execSliceBusyEnd, if_neg (by simp [hw]), hj]
  rfl

/-- A SAVE that a check of R479 refuses. -/
theorem endSave_refused {s : State} {k r : Nat} {b : Word} (hv : s.saveVerdict k = r) (hr : r ≠ 0) :
    s.endSave k b = some (s.slResult (BitVec.ofNat 8 r)) := by
  simp [State.endSave, hv, hr]

/-- A SAVE that passes them, once its image can be written. -/
theorem endSave_written {s w : State} {k : Nat} {b : Word} (hv : s.saveVerdict k = 0) (hd : s.devWrite 0x880 s.slices.imageAt (s.image k b) = some w) :
    s.endSave k b = some (((w.setSliceState k .saved).modSlices fun x => { x with len := BitVec.ofNat 32 (s.image k b).length }).slResult 0) := by
  simp [State.endSave, hv, hd]

section
variable {s : State} {k : Nat}

theorem saveVerdict_notFrozen (h : (s.slice k).st ≠ .frozen) : s.saveVerdict k = 1 := by simp [State.saveVerdict, h]
theorem saveVerdict_active (h : (s.slice k).st = .frozen) (ha : s.sliceActive k = true) : s.saveVerdict k = 3 := by simp [State.saveVerdict, h, ha]
theorem saveVerdict_journaled (h : (s.slice k).st = .frozen) (ha : s.sliceActive k = false) (hj : s.sliceJournaled k = true) : s.saveVerdict k = 4 := by
  simp [State.saveVerdict, h, ha, hj]

end

/-- The tables that a RESTORE gives a slice, before its subchannels (R482). -/
def State.restoreTables (u : State) (k : Nat) (img : List Byte) : State :=
  let s := u.modCss fun c => { c with queues := (List.range 4).map (fun j => (4 * k + j, u.imgCq k img j)) ++ c.queues.filter (fun p => p.1 / 4 != k) }
  { s with
    cz := { s.cz with rings := assoc s.cz.rings k (u.imgPair k img 0x1A0) },
    cx := { s.cx with rings := assoc s.cx.rings k (u.imgPair k img 0x1C8), keys := s.cx.keys.filter (fun p => p.1 / 64 != k) } }

/-- The end of a RESTORE, from the image that was read (R482). The definition is opened as a function, before it meets a state: applied, it would let the kernel evaluate the read, whose bounds count memory in bytes. -/
theorem endRestore_of_readImage {s u : State} {k len : Nat} {img : List Byte} (hi : s.readImage = (len, img, u)) :
    s.endRestore k = if u.restoreVerdict k len img ≠ 0 then u.slResult (BitVec.ofNat 8 (u.restoreVerdict k len img))
      else ((List.range (imgSchs img)).foldl (fun s i => s.restoreSch k img i) ((u.restoreTables k img).setSliceState k .frozen)).slResult 0 := by
  generalize hf : State.endRestore = f
  delta State.endRestore at hf
  subst hf
  beta_reduce
  rw [hi]
  rfl

section
variable {s u : State} {k len : Nat} {img : List Byte}

/-- A RESTORE of a slice that is not FREE is refused (R475, R482). -/
theorem endRestore_notFree (hi : s.readImage = (len, img, u)) (h : (u.slice k).st ≠ .free) : s.endRestore k = u.slResult 1 := by
  have hv : u.restoreVerdict k len img = 1 := by simp [State.restoreVerdict, h]
  rw [endRestore_of_readImage hi, hv, if_pos Nat.one_ne_zero]
  rfl

/-- A RESTORE that passes every check, of an image without subchannels. -/
theorem endRestore_taken (hi : s.readImage = (len, img, u)) (hv : u.restoreVerdict k len img = 0) (hn : imgSchs img = 0) :
    s.endRestore k = ((u.restoreTables k img).setSliceState k .frozen).slResult 0 := by
  rw [endRestore_of_readImage hi, hv, hn, if_neg (not_not.mpr rfl), List.range_zero, List.foldl_nil]

end

section
variable (u : State) (k : Nat) (img : List Byte)

@[simp] theorem restoreTables_slice (m : Nat) : (u.restoreTables k img).slice m = u.slice m := rfl
@[simp] theorem restoreTables_mem : (u.restoreTables k img).mem = u.mem := rfl

theorem restoreTables_cq {j : Nat} (hj : j < 4) : (u.restoreTables k img).cq (4 * k + j) = u.imgCq k img j := by
  have hfind : (List.range 4).find? (fun i => 4 * k + i == 4 * k + j) = some j := by
    simp [List.find?_range_eq_some, hj]
    omega
  simp [State.cq, State.restoreTables, lookupD, List.find?_map, hfind]

theorem restoreTables_czRing : (u.restoreTables k img).czRing k = u.imgPair k img 0x1A0 := lookupD_assoc_same _ _ _ _
theorem restoreTables_cxRing : (u.restoreTables k img).cxRing k = u.imgPair k img 0x1C8 := lookupD_assoc_same _ _ _ _
theorem restoreTables_keySlot (slot : Fin 64) : (u.restoreTables k img).keySlot k slot = none := keySlot_none (ks := u.cx.keys) rfl slot

end

/-- A SAVE that a check refuses changes RESULT alone. -/
theorem save_refused {s : State} {k r : Nat} {b : Word} (hj : s.slices.job = some (.save k b)) (hw : s.weir.safe = false) (hv : s.saveVerdict k = r) (hr : r ≠ 0) :
    exec .sliceBusyEnd s = .next { s with slices := { s.slices with result := BitVec.ofNat 8 r, job := none } } := by
  rw [sliceBusyEnd_save hj hw, endSave_refused hv hr]
  rfl

/-- A SAVE that passes every check writes its image, and the slice is SAVED (R479, R480). -/
theorem save_written {s w : State} {k : Nat} {b : Word} (hj : s.slices.job = some (.save k b)) (hw : s.weir.safe = false) (hv : s.saveVerdict k = 0)
    (hd : s.devWrite 0x880 s.slices.imageAt (s.image k b) = some w) :
    ∃ t, exec .sliceBusyEnd s = .next t ∧ t.mem = w.mem ∧ (t.slice k).st = .saved ∧ t.slices.result = 0 ∧ t.slices.job = none ∧
      t.slices.len = BitVec.ofNat 32 (s.image k b).length := by
  rw [sliceBusyEnd_save hj hw, endSave_written hv hd]
  exact ⟨_, rfl, by simp, by simp [State.modSlices_slice], by simp, by simp, by simp⟩

/-- A RESTORE of a slice that is not FREE changes RESULT alone, beside what the read of the image records. -/
theorem restore_notFree {s u : State} {k len : Nat} {b : Word} {img : List Byte} (hj : s.slices.job = some (.restore k b)) (hw : s.weir.safe = false)
    (hi : s.readImage = (len, img, u)) (h : (s.slice k).st ≠ .free) :
    exec .sliceBusyEnd s = .next { u with slices := { s.slices with result := 1, job := none } } := by
  obtain ⟨hslices, -⟩ := readImage_same hi
  rw [sliceBusyEnd_restore hj hw, endRestore_notFree hi (by rwa [State.slice_congr hslices]), ← hslices]
  rfl

/-- A RESTORE that passes every check, of an image without subchannels, gives the slice the image's tables; its key slots are empty (R482). -/
theorem restore_taken {s u : State} {k len : Nat} {b : Word} {img : List Byte} (hj : s.slices.job = some (.restore k b)) (hw : s.weir.safe = false)
    (hi : s.readImage = (len, img, u)) (hv : u.restoreVerdict k len img = 0) (hn : imgSchs img = 0) :
    ∃ t, exec .sliceBusyEnd s = .next t ∧ t.slice k = { s.slice k with st := .frozen } ∧ t.slices.result = 0 ∧ t.slices.job = none ∧ t.mem = s.mem ∧
      (∀ j, j < 4 → t.cq (4 * k + j) = s.imgCq k img j) ∧ t.czRing k = s.imgPair k img 0x1A0 ∧ t.cxRing k = s.imgPair k img 0x1C8 ∧
      ∀ slot : Fin 64, t.keySlot k slot = none := by
  obtain ⟨hslices, hmem⟩ := readImage_same hi
  rw [sliceBusyEnd_restore hj hw, endRestore_taken hi hv hn, ← imgCq_congr hslices, ← imgPair_congr hslices, ← State.slice_congr hslices, ← hmem]
  exact ⟨_, rfl, by simp, by simp, by simp, by simp, fun j hj => restoreTables_cq u k img hj, restoreTables_czRing u k img, restoreTables_cxRing u k img,
    restoreTables_keySlot u k img⟩

/-- SAVE and RESTORE: the command, the port while it is BUSY, and the end of each. -/
theorem saveAndRestore : Claim.SaveAndRestore := by
  intro s k hk
  refine ⟨fun hl hj => ⟨exec_sliceSave_eq hk hl hj, exec_sliceRestore_eq hk hl hj⟩, fun hj => ⟨sliceRow_busy hk hj, sliceRow_busy hk hj, sliceRow_busy hk hj⟩,
    fun b hj hw => ⟨fun h => ?_, fun h ha => ?_, fun h ha hr => ?_, fun hv w hd => ?_⟩,
    fun b len img u hj hw hi => ⟨restore_notFree hj hw hi, restore_taken hj hw hi⟩⟩
  · exact save_refused hj hw (saveVerdict_notFrozen h) (by decide)
  · exact save_refused hj hw (saveVerdict_active h ha) (by decide)
  · exact save_refused hj hw (saveVerdict_journaled h ha hr) (by decide)
  · exact save_written hj hw hv hd

/-! Reads and writes of ports. -/

/-- A read of a port by a present core (R11, R23). -/
theorem readClear_present {s : State} {n : Nat} {a : BitVec 32} {p : Port} (hr : (s.core n).run ≠ .absent) (hp : portAt a.toNat = some p) :
    exec (.readClear n a) s = .next (s.portRead n p).2 := by
  simp [execReadClear, hr, hp]

/-- A write of a port by a present core (R11, R23). -/
theorem registerWrite_present {s : State} {n : Nat} {a : BitVec 32} {p : Port} (v : Word) (hr : (s.core n).run ≠ .absent) (hp : portAt a.toNat = some p) :
    exec (.registerWrite n a v) s = orSame s (s.portWrite n p v) := by
  simp [execRegisterWrite, hr, hp]

theorem portAt_icisrc : portAt (0x10110 : BitVec 32).toNat = some .icisrc := by decide
theorem portAt_intpend : portAt (0x10100 : BitVec 32).toNat = some .intpend := by decide
theorem portAt_wstat : portAt (0xE00008 : BitVec 32).toNat = some .wstat := by decide
theorem portAt_wlogptr : portAt (0xE00010 : BitVec 32).toNat = some .wlogptr := by decide
theorem portAt_ctarg : portAt (0xF00008 : BitVec 32).toNat = some .ctarg := by decide
theorem portAt_cthb : portAt (0xF00600 : BitVec 32).toNat = some .cthb := by decide

theorem portAccesses : Claim.PortAccesses := by
  intro s n v hn hr
  have hcore := s.modCore_core n (fun c => c.writeIntpend v) hn
  refine ⟨⟨_, readClear_present hr portAt_icisrc, ?_, fun m hm => s.modCore_other n m _ hm, rfl, rfl⟩, readClear_present hr portAt_wlogptr,
    readClear_present hr portAt_cthb, ⟨_, registerWrite_present v hr portAt_intpend, ?_, ?_, ?_, fun m hm => s.modCore_other n m _ hm, rfl⟩,
    registerWrite_present v hr portAt_wstat, fun h => ?_, fun h => ?_⟩
  · exact congrArg Core.iciSrc (s.modCore_core n _ hn)
  · exact congrArg Core.ici hcore
  · exact congrArg Core.swi hcore
  · exact (congrArg Core.pc hcore).trans rfl
  · have hl : s.portLives .ctarg = true := by simpa [State.portLives, Port.states, LcStates.lists] using h
    rw [registerWrite_present v hr portAt_ctarg, State.portWrite, if_pos hl]; rfl
  · have hl : ¬s.portLives .ctarg = true := by simpa [State.portLives, Port.states, LcStates.lists] using h
    rw [registerWrite_present v hr portAt_ctarg, State.portWrite, if_neg hl]; rfl

/-- Settles O57: the commands of the slice table, SAVE and RESTORE, and reads and writes of ports. -/
theorem slicesAndPorts : Obligations.SlicesAndPorts := ⟨sliceStates, saveAndRestore, portAccesses⟩

end Sys2Proof.Machine
end

section
/-! SUPPORT. One step of the queue (log 3), which settles O1. -/

namespace Sys2Proof.Machine

theorem step_cons {s : State} {c : Instr} {rest : List Instr} (h : s.pending = c :: rest) : step s = exec c { s with pending := rest } := by rw [step, h]

theorem step_nil {s : State} (h : s.pending = []) : step s = .next s := by rw [step, h]

/-- Settles O1: the command at the front runs with the rest of the queue, and an empty queue idles. -/
theorem stepRunsFront : Obligations.StepRunsFront := ⟨fun _ _ _ => step_cons, fun _ => step_nil⟩

end Sys2Proof.Machine
end

section
/-! SUPPORT. Weir: its sources, its log, safe state and overruns (R37, R404, R413 to R418), which settle O44. -/

namespace Sys2Proof.Machine

/-! Sources and windows (R404). -/

section
variable (w : Weir) (n : Nat) (f : WeirSource → WeirSource)

@[simp] theorem Weir.modSource_source_same : (w.modSource n f).source n = f (w.source n) := lookupD_assoc_same _ _ _ _

theorem Weir.modSource_source_other {m : Nat} (h : m ≠ n) : (w.modSource n f).source m = w.source m := lookupD_assoc_other _ _ _ _ _ h

end

theorem State.rollNow_settled {s : State} {n : Nat} (h : n ∉ s.weir.rollDue) : s.rollNow n = s := by simp [State.rollNow, h]

theorem State.rollNow_due {s : State} {n : Nat} (h : n ∈ s.weir.rollDue) :
    s.rollNow n = { s with weir := { s.weir.modSource n WeirSource.roll with rollDue := s.weir.rollDue.filter (· != n) } } := by
  simp [State.rollNow, h]

/-- A window that rolls at its boundary changes its source alone (R404). -/
theorem windowRoll_due {s : State} {n : Nat} (hn : srcAssigned n = true) (h : n ∈ s.weir.rollDue) :
    ∃ t, exec (.windowRoll n) s = .next t ∧ t.weir.source n = (s.weir.source n).roll ∧ n ∉ t.weir.rollDue ∧
      (∀ m, m ≠ n → t.weir.source m = s.weir.source m) ∧ t.weir.log = s.weir.log := by
  refine ⟨s.rollNow n, by simp [execWindowRoll, hn], ?_⟩
  rw [State.rollNow_due h]
  exact ⟨s.weir.modSource_source_same n _, by simp, fun m hm => s.weir.modSource_source_other n _ hm, rfl⟩

/-! Records (R417, R418). -/

section
variable (s : State) (r : WeirRecord)

@[simp] theorem State.logRecord_source (n : Nat) : (s.logRecord r).weir.source n = s.weir.source n := rfl
@[simp] theorem State.logRecord_next : (s.logRecord r).weir.next = s.weir.next + 1 := rfl

/-- The newest record, whatever the ring forgets. -/
theorem State.logRecord_newest :
    (s.logRecord r).weir.log.getLast? = some { r with seq := s.weir.next, flags := r.flags ||| (if s.weir.safe then 0x20 else 0) } := by
  simp [State.logRecord, List.getLast?_drop]

end

/-! Status (R413). -/

/-- The bits of WSRCSTAT that a write clears (R413). -/
def WeirSource.cleared (x : WeirSource) (v : Word) : WeirSource :=
  { x with
    cor := x.cor && !bitAt v 0, recov := x.recov && !bitAt v 1, sev := x.sev && !bitAt v 2, fat := x.fat && !bitAt v 3,
    npend := x.npend && !bitAt v 4, level := if bitAt v 4 then 0 else x.level }

/-- Those bits of a source cleared. -/
def State.clearBits (s : State) (n : Nat) (v : Word) : State := { s with weir := s.weir.modSource n fun x => x.cleared v }

theorem State.clearBits_source (s : State) (n : Nat) (v : Word) : (s.clearBits n v).weir.source n = (s.weir.source n).cleared v :=
  s.weir.modSource_source_same n _

/-- SEV set again where the write cleared it and its cause holds (R413). -/
def State.severeAgain (s : State) (n : Nat) (v : Word) : State :=
  if bitAt v 2 && (s.sevPresent n || decide ((s.weir.source n).nAt n ≤ (s.weir.source n).wcnt.toNat)) then s.setAgain n .severe else s

theorem State.severeAgain_gone {s : State} {n : Nat} {v : Word}
    (h : bitAt v 2 = false ∨ (s.sevPresent n = false ∧ (s.weir.source n).wcnt.toNat < (s.weir.source n).nAt n)) : s.severeAgain n v = s := by
  rcases h with h | ⟨h, hlt⟩ <;> simp [State.severeAgain, *]

/-- A write of WSRCSTAT while no roll is due: the bits are cleared, then SEV and FAT are set again where their cause holds. -/
theorem clearStatus_settled {s : State} {n : Nat} (v : Word) (h : n ∉ s.weir.rollDue) :
    s.clearStatus n v = if bitAt v 3 && ((s.clearBits n v).severeAgain n v).fatPresent n then ((s.clearBits n v).severeAgain n v).setAgain n .fatal
      else (s.clearBits n v).severeAgain n v := by
  unfold State.clearStatus
  rw [State.rollNow_settled h]
  rfl

/-- Bits whose cause is gone stay cleared. -/
theorem clearStatus_gone {s : State} {n : Nat} {v : Word} (h : n ∉ s.weir.rollDue)
    (hsev : bitAt v 2 = false ∨ (s.sevPresent n = false ∧ (s.weir.source n).wcnt.toNat < (s.weir.source n).nAt n)) (hfat : bitAt v 3 = false ∨ s.fatPresent n = false) :
    s.clearStatus n v = s.clearBits n v := by
  have hstays : (s.clearBits n v).severeAgain n v = s.clearBits n v := State.severeAgain_gone (by rw [s.clearBits_source n v]; exact hsev)
  have hthere : (s.clearBits n v).fatPresent n = s.fatPresent n := rfl
  rw [clearStatus_settled v h, hstays, hthere]
  rcases hfat with hf | hf <;> simp [hf]

/-- FAT whose cause still holds is set again. -/
theorem clearStatus_fatal {s : State} {n : Nat} {v : Word} (h : n ∉ s.weir.rollDue) (h2 : bitAt v 2 = false) (h3 : bitAt v 3 = true) (hfat : s.fatPresent n = true) :
    s.clearStatus n v = (s.clearBits n v).setAgain n .fatal := by
  have hthere : (s.clearBits n v).fatPresent n = true := hfat
  rw [clearStatus_settled v h, State.severeAgain_gone (.inl h2), h3, hthere]
  rfl

/-- The bit that is set again, and the record that says so (R413, R417). -/
theorem setAgain_fatal (s : State) (n : Nat) :
    ((s.setAgain n .fatal).weir.source n).fat = true ∧ (s.setAgain n .fatal).weir.next = s.weir.next + 1 ∧
      ∃ r, (s.setAgain n .fatal).weir.log.getLast? = some r ∧ r.src = n ∧ r.flags &&& 0xF = 0xB := by
  unfold State.setAgain
  extract_lets x a y t
  have hfat : y.fat = true := by
    unfold y
    split <;> rfl
  refine ⟨?_, rfl, _, State.logRecord_newest _ _, rfl, ?_⟩
  · have hy : t.weir.source n = y := s.weir.modSource_source_same n _
    exact (congrArg WeirSource.fat hy).trans hfat
  · have hflags : flagsOf .fatal false true false = 0xB := by decide
    simp only [hflags]
    split <;> decide

theorem statusClear_assigned {s : State} {n : Nat} (v : Word) (hn : srcAssigned n = true) : exec (.statusClear n v) s = .next (s.clearStatus n v) := by
  simp [execStatusClear, hn]

/-- Windows and status. -/
theorem windowsAndStatus : Claim.WindowsAndStatus := by
  intro s n v hn
  refine ⟨windowRoll_due hn, fun h hsev hfat => ?_, fun h h2 h3 hfat => ?_⟩
  · rw [statusClear_assigned v hn, clearStatus_gone h hsev hfat]
    exact ⟨_, rfl, s.clearBits_source n v, fun m hm => s.weir.modSource_source_other n _ hm, rfl⟩
  · obtain ⟨hset, hnext, r, hlast, hsrc, hflags⟩ := setAgain_fatal (s.clearBits n v) n
    rw [statusClear_assigned v hn, clearStatus_fatal h h2 h3 hfat]
    exact ⟨_, r, rfl, hset, hlast, hsrc, hflags, hnext⟩

/-! Events without a record (R418). -/

/-- What a field that holds LOG alone starts (R408). -/
theorem WeirSource.actions_logOnly {x : WeirSource} {n : Nat} {cls : FaultClass} (h : x.act cls = 0x0080) :
    ∃ level, x.actions n cls = { log := true, retry := false, spare := false, int := false, level := level, safe := false, takeover := false } :=
  ⟨levelOf (x.act cls) ((srcReset n).act cls), by simp [WeirSource.actions, h, bitAt]⟩

/-- A source whose field holds LOG alone starts no other action (R408), while Weir's own store is good. -/
theorem State.actionsOf_logOnly {s : State} {x : WeirSource} {e : WeirReport} (hpar : s.weir.parity = false) (h : x.act e.cls = 0x0080) :
    ∃ level, s.actionsOf x e false = { log := true, retry := false, spare := false, int := false, level := level, safe := false, takeover := false } := by
  obtain ⟨level, hlog⟩ := WeirSource.actions_logOnly (n := e.src) h
  exact ⟨level, by simp [State.actionsOf, hpar, hlog]⟩

/-- An event of a source whose window has been promoted promotes it no more (R405), and keeps its fields. -/
theorem WeirSource.counted_promoted {x : WeirSource} (n : Nat) (cls : FaultClass) (late : Bool) (h : x.prm = true) :
    ∃ y : WeirSource, x.counted n cls late = (y, false) ∧ y.actC = x.actC := by
  by_cases hc : counts cls late = true <;> simp [WeirSource.counted, hc, h]

/-- A CORRECTED event that finds the log full, of a promoted source whose field holds LOG alone: counted and dropped (R418). -/
theorem weirProcess_dropped {s : State} {e : WeirReport} (hdue : e.src ∉ s.weir.rollDue) (hpar : s.weir.parity = false) (hcls : e.cls = .corrected)
    (hprm : (s.weir.source e.src).prm = true) (hact : (s.weir.source e.src).actC = 0x0080) :
    ∃ x : WeirSource, x.cor = true ∧ s.weirProcess e true = some ({ s with weir := s.weir.modSource e.src fun _ => x } : State).dropRecord := by
  obtain ⟨y, hcounted, hfield⟩ := WeirSource.counted_promoted e.src .corrected (s.isLate e) hprm
  obtain ⟨level, hlog⟩ := State.actionsOf_logOnly (x := { y with cor := true, station := stationAt e }) (e := e) hpar (by rw [hcls]; exact hfield.trans hact)
  refine ⟨{ y with cor := true, station := stationAt e }, rfl, ?_⟩
  unfold State.weirProcess
  rw [State.rollNow_settled hdue]
  simp [hcls, hcounted, WeirSource.mark, hlog]

/-- An event that more than 1,024 others follow. -/
theorem logOverflow : Claim.LogOverflow := by
  intro s e es hin hmany hsrc hpar hdue hcls hprm hact
  obtain ⟨x, hcor, hdrop⟩ := weirProcess_dropped (s := { s with weir := { s.weir with inFlight := es } }) hdue hpar hcls hprm hact
  have hfull : decide (1024 < s.weir.inFlight.length) = true := by simpa using hmany
  have hexec : exec (.weirEvent none) s = orSame s (({ s with weir := { s.weir with inFlight := es } } : State).weirProcess e (decide (1024 < s.weir.inFlight.length))) := by
    rw [exec_weirEvent, execWeirEvent, hin]
  rw [hexec, hfull, hdrop]
  have hsource := Weir.modSource_source_same { s.weir with inFlight := es } e.src fun _ => x
  exact ⟨_, rfl, rfl, rfl, rfl, rfl, (congrArg WeirSource.cor hsource).trans hcor⟩

/-! The log window (R418). -/

theorem logSelect_empty {s : State} {v : Word} (h : ∀ r ∈ s.weir.log, r.seq.toNat % 4096 ≠ (fld v 0 12).toNat) : (s.selectLog v).weir.logD = [0, 0, 0, 0] := by
  have hnone : s.weir.log.reverse.find? (fun r => r.seq.toNat % 4096 == (fld v 0 12).toNat) = none := by simpa using h
  simp only [State.selectLog, hnone]
  decide

theorem logSelect_record {s : State} {v : Word} {r : WeirRecord} (hr : r ∈ s.weir.log) (hn : r.seq.toNat % 4096 = (fld v 0 12).toNat)
    (hone : ∀ q ∈ s.weir.log, q.seq.toNat % 4096 = (fld v 0 12).toNat → q = r) :
    (s.selectLog v).weir.logD = (List.range 4).map (fun j => wordOf ((r.bytes.drop (8 * j)).take 8)) := by
  have hfound : s.weir.log.reverse.find? (fun r => r.seq.toNat % 4096 == (fld v 0 12).toNat) = some r := by
    cases hq : s.weir.log.reverse.find? (fun r => r.seq.toNat % 4096 == (fld v 0 12).toNat) with
    | none => exact absurd hn (by simpa using List.find?_eq_none.mp hq r (by simpa using hr))
    | some q => rw [hone q (by simpa using List.mem_of_find?_eq_some hq) (by simpa using List.find?_some hq)]
  simp only [State.selectLog, hfound]

/-- What a write of WLOGSEL copies. -/
theorem logWindow : Claim.LogWindow := fun s v => ⟨s.selectLog v, rfl, rfl, rfl, logSelect_empty, fun _ => logSelect_record⟩

/-! What a frame of the Leat link leaves as it was. -/

/-- The cores and memory of two states are the same. -/
structure SameCoresMem (s t : State) : Prop where
  cores : t.cores = s.cores
  mem : t.mem = s.mem

theorem SameCoresMem.refl (s : State) : SameCoresMem s s := ⟨rfl, rfl⟩

theorem SameCoresMem.trans {s t u : State} (a : SameCoresMem s t) (b : SameCoresMem t u) : SameCoresMem s u := ⟨b.cores.trans a.cores, b.mem.trans a.mem⟩

/-- A step that may not be possible, skipped where it is not. -/
theorem SameCoresMem.getD {s : State} {o : Option State} (h : ∀ t, o = some t → SameCoresMem s t) : SameCoresMem s (o.getD s) := by
  cases o with
  | none => exact .refl s
  | some t => exact h t rfl

theorem leatSends_sameCoresMem {s t : State} {p : Nat} (h : s.leatSends p = some t) : SameCoresMem s t := by
  unfold State.leatSends at h
  extract_lets l at h
  split at h
  · split_ifs at h
    all_goals cases h
    · exact ⟨by simp, by simp⟩
    · exact ⟨rfl, rfl⟩
  · cases h

theorem leatEmit_sameCoresMem {s t : State} {p : Nat} {seq : Word32} {b : MirrorBody} (h : s.leatEmit p seq b = some t) : SameCoresMem s t := by
  unfold State.leatEmit at h
  split at h
  · obtain ⟨u, hu, rfl⟩ := Option.map_eq_some_iff.mp h
    exact (leatSends_sameCoresMem hu).trans ⟨rfl, rfl⟩
  · cases h

theorem leatEither_sameCoresMem {s t : State} {i : Nat} {seq : Word32} {b : MirrorBody} (h : s.leatEither i seq b = some t) : SameCoresMem s t := by
  unfold State.leatEither at h
  split at h
  · cases h
    exact leatEmit_sameCoresMem ‹_›
  · exact leatEmit_sameCoresMem h

theorem leatBoth_sameCoresMem (s : State) (m : MirrorMsg) : SameCoresMem s (s.leatBoth m) :=
  (SameCoresMem.getD fun _ => leatEmit_sameCoresMem).trans (.getD fun _ => leatEmit_sameCoresMem)

theorem leatNext_sameCoresMem (s : State) : SameCoresMem s s.leatNext := by
  unfold State.leatNext
  split
  · exact .refl s
  · split
    · exact .refl s
    · rename_i h
      exact (leatEither_sameCoresMem h).trans ⟨rfl, rfl⟩

theorem pumpLeat_sameCoresMem (s : State) : SameCoresMem s s.pumpLeat := by
  unfold State.pumpLeat
  generalize s.eth.link.tx.length = n
  induction n generalizing s with
  | zero => exact .refl s
  | succ n ih => exact (leatNext_sameCoresMem s).trans (ih _)

theorem sendMirror_sameCoresMem (s : State) (ms : List MirrorMsg) : SameCoresMem s (s.sendMirror ms) := by
  have hqueue : ∀ u : State, SameCoresMem u (ms.foldl State.queueMirror u) := by
    induction ms with
    | nil => exact .refl
    | cons m ms ih => exact fun u => (⟨rfl, rfl⟩ : SameCoresMem u (u.queueMirror m)).trans (ih _)
  exact (hqueue s).trans (pumpLeat_sameCoresMem _)

theorem shipDelta_sameCoresMem {s t : State} (h : s.shipDelta = some t) : SameCoresMem s t := by
  unfold State.shipDelta at h
  split at h
  · cases h
  · split at h
    · cases h
      exact (sendMirror_sameCoresMem s _).trans ⟨rfl, rfl⟩
    · cases h

theorem shipAll_sameCoresMem (s : State) (n : Nat) : SameCoresMem s (s.shipAll n) := by
  induction n generalizing s with
  | zero => exact .refl s
  | succ n ih =>
    unfold State.shipAll
    split
    · exact (shipDelta_sameCoresMem ‹_›).trans (ih _)
    · exact .refl s

theorem sendGasp_sameCoresMem (s : State) (reason : Half) : SameCoresMem s (s.sendGasp reason) := by
  unfold State.sendGasp
  extract_lets u m
  exact ((shipAll_sameCoresMem s _).trans (leatBoth_sameCoresMem u m)).trans ((leatBoth_sameCoresMem _ m).trans (leatBoth_sameCoresMem _ m))

/-! Safe state (R414, R416). -/

/-- Without a dying gasp that is due, Weir alone changes. -/
theorem enterSafe_noGasp {s : State} (h : s.weir.gaspDue = none) : s.enterSafe = { s with weir := { s.weir with safe := true, safeNext := none } } := by
  simp [State.enterSafe, h]

theorem enterSafe_gasp {s : State} {r : Half} (h : s.weir.gaspDue = some r) :
    s.enterSafe = { s.sendGasp r with weir := { (s.sendGasp r).weir with safe := true, safeNext := none, gaspDue := none } } := by
  simp [State.enterSafe, h]

theorem enterSafe_sameCoresMem (s : State) : SameCoresMem s s.enterSafe := by
  cases h : s.weir.gaspDue with
  | none =>
    rw [enterSafe_noGasp h]
    exact ⟨rfl, rfl⟩
  | some r =>
    obtain ⟨hcores, hmem⟩ := sendGasp_sameCoresMem s r
    rw [enterSafe_gasp h]
    exact ⟨hcores, hmem⟩

theorem enterSafe_weir (s : State) : s.enterSafe.weir.safe = true ∧ s.enterSafe.weir.safeNext = none ∧ s.enterSafe.weir.gaspDue = none := ⟨rfl, rfl, rfl⟩

theorem safeState_entered {s : State} {b : Word} (hb : s.weir.safeNext = some b) (hs : 1 ≤ s.since b) : exec .safeState s = .next s.enterSafe := by
  simp [execSafeState, hb, hs]

theorem decideSafe_decides {s : State} (hsafe : s.weir.safe = false) (hnext : s.weir.safeNext = none) :
    s.decideSafe = { s with weir := { s.weir with safeNext := some s.beatc } } := by
  simp [State.decideSafe, hsafe, hnext]

/-- The source of Weir itself after a parity error (R416). -/
def WeirSource.parityLost (x : WeirSource) : WeirSource := { x with total := satWord32 x.total, fat := true, station := 83 }

/-- Weir after a parity error, before its safe state is decided (R416). -/
def Weir.parityLost (w : Weir) : Weir := { w.modSource 0xB00 WeirSource.parityLost with parity := true, gaspDue := none }

theorem Weir.parityLost_fat (w : Weir) : (w.parityLost.source 0xB00).fat = true :=
  congrArg WeirSource.fat (w.modSource_source_same 0xB00 WeirSource.parityLost)

/-- A parity error decides safe state; it is recorded while the log is intact, and dropped otherwise (R416). -/
theorem weirParityError_eq (s : State) (ok : Bool) :
    ∃ r, exec (.weirParityError ok) s = .next (
      let t := ({ s with weir := s.weir.parityLost } : State).decideSafe.takeFree.2
      if ok then t.logRecord r else t.dropRecord) := ⟨_, rfl⟩

/-- A parity error of Weir (R416): safe state is decided without a dying gasp, and the log takes a record while it is intact. -/
theorem weirParityError_decides {s : State} (ok : Bool) (hsafe : s.weir.safe = false) (hnext : s.weir.safeNext = none) :
    ∃ t, exec (.weirParityError ok) s = .next t ∧ t.weir.parity = true ∧ t.weir.safeNext = some s.beatc ∧ t.weir.gaspDue = none ∧ (t.weir.source 0xB00).fat = true ∧
      t.weir.next = (if ok then s.weir.next + 1 else s.weir.next) := by
  have hdecided : ({ s with weir := s.weir.parityLost } : State).decideSafe = { s with weir := { s.weir.parityLost with safeNext := some s.beatc } } := decideSafe_decides hsafe hnext
  have hfat := s.weir.parityLost_fat
  obtain ⟨r, hexec⟩ := weirParityError_eq s ok
  rw [hdecided] at hexec
  cases ok with
  | true => exact ⟨_, hexec, rfl, rfl, rfl, hfat, rfl⟩
  | false => exact ⟨_, hexec, rfl, rfl, rfl, hfat, rfl⟩

/-- The entry into safe state, and a parity error. -/
theorem safeState : Claim.SafeState := by
  intro s b
  refine ⟨fun hb hs => ?_, fun ok => weirParityError_decides ok⟩
  obtain ⟨hsafe, hnext, hgasp⟩ := enterSafe_weir s
  obtain ⟨hcores, hmem⟩ := enterSafe_sameCoresMem s
  exact ⟨_, safeState_entered hb hs, hsafe, hnext, hgasp, hmem, hcores, enterSafe_noGasp⟩

/-! Overruns (R37). -/

theorem reportAt_reported (s : State) (src : Nat) (cls : FaultClass) (st : Nat) (p l : Byte) (d : Option Word32) (a : Word) : Reported s (s.reportAt src cls st p l d a) src cls a := by
  cases d <;> exact ⟨_, rfl, rfl, rfl, rfl, rfl⟩

/-- What a report changes is on its way to Weir; its DETAIL may take a free value. -/
def ReportsOnly (s t : State) : Prop := t = { s with weir := { s.weir with inFlight := t.weir.inFlight }, free := t.free }

theorem recordOverrun_reported (s : State) (u : OverrunUnit) (stage : Byte) (n : Word) : Reported s (s.recordOverrun u stage n) (OverrunUnit.source u) .corrected n := by
  unfold State.recordOverrun
  extract_lets src
  split <;> exact reportAt_reported _ _ _ _ _ _ _ _

theorem recordOverrun_reportsOnly (s : State) (u : OverrunUnit) (stage : Byte) (n : Word) : ReportsOnly s (s.recordOverrun u stage n) := by
  unfold State.recordOverrun
  extract_lets src
  split <;> rfl

/-- The record of an overrun: a CORRECTED event and nothing else. -/
theorem recordOverrun_records (s : State) (u : OverrunUnit) (stage : Byte) (n : Word) :
    Reported s (s.recordOverrun u stage n) (OverrunUnit.source u) .corrected n ∧ (s.recordOverrun u stage n).weir.late = s.weir.late ∧
      (s.recordOverrun u stage n).mem = s.mem ∧ (s.recordOverrun u stage n).cores = s.cores := by
  have h := recordOverrun_reportsOnly s u stage n
  exact ⟨recordOverrun_reported s u stage n, (congrArg (fun t => t.weir.late) h :), (congrArg State.mem h :), (congrArg State.cores h :)⟩

/-- An overrun of a stage of R35 that is owed, of another unit, and none. -/
theorem beatOverruns : Claim.BeatOverruns := by
  intro s u stage n hn
  have hnot : ¬s.beatc.toNat < n.toNat := Nat.not_lt.mpr hn
  refine ⟨fun hlate => ?_, fun hlate hst => ?_, fun hlate hst => ?_⟩
  · exact ⟨_, by simp [execBeatOverrun, hnot, hlate], recordOverrun_records { s with weir := { s.weir with late := s.weir.late.erase (u, stage, n) } } u stage n⟩
  · exact ⟨_, by simp [execBeatOverrun, hnot, hlate, hst], recordOverrun_records s u stage n⟩
  · simp [execBeatOverrun, hnot, hlate, hst]

/-- Settles O44: windows and status, the log and its window, safe state, and overruns. -/
theorem weirPorts : Obligations.WeirPorts := ⟨windowsAndStatus, logOverflow, logWindow, safeState, beatOverruns⟩

end Sys2Proof.Machine
end

section
/-! SUPPORT. The boundary of a beat (R32 to R37, R444, R455, R456), the reference, the pulse and the setting of TOD (R456 to R458), which settle O50. -/

namespace Sys2Proof.Machine

/-! The plant controller at a boundary (R32, R455, R456). -/

/-- What TOD holds once a load that is due is done (R456). -/
def Plant.loadedTod (p : Plant) : Pair :=
  match p.loadDue with
  | some (h, l) => (h.setWidth 128 <<< 64) ||| l.setWidth 128
  | none => p.todBase

/-- TOD loaded, where a load is due (R456). -/
theorem Plant.loadTod_eq (p : Plant) : p.loadTod = { p with loadDue := none, todValid := p.todValid || p.loadDue.isSome, todBase := p.loadedTod } := by
  unfold Plant.loadTod Plant.loadedTod
  cases h : p.loadDue with
  | none =>
    cases p
    simp_all
  | some x => simp

/-- The time ports at a boundary, and what stays of the other ports (R455, R456). -/
theorem Plant.todBoundary_eq (p : Plant) :
    p.todBoundary = { p with
      beatc := p.beatc + 1, refCycle := 0, todBase := p.loadedTod + todGain p, todValid := p.todValid || p.loadDue.isSome, setDue := none,
      loadDue := if p.setDue = none then none else some (p.setH, p.setL) } := by
  have hgain : p.loadedTod + 100 * todStep + 16 + BitVec.ofInt 128 (p.slewAt * 2 ^ 32) = p.loadedTod + todGain p := by
    simp only [todGain, Plant.slewAt, BitVec.add_assoc]
  unfold Plant.todBoundary
  rw [Plant.loadTod_eq, ← hgain]
  cases h : p.setDue <;> simp [Plant.boundary, Plant.slewAt]

/-- Stage 4 of R35 becomes due with the inputs i and h. -/
def Plant.withLoops (p : Plant) (i : List LoopInput) (h : List HoldInput) : Plant := { p with loopDue := p.loopDue ++ i, holdDue := p.holdDue ++ h }

theorem loopBoundary_eq (s : State) (i : LoopInput) (h : HoldInput) :
    s.loopBoundary i h = { s with plant := s.plant.withLoops (if s.beatc.toNat % 1000 = 0 then [i] else []) (if s.beatc.toNat % 1000 = 0 then [h] else []) } := by
  unfold State.loopBoundary
  split <;> simp [State.modPlant, Plant.withLoops]

/-- The plant controller after a boundary. -/
def State.plantBeaten (s : State) : Plant :=
  s.plant.todBoundary.withLoops (if (s.beatc + 1).toNat % 1000 = 0 then [s.loopInput] else []) (if (s.beatc + 1).toNat % 1000 = 0 then [s.plant.holdInput] else [])

theorem plantBeaten_eq (s : State) :
    s.plantBeaten = { s.plant with
      beatc := s.beatc + 1, refCycle := 0, todBase := s.plant.loadedTod + todGain s.plant, todValid := s.plant.todValid || s.plant.loadDue.isSome, setDue := none,
      loadDue := if s.plant.setDue = none then none else some (s.plant.setH, s.plant.setL),
      loopDue := s.plant.loopDue ++ if (s.beatc + 1).toNat % 1000 = 0 then [s.loopInput] else [],
      holdDue := s.plant.holdDue ++ if (s.beatc + 1).toNat % 1000 = 0 then [s.plant.holdInput] else [] } := by
  rw [State.plantBeaten, Plant.todBoundary_eq]
  rfl

/-- A boundary while no change of POWER_STABLE waits: the plant controller first, then the other units where they have power. -/
theorem boundary_eq {s : State} (h : s.plant.stableNext = none) :
    s.boundary = if s.plant.power = .on then ({ s with plant := s.plantBeaten } : State).unitsBoundary s.beatc else { s with plant := s.plantBeaten } := by
  have hbeat : (s.modPlant Plant.todBoundary).beatc = s.beatc + 1 := by simp [State.beatc, Plant.todBoundary_eq]
  have hplant : (s.modPlant Plant.todBoundary).loopBoundary s.loopInput s.plant.holdInput = { s with plant := s.plantBeaten } := by
    rw [loopBoundary_eq, hbeat]
    rfl
  have hstable : ({ s with plant := s.plantBeaten } : State).stableBoundary = { s with plant := s.plantBeaten } := by
    simp [State.stableBoundary, plantBeaten_eq, h]
  have hpower : s.plantBeaten.power = s.plant.power := by rw [plantBeaten_eq]
  unfold State.boundary
  extract_lets ended i h t
  have ht : t = { s with plant := s.plantBeaten } := by unfold t; rw [hplant, hstable]
  rw [ht]
  simp only [hpower]
  rfl

theorem boundary_powered {s : State} (hs : s.plant.stableNext = none) (hon : s.plant.power = .on) :
    s.boundary = ({ s with plant := s.plantBeaten } : State).unitsBoundary s.beatc := by rw [boundary_eq hs, if_pos hon]

/-- Without rails only the plant controller goes on. -/
theorem boundary_unpowered {s : State} (hs : s.plant.stableNext = none) (hon : s.plant.power ≠ .on) : s.boundary = { s with plant := s.plantBeaten } := by
  rw [boundary_eq hs, if_neg hon]

/-! Weir at a boundary (R37, R404). -/

/-- Weir alone has changed, and neither its safe state nor a decision of it. -/
structure WeirOnly (s t : State) : Prop where
  rest : t = { s with weir := t.weir, free := t.free }
  safe : t.weir.safe = s.weir.safe
  safeNext : t.weir.safeNext = s.weir.safeNext

theorem WeirOnly.refl (s : State) : WeirOnly s s := ⟨rfl, rfl, rfl⟩

theorem WeirOnly.trans {s t u : State} (a : WeirOnly s t) (b : WeirOnly t u) : WeirOnly s u := by
  obtain ⟨hu, hsafe, hnext⟩ := b
  refine ⟨?_, hsafe.trans a.safe, hnext.trans a.safeNext⟩
  rw [hu, a.rest]

theorem WeirOnly.foldl {α : Type} {f : State → α → State} (h : ∀ s x, WeirOnly s (f s x)) (xs : List α) (s : State) : WeirOnly s (xs.foldl f s) := by
  induction xs generalizing s with
  | nil => exact .refl s
  | cons x xs ih => exact (h s x).trans (ih _)

theorem ReportsOnly.weirOnly {s t : State} (h : ReportsOnly s t) : WeirOnly s t := by
  unfold ReportsOnly at h
  rw [h]
  exact ⟨rfl, rfl, rfl⟩

theorem overrunBoundary_weirOnly (s : State) : WeirOnly s s.overrunBoundary :=
  (WeirOnly.foldl (fun s (x : OverrunUnit × Byte × Word) => (recordOverrun_reportsOnly s x.1 x.2.1 x.2.2).weirOnly) s.weir.late s).trans ⟨rfl, rfl, rfl⟩

theorem rollNow_weirOnly (s : State) (n : Nat) : WeirOnly s (s.rollNow n) := by
  unfold State.rollNow
  split
  · exact ⟨rfl, rfl, rfl⟩
  · exact .refl s

theorem rollsAtBoundary_weirOnly (s : State) : WeirOnly s s.rollsAtBoundary :=
  (WeirOnly.foldl rollNow_weirOnly s.weir.rollDue s).trans ⟨rfl, rfl, rfl⟩

/-! The continuity unit at a boundary (R35, R438, R443 to R445). -/

/-- The continuity unit alone has changed, and none of what stages 3 and 6 have read, of a take-over, or of the mode of the Leat ports. -/
structure CtOnly (s t : State) : Prop where
  rest : t = { s with ct := t.ct }
  hseqTx : t.ct.hseqTx = s.ct.hseqTx
  lost : t.ct.lost = s.ct.lost
  hbDue : t.ct.hbDue = s.ct.hbDue
  ctlDue : t.ct.ctlDue = s.ct.ctlDue
  takeOver : t.ct.takeOver = s.ct.takeOver
  leatOffDue : t.ct.leatOffDue = s.ct.leatOffDue

theorem CtOnly.refl (s : State) : CtOnly s s := by constructor <;> rfl

theorem CtOnly.trans {s t u : State} (a : CtOnly s t) (b : CtOnly t u) : CtOnly s u where
  rest := by rw [b.rest, a.rest]
  hseqTx := b.hseqTx.trans a.hseqTx
  lost := b.lost.trans a.lost
  hbDue := b.hbDue.trans a.hbDue
  ctlDue := b.ctlDue.trans a.ctlDue
  takeOver := b.takeOver.trans a.takeOver
  leatOffDue := b.leatOffDue.trans a.leatOffDue

theorem healthBoundary_ctOnly (s : State) : CtOnly s s.healthBoundary := by
  unfold State.healthBoundary
  split
  · constructor <;> rfl
  · exact .refl s

theorem writeProgress_ctOnly (s : State) : CtOnly s s.writeProgress := by
  unfold State.writeProgress
  split
  · constructor <;> rfl
  · exact .refl s

/-- The baseline takes bytes of records and marks them shipped (R443). -/
theorem baseline_ctOnly (beat : Word) (fuel : Nat) (s : State) (q : Nat) (cur : BaseCursor) (out : List DeltaEntry) : CtOnly s (s.baseline beat fuel q cur out).2.2 := by
  induction fuel generalizing s q cur out with
  | zero => exact .refl s
  | succ fuel ih =>
    unfold State.baseline
    split
    · exact .refl s
    · split
      · exact ih ..
      · split_ifs
        · exact ih ..
        · exact .refl s
        · exact ih ..
    · exact ih ..
    · split
      · exact ih ..
      · extract_lets n es u
        have hu : CtOnly s u := by constructor <;> rfl
        split_ifs
        · exact (hu.trans (by constructor <;> rfl)).trans (ih ..)
        · exact hu
    · exact ih ..
    · split_ifs
      · exact .refl s
      · exact ih ..

theorem formDelta_ctOnly (s : State) (beat : Word) : CtOnly s (s.formDelta beat) := by
  unfold State.formDelta
  split_ifs
  · exact .refl s
  · extract_lets es u cur
    have hu : CtOnly s u := by constructor <;> rfl
    have hbase := baseline_ctOnly beat 4096 u (deltaQuota - entriesLength es) cur []
    exact (hu.trans hbase).trans (by constructor <;> rfl)

theorem startGathering_ctOnly (s : State) : CtOnly s s.startGathering := by
  unfold State.startGathering
  split
  · constructor <;> rfl
  · exact .refl s

theorem journalBoundary_ctOnly (s : State) (ended : Word) : CtOnly s (s.journalBoundary ended) := by
  unfold State.journalBoundary
  refine ((writeProgress_ctOnly s).trans ?_).trans (startGathering_ctOnly _)
  split_ifs
  · exact .refl _
  · exact formDelta_ctOnly _ ended

/-! The units at a boundary at which nothing of a take-over, a connection, safe state or a hold is due. -/

/-- No take-over, no mode of the Leat ports, no state part, no safe state and no hold mark waits for the boundary. -/
structure QuietUnits (s : State) : Prop where
  takeOver : s.ct.takeOver = none
  leatOffDue : s.ct.leatOffDue = false
  conns : s.css.conns = []
  safeNext : s.weir.safeNext = none
  holds : s.pool.holds = []

theorem expireHolds_none {s : State} (h : s.pool.holds = []) : s.expireHolds = s := by simp [State.expireHolds, h]

/-- The last steps of a boundary find nothing to do. -/
theorem lastSteps_idle {s : State} (h : s.ct.takeOver = none) (hl : s.ct.leatOffDue = false) (hc : s.css.conns = []) (hs : s.weir.safeNext = none) :
    s.leatBoundary.takeoverBoundary.writeStale.safeBoundary = s := by
  simp [State.leatBoundary, State.takeoverBoundary, State.writeStale, State.safeBoundary, h, hl, hc, hs]

@[simp] theorem State.modCt_beatc (s : State) (f : Ct → Ct) : (s.modCt f).beatc = s.beatc := rfl

/-- The heartbeat that a boundary starts (R444). -/
theorem heartBoundary_hbDue {s : State} (hp : s.ct.pstate ≠ .solo) (hs : s.weir.safe = false) :
    ∃ h : HeartbeatMsg, s.heartBoundary.ct.hbDue = s.ct.hbDue ++ [(s.beatc, h)] ∧ h.hseq = s.ct.hseqTx + 1 ∧ h.nextgen = s.ct.nextgen ∧ h.fgen = s.ct.fgen ∧
      h.role = s.ct.role ∧ h.pstate = s.ct.pstate :=
  ⟨(s.modCt fun c => { c with hseqTx := c.hseqTx + 1 }).heartbeatMsg, by simp [State.heartBoundary, hp, hs], rfl, rfl, rfl, rfl, rfl⟩

theorem heartBoundary_ctlDue {s : State} (h : s.beatc.toNat % 1000 = 0) :
    s.heartBoundary.ct.ctlDue = s.ct.ctlDue ++ [{ beat := s.beatc, nextgen := s.ct.nextgen, tailgen := s.ct.tailgen, tail := s.ct.tail }] := by
  simp [State.heartBoundary, h]

/-- What the units have done before the continuity unit's stages start: overruns, comparators, filtered mode and window rolls. -/
theorem earlySteps_eq {s : State} (h : s.pool.holds = []) :
    ∃ w p f, w.safe = s.weir.safe ∧ w.safeNext = s.weir.safeNext ∧
      ({ s.overrunBoundary with cores := s.cores.map Core.snapTimers } : State).expireHolds.filterBoundary.rollsAtBoundary =
        { s with cores := s.cores.map Core.snapTimers, pool := p, weir := w, free := f } := by
  obtain ⟨hover, hsafe, hnext⟩ := overrunBoundary_weirOnly s
  have hholds : ({ s.overrunBoundary with cores := s.cores.map Core.snapTimers } : State).expireHolds = { s.overrunBoundary with cores := s.cores.map Core.snapTimers } := by
    apply expireHolds_none
    rw [hover]
    exact h
  rw [hholds]
  generalize hu : ({ s.overrunBoundary with cores := s.cores.map Core.snapTimers } : State).filterBoundary = u
  obtain ⟨hroll, hsafe', hnext'⟩ := rollsAtBoundary_weirOnly u
  refine ⟨u.rollsAtBoundary.weir, u.pool, u.rollsAtBoundary.free, ?_, ?_, ?_⟩
  · rw [hsafe', ← hu]
    exact hsafe
  · rw [hnext', ← hu]
    exact hnext
  · rw [hroll, ← hu, hover]
    rfl

/-- A boundary of the units at which nothing waits: the comparators keep their ports, LOST and HSEQ count, and stages 3 and 6 start. -/
structure UnitsBeaten (s t : State) : Prop where
  mem : t.mem = s.mem
  css : t.css = s.css
  plant : t.plant = s.plant
  cores : t.cores = s.cores.map Core.snapTimers
  hseqTx : t.ct.hseqTx = s.ct.hseqTx + 1
  lost : t.ct.lost = satHalf s.ct.lost
  hbDue : s.ct.pstate ≠ .solo → s.weir.safe = false →
    ∃ h : HeartbeatMsg, t.ct.hbDue = s.ct.hbDue ++ [(s.beatc, h)] ∧ h.hseq = s.ct.hseqTx + 1 ∧ h.nextgen = s.ct.nextgen ∧ h.fgen = s.ct.fgen ∧ h.role = s.ct.role ∧
      h.pstate = s.ct.pstate
  ctlDue : s.beatc.toNat % 1000 = 0 → t.ct.ctlDue = s.ct.ctlDue ++ [{ beat := s.beatc, nextgen := s.ct.nextgen, tailgen := s.ct.tailgen, tail := s.ct.tail }]

theorem unitsBoundary_beaten {s : State} (ended : Word) (h : QuietUnits s) : UnitsBeaten s (s.unitsBoundary ended) := by
  obtain ⟨w, p, f, hsafe, hnext, hearly⟩ := earlySteps_eq h.holds
  generalize hu : ({ s with cores := s.cores.map Core.snapTimers, pool := p, weir := w, free := f } : State) = u at hearly
  have hct := (healthBoundary_ctOnly u.heartBoundary).trans (journalBoundary_ctOnly u.heartBoundary.healthBoundary ended)
  have hidle : s.unitsBoundary ended = u.heartBoundary.healthBoundary.journalBoundary ended := by
    unfold State.unitsBoundary
    extract_lets overruns snapped early staged
    have hstaged : staged = u.heartBoundary.healthBoundary.journalBoundary ended :=
      congrArg (fun u : State => u.heartBoundary.healthBoundary.journalBoundary ended) hearly
    rw [hstaged]
    apply lastSteps_idle
    · rw [hct.takeOver, ← hu]
      exact h.takeOver
    · rw [hct.leatOffDue, ← hu]
      exact h.leatOffDue
    · rw [hct.rest, ← hu]
      exact h.conns
    · rw [hct.rest, ← hu]
      exact hnext.trans h.safeNext
  rw [hidle]
  have hrest := hct.rest
  subst hu
  exact
    { mem := (congrArg State.mem hrest :), css := (congrArg State.css hrest :), plant := (congrArg State.plant hrest :), cores := (congrArg State.cores hrest :)
      hseqTx := hct.hseqTx, lost := hct.lost
      hbDue := fun hp hs => by
        rw [hct.hbDue]
        exact heartBoundary_hbDue hp (hsafe.trans hs)
      ctlDue := fun hb => by
        rw [hct.ctlDue]
        exact heartBoundary_ctlDue hb }

/-- A boundary, while the plant controller has power. -/
theorem boundaries : Claim.Boundaries := by
  intro s hoff hstable p quiet at1000 loaded hcase
  have hexec : exec .beatBoundary s = .next s.boundary := by simp [execBeatBoundary, hoff]
  have hunits : p.power = .on → UnitsBeaten { s with plant := s.plantBeaten } s.boundary := by
    intro hon
    obtain ⟨htake, hleat, hconns, hsafe, hholds⟩ := hcase.resolve_left (fun h => h hon)
    rw [boundary_powered hstable hon]
    exact unitsBoundary_beaten s.beatc ⟨htake, hleat, hconns, hsafe, hholds⟩
  have hrest : s.boundary.plant = s.plantBeaten ∧ s.boundary.mem = s.mem := by
    by_cases hon : s.plant.power = .on
    · exact ⟨(hunits hon).plant, (hunits hon).mem⟩
    · rw [boundary_unpowered hstable hon]
      exact ⟨rfl, rfl⟩
  obtain ⟨hplant, hmem⟩ := hrest
  have hports := hplant.trans (plantBeaten_eq s)
  have hbeat : ({ s with plant := s.plantBeaten } : State).beatc = s.beatc + 1 := (congrArg Plant.beatc (plantBeaten_eq s) :)
  refine ⟨s.boundary, hexec, (congrArg Plant.beatc hports :), (congrArg Plant.refCycle hports :), hmem, (congrArg Plant.todBase hports :), (congrArg Plant.todValid hports :),
    (congrArg Plant.setDue hports :), (congrArg Plant.loadDue hports :), (congrArg Plant.loopDue hports :), (congrArg Plant.holdDue hports :), fun hon => ?_, fun hon => ?_⟩
  · rw [boundary_unpowered hstable hon]
  · obtain ⟨-, hcss, -, hcores, hhseq, hlost, hhb, hctl⟩ := hunits hon
    rw [hbeat] at hhb hctl
    exact ⟨hcores, hhseq, hlost, hhb, hctl, hcss⟩

/-! The reference, the pulse and the setting of TOD (R456 to R458). -/

/-- An event of the plant controller's source, while Weir is powered (R457, R458). -/
theorem plantEvent_reported {s : State} (src : Nat) (cls : FaultClass) (h : s.plant.power = .on) : Reported s (s.plantEvent src cls) src cls 0 := by
  rw [State.plantEvent, if_pos h]
  exact reportAt_reported ..

theorem plantEvent_same (s : State) (src : Nat) (cls : FaultClass) : (s.plantEvent src cls).plant = s.plant ∧ (s.plantEvent src cls).mem = s.mem := by
  unfold State.plantEvent
  split <;> simp

/-- A change of the plant controller that leaves the beat, with its event. -/
theorem modPlant_event {s : State} {f : Plant → Plant} (src : Nat) (cls : FaultClass) (hon : (f s.plant).power = .on) (hbeat : (f s.plant).beatc = s.plant.beatc) :
    ((s.modPlant f).plantEvent src cls).plant = f s.plant ∧ Reported s ((s.modPlant f).plantEvent src cls) src cls 0 ∧ ((s.modPlant f).plantEvent src cls).mem = s.mem := by
  obtain ⟨hplant, hmem⟩ := plantEvent_same (s.modPlant f) src cls
  obtain ⟨r, hin, hsrc, hcls, haddr, hat⟩ := plantEvent_reported (s := s.modPlant f) src cls hon
  exact ⟨hplant, ⟨r, hin, hsrc, hcls, haddr, hat.trans hbeat⟩, hmem⟩

/-- The two ports that hold a pair (R454, R458). -/
theorem fld_halves (x : Pair) : ((fld x 64 64).setWidth 128 <<< 64) ||| (fld x 0 64).setWidth 128 = x := by
  unfold fld
  ext i hi
  by_cases h : i < 64
  · simp [h, hi]
  · have hcut : 64 + (i - 64) = i := by omega
    have hhigh : i - 64 < 64 := by omega
    simp [h, hhigh, hcut, BitVec.getLsbD_eq_getElem hi]

theorem referenceLoss_eq {s : State} (hon : s.plant.power = .on) (h : s.plant.refOk = true) :
    exec .referenceLoss s = .next ((s.modPlant fun p => { p with refOk := false, refLost := p.beatc }).plantEvent 0xA80 .recoverable) := by
  simp [execReferenceLoss, hon, h]

theorem referenceReturn_eq {s : State} (hon : s.plant.power = .on) (h : s.plant.refOk = false) (hs : 1000 ≤ s.since s.plant.refLost) :
    exec .referenceReturn s = .next ((s.modPlant fun p => { p with refOk := true }).plantEvent 0xA80 .corrected) := by
  simp [execReferenceReturn, hon, h, hs]

theorem ppsLoss_eq {s : State} (h : s.plant.ppsOk = true) (hs : 1100000 ≤ s.since s.plant.lastPps) :
    exec .ppsLoss s = .next ((s.modPlant fun p => { p with ppsOk := false }).plantEvent 0xA80 .corrected) := by
  simp [execPpsLoss, h, hs]

/-- Time that passes inside the beat stays inside it (R31). -/
theorem passCycle_within {s : State} (h : s.plant.refCycle < 100) :
    ∃ c, s.plant.refCycle ≤ c ∧ c < 100 ∧ s.passCycle.plant = { s.plant with refCycle := c } ∧ s.passCycle.weir = s.weir := by
  refine ⟨s.plant.refCycle + s.takeFree.1.toNat % (100 - s.plant.refCycle), Nat.le_add_right _ _, ?_, rfl, rfl⟩
  have := Nat.mod_lt s.takeFree.1.toNat (Nat.sub_pos_of_lt h)
  omega

/-- What a pulse leaves in the ports of the plant controller (R458). -/
def Plant.captured (p : Plant) : Plant := { p with ppsH := fld p.tod 64 64, ppsL := fld p.tod 0 64, ppsNew := true, ppsOk := true, lastPps := p.beatc }

theorem ppsEdge_eq {s : State} (hon : s.plant.power = .on) : exec .ppsEdge s = .next (s.passCycle.modPlant Plant.captured) := by
  rw [exec_ppsEdge, execPpsEdge, if_neg (by simp [hon])]
  rfl

/-- A pulse captures TOD as it stands when the pulse comes (R458). -/
theorem ppsEdge_captures {s : State} (hon : s.plant.power = .on) (h : s.plant.refCycle < 100) :
    ∃ t c, exec .ppsEdge s = .next t ∧ s.plant.refCycle ≤ c ∧ c < 100 ∧
      ((t.plant.ppsH.setWidth 128 <<< 64) ||| t.plant.ppsL.setWidth 128 : Pair) = s.plant.todBase + BitVec.ofNat 128 c * todStep ∧
      t.plant.ppsNew = true ∧ t.plant.ppsOk = true ∧ t.plant.lastPps = s.plant.beatc ∧ t.weir = s.weir := by
  obtain ⟨c, hle, hlt, hplant, hweir⟩ := passCycle_within h
  have htod : s.passCycle.plant.tod = s.plant.todBase + BitVec.ofNat 128 c * todStep := by rw [hplant, Plant.tod]
  have hbeat : s.passCycle.plant.beatc = s.plant.beatc := by rw [hplant]
  exact ⟨s.passCycle.modPlant Plant.captured, c, ppsEdge_eq hon, hle, hlt, (fld_halves s.passCycle.plant.tod).trans htod, rfl, rfl, hbeat, hweir⟩

theorem todSet_ignored {s : State} (h : s.plant.todValid = true ∨ s.plant.loadDue ≠ none ∨ s.portLives .pltodsetl = false) : exec .todSet s = .next s := by
  have hset : s.portLives .pltodsetl = true → s.todSet = s := by
    intro hl
    rcases h with h | h | h
    · simp [State.todSet, h]
    · simp [State.todSet, Option.isSome_iff_ne_none.mpr h]
    · simp [h] at hl
  rw [exec_todSet, execTodSet, portRow]
  split
  · rename_i hl
    simp [hset hl]
  · rfl

theorem todSet_asks {s : State} (hon : s.plant.power = .on) (hv : s.plant.todValid = false) (hd : s.plant.loadDue = none) (hl : s.portLives .pltodsetl = true) :
    exec .todSet s = .next { s with plant := { s.plant with setDue := some (s.plant.setDue.getD s.plant.beatc) } } := by
  simp [execTodSet, portRow, hl, hon, State.todSet, hv, hd, State.modPlant]

theorem todLoad_due {s : State} {h l : Word} (hd : s.plant.loadDue = some (h, l)) :
    exec .todLoad s = .next { s with plant := { s.plant with loadDue := none, todValid := true, todBase := (h.setWidth 128 <<< 64) ||| l.setWidth 128 } } := by
  simp [execTodLoad, State.modPlant, Plant.loadTod, hd]

theorem todLoad_none {s : State} (hd : s.plant.loadDue = none) : exec .todLoad s = .next s := by
  simp [execTodLoad, State.modPlant, Plant.loadTod, hd]

/-- The reference lost and back, the pulse and its loss, SET and the load that it asks for. -/
theorem referenceAndPps : Claim.ReferenceAndPps := by
  intro s hon
  refine ⟨fun h => ⟨_, referenceLoss_eq hon h, modPlant_event 0xA80 .recoverable hon rfl⟩, fun h hs => ?_, ppsEdge_captures hon, fun h hs => ?_, todSet_ignored, todSet_asks hon,
    fun h l => todLoad_due, todLoad_none⟩
  · obtain ⟨hplant, hreport, -⟩ := modPlant_event (s := s) (f := fun p => { p with refOk := true }) 0xA80 .corrected hon rfl
    exact ⟨_, referenceReturn_eq hon h hs, hplant, hreport⟩
  · obtain ⟨hplant, hreport, -⟩ := modPlant_event (s := s) (f := fun p => { p with ppsOk := false }) 0xA80 .corrected hon rfl
    exact ⟨_, ppsLoss_eq h hs, hplant, hreport⟩

/-- Settles O50: the boundary, and the reference, the pulse and the setting of TOD. -/
theorem boundariesAndReference : Obligations.BoundariesAndReference := ⟨boundaries, referenceAndPps⟩

end Sys2Proof.Machine
end

section
/-! SUPPORT. The frame of an instruction that retires in sequence (R59, R61, R202, R226), which settles O3. -/

namespace Sys2Proof.Machine

theorem State.after_retired (k : Insn) (s : State) (len : Nat) (f : Core → Core) (h : k.lcn < s.cores.length) :
    Retired s (s.after k len f) k.lcn (k.pfx.length + len) (f (s.core k.lcn)) := by
  have hcore := s.modCore_core k.lcn f h
  exact retire_next (by simpa using h) (.modCore s k.lcn f) (fun m hm => s.modCore_other k.lcn m f hm) (hcore ▸ .refl _)
    (by rw [hcore]) (by rw [hcore]) (by rw [hcore])

/-- Settles O3: the change of the core, and then the frame of a retirement. -/
theorem retirementFrame : Obligations.RetirementFrame := State.after_retired

end Sys2Proof.Machine
end

section
/-! SUPPORT. The cores and memory at the handover of State.reset (R47, R493), which settle O2. -/

namespace Sys2Proof.Machine

theorem State.reset_core {n : Nat} (h : n < 48) : State.reset.core n = Core.reset n mcverRom rsth0 rsth1 (tsbrAt n) := by
  simp [State.core, State.reset, List.getD, h]

/-- A byte of no listed cell is zero (R286). -/
theorem Mem.read_unlisted : ∀ {m : Mem} {a : Nat}, (∀ c ∈ m, c.1 ≠ a) → m.read a = 0
  | [], _, _ => rfl
  | c :: m, a, h => by
    have hc : a ≠ c.1 := fun e => h c List.mem_cons_self e.symm
    rw [Mem.read, if_neg hc]
    exact Mem.read_unlisted fun d hd => h d (List.mem_cons_of_mem c hd)

/-- The boot tree lists the root entry and the sixteen entries of the level below (R493). -/
theorem bootTree_cells : ∀ c ∈ bootTree, c.1 < 8 ∨ (0x1000 ≤ c.1 ∧ c.1 < 0x1080) := by decide +kernel

theorem bootTree_wf : Mem.wf bootTree = true := by decide +kernel

theorem bootTree_zero {a : Nat} (h : 8 ≤ a) (ha : a < 0x1000 ∨ 0x1080 ≤ a) : Mem.read bootTree a = 0 :=
  Mem.read_unlisted fun c hc => by have := bootTree_cells c hc; omega

theorem resetCores : Claim.ResetCores := by
  intro n hn
  rw [State.reset_core hn]
  exact ⟨rfl, rfl, rfl, rfl, rfl, rfl, rfl, rfl, rfl, rfl, rfl, rfl, rfl, rfl, rfl, rfl, rfl, rfl, rfl, rfl, rfl, rfl, rfl⟩

theorem resetMemory : Claim.ResetMemory :=
  ⟨by decide +kernel, by decide +kernel, fun _ => bootTree_zero, bootTree_wf⟩

/-- Settles O2: the registers of every core, and the boot tree in memory. -/
theorem resetState : Obligations.ResetState := ⟨resetCores, resetMemory⟩

end Sys2Proof.Machine
end

section
/-! SUPPORT. Integer arithmetic with its flags (R50, R77 to R79), which settles O6. -/

namespace Sys2Proof.Machine

/-! The flags of PSW (R50). -/

theorem at_bit_getLsbD (b : Bool) {j : Nat} (hj : j < 64) (i : Nat) : (at_ b j).getLsbD i = (b && decide (i = j)) := by
  cases b
  · exact BitVec.getLsbD_zero
  · rw [at_, if_pos rfl, Bool.true_and, BitVec.natCast_eq_ofNat, BitVec.getLsbD_ofNat, Nat.one_shiftLeft, Nat.testBit_two_pow]
    simp only [← Bool.decide_and, decide_eq_decide]
    omega

/-- The mask of the four flags. -/
theorem flagMask_getLsbD (i : Nat) : (0xF : Word).getLsbD i = decide (i < 4) := by
  by_cases h : i < 64
  · revert i
    decide
  · rw [BitVec.getLsbD_of_ge _ _ (by omega)]
    simp; omega

/-- Each of the four low bits of PSW is its flag, and every other bit is as it was. -/
theorem setFlags_getLsbD (p : Word) (z n v c : Bool) (i : Nat) :
    (setFlags p z n v c).getLsbD i = if i = 3 then z else if i = 2 then n else if i = 1 then v else if i = 0 then c else p.getLsbD i := by
  simp only [setFlags, BitVec.getLsbD_or, BitVec.getLsbD_and, BitVec.getLsbD_not, flagMask_getLsbD, at_bit_getLsbD, show 3 < 64 by omega, show 2 < 64 by omega,
    show 1 < 64 by omega, show 0 < 64 by omega]
  by_cases h : i < 4
  · have : i = 0 ∨ i = 1 ∨ i = 2 ∨ i = 3 := by omega
    rcases this with rfl | rfl | rfl | rfl <;> simp
  · have h64 : ¬i < 64 → p.getLsbD i = false := fun hi => BitVec.getLsbD_of_ge _ _ (by omega)
    by_cases hi : i < 64
    · simp [h, hi, show i ≠ 3 by omega, show i ≠ 2 by omega, show i ≠ 1 by omega, show i ≠ 0 by omega]
    · simp [h, hi, h64 hi, show i ≠ 3 by omega, show i ≠ 2 by omega, show i ≠ 1 by omega, show i ≠ 0 by omega]

theorem flagsInPsw : Claim.FlagsInPsw := by
  intro p z n v c
  have h := setFlags_getLsbD p z n v c
  exact ⟨h 3, h 2, h 1, h 0, fun i hi => by rw [h, if_neg (by omega), if_neg (by omega), if_neg (by omega), if_neg (by omega)]⟩

/-! Operations on cached entries (R78). -/

/-- An instruction without prefixes whose own execution changes its core alone, and then retires in sequence. -/
theorem Ready.instr_after {k : Insn} {o : Op} {i j ri ro len : Nat} {body : Run Retire} {s : State} {f g : Core → Core} (h : Ready s k.lcn)
    (he : o.entry = none ∨ RomOnly s k.lcn) (hp : k.pfx = []) (hn : (s.core k.lcn).delay = true → o.noSlot = false) (hv : o.priv = true → s.sup k.lcn = true)
    (hd : i ≤ (s.core k.lcn).ds.cache.length) (hd2 : (s.core k.lcn).ds.cache.length - i + j ≤ 32)
    (hr : ri ≤ (s.core k.lcn).rs.cache.length) (hr2 : (s.core k.lcn).rs.cache.length - ri + ro ≤ 16) (hl : o.len = len)
    (hb : body s = .ok .next (s.modCore k.lcn f)) (hf : f (s.core k.lcn) = g (s.core k.lcn)) :
    instr k o i j ri ro body s = .next (s.after k len g) := by
  rw [instr_next h he hp hn hv hd hd2 hr hr2, hb, settle_ok, hl, ← s.after_congr k len hf]
  simp [State.after, hp]

section
variable {k : Insn} {s : State} {a b r p : Word} {rest : List Word}

/-- A two-operand instruction on cached entries: its result above the rest, and its PSW. -/
theorem binary_next {code : Byte} {f : Word → Word → Word → Word × Word} (h : Ready s k.lcn) (hp : k.pfx = []) (hc : (s.core k.lcn).ds.cache = b :: a :: rest)
    (hf : f a b (s.core k.lcn).psw = (r, p)) : binary k code f s = .next (s.after k 1 fun c => { c.withStack (r :: rest) with psw := p }) := by
  have hmax := h.dsMax
  refine stackOp_next h rfl hp rfl rfl rfl ?_ ?_ ?_
  · simp [hc]
  · simp [hc] at hmax ⊢; omega
  · simp [hc, Core.replaceTop, Core.withStack, t0, t1, hf]

/-- A two-operand instruction that leaves flags alone. -/
theorem compare_next {code : Byte} {f : Word → Word → Word → Word} (h : Ready s k.lcn) (hp : k.pfx = []) (hc : (s.core k.lcn).ds.cache = b :: a :: rest)
    (hf : f a b (s.core k.lcn).psw = p) : compare k code f s = .next (s.after k 1 fun c => { c.withStack rest with psw := p }) := by
  have hmax := h.dsMax
  refine stackOp_next h rfl hp rfl rfl rfl ?_ ?_ ?_
  · simp [hc]
  · simp [hc] at hmax ⊢; omega
  · simp [hc, Core.replaceTop, Core.withStack, t0, t1, hf]

/-- A one-operand instruction on a cached entry. -/
theorem unary_next {bytes : List Byte} {len : Nat} {f : Word → Word → Word × Word} (h : Ready s k.lcn) (hp : k.pfx = []) (hc : (s.core k.lcn).ds.cache = a :: rest)
    (hf : f a (s.core k.lcn).psw = (r, p)) : unary k (op bytes len) f s = .next (s.after k len fun c => { c.withStack (r :: rest) with psw := p }) := by
  have hmax := h.dsMax
  refine stackOp_next h rfl hp rfl rfl rfl ?_ ?_ ?_
  · simp [hc]
  · simp [hc] at hmax ⊢; omega
  · simp [hc, Core.replaceTop, Core.withStack, t0, hf]

/-- A division by a divisor other than zero (R79). -/
theorem division_next {code : Byte} {f : Word → Word → Word} {v : Word → Word → Bool} (h : Ready s k.lcn) (hp : k.pfx = []) (hc : (s.core k.lcn).ds.cache = b :: a :: rest)
    (hb : b ≠ 0) :
    division k code f v s = .next (s.after k 1 fun c => { c.withStack (f a b :: rest) with psw := flagsDiv (s.core k.lcn).psw (f a b) (v a b) }) := by
  rw [division]
  refine h.instr_after (f := fun c => c.replaceTop 2 [f a b] (flagsDiv c.psw (f a b) (v a b))) (.inl rfl) hp (by simp [op]) (by simp [op]) (by simp [hc]) ?_ (Nat.zero_le _) ?_ rfl ?_ ?_
  · have := h.dsMax; omega
  · have := h.rsMax; omega
  · rw [run_bind, coreOf_run]
    simp only [hc, t0, t1, List.getD_cons_zero, List.getD_cons_succ, if_neg hb]
    rfl
  · simp [hc, Core.replaceTop, Core.withStack]

/-- Integer-Divide: the stack stays as it is (R79). -/
theorem division_zero {code : Byte} {f : Word → Word → Word} {v : Word → Word → Bool} (h : Ready s k.lcn) (hp : k.pfx = []) (hc : (s.core k.lcn).ds.cache = 0 :: a :: rest) :
    division k code f v s = s.raises k.lcn { Exc.plain 13 4 (s.core k.lcn).pc with opc := [code], ilen := 1 } := by
  rw [division, h.instr_shrinking rfl hp rfl rfl (by simp [hc]) (by omega)]
  simp [hc, t0, h.settle_exc, Exc.withOp, hp, op]

end

/-! The flag codes of R77. -/

theorem flagsAdd_noCarry (p a b : Word) :
    flagsAdd p a b false = setFlags p (decide (a + b = 0)) (a + b).msb (overflows (a.toInt + b.toInt)) (decide (2 ^ 64 ≤ a.toNat + b.toNat)) := by
  simp [flagsAdd, isZ, isN, overflows, beq_eq_decide]

theorem flagsSub_noBorrow (p a b : Word) :
    flagsSub p a b false = setFlags p (decide (a - b = 0)) (a - b).msb (overflows (a.toInt - b.toInt)) (decide (b.toNat ≤ a.toNat)) := by
  simp [flagsSub, isZ, isN, overflows, beq_eq_decide]

theorem flagsMul_eq (p a b : Word) :
    flagsMul p a b = setFlags p (decide (a * b = 0)) (a * b).msb (overflows (a.toInt * b.toInt)) (decide (2 ^ 64 ≤ a.toNat * b.toNat)) := by
  simp [flagsMul, isZ, isN, overflows, beq_eq_decide]

/-- With the carry of PSW as a number. -/
theorem flagsAdd_carry (p a b : Word) (c : Bool) :
    let ci : Nat := if c then 1 else 0
    flagsAdd p a b c = setFlags p (decide (a + b + BitVec.ofNat 64 ci = 0)) (a + b + BitVec.ofNat 64 ci).msb (overflows (a.toInt + b.toInt + ci))
      (decide (2 ^ 64 ≤ a.toNat + b.toNat + ci)) := by
  cases c <;> simp [flagsAdd, isZ, isN, overflows, beq_eq_decide]

/-- With the borrow, the carry of PSW inverted, as a number. -/
theorem flagsSub_borrow (p a b : Word) (c : Bool) :
    let bi : Nat := if c then 0 else 1
    flagsSub p a b (!c) = setFlags p (decide (a - b - BitVec.ofNat 64 bi = 0)) (a - b - BitVec.ofNat 64 bi).msb (overflows (a.toInt - b.toInt - bi))
      (decide (b.toNat + bi ≤ a.toNat)) := by
  cases c <;> simp [flagsSub, isZ, isN, overflows, beq_eq_decide]

theorem ofNat_carry (c : Bool) : BitVec.ofNat 64 (if c then 1 else 0) = if c then 1 else 0 := by cases c <;> rfl

theorem ofNat_borrow (c : Bool) : BitVec.ofNat 64 (if c then 0 else 1) = if c then 0 else 1 := by cases c <;> rfl

theorem flagsLogic_eq (p r : Word) : flagsLogic p r = setFlags p (decide (r = 0)) r.msb false (pswC p) := by
  simp [flagsLogic, isZ, isN, beq_eq_decide]

theorem integerTwoOperands : Claim.IntegerTwoOperands := by
  intro k s a b rest h hp hc
  refine ⟨?_, ?_, ?_, ?_, ?_, ?_, ?_, ?_, ?_⟩
  · rw [exec_add, execAdd, binary_next h hp hc (by rw [flagsAdd_noCarry])]; rfl
  · rw [exec_sub, execSub, binary_next h hp hc (by rw [flagsSub_noBorrow])]; rfl
  · rw [exec_mul, execMul, binary_next h hp hc (by rw [flagsMul_eq])]; rfl
  · rw [exec_mulh, execMulh, binary_next h hp hc rfl]; rfl
  · rw [exec_mulhu, execMulhu, binary_next h hp hc rfl]; rfl
  · rw [exec_adc, execAdc]
    exact binary_next h hp hc (Prod.ext (by rw [ofNat_carry]) (flagsAdd_carry ..))
  · rw [exec_sbc, execSbc]
    exact binary_next h hp hc (Prod.ext (by rw [ofNat_borrow]) (flagsSub_borrow ..))
  · rw [exec_cmp, execCmp, compare_next h hp hc (by rw [flagsSub_noBorrow])]; rfl
  · rw [exec_tst, execTst, compare_next h hp hc (by rw [flagsLogic_eq])]; rfl

theorem integerOneOperand : Claim.IntegerOneOperand := by
  intro k s a rest h hp hc
  have hmax := h.dsMax
  refine ⟨?_, ?_, ?_, fun v => ?_, fun v => ?_, fun v => ?_⟩
  · rw [exec_neg, execNeg, unary_next h hp hc (by rw [flagsSub_noBorrow])]; rfl
  · rw [exec_inc, execInc, unary_next h hp hc (by rw [flagsAdd_noCarry])]; rfl
  · rw [exec_dec, execDec, unary_next h hp hc (by rw [flagsSub_noBorrow])]; rfl
  · rw [exec_addi, execAddi, unary_next h hp hc (by rw [flagsAdd_noCarry])]; rfl
  · rw [exec_addi, execAddi, unary_next h hp hc (by rw [flagsAdd_noCarry])]; rfl
  · rw [exec_cmpi, execCmpi]
    refine stackOp_next h rfl hp rfl rfl rfl ?_ ?_ ?_
    · simp [hc]
    · simp [hc] at hmax ⊢; omega
    · simp [hc, Core.replaceTop, Core.withStack, t0, flagsSub_noBorrow, sext]

theorem flagsDiv_eq (p r : Word) (v : Bool) : flagsDiv p r v = setFlags p (decide (r = 0)) r.msb v false := by
  simp [flagsDiv, isZ, isN, beq_eq_decide]

/-- The one quotient that leaves the range (R79): −2^63 by −1. -/
theorem quotientOverflow (a b : Word) : (a == 0x8000000000000000 && b == BitVec.allOnes 64) = decide (a.toInt = -(2 ^ 63) ∧ b.toInt = -1) := by
  rw [Bool.eq_iff_iff]
  simp only [Bool.and_eq_true, beq_iff_eq, decide_eq_true_eq, ← BitVec.toInt_inj]
  rfl

theorem divisions : Claim.Division := by
  intro k s a b rest h hp hc
  refine ⟨fun hb => ⟨?_, ?_, ?_, ?_⟩, ?_⟩
  · rw [exec_div, execDiv, division_next h hp hc hb, flagsDiv_eq, quotientOverflow]
  · rw [exec_divu, execDivu, division_next h hp hc hb, flagsDiv_eq]
  · rw [exec_rem, execRem, division_next h hp hc hb, flagsDiv_eq]
  · rw [exec_remu, execRemu, division_next h hp hc hb, flagsDiv_eq]
  · rintro rfl
    rw [exec_div, execDiv, exec_divu, execDivu, exec_rem, execRem, exec_remu, execRemu]
    exact ⟨division_zero h hp hc, division_zero h hp hc, division_zero h hp hc, division_zero h hp hc⟩

/-- Settles O6: the bits of PSW, then each instruction with its flag code. -/
theorem integerArithmetic : Obligations.IntegerArithmetic := ⟨flagsInPsw, integerTwoOperands, integerOneOperand, divisions⟩

end Sys2Proof.Machine
end

section
/-! SUPPORT. Instructions refused before they execute (R57, R59, R60, R65, R67), which settle O18. -/

namespace Sys2Proof.Machine

section
variable {k : Insn} {o : Op} {s : State}

/-- An instruction that step 2 of R59 refuses raises its exception. -/
theorem Ready.trapInstr_raises {f : Core → Exc} (h : Ready s k.lcn) : trapInstr k o f s = s.raises k.lcn (f (s.core k.lcn)) := by
  rw [trapInstr, h.mayStart, State.raises]

variable {i j ri ro : Nat} {body : Run Retire}

/-- Checks that fail before anything changes raise their exception (steps 3 and 5 of R59). -/
theorem Ready.instr_unchecked {e : Exc} (h : Ready s k.lcn) (hc : precheck k o s = .error (.exc e) s) : instr k o i j ri ro body s = s.raises k.lcn e := by
  simp only [instr, h.mayStart, run_bind, hc]
  exact h.settle_exc _ _ e

theorem Ready.instr_illegalPrefix {cause : Nat} (h : Ready s k.lcn) (hp : pfxCause (s.core k.lcn).delay o k.pfx = some cause) :
    instr k o i j ri ro body s = s.raises k.lcn (({ Exc.plain 10 4 (s.core k.lcn).pc with cause := BitVec.ofNat 16 cause }).withOp k o) :=
  h.instr_unchecked (by simp [precheck, hp])

theorem Ready.instr_privileged (h : Ready s k.lcn) (hp : pfxCause (s.core k.lcn).delay o k.pfx = none) (hv : o.priv = true) (hu : s.sup k.lcn = false) :
    instr k o i j ri ro body s = s.raises k.lcn ((Exc.plain 11 4 (s.core k.lcn).pc).withOp k o) :=
  h.instr_unchecked (by simp [precheck, hp, hv, show pswS (s.core k.lcn).psw = false from hu])

end

/-- The opcode record of an instruction without prefixes (R148). -/
theorem Exc.withOp_nil {e : Exc} {k : Insn} {o : Op} (hp : k.pfx = []) (hl : o.bytes.length ≤ 4) : e.withOp k o = { e with opc := o.bytes, ilen := o.len } := by
  simp [Exc.withOp, hp, List.take_of_length_le hl]

theorem reservedOpcodes : Claim.ReservedOpcodes := by
  intro k s h hp
  refine ⟨fun b hb => ?_, fun e x hx => ?_⟩
  · rw [exec_reservedInstruction, execReservedInstruction, reservedExc, if_pos hb]
    exact h.trapInstr_raises.trans (congrArg _ (Exc.withOp_nil hp (by simp [op])))
  · rw [exec_reservedInstruction, execReservedInstruction, reservedExc, if_pos hx]
    exact h.trapInstr_raises.trans (congrArg _ (Exc.withOp_nil hp (by simp [op])))

/-- An opcode that admits no prefix refuses every list of them: in a delay slot, for the arrangement, or for the opcode (R57). -/
theorem pfxCause_none_admitted {d : Bool} {o : Op} {ps : List Pfx} (h : ps ≠ []) (ho : ∀ p, o.admits p = false) :
    pfxCause d o ps = some (if d then 2 else if pfxArranged ps then 1 else 0) := by
  obtain ⟨p, ps, rfl⟩ := List.exists_cons_of_ne_nil h
  cases d <;> cases ha : pfxArranged (p :: ps) <;> simp [pfxCause, ho, ha]

theorem illegalPrefixes : Claim.IllegalPrefixes := by
  intro k s h hp
  have hc := pfxCause_none_admitted (d := (s.core k.lcn).delay) (o := op [0x10] 1) hp (fun p => by cases p <;> rfl)
  rw [exec_add, execAdd, binary, stackOp]
  refine ⟨fun hd => ?_, fun hd ha => ?_, fun hd ha => ?_⟩
  · rw [h.instr_illegalPrefix hc, hd]; rfl
  · rw [h.instr_illegalPrefix hc, hd, ha]; rfl
  · rw [h.instr_illegalPrefix hc, hd, ha]; rfl

/-- Settles O18: the exceptions of steps 2 and 3 of R59. -/
theorem illegalInstructions : Obligations.IllegalInstructions := ⟨reservedOpcodes, illegalPrefixes⟩

end Sys2Proof.Machine
end

section
/-! SUPPORT. Branches, calls and returns (R61, R62, R64, R93), which settle O13. -/

namespace Sys2Proof.Machine

/-! The retirement of an instruction, however it leaves the pc (R61, R202, R227, R244). -/

/-- What an instruction leaves in its core as it retires: its events counted, the pc advanced, and no retries, wait or string in progress. -/
def Core.retired (c : Core) (len : Nat) (sup : Bool) (r : Retire) : Core :=
  { (c.countDue sup (fun _ => true)).advance len r with retries := 0, ioWait := none, strProgress := false }

/-- The counters at a retirement (R227): one instruction more, and one conditional branch more where cond holds. -/
def Core.countInstr (c : Core) (sup cond : Bool) : Core := if cond then (c.perfAddAs sup 2 1).perfAddAs sup 3 1 else c.perfAddAs sup 2 1

theorem Core.countInstr_quiet (s : State) (n : Nat) (sup cond : Bool) : Quiet s (s.modCore n fun c => c.countInstr sup cond) n := by
  unfold Core.countInstr
  cases cond with
  | true =>
    simp only [if_true]
    exact .modCore (by constructor <;> rfl) rfl rfl rfl
  | false =>
    simp only [Bool.false_eq_true, if_false]
    exact .modCore (by constructor <;> rfl) rfl rfl rfl

/-- A retirement is a quiet change, then the change of the core, then the microcode image that the core owes. -/
theorem State.retire_eq (s : State) (n len : Nat) (sup : Bool) {r : Retire} (hr : r ≠ .stay) :
    ∃ u, Quiet s u n ∧ s.retire n len sup r = (u.modCore n fun c => c.retired len sup r).switchDue n := by
  have q := fun taken cond => ((countHold_quiet s n taken).trans (Core.countInstr_quiet _ n sup cond)).trans (perfTick_quiet _ n sup)
  have hstay : (r == Retire.stay) = false := beq_eq_false_iff_ne.mpr hr
  unfold State.retire
  rw [if_neg hr, hstay]
  exact ⟨_, q _ _, by simp only [Bool.false_and]; rfl⟩

/-- The core after a branch outside a delay slot (R61). -/
theorem Core.retired_branch (c : Core) (len : Nat) (sup taken cond : Bool) (target : Word) (a : Bool) (slotLen : Nat) (hd : c.delay = false) :
    let d := c.retired len sup (.branch taken cond target a slotLen)
    let slot := c.pc + BitVec.ofNat 64 len
    let after := if taken then target else slot + BitVec.ofNat 64 slotLen
    SameCore c d ∧ (a = false ∨ (cond = true ∧ taken = true) → d.pc = slot ∧ d.delay = true ∧ d.npc = after) ∧
      (a = true → (cond = true → taken = false) → d.pc = after ∧ d.delay = false) := by
  obtain ⟨hsame, hpc, hdelay, -⟩ := countDue_same c sup (fun _ => true)
  dsimp only [Core.retired, Core.advance]
  by_cases h : (!a || (cond && taken)) = true
  · rw [if_pos h, hpc]
    refine ⟨hsame.trans (by constructor <;> rfl), fun _ => ⟨rfl, rfl, rfl⟩, fun ha ht => ?_⟩
    cases cond <;> simp_all
  · rw [if_neg h, hpc]
    refine ⟨hsame.trans (by constructor <;> rfl), fun hr => ?_, fun _ _ => ⟨rfl, hdelay.trans hd⟩⟩
    simp only [Bool.not_eq_true, Bool.or_eq_false_iff, Bool.not_eq_false', Bool.and_eq_false_iff] at h
    rcases hr with ha | ⟨hc, ht⟩ <;> simp_all

section
variable {k : Insn} {o : Op} {i j ri ro len slotLen : Nat} {body : Run Retire} {s : State} {taken cond a : Bool} {target : Word} {f : Core → Core} {c : Core}

/-- A branch outside a delay slot, without prefixes, whose own execution changes its core to c at most. -/
theorem Ready.instr_branched (h : Ready s k.lcn) (hp : k.pfx = []) (hd : (s.core k.lcn).delay = false) (he : o.entry = none) (hv : o.priv = false)
    (hi : i ≤ (s.core k.lcn).ds.cache.length) (hj : j ≤ i)
    (hri : ri ≤ (s.core k.lcn).rs.cache.length) (hro : (s.core k.lcn).rs.cache.length - ri + ro ≤ 16)
    (hb : body s = .ok (.branch taken cond target a slotLen) (s.modCore k.lcn f)) (hf : f (s.core k.lcn) = c)
    (hpc : c.pc = (s.core k.lcn).pc) (hdelay : c.delay = (s.core k.lcn).delay) (hl : o.len = len) :
    ∃ t, instr k o i j ri ro body s = .next t ∧ Branched s t k.lcn c ((s.core k.lcn).pc + BitVec.ofNat 64 len) slotLen taken cond a target := by
  have hmax := h.dsMax
  rw [instr_next h (.inl he) hp (by simp [hd]) (by simp [hv]) hi (by omega) hri hro, hb, settle_ok, hl]
  obtain ⟨u, q, hu⟩ := (s.modCore k.lcn f).retire_eq k.lcn len (s.sup k.lcn) (r := .branch taken cond target a slotLen) (by simp)
  have hcore : (s.modCore k.lcn f).core k.lcn = c := (s.modCore_core k.lcn f h.lt).trans hf
  have hlen : k.lcn < u.cores.length := by rw [q.len, State.modCore_length]; exact h.lt
  have hupc : (u.core k.lcn).pc = (s.core k.lcn).pc := by rw [q.pc, hcore, hpc]
  obtain ⟨hsame, hruns, hskips⟩ := (u.core k.lcn).retired_branch len (s.sup k.lcn) taken cond target a slotLen (by rw [q.delay, hcore, hdelay, hd])
  rw [hupc] at hruns hskips
  have hnew := u.modCore_core k.lcn (fun c => c.retired len (s.sup k.lcn) (.branch taken cond target a slotLen)) hlen
  refine ⟨_, congrArg _ hu, _, ⟨?_, ?_, ?_, ?_, ?_⟩, rfl⟩
  · exact ((SameOutside.modCore s k.lcn f).trans q.outside).trans (.modCore u k.lcn _)
  · intro m hm
    rw [u.modCore_other k.lcn m _ hm, q.others m hm, s.modCore_other k.lcn m f hm]
  · rw [hnew]
    exact (hcore ▸ q.core).trans hsame
  · rw [hnew]
    exact hruns
  · rw [hnew]
    exact hskips

end

/-! The branches of R93. -/

section
variable {k : Insn} {s : State}

/-- A change of a core that is none. -/
theorem State.modCore_id (s : State) (n : Nat) : s.modCore n id = s := State.modCore_self rfl

/-- A branch that touches no stack. -/
theorem Ready.instr_jumps {o : Op} {len slotLen : Nat} {body : Run Retire} {taken cond a : Bool} {target : Word} (h : Ready s k.lcn) (hp : k.pfx = [])
    (hd : (s.core k.lcn).delay = false) (he : o.entry = none) (hv : o.priv = false) (hb : body s = .ok (.branch taken cond target a slotLen) s) (hl : o.len = len) :
    ∃ t, instr k o 0 0 0 0 body s = .next t ∧
      Branched s t k.lcn (s.core k.lcn) ((s.core k.lcn).pc + BitVec.ofNat 64 len) slotLen taken cond a target :=
  h.instr_branched (f := id) hp hd he hv (Nat.zero_le _) (Nat.le_refl _) (Nat.zero_le _) (by have := h.rsMax; omega) (by rw [s.modCore_id]; exact hb) rfl rfl rfl hl

theorem condBranch_branched (h : Ready s k.lcn) (hp : k.pfx = []) (hd : (s.core k.lcn).delay = false) (i : Nat) (b : Branch16) :
    ∃ t, condBranch k i b s = .next t ∧ Branched s t k.lcn (s.core k.lcn) ((s.core k.lcn).pc + 3) b.slotLen (branchCond (s.core k.lcn).psw i) true b.slotBit
      ((s.core k.lcn).pc + b.disp.signExtend 64) :=
  h.instr_jumps hp hd rfl rfl rfl rfl

theorem popBranch_branched {x : Word} {rest : List Word} (h : Ready s k.lcn) (hp : k.pfx = []) (hd : (s.core k.lcn).delay = false)
    (hc : (s.core k.lcn).ds.cache = x :: rest) (code : Byte) (onZero : Bool) (b : Branch16) :
    ∃ t, popBranch k code onZero b s = .next t ∧ Branched s t k.lcn ((s.core k.lcn).withStack rest) ((s.core k.lcn).pc + 3) b.slotLen ((x == 0) == onZero) true b.slotBit
      ((s.core k.lcn).pc + b.disp.signExtend 64) :=
  h.instr_branched (f := fun c => c.pushes 1 []) hp hd rfl rfl (by simp [hc]) (Nat.zero_le _) (Nat.zero_le _) (by have := h.rsMax; omega)
    (by simp [hc, t0, relTarget, sext]) (by simp [hc, Core.pushes, Core.withStack]) rfl rfl rfl

theorem branches : Claim.Branches := by
  intro k s b l h hp hd
  refine ⟨?_, h.instr_jumps hp hd rfl rfl rfl rfl, h.instr_jumps hp hd rfl rfl rfl rfl, fun x rest hc => ⟨?_, ?_⟩⟩
  · have hcond := fun i => condBranch_branched h hp hd i b
    simp only [List.forall_mem_cons, List.not_mem_nil, false_implies, implies_true, and_true]
    exact ⟨hcond 0, hcond 1, hcond 2, hcond 3, hcond 4, hcond 5, hcond 6, hcond 7, hcond 8, hcond 9, hcond 10, hcond 11⟩
  · have hz := popBranch_branched h hp hd hc 0x62 true b
    rw [beq_true, beq_eq_decide] at hz
    exact hz
  · have hnz := popBranch_branched h hp hd hc 0x64 false b
    rw [beq_false, beq_eq_decide, ← decide_not] at hnz
    exact hnz

theorem returnAddr_eq (c : Core) (len slotLen : Nat) : returnAddr c len slotLen = c.pc + BitVec.ofNat 64 len + BitVec.ofNat 64 slotLen := by
  rw [returnAddr, BitVec.ofNat_add, BitVec.add_assoc]

theorem callsAndReturns : Claim.CallsAndReturns := by
  intro k s b l i x rest h hp hd
  have hmax := h.rsMax
  refine ⟨fun hr => ⟨?_, ?_, fun hc => ?_⟩, fun hc => ?_, fun hc => ?_⟩
  · exact h.instr_branched (f := fun c => c.rpushes 0 [returnAddr c 3 b.slotLen]) hp hd rfl rfl (Nat.zero_le _) (Nat.le_refl _) (Nat.zero_le _) (by omega)
      rfl (by simp [Core.rpushes, Core.withReturn, returnAddr_eq]) rfl rfl rfl
  · exact h.instr_branched (f := fun c => c.rpushes 0 [returnAddr c 5 l.slotLen]) hp hd rfl rfl (Nat.zero_le _) (Nat.le_refl _) (Nat.zero_le _) (by omega)
      rfl (by simp [Core.rpushes, Core.withReturn, returnAddr_eq]) rfl rfl rfl
  · exact h.instr_branched (f := fun c => (c.pushes 1 []).rpushes 0 [returnAddr c 1 i.slotLen]) hp hd rfl rfl (by simp [hc]) (Nat.zero_le _) (Nat.zero_le _) (by omega)
      (by simp [hc, t0]) (by simp [hc, Core.pushes, Core.rpushes, Core.withStack, Core.withReturn, returnAddr_eq]) rfl rfl rfl
  · exact h.instr_branched (f := fun c => c.pushes 1 []) hp hd rfl rfl (by simp [hc]) (Nat.zero_le _) (Nat.zero_le _) (by omega)
      (by simp [hc, t0]) (by simp [hc, Core.pushes, Core.withStack]) rfl rfl rfl
  · exact h.instr_branched (f := fun c => c.rpushes 1 []) hp hd rfl rfl (Nat.zero_le _) (Nat.le_refl _) (by simp [hc]) (by omega)
      (by simp [hc, Core.rtop]) (by simp [hc, Core.rpushes, Core.withReturn]) rfl rfl rfl

/-- Settles O13: the branches, then the calls and returns. -/
theorem controlTransfer : Obligations.ControlTransfer := ⟨branches, callsAndReturns⟩

end

end Sys2Proof.Machine
end

section
/-! SUPPORT. Special registers, their protection, and the time (R47, R48, R60, R81 to R83), which settle O8. -/

namespace Sys2Proof.Machine

/-! The registers by number (R47). -/

/-- A register whose value time moves (R48, R82). -/
def Sr.timed : Sr → Bool
  | .cyc | .todh | .todl => true
  | _ => false

/-- The registers that RDSR reads as they stand, by number. -/
def untimedSrs : List (Nat × Sr) :=
  ([(0x00, .psw), (0x01, .tsbr), (0x02, .vbr), (0x03, .iroot), (0x04, .droot), (0x05, .pid), (0x06, .krr), (0x07, .lcn), (0x08, .mcver),
    (0x10, .dsp), (0x11, .dslo), (0x12, .dshi), (0x13, .rsp), (0x14, .rslo), (0x15, .rshi), (0x18, .cnt), (0x19, .src), (0x1A, .dst), (0x1C, .fpc),
    (0x21, .beatc)] : List (Nat × Sr)) ++ (List.range 8).map (fun i => (0x40 + i, Sr.pctl i)) ++ (List.range 8).map (fun i => (0x48 + i, Sr.pcnt i))

/-- The registers that WRSR names, by number. -/
def writtenSrs : List (Nat × Sr) :=
  ([(0x00, .psw), (0x01, .tsbr), (0x02, .vbr), (0x03, .iroot), (0x04, .droot), (0x05, .pid), (0x06, .krr),
    (0x10, .dsp), (0x11, .dslo), (0x12, .dshi), (0x13, .rsp), (0x14, .rslo), (0x15, .rshi), (0x18, .cnt), (0x19, .src), (0x1A, .dst), (0x1C, .fpc),
    (0x07, .lcn), (0x08, .mcver), (0x20, .cyc), (0x21, .beatc), (0x22, .todh), (0x23, .todl)] : List (Nat × Sr)) ++
  (List.range 8).map (fun i => (0x40 + i, Sr.pctl i)) ++ (List.range 8).map (fun i => (0x48 + i, Sr.pcnt i))

theorem srOf_pctl : ∀ i < 8, srOf (0x40 + i) = some (.pctl i) := by decide

theorem srOf_pcnt : ∀ i < 8, srOf (0x48 + i) = some (.pcnt i) := by decide

theorem srTable_eq (n : Nat) (p : Plant) : srTable n p = untimedSrs.map fun x => (x.1, fun c => c.srRead n p x.2) := rfl

theorem srWrites_eq (v : Word) : srWrites v = writtenSrs.map fun x => (x.1, fun c => c.srWrite v x.2) := rfl

theorem untimedSrs_numbered : ∀ x ∈ untimedSrs, x.1 < 256 ∧ srOf x.1 = some x.2 ∧ x.2.timed = false := by decide

/-- The registers whose writes are serialising have the numbers 0 to 5 (R47). -/
theorem writtenSrs_numbered : ∀ x ∈ writtenSrs, x.1 < 256 ∧ srOf x.1 = some x.2 ∧ x.2.serialising = decide (x.1 < 6) := by decide

/-- The registers that user state may not read. -/
theorem srOf_readS {m : Nat} (h : m ∈ [0x01, 0x02, 0x03, 0x04] ∨ (0x40 ≤ m ∧ m < 0x48)) : ∃ r, srOf m = some r ∧ r.readS = true := by
  rcases h with h | ⟨h1, h2⟩
  · have hlist : ∀ m ∈ [0x01, 0x02, 0x03, 0x04], ∃ r ∈ srOf m, r.readS = true := by decide
    exact hlist m h
  · obtain ⟨i, rfl⟩ := Nat.exists_eq_add_of_le h1
    exact ⟨_, srOf_pctl i (by omega), rfl⟩

/-- The registers that user state may not write. -/
theorem srOf_writeS {m : Nat} (h : m ∈ [0x00, 0x01, 0x02, 0x03, 0x04, 0x05, 0x06, 0x11, 0x12, 0x14, 0x15] ∨ (0x40 ≤ m ∧ m < 0x50)) :
    ∃ r, srOf m = some r ∧ r.writeS = true := by
  rcases h with h | ⟨h1, h2⟩
  · have hlist : ∀ m ∈ [0x00, 0x01, 0x02, 0x03, 0x04, 0x05, 0x06, 0x11, 0x12, 0x14, 0x15], ∃ r ∈ srOf m, r.writeS = true := by decide
    exact hlist m h
  · rcases Nat.lt_or_ge m 0x48 with h3 | h3
    · obtain ⟨i, rfl⟩ := Nat.exists_eq_add_of_le h1
      exact ⟨_, srOf_pctl i (by omega), rfl⟩
    · obtain ⟨i, rfl⟩ := Nat.exists_eq_add_of_le h3
      exact ⟨_, srOf_pcnt i (by omega), rfl⟩

theorem srOf_reserved {m : Nat} (h : m ∈ [0x09, 0x0F, 0x16, 0x17, 0x1B, 0x1D, 0x24, 0x3F] ∨ 0x50 ≤ m) : srOf m = none := by
  rcases h with h | h
  · have hlist : ∀ m ∈ [0x09, 0x0F, 0x16, 0x17, 0x1B, 0x1D, 0x24, 0x3F], srOf m = none := by decide
    exact hlist m h
  · simp (disch := omega) only [srOf, if_neg]

/-! RDSR and WRSR (R81). -/

section
variable {k : Insn} {s : State} {n : BitVec 8} {r : Sr}

/-- Reading a register whose value time does not move. -/
theorem readReg_untimed (k : Insn) (o : Op) (s : State) (hr : r.timed = false) :
    readReg k o r s = instr k { o with priv := r.readS } 0 1 0 0 (do
      let s ← get
      onCore k.lcn (fun c => c.pushes 0 [c.srRead k.lcn s.plant r])
      return .next) s := by
  cases r with
  | cyc => cases hr
  | todh => cases hr
  | todl => cases hr
  | _ => rfl

theorem rdsr_next (h : Ready s k.lcn) (hp : k.pfx = []) (hs : s.sup k.lcn = true) (hc : (s.core k.lcn).ds.cache.length < 32) (hn : srOf n.toNat = some r)
    (hr : r.timed = false) :
    exec (.rdsr k n) s = .next (s.after k 2 fun c => c.withStack (c.srRead k.lcn s.plant r :: c.ds.cache)) := by
  have hmax := h.rsMax
  simp only [exec_rdsr, execRdsr, hn]
  rw [readReg_untimed k _ s hr]
  exact h.instr_after (.inl rfl) hp (fun _ => rfl) (fun _ => hs) (Nat.zero_le _) (by omega) (Nat.zero_le _) (by omega) rfl rfl (by simp [Core.pushes, Core.withStack])

theorem wrsr_next {v : Word} {rest : List Word} (h : Ready s k.lcn) (hp : k.pfx = []) (hs : s.sup k.lcn = true) (hc : (s.core k.lcn).ds.cache = v :: rest)
    (hn : srOf n.toNat = some r) (hr : r.serialising = true → RomOnly s k.lcn) :
    exec (.wrsr k n) s = .next (s.after k 2 fun c => (c.withStack rest).srWrite v r) := by
  have hmax := h.rsMax
  have hdmax := h.dsMax
  simp only [exec_wrsr, execWrsr, hn]
  refine h.instr_after ?_ hp (fun _ => rfl) (fun _ => hs) (by simp [hc]) (by omega) (Nat.zero_le _) (by omega) rfl rfl (by simp [hc, t0, Core.pushes, Core.withStack])
  cases hser : r.serialising with
  | false => exact .inl rfl
  | true => exact .inr (hr hser)

end

theorem specialRegisters : Claim.SpecialRegisters := by
  intro k s h hp hs
  have hmax := h.rsMax
  have hdmax := h.dsMax
  refine ⟨fun hc => ?_, fun v rest hc => ?_, fun v rest hc => ?_, fun v rest hc => ?_⟩
  · rw [srTable_eq, List.forall_mem_map]
    intro x hx
    obtain ⟨hlt, hn, ht⟩ := untimedSrs_numbered x hx
    exact rdsr_next h hp hs hc (by rw [BitVec.toNat_ofNat, Nat.mod_eq_of_lt hlt]; exact hn) ht
  · rw [srWrites_eq, List.forall_mem_map]
    intro x hx _ hrom
    obtain ⟨hlt, hn, -⟩ := writtenSrs_numbered x hx
    exact wrsr_next h hp hs hc (by rw [BitVec.toNat_ofNat, Nat.mod_eq_of_lt hlt]; exact hn) (fun _ => hrom)
  · rw [srWrites_eq, List.forall_mem_map]
    intro x hx h6
    obtain ⟨hlt, hn, hser⟩ := writtenSrs_numbered x hx
    exact wrsr_next h hp hs hc (by rw [BitVec.toNat_ofNat, Nat.mod_eq_of_lt hlt]; exact hn) (fun hr => by
      rw [hser, decide_eq_true_eq] at hr
      exact absurd hr (Nat.not_lt.mpr h6))
  · rw [exec_wrkrr, execWrkrr]
    exact h.instr_after (.inl rfl) hp (fun _ => rfl) (fun hv => by cases hv) (by simp [hc]) (by omega) (Nat.zero_le _) (by omega) rfl rfl
      (by simp [hc, t0, Core.pushes, Core.withStack, fld, BitVec.setWidth_eq_extractLsb'])

theorem specialRegisterTraps : Claim.SpecialRegisterTraps := by
  intro k s n h hp
  have hnil : ∀ {o : Op}, o.noSlot = false → pfxCause (s.core k.lcn).delay o k.pfx = none := fun ho => by rw [hp]; exact pfxCause_nil fun _ => ho
  refine ⟨fun hu => ⟨fun hr => ?_, fun hw => ?_⟩, fun hres => ?_⟩
  · obtain ⟨r, hr, hread⟩ := srOf_readS hr
    simp only [exec_rdsr, execRdsr, hr, readReg]
    exact (h.instr_privileged (hnil rfl) hread hu).trans (congrArg _ (Exc.withOp_nil hp (by simp [op])))
  · obtain ⟨r, hr, hwrite⟩ := srOf_writeS hw
    simp only [exec_wrsr, execWrsr, hr]
    exact (h.instr_privileged (hnil rfl) hwrite hu).trans (congrArg _ (Exc.withOp_nil hp (by simp [op])))
  · have hnone := srOf_reserved hres
    have hinfo : BitVec.ofNat 64 n.toNat = n.setWidth 64 := by simp
    simp only [exec_rdsr, execRdsr, exec_wrsr, execWrsr, hnone, reservedReg, hinfo]
    exact ⟨h.trapInstr_raises.trans (congrArg _ (Exc.withOp_nil hp (by simp [op]))), h.trapInstr_raises.trans (congrArg _ (Exc.withOp_nil hp (by simp [op])))⟩

/-! The time (R48, R82, R83, R455). -/

/-- The switch to a microcode image, where the core owes one, changes its MCVER and the life cycle alone (R244). -/
theorem State.switchDue_cases (s : State) (n : Nat) :
    s.switchDue n = s ∨ ∃ v l, s.switchDue n = { s.modCore n (fun c => { c with mcver := v }) with life := l } := by
  unfold State.switchDue
  split
  · unfold State.takeMaster State.mclSettle
    dsimp only
    split <;> exact .inr ⟨_, _, rfl⟩
  · exact .inl rfl

/-- A core whose MCVER alone changes. -/
theorem State.modCore_mcver (s : State) (n : Nat) (v : Word) : ∃ w, (s.modCore n fun c => { c with mcver := v }).core n = { s.core n with mcver := w } := by
  by_cases h : n < s.cores.length
  · exact ⟨v, s.modCore_core n _ h⟩
  · refine ⟨(s.core n).mcver, ?_⟩
    simp [State.core, State.modCore, modAt, List.modify_eq_self (Nat.le_of_not_lt h)]

/-- What a retirement in sequence leaves of time and of the stacks. -/
theorem Retired.time {s t : State} {n len : Nat} {c : Core} (h : Retired s t n len c) : t.plant = s.plant ∧ (t.core n).ds = c.ds ∧ (t.core n).cyc = c.cyc := by
  obtain ⟨u, hu, rfl⟩ := h
  rcases u.switchDue_cases n with e | ⟨v, l, e⟩
  · rw [e]
    exact ⟨hu.outside.plant, hu.core.ds, hu.core.cyc⟩
  · obtain ⟨w, hw⟩ := u.modCore_mcver n v
    have hcore : (u.switchDue n).core n = { u.core n with mcver := w } := by
      rw [e]
      exact hw
    rw [hcore, e]
    exact ⟨hu.outside.plant, hu.core.ds, hu.core.cyc⟩

/-- An instruction without prefixes whose own execution passes time, which leaves the cores alone, and then changes its core. -/
theorem Ready.instr_timed {k : Insn} {o : Op} {j : Nat} {body : Run Retire} {s u : State} {f : Core → Core} (h : Ready s k.lcn) (he : o.entry = none)
    (hp : k.pfx = []) (hn : o.noSlot = false) (hv : o.priv = false) (hj : (s.core k.lcn).ds.cache.length + j ≤ 32) (hb : body s = .ok .next (u.modCore k.lcn f))
    (hu : u.cores = s.cores) :
    ∃ t, instr k o 0 j 0 0 body s = .next t ∧ t.plant = u.plant ∧ (t.core k.lcn).ds = (f (s.core k.lcn)).ds ∧ (t.core k.lcn).cyc = (f (s.core k.lcn)).cyc := by
  have hmax := h.rsMax
  have hcore : (u.modCore k.lcn f).core k.lcn = f (s.core k.lcn) := by
    rw [u.modCore_core k.lcn f (hu ▸ h.lt), State.core, State.core, hu]
  have hret : Retired u ((u.modCore k.lcn f).retire k.lcn o.len (s.sup k.lcn) .next) k.lcn o.len (f (s.core k.lcn)) :=
    retire_next (by rw [State.modCore_length, hu]; exact h.lt) (.modCore u k.lcn f) (fun m hm => u.modCore_other k.lcn m f hm) (hcore ▸ .refl _)
      (by rw [hcore]) (by rw [hcore]) (by rw [hcore])
  rw [instr_next h (.inl he) hp (fun _ => hn) (by simp [hv]) (Nat.zero_le _) (by omega) (Nat.zero_le _) (by omega), hb, settle_ok]
  exact ⟨_, rfl, hret.time⟩

/-- The free amount by which CYC counts on does not carry it past 2^64 (R82). -/
theorem passed_le (c v : Word) : c.toNat ≤ (c + BitVec.ofNat 64 (v.toNat % (2 ^ 64 - c.toNat))).toNat := by
  have hc := c.isLt
  have hv := Nat.mod_lt v.toNat (show 0 < 2 ^ 64 - c.toNat by omega)
  rw [BitVec.toNat_add, BitVec.toNat_ofNat, Nat.mod_eq_of_lt (a := v.toNat % _) (by omega), Nat.mod_eq_of_lt (by omega)]
  omega

/-- A state in which time has passed inside the beat: the reference cycles, still below 100, and the counter of free values alone differ (R31). -/
structure TimePassed (s u : State) : Prop where
  cores : u.cores = s.cores
  rises : s.plant.refCycle ≤ u.plant.refCycle
  below : u.plant.refCycle < 100
  base : u.plant.todBase = s.plant.todBase

theorem passTime_run {s : State} (h : s.plant.refCycle < 100) : ∃ u, passTime s = .ok () u ∧ TimePassed s u := by
  have hmod := Nat.mod_lt s.takeFree.1.toNat (Nat.sub_pos_of_lt h)
  have hlt : s.plant.refCycle + s.takeFree.1.toNat % (100 - s.plant.refCycle) < 100 := by omega
  exact ⟨_, rfl, rfl, Nat.le_add_right _ _, hlt, rfl⟩

theorem TimePassed.tod {s u : State} (h : TimePassed s u) : u.plant.tod = s.plant.todBase + BitVec.ofNat 128 u.plant.refCycle * 0x028F5C28F5C28F5C := by
  rw [Plant.tod, h.base, todStep]

/-- CYC counted on by a free amount (R82). -/
def Core.countOn (c : Core) (v : Word) : Core := { c with cyc := c.cyc + BitVec.ofNat 64 (v.toNat % (2 ^ 64 - c.cyc.toNat)) }

theorem passCycles_run (n : Nat) (s : State) : passCycles n s = .ok () (s.takeFree.2.modCore n fun c => c.countOn s.takeFree.1) := rfl

section
variable {k : Insn} {s : State}

/-- RDSR of CYC (R82). -/
theorem rdsr_cyc (h : Ready s k.lcn) (hp : k.pfx = []) (hc : (s.core k.lcn).ds.cache.length < 31) :
    ∃ t, exec (.rdsr k 0x20) s = .next t ∧ (s.core k.lcn).cyc.toNat ≤ (t.core k.lcn).cyc.toNat ∧
      (t.core k.lcn).ds.cache = (t.core k.lcn).cyc :: (s.core k.lcn).ds.cache := by
  have hb : (do
      passCycles k.lcn
      let s ← get
      onCore k.lcn (fun c => c.pushes 0 [c.srRead k.lcn s.plant .cyc])
      return .next : Run Retire) s =
        .ok .next (s.takeFree.2.modCore k.lcn fun c => (c.countOn s.takeFree.1).pushes 0 [(c.countOn s.takeFree.1).cyc]) := by
    simp only [run_bind, passCycles_run, run_get, onCore_run, run_pure, State.modCore_modCore]
    rfl
  obtain ⟨t, ht, -, hds, hcyc⟩ := h.instr_timed (o := { op [0x55] 2 with priv := Sr.cyc.readS }) (j := 1) rfl hp rfl rfl (by omega) hb rfl
  refine ⟨t, ht, ?_, ?_⟩
  · rw [hcyc]
    exact passed_le _ _
  · rw [hds, hcyc]
    rfl

/-- RDSR of a half of TOD (R48). -/
theorem rdsr_tod {n : BitVec 8} {r : Sr} {lo : Nat} (h : Ready s k.lcn) (hp : k.pfx = []) (ht : s.plant.refCycle < 100) (hc : (s.core k.lcn).ds.cache.length < 31)
    (hn : srOf n.toNat = some r) (hr : r = .todh ∧ lo = 64 ∨ r = .todl ∧ lo = 0) :
    ∃ t, exec (.rdsr k n) s = .next t ∧ s.plant.refCycle ≤ t.plant.refCycle ∧ t.plant.refCycle < 100 ∧ t.plant.todBase = s.plant.todBase ∧
      (t.core k.lcn).ds.cache = (s.plant.todBase + BitVec.ofNat 128 t.plant.refCycle * 0x028F5C28F5C28F5C).extractLsb' lo 64 :: (s.core k.lcn).ds.cache := by
  obtain ⟨u, hu, hpass⟩ := passTime_run ht
  have hread : ∀ c : Core, c.srRead k.lcn u.plant r = u.plant.tod.extractLsb' lo 64 := by
    rcases hr with ⟨rfl, rfl⟩ | ⟨rfl, rfl⟩ <;> exact fun _ => rfl
  have hexec : exec (.rdsr k n) s = instr k { op [0x55] 2 with priv := r.readS } 0 1 0 0 (do
      passTime
      let s ← get
      onCore k.lcn (fun c => c.pushes 0 [c.srRead k.lcn s.plant r])
      return .next) s := by
    simp only [exec_rdsr, execRdsr, hn]
    rcases hr with ⟨rfl, rfl⟩ | ⟨rfl, rfl⟩ <;> rfl
  have hb : (do
      passTime
      let s ← get
      onCore k.lcn (fun c => c.pushes 0 [c.srRead k.lcn s.plant r])
      return .next : Run Retire) s = .ok .next (u.modCore k.lcn fun c => c.pushes 0 [u.plant.tod.extractLsb' lo 64]) := by
    simp only [run_bind, hu, run_get, onCore_run, run_pure, hread]
  have hpriv : r.readS = false := by rcases hr with ⟨rfl, rfl⟩ | ⟨rfl, rfl⟩ <;> rfl
  obtain ⟨t, hnext, hplant, hds, -⟩ := h.instr_timed (o := { op [0x55] 2 with priv := r.readS }) (j := 1) rfl hp rfl hpriv (by omega) hb hpass.cores
  refine ⟨t, hexec.trans hnext, hplant ▸ hpass.rises, hplant ▸ hpass.below, hplant ▸ hpass.base, ?_⟩
  rw [hds, hplant, ← hpass.tod]
  rfl

/-- RDTOD: both halves of one instant (R83). -/
theorem rdtod_next (h : Ready s k.lcn) (hp : k.pfx = []) (ht : s.plant.refCycle < 100) (hc : (s.core k.lcn).ds.cache.length < 31) :
    ∃ t, exec (.rdtod k) s = .next t ∧ s.plant.refCycle ≤ t.plant.refCycle ∧ t.plant.refCycle < 100 ∧ t.plant.todBase = s.plant.todBase ∧
      ∃ th tl, (t.core k.lcn).ds.cache = tl :: th :: (s.core k.lcn).ds.cache ∧ th ++ tl = s.plant.todBase + BitVec.ofNat 128 t.plant.refCycle * 0x028F5C28F5C28F5C := by
  obtain ⟨u, hu, hpass⟩ := passTime_run ht
  have hb : (do
      passTime
      let p := (← get).plant
      onCore k.lcn (fun c => c.pushes 0 [fld p.tod 0 64, fld p.tod 64 64])
      return .next : Run Retire) s = .ok .next (u.modCore k.lcn fun c => c.pushes 0 [fld u.plant.tod 0 64, fld u.plant.tod 64 64]) := by
    simp only [run_bind, hu, run_get, onCore_run, run_pure]
  obtain ⟨t, hnext, hplant, hds, -⟩ := h.instr_timed (o := op [0x96] 1) (j := 2) rfl hp rfl rfl (by omega) hb hpass.cores
  refine ⟨t, (exec_rdtod s k).trans hnext, hplant ▸ hpass.rises, hplant ▸ hpass.below, hplant ▸ hpass.base, fld u.plant.tod 64 64, fld u.plant.tod 0 64, ?_, ?_⟩
  · rw [hds]
    rfl
  · rw [hplant, ← hpass.tod]
    exact (BitVec.extractLsb'_append_extractLsb'_eq_extractLsb' rfl).trans BitVec.extractLsb'_eq_self
end

theorem timeOfDay : Claim.TimeOfDay := by
  intro k s h hp ht hc
  refine ⟨rdsr_cyc h hp hc, ?_, rdtod_next h hp ht hc⟩
  simp only [List.forall_mem_cons, List.not_mem_nil, false_implies, implies_true, and_true]
  exact ⟨rdsr_tod h hp ht hc rfl (.inl ⟨rfl, rfl⟩), rdsr_tod h hp ht hc rfl (.inr ⟨rfl, rfl⟩)⟩

/-- Settles O8: the table of the registers, what protects them, and the time. -/
theorem specialRegisterAccess : Obligations.SpecialRegisterAccess := ⟨specialRegisters, specialRegisterTraps, timeOfDay⟩

end Sys2Proof.Machine
end

section
/-! SUPPORT. What a core reads from memory after changes of that core alone (R184, R202, R207, R250). -/

namespace Sys2Proof.Machine

/-! Reads that a change of the reading core leaves as they were. -/

theorem any_modify {α : Type} (p : α → Bool) (f : α → α) : ∀ (xs : List α) (n : Nat), (∀ x, xs[n]? = some x → p (f x) = p x) → (xs.modify n f).any p = xs.any p
  | [], _, _ => by simp
  | x :: xs, 0, h => by simp [h x rfl]
  | x :: xs, n + 1, h => by simp [any_modify p f xs n (fun y hy => h y (by simpa using hy))]

/-- One byte as a load sees it, without the model's match: the equation is taken of the function itself, since the kernel would look for the value of `paKind` when it compares the match (R184, R273). -/
theorem State.loadByte_eq (s : State) (n a : Nat) : s.loadByte n a = if s.paKind a = .hole then 0xFF else (forward (s.core n).sb a).getD (s.mem.read a) := by
  have hfun : ∀ load, load = State.loadByte → load s n a = if s.paKind a = .hole then 0xFF else (forward (s.core n).sb a).getD (s.mem.read a) := by
    intro load hload
    delta State.loadByte at hload
    rw [hload]
    beta_reduce
    generalize s.paKind a = k
    cases k with
    | dram | window | hole => simp
  exact hfun _ rfl

section
variable {s : State} {n : Nat} {f : Core → Core}

theorem State.core_of_getElem? {c : Core} (h : s.cores[n]? = some c) : s.core n = c := by simp [State.core, List.getD, h]

/-- A core that is changed keeps a property that the change keeps. -/
theorem State.modCore_get {α : Type} (g : Core → α) (h : g (f (s.core n)) = g (s.core n)) : g ((s.modCore n f).core n) = g (s.core n) := by
  by_cases hn : n < s.cores.length
  · rw [s.modCore_core n f hn, h]
  · simp [State.core, State.modCore, modAt, List.modify_eq_self (Nat.le_of_not_lt hn)]

theorem State.modCore_paKind (a : Nat) : (s.modCore n f).paKind a = s.paKind a := by unfold State.paKind; rfl

theorem State.modCore_windowForming (a : Nat) : (s.modCore n f).windowForming a = s.windowForming a := by unfold State.windowForming; rfl

theorem State.modCore_agentState (b l : Nat) : (s.modCore n f).agentState b l = s.agentState b l := by unfold State.agentState; rfl

theorem State.modCore_markedByOther (b l : Nat) : (s.modCore n f).markedByOther b l = s.markedByOther b l := by unfold State.markedByOther; rfl

theorem State.modCore_reqWaiting (l : Nat) : (s.modCore n f).reqWaiting l = s.reqWaiting l := by unfold State.reqWaiting; rfl

theorem State.modCore_heldByOther (h : (f (s.core n)).pcn = (s.core n).pcn) (l : Nat) :
    (s.modCore n f).heldByOther (s.core n).pcn l = s.heldByOther (s.core n).pcn l := by
  refine any_modify _ f s.cores n fun c hc => ?_
  rw [← State.core_of_getElem? hc]
  simp [h]

theorem State.modCore_lineWaits (h : (f (s.core n)).pcn = (s.core n).pcn) (l : Nat) :
    (s.modCore n f).lineWaits (s.core n).pcn l = s.lineWaits (s.core n).pcn l := by
  unfold State.lineWaits
  rw [State.modCore_heldByOther h, State.modCore_markedByOther, State.modCore_reqWaiting, State.modCore_pool]

/-- Whether an access of a core has to wait does not rest on its own hold (R202). -/
theorem State.mustWait_modCore (h : (f (s.core n)).pcn = (s.core n).pcn) (a : Nat) : (s.modCore n f).mustWait n a = s.mustWait n a := by
  unfold State.mustWait
  rw [State.modCore_windowForming, State.modCore_get Core.pcn h, State.modCore_agentState, State.modCore_lineWaits h]

theorem State.loadByte_modCore (h : (f (s.core n)).sb = (s.core n).sb) (a : Nat) : (s.modCore n f).loadByte n a = s.loadByte n a := by
  rw [State.loadByte_eq, State.loadByte_eq, State.modCore_paKind, State.modCore_get Core.sb h, State.modCore_mem]

/-- Bytes that a core can read stay readable when the core alone changes. -/
theorem Readable.modCore {pa w : Nat} (h : Readable s n pa w) (hf : (f (s.core n)).pcn = (s.core n).pcn) : Readable (s.modCore n f) n pa w :=
  ⟨fun i hi => (State.mustWait_modCore hf _).trans (h.free i hi), fun i hi => by rw [State.modCore_paKind]; exact h.there i hi, h.clean⟩

/-- A part of the bytes that a core can read. -/
theorem Readable.sub {pa w off v : Nat} (h : Readable s n pa w) (hv : off + v ≤ w) : Readable s n (pa + off) v :=
  ⟨fun i hi => by rw [Nat.add_assoc]; exact h.free _ (by omega), fun i hi => by rw [Nat.add_assoc]; exact h.there _ (by omega),
    fun i hi => by rw [Nat.add_assoc]; exact h.clean _ (by omega)⟩

end

/-! The L1 that a load touches (R207). -/

/-- The lines of a load change the order of the core's L1D alone. -/
theorem State.touchLines_eq (s : State) (n : Nat) (as : List Nat) : ∃ l, s.touchLines n as = s.modCore n fun c => { c with l1d := l } := by
  unfold State.touchLines
  generalize (as.map lineOf).eraseDups.filter (fun l => (s.agentState (s.core n).pcn l).isSome) = ls
  have step : ∀ (ls : List Nat) (l : List Nat),
      ∃ l', ls.foldl (fun s x => s.modCore n fun c => c.touchL1 x) (s.modCore n fun c => { c with l1d := l }) = s.modCore n fun c => { c with l1d := l' } := by
    intro ls
    induction ls with
    | nil => exact fun l => ⟨l, rfl⟩
    | cons x ls ih =>
      intro l
      rw [List.foldl_cons, State.modCore_modCore,
        s.modCore_congr n (g := fun c => { c with l1d := ({ s.core n with l1d := l } : Core).touchL1 x |>.l1d }) rfl]
      exact ih _
  obtain ⟨l', h⟩ := step ls (s.core n).l1d
  rw [State.modCore_self (f := fun c => { c with l1d := (s.core n).l1d }) rfl] at h
  exact ⟨l', h⟩

/-! Bytes read (R184, R264, R273). -/

theorem Mem.readN_eq_map (m : Mem) (a n : Nat) : m.readN a n = (List.range n).map fun i => m.read (a + i) := by
  induction n generalizing a with
  | zero => rfl
  | succ n ih =>
    rw [Mem.readN, ih, List.range_succ_eq_map, List.map_cons, List.map_map]
    refine List.cons_eq_cons.mpr ⟨rfl, List.map_congr_left fun i _ => ?_⟩
    simp only [Function.comp, Nat.succ_eq_add_one]
    congr 1
    omega

theorem Mem.readN_part (m : Mem) {a n off k : Nat} (h : off + k ≤ n) : ((m.readN a n).drop off).take k = m.readN (a + off) k := by
  simp only [Mem.readN_eq_map]
  apply List.ext_getElem
  · simp; omega
  · intro i h1 h2
    simp [Nat.add_assoc]

theorem Mem.readN_getD (m : Mem) {a n i : Nat} (h : i < n) : (m.readN a n).getD i 0 = m.read (a + i) := by
  simp [Mem.readN_eq_map, List.getD, h]

/-- Addresses that a core can read are read at once. -/
theorem readBytes_run {s : State} {n pa w : Nat} (h : Readable s n pa w) :
    readBytes n ((List.range w).map (pa + ·)) s =
      .ok ((List.range w).map fun i => s.loadByte n (pa + i)) (s.touchLines n ((List.range w).map (pa + ·))) := by
  have hwait : ((List.range w).map (pa + ·)).any (s.mustWait n) = false := by
    simp only [List.any_eq_false, List.mem_map, List.mem_range]
    rintro _ ⟨i, hi, rfl⟩
    simp [h.free i hi]
  have hclean : ((List.range w).map (pa + ·)).find? (fun a => s.paKind a != .hole && s.poisoned (lineOf a) && (forward (s.core n).sb a).isNone) = none := by
    simp only [List.find?_eq_none, List.mem_map, List.mem_range]
    rintro _ ⟨i, hi, rfl⟩
    simp [h.clean i hi]
  have hthere : ((List.range w).map (pa + ·)).find? (fun a => s.paKind a == .hole) = none := by
    simp only [List.find?_eq_none, List.mem_map, List.mem_range]
    rintro _ ⟨i, hi, rfl⟩
    simp [h.there i hi]
  simp only [readBytes, run_bind, run_get, hwait, hclean, hthere, Bool.false_eq_true, if_false, run_pure, run_modify, List.map_map]
  rfl

/-- A core with no store buffered reads what memory holds. -/
theorem State.loadByte_drained {s : State} {n a : Nat} (hsb : (s.core n).sb = []) (ha : s.paKind a ≠ .hole) : s.loadByte n a = s.mem.read a := by
  rw [State.loadByte_eq, if_neg ha, hsb]
  rfl

theorem readBytes_drained {s : State} {n pa w : Nat} (h : Readable s n pa w) (hsb : (s.core n).sb = []) :
    readBytes n ((List.range w).map (pa + ·)) s = .ok (s.mem.readN pa w) (s.touchLines n ((List.range w).map (pa + ·))) := by
  have hbytes : (List.range w).map (fun i => s.loadByte n (pa + i)) = s.mem.readN pa w := by
    rw [Mem.readN_eq_map]
    exact List.map_congr_left fun i hi => State.loadByte_drained hsb (h.there i (List.mem_range.mp hi))
  rw [readBytes_run h, hbytes]

end Sys2Proof.Machine
end

section
/-! SUPPORT. Supervisor calls and the return from exceptions (R95, R96, R150, R152, R155), which settle O16. -/

namespace Sys2Proof.Machine

/-! Exception entry (R138, R150). -/

section
variable {s d w : State} {n vec orig level entry : Nat} {e : Exc}

/-- The switch to a microcode image at a boundary leaves memory, the other cores, and of its core all but MCVER (R244). -/
theorem State.switchDue_frame (s : State) (n : Nat) :
    (s.switchDue n).mem = s.mem ∧ (∃ v, (s.switchDue n).core n = { s.core n with mcver := v }) ∧ ∀ m, m ≠ n → (s.switchDue n).core m = s.core m := by
  rcases s.switchDue_cases n with h | ⟨v, l, h⟩
  · exact ⟨by rw [h], ⟨(s.core n).mcver, by rw [h]⟩, fun m _ => by rw [h]⟩
  · obtain ⟨x, hx⟩ := s.modCore_mcver n v
    exact ⟨by rw [h]; rfl, ⟨x, by rw [h]; exact hx⟩, fun m hm => by rw [h]; exact s.modCore_other n m _ hm⟩

/-- A sequence of ROM does nothing of its own (R234, R238). -/
theorem State.withSequence_rom (h : RomOnly s n) (f : State → Option State) : s.withSequence n entry f = f s := by
  simp [State.withSequence, State.microRun, show (s.store n).redir = [] from h]

/-- An entry whose TSB is written ends in the handler. -/
theorem State.enter_entered (hn : n < w.cores.length) (hr : RomOnly s n) (hd : s.drain n = some d) (hu : d.tsbUsable (d.core n).tsbr = true)
    (hw : d.writeTsb n e vec orig level = some w) :
    ∃ t, s.enter n e vec orig level = some t ∧ Entered (w.core n) (t.core n) vec level ∧ t.mem = w.mem ∧ ∀ m, m ≠ n → t.core m = w.core m := by
  rw [State.enter, State.withSequence_rom hr, hd, Option.bind_some, State.enterFrom3]
  simp only [hu, if_true, hw, Option.map_some, State.endHold, State.modCore_modCore]
  generalize hv : w.modCore n _ = v
  obtain ⟨hmem, ⟨x, hcore⟩, hothers⟩ := v.switchDue_frame n
  refine ⟨_, rfl, ?_, by rw [hmem, ← hv]; rfl, fun m hm => by rw [hothers m hm, ← hv, w.modCore_other n m _ hm]⟩
  rw [hcore, ← hv, w.modCore_core n _ hn]
  constructor <;> rfl

/-- An exception whose level exceeds ML is taken at its vector (R141). -/
theorem State.raises_taken {t : State} (hml : pswML (s.core n).psw < 7) (hl : pswML (s.core n).psw < e.level) (ht : s.enter n e e.vec 0 e.level = some t) :
    s.raises n e = .next t := by
  rw [State.raises, State.raiseSync, if_neg (by omega), if_pos hl, ht, orSame]

/-- An exception whose level does not exceed ML is a Double Fault (R141). -/
theorem State.raises_double {t : State} (hml : pswML (s.core n).psw < 7) (hl : e.level ≤ pswML (s.core n).psw) (ht : s.enter n e 2 e.vec 7 = some t) :
    s.raises n e = .next t := by
  rw [State.raises, State.raiseSync, if_neg (by omega), if_neg (by omega), ht, orSame]

end

theorem supervisorCall : Claim.SupervisorCall := by
  intro k s d w imm h hr hp hd hn hdrain hu
  have hmax := h.dsMax
  have hrmax := h.rsMax
  have hraise : exec (.svc k imm) s = s.raises k.lcn { Exc.plain 12 4 ((s.core k.lcn).pc + 2) with info := imm.setWidth 64 } := by
    rw [exec_svc, execSvc, instr_next h (.inl rfl) hp (by simp [hd]) (by simp [op]) (Nat.zero_le _) (by omega) (Nat.zero_le _) (by omega)]
    exact h.settle_exc _ _ _
  refine ⟨fun hml hw => ?_, fun hml hml7 hw => ?_⟩
  · obtain ⟨t, ht, hent, hmem, -⟩ := State.enter_entered hn hr hdrain hu hw
    exact ⟨t, hraise.trans (State.raises_taken (by omega) hml ht), hent, hmem⟩
  · obtain ⟨t, ht, hent, hmem, -⟩ := State.enter_entered hn hr hdrain hu hw
    exact ⟨t, hraise.trans (State.raises_double hml7 hml ht), hent, hmem⟩

/-! The TSB read by RETT (R152). -/

section
variable {s : State} {n : Nat}

/-- A core with no store buffered has nothing to drain (R188). -/
theorem State.drain_empty (hsb : (s.core n).sb = []) : s.drain n = some s := by
  simp only [State.drain, hsb, State.performAll, Option.map_some]
  rw [State.modCore_self]
  rw [← hsb]

/-- The entries of a TSB are the doublewords of memory. -/
theorem readEntries_drained {a i : Nat} (h : Readable s n a (8 * i)) (hsb : (s.core n).sb = []) :
    readEntries n a i s = .ok ((List.range i).map fun j => s.dword (a + 8 * j)) (s.touchLines n ((List.range (8 * i)).map (a + ·))) := by
  rw [readEntries, run_bind, readBytes_drained h hsb]
  have hentries : (List.range i).map (fun j => tsbWord (s.mem.readN a (8 * i)) (8 * j)) = (List.range i).map fun j => s.dword (a + 8 * j) := by
    refine List.map_congr_left fun j hj => ?_
    have := List.mem_range.mp hj
    rw [tsbWord, Mem.readN_part _ (by omega), State.dword]
  exact congrArg (EStateM.Result.ok · _) hentries

/-- Steps 4 and 5 of R152: the entries of the TSB at a read and the core restored, h being the header. -/
def restoreTsb (n : Nat) (a : Word) (h : List Byte) : Run Retire := do
  let dsc ← readEntries n (a.toNat + 0x100) (h.getD 4 0).toNat
  let rsc ← readEntries n (a.toNat + 0x200) (h.getD 5 0).toNat
  modify (·.endHold n)
  onCore n (fun c => c.restore a h dsc rsc)
  return .done

/-- RETT once the header of the TSB at a is read: its checks, and the restoration. -/
def restoreChecked (n : Nat) (a : Word) (h : List Byte) : Run Retire := do
  if h.headD 0 ≠ 1 then tsbFormat n 1
  if 32 < (h.getD 4 0).toNat then tsbFormat n 2
  if 16 < (h.getD 5 0).toNat then tsbFormat n 3
  restoreTsb n a h

/-- The first 0x68 bytes of a TSB, which RETT reads first (R146). -/
def State.tsbHead (s : State) (a : Nat) : List Byte := s.mem.readN a 0x68

/-- The core once it has read the header of the TSB at a. -/
def State.headRead (s : State) (n a : Nat) : State := s.touchLines n ((List.range 0x68).map (a + ·))

theorem State.tsbHead_version (s : State) (a : Nat) : (s.tsbHead a).headD 0 = s.mem.read a := rfl

theorem State.tsbHead_getD (s : State) (a : Nat) {i : Nat} (h : i < 0x68) : (s.tsbHead a).getD i 0 = s.mem.read (a + i) := s.mem.readN_getD h

theorem State.tsbHead_word (s : State) (a : Nat) {off : Nat} (h : off + 8 ≤ 0x68) : tsbWord (s.tsbHead a) off = s.dword (a + off) := by
  rw [tsbWord, State.tsbHead, Mem.readN_part _ h, State.dword]

/-- The entries of a readable TSB restored: memory and all but the core stay. -/
theorem restoreTsb_restores {a : Word} {h : List Byte} (hread : Readable s n a.toNat 0x400) (hsb : (s.core n).sb = []) (h4 : (h.getD 4 0).toNat ≤ 32)
    (h5 : (h.getD 5 0).toNat ≤ 16) :
    ∃ l, restoreTsb n a h s = .ok .done (s.modCore n fun c => ({ c with l1d := l, hold := none } : Core).restore a h
      ((List.range (h.getD 4 0).toNat).map fun i => s.dword (a.toNat + 0x100 + 8 * i)) ((List.range (h.getD 5 0).toNat).map fun i => s.dword (a.toNat + 0x200 + 8 * i))) := by
  have hd := readEntries_drained (hread.sub (off := 0x100) (v := 8 * (h.getD 4 0).toNat) (by omega)) hsb
  obtain ⟨l1, e1⟩ := s.touchLines_eq n ((List.range (8 * (h.getD 4 0).toNat)).map (a.toNat + 0x100 + ·))
  rw [e1] at hd
  have hsb1 : ((s.modCore n fun c => { c with l1d := l1 }).core n).sb = [] := (State.modCore_get Core.sb rfl).trans hsb
  have hr := readEntries_drained ((hread.sub (off := 0x200) (v := 8 * (h.getD 5 0).toNat) (by omega)).modCore (f := fun c => { c with l1d := l1 }) rfl) hsb1
  obtain ⟨l2, e2⟩ := (s.modCore n fun c => { c with l1d := l1 }).touchLines_eq n ((List.range (8 * (h.getD 5 0).toNat)).map (a.toNat + 0x200 + ·))
  rw [e2, State.modCore_modCore] at hr
  refine ⟨l2, ?_⟩
  simp only [restoreTsb, run_bind, hd, hr, run_modify, onCore, State.endHold, State.modCore_modCore, run_pure]
  rfl
end

section
variable {k : Insn} {s : State}

/-- RETT whose TSB below TSBR is not usable fails before it reads (R152 step 1). -/
theorem Ready.rett_unusable (h : Ready s k.lcn) (hr : RomOnly s k.lcn) (hp : k.pfx = []) (hd : (s.core k.lcn).delay = false) (hs : s.sup k.lcn = true)
    (hsb : (s.core k.lcn).sb = []) (hu : (s.core k.lcn).tsbr.toNat < 0x400 ∨ s.tsbUsable ((s.core k.lcn).tsbr - 0x400) = false) :
    exec (.rett k) s = s.raises k.lcn { Exc.plain 22 4 (s.core k.lcn).pc with cause := 0, info := (s.core k.lcn).tsbr - 0x400 } := by
  have hmax := h.dsMax
  have hrmax := h.rsMax
  have hdrain : orWait (fun s => s.drain k.lcn) s = .ok () s := orWait_some (f := fun s => s.drain k.lcn) (State.drain_empty hsb)
  rw [exec_rett, execRett, instr_next h (.inr hr) hp (by simp [hd]) (fun _ => hs) (Nat.zero_le _) (by omega) (Nat.zero_le _) (by omega)]
  simp only [run_bind, hdrain, coreOf, run_get, run_pure, if_pos hu, tsbFormat, throwExc, run_throw]
  exact h.settle_exc _ _ _

/-- RETT with a usable TSB below TSBR reads its header first. -/
theorem Ready.rett_header (h : Ready s k.lcn) (hr : RomOnly s k.lcn) (hp : k.pfx = []) (hd : (s.core k.lcn).delay = false) (hs : s.sup k.lcn = true)
    (hsb : (s.core k.lcn).sb = []) (ha : 0x400 ≤ (s.core k.lcn).tsbr.toNat) (hu : s.tsbUsable ((s.core k.lcn).tsbr - 0x400) = true)
    (hread : Readable s k.lcn ((s.core k.lcn).tsbr - 0x400).toNat 0x400) :
    exec (.rett k) s = settle s k.lcn 1 (s.sup k.lcn)
      (restoreChecked k.lcn ((s.core k.lcn).tsbr - 0x400) (s.tsbHead ((s.core k.lcn).tsbr - 0x400).toNat) (s.headRead k.lcn ((s.core k.lcn).tsbr - 0x400).toNat)) := by
  have hmax := h.dsMax
  have hrmax := h.rsMax
  have hheader := readBytes_drained (hread.sub (off := 0) (v := 0x68) (by omega)) hsb
  have hdrain : orWait (fun s => s.drain k.lcn) s = .ok () s := orWait_some (f := fun s => s.drain k.lcn) (State.drain_empty hsb)
  rw [Nat.add_zero] at hheader
  rw [exec_rett, execRett, instr_next h (.inr hr) hp (by simp [hd]) (fun _ => hs) (Nat.zero_le _) (by omega) (Nat.zero_le _) (by omega)]
  simp only [run_bind, hdrain, coreOf, run_get, run_pure, hu, hheader, Nat.not_lt.mpr ha, Bool.true_eq_false, or_self, if_false]
  rfl


/-- A retirement that leaves the pc as the instruction set it is quiet but for the microcode image that the core owes (R244). -/
theorem State.retire_done (s : State) (n len : Nat) (sup : Bool) : ∃ t, Quiet s t n ∧ s.retire n len sup .done = t.switchDue n := by
  obtain ⟨u, q, hu⟩ := s.retire_eq n len sup (r := .done) (by simp)
  obtain ⟨hsame, hpc, hdelay, hnpc⟩ := countDue_same (u.core n) sup (fun _ => true)
  exact ⟨_, q.trans (.modCore (hsame.trans (by constructor <;> rfl)) hpc hdelay hnpc), hu⟩

theorem toNat_sub_tsb {x : Word} (h : 0x400 ≤ x.toNat) : (x - 0x400).toNat = x.toNat - 0x400 := BitVec.toNat_sub_of_le h

theorem State.modCore_dword (s : State) (n a : Nat) (f : Core → Core) : (s.modCore n f).dword a = s.dword a := rfl

theorem returnFromException : Claim.ReturnFromException := by
  intro k s h hr hp hd hs hsb ha a dv rv hu hread hver hdv hrv
  have haddr : ((s.core k.lcn).tsbr - 0x400).toNat = a := toNat_sub_tsb ha
  have hheader := h.rett_header hr hp hd hs hsb ha hu (by rw [haddr]; exact hread)
  rw [haddr] at hheader
  have h4 : ((s.tsbHead a).getD 4 0).toNat = dv := congrArg BitVec.toNat (s.tsbHead_getD a (by omega))
  have h5 : ((s.tsbHead a).getD 5 0).toNat = rv := congrArg BitVec.toNat (s.tsbHead_getD a (by omega))
  obtain ⟨l, hl⟩ := s.touchLines_eq k.lcn ((List.range 0x68).map (a + ·))
  have hbody : restoreChecked k.lcn ((s.core k.lcn).tsbr - 0x400) (s.tsbHead a) (s.headRead k.lcn a) =
      restoreTsb k.lcn ((s.core k.lcn).tsbr - 0x400) (s.tsbHead a) (s.modCore k.lcn fun c => { c with l1d := l }) := by
    simp only [restoreChecked, s.tsbHead_version, hver, h4, h5, Nat.not_lt.mpr hdv, Nat.not_lt.mpr hrv, ne_eq, not_true_eq_false, if_false, State.headRead, hl]
  obtain ⟨l', hrest⟩ := restoreTsb_restores (s := s.modCore k.lcn fun c => { c with l1d := l }) (n := k.lcn) (a := (s.core k.lcn).tsbr - 0x400) (h := s.tsbHead a)
    (haddr ▸ hread.modCore rfl) ((State.modCore_get Core.sb rfl).trans hsb) (h4 ▸ hdv) (h5 ▸ hrv)
  rw [State.modCore_modCore] at hrest
  simp only [State.modCore_dword, h4, h5, haddr] at hrest
  generalize hf : (fun c : Core => Core.restore _ _ _ _ _) = f at hrest
  obtain ⟨t, q, ht⟩ := (s.modCore k.lcn f).retire_done k.lcn 1 (s.sup k.lcn)
  have hcore : (s.modCore k.lcn f).core k.lcn = f (s.core k.lcn) := s.modCore_core k.lcn f h.lt
  refine ⟨t, ?_, (SameOutside.modCore s k.lcn f).trans q.outside, fun m hm => (q.others m hm).trans (s.modCore_other k.lcn m f hm), ?_⟩
  · rw [hheader, hbody, hrest, settle_ok, ht]
  · have same : SameCore (f (s.core k.lcn)) (t.core k.lcn) := hcore ▸ q.core
    have hpc : (t.core k.lcn).pc = (f (s.core k.lcn)).pc := hcore ▸ q.pc
    have hdelay : (t.core k.lcn).delay = (f (s.core k.lcn)).delay := hcore ▸ q.delay
    have hnpc : (t.core k.lcn).npc = (f (s.core k.lcn)).npc := hcore ▸ q.npc
    have word := fun {off : Nat} (ho : off + 8 ≤ 0x68) => s.tsbHead_word a ho
    have hflag : bitAt ((s.tsbHead a).getD 2 0) 0 = (s.mem.read (a + 2)).getLsbD 0 := congrArg (bitAt · 0) (s.tsbHead_getD a (by omega))
    dsimp only
    rw [hpc, same.psw, same.ds, same.rs, same.cnt, same.src, same.dst, hdelay, hnpc, same.tsbr, same.resv, same.vbr, same.iroot, same.droot, same.pid, same.krr, ← hf]
    dsimp only [Core.restore]
    refine ⟨word (by omega), ?_, word (by omega), word (by omega), word (by omega), word (by omega), word (by omega), hflag, fun hslot => ?_,
      rfl, rfl, rfl, rfl, rfl, rfl, rfl, rfl, rfl⟩
    · rw [word (by omega)]
      rfl
    · rw [if_pos hslot, word (by omega)]

/-- A TSB-Format exception after the header was read. -/
theorem Ready.settle_tsbFormat {a cause : Nat} (h : Ready s k.lcn) :
    settle s k.lcn 1 (s.sup k.lcn) (tsbFormat k.lcn cause (s.headRead k.lcn a)) = orSame s ((s.headRead k.lcn a).raiseSync k.lcn
      { Exc.plain 22 4 (s.core k.lcn).pc with cause := BitVec.ofNat 16 cause, info := (s.core k.lcn).tsbr - 0x400 }) := by
  obtain ⟨l, hl⟩ := s.touchLines_eq k.lcn ((List.range 0x68).map (a + ·))
  rw [State.headRead, hl]
  have hcore := s.modCore_core k.lcn (fun c => { c with l1d := l }) h.lt
  simp only [tsbFormat, throwExc, run_bind, coreOf, run_get, run_pure, run_throw, hcore, settle]
  rw [State.modCore_self (s := s.modCore k.lcn _)]
  rw [hcore]
  exact Core.unretired_self (c := { s.core k.lcn with l1d := l }) h.owes h.ioWait _

theorem returnChecks : Claim.ReturnChecks := by
  intro k s h hp hd
  refine ⟨fun hu => ?_, fun hs hr hsb => ⟨fun hu => h.rett_unusable hr hp hd hs hsb hu, fun ha hu hread => ?_⟩⟩
  · rw [exec_rett, execRett]
    exact (h.instr_privileged (by rw [hp, hd]; rfl) rfl hu).trans (congrArg _ (Exc.withOp_nil hp (by simp [op])))
  · have haddr := toNat_sub_tsb ha
    have hheader := h.rett_header hr hp hd hs hsb ha hu (by rw [haddr]; exact hread)
    rw [haddr] at hheader
    have h4 := s.tsbHead_getD ((s.core k.lcn).tsbr.toNat - 0x400) (i := 4) (by omega)
    have h5 := s.tsbHead_getD ((s.core k.lcn).tsbr.toNat - 0x400) (i := 5) (by omega)
    refine ⟨fun hver => ?_, fun hver hdv => ?_, fun hver hdv hrv => ?_⟩
    · rw [hheader, restoreChecked, s.tsbHead_version, if_pos hver]
      exact h.settle_tsbFormat
    · rw [hheader, restoreChecked, s.tsbHead_version, if_neg (not_not.mpr hver), h4, if_pos hdv]
      exact h.settle_tsbFormat
    · rw [hheader, restoreChecked, s.tsbHead_version, if_neg (not_not.mpr hver), h4, if_neg (Nat.not_lt.mpr hdv), h5, if_pos hrv]
      exact h.settle_tsbFormat

/-- Settles O16: SVC, RETT that restores, and RETT that fails. -/
theorem supervisorCallsAndReturn : Obligations.SupervisorCallsAndReturn := ⟨supervisorCall, returnFromException, returnChecks⟩

end
end Sys2Proof.Machine
end

section
/-! SUPPORT. Spills and fills of the stacks (R42 to R44, R108), and the translations and stores under them (R86, R165, R166, R184), which settle O23. -/

namespace Sys2Proof.Machine

/-! A translation that hits (R165, R173). -/

section
variable {s : State} {n w : Nat} {va : Word} {acc : Acc} {t : TlbEntry} {f : Core → Core}

/-- What an access needs of the TLBs rests on the core's TLBs, PID and KRR alone. -/
theorem Mapped.modCore (h : Mapped s n va w acc t) (htlb : (f (s.core n)).tlb = (s.core n).tlb) (hpid : (f (s.core n)).pid = (s.core n).pid)
    (hkrr : (f (s.core n)).krr = (s.core n).krr) : Mapped (s.modCore n f) n va w acc t := by
  have etlb := State.modCore_get (f := f) Core.tlb htlb
  have epid := State.modCore_get (f := f) Core.pid hpid
  have ekrr := State.modCore_get (f := f) Core.krr hkrr
  exact ⟨by rw [etlb, epid]; exact h.hit, h.side, by rw [etlb]; exact h.room, by rw [ekrr]; exact h.allowed, h.inPage⟩

theorem Mapped.find (h : Mapped s n va w acc t) : (s.core n).tlb.find acc.instr (s.core n).pid va.toNat = some t := by
  rw [Tlbs.find, h.hit, pickEntry]

theorem Mapped.first (h : Mapped s n va w acc t) : (s.core n).tlb.first t = true := by
  have hmem : t ∈ (if acc.instr then (s.core n).tlb.itlb else (s.core n).tlb.dtlb) :=
    List.mem_of_mem_filter (by rw [h.hit]; exact List.mem_singleton_self t)
  rw [Tlbs.first, h.side]
  cases hi : acc.instr with
  | true =>
    rw [hi] at hmem
    exact List.elem_eq_true_of_mem hmem
  | false =>
    rw [hi] at hmem
    exact List.elem_eq_true_of_mem hmem

/-- A hit of the first level changes the order of the core's TLBs alone. -/
theorem translate_mapped (h : Mapped s n va w acc t) : ∃ b, translate n va acc s = .ok (.ok t) (s.modCore n fun c => { c with tlb := b }) := by
  refine ⟨((s.core n).tlb.fill2 t).fill1 t, ?_⟩
  simp only [translate, run_bind, coreOf, run_get, run_pure, h.find, h.first, h.allowed, Option.isNone_none, if_true, onCore, run_modify]
  exact congrArg _ (s.modCore_congr n rfl)

theorem translateSpan_mapped (h : Mapped s n va w acc t) :
    ∃ b, translateSpan n va w acc s = .ok (.ok [{ va := va.toNat, leaf := t, len := w }]) (s.modCore n fun c => { c with tlb := b }) := by
  obtain ⟨b, hb⟩ := translate_mapped h
  have hroom : w ≤ 2 ^ t.size - va.toNat % 2 ^ t.size := by have := h.inPage; omega
  refine ⟨b, ?_⟩
  simp only [translateSpan, run_bind, hb, if_pos hroom, run_pure]

/-- A page that is marked dirty needs no compare (R166). -/
theorem compareMarks_dirty (hd : t.d = true) : compareMarks n [{ va := va.toNat, leaf := t, len := w }] s = .ok (.ok true) s := by
  simp only [compareMarks, run_bind, run_get, hd, Bool.not_true, Bool.false_and, Bool.false_eq_true, if_false, State.markFits, Bool.true_or, if_true, run_pure, Bool.and_self]

theorem storeSpan_mapped (h : Mapped s n va w acc t) (hd : t.d = true) :
    ∃ b, storeSpan n va w acc s = .ok (.ok [{ va := va.toNat, leaf := t, len := w }]) (s.modCore n fun c => { c with tlb := b }) := by
  obtain ⟨b, hb⟩ := translateSpan_mapped h
  refine ⟨b, ?_⟩
  simp only [storeSpan, run_bind, hb, compareMarks_dirty hd, run_pure]

/-! One store into a buffer with room (R85, R180). -/

theorem State.drainFirst_none (s : State) (n : Nat) : s.drainFirst n 0 = some s := by
  rw [State.drainFirst, List.take_zero, State.performAll, Option.map_some, State.modCore_self rfl]

/-- A store into a page marked dirty goes into the buffer, when that has room. -/
theorem State.commitStore_room {e : StoreEntry} (hd : t.d = true) (hsb : (s.core n).sb.length < 64) :
    s.commitStore n [{ va := va.toNat, leaf := t, len := w }] [e] = some (s.modCore n (·.putStores [e])) := by
  have hnone : (s.core n).sb.length + [e].length - sbMax = 0 := by simp [sbMax]; omega
  simp only [State.commitStore, State.markPieces, hd, if_true, Option.bind_some, State.pushStores, hnone, State.drainFirst_none, Option.map_some]

/-- A store in the buffer: the reservation stays unless the store touches its granule (R201). -/
def Core.buffer (c : Core) (e : StoreEntry) : Core :=
  { c with sb := c.sb ++ [e], resv := if e.bytes.isEmpty then c.resv else c.resv.filter (·.granule ≠ lineOf e.addr) }

theorem loseResv_eq (c : Core) (l : Nat) : loseResv c l = { c with resv := c.resv.filter (·.granule ≠ l) } := by
  unfold loseResv
  cases h : c.resv with
  | none => cases c; simp_all
  | some r =>
    by_cases hr : r.granule = l
    · simp [hr, Option.filter]
    · cases c
      simp_all [Option.filter]

theorem Core.putStores_one (c : Core) (e : StoreEntry) : c.putStores [e] = c.buffer e := by
  rw [Core.putStores, List.foldl_cons, List.foldl_nil, Core.buffer]
  cases e.bytes.isEmpty with
  | true => rfl
  | false => exact loseResv_eq _ _

theorem Core.buffers_one (c : Core) (e : StoreEntry) : c.buffers [e] = c.buffer e := c.putStores_one e

end

/-! One spill (R43). -/

section
variable {s : State} {n : Nat} {t : TlbEntry} {x : Word} {ret : Bool}

/-- The state of a stack from which its one cached entry can be spilled: aligned and within its bounds, its page writable, dirty and in memory. -/
structure CanSpill (s : State) (n : Nat) (ret : Bool) (t : TlbEntry) : Prop where
  aligned : ((s.core n).stack ret).ptr.toNat % 8 = 0
  above : ((s.core n).stack ret).lo.toNat + 8 ≤ ((s.core n).stack ret).ptr.toNat
  below : ((s.core n).stack ret).ptr.toNat ≤ ((s.core n).stack ret).hi.toNat
  dirty : t.d = true
  mapped : Mapped s n (((s.core n).stack ret).ptr - 8) 8 (stackAcc (s.core n) true) t
  dram : s.paKind (t.addr (((s.core n).stack ret).ptr - 8).toNat) = .dram
  room : (s.core n).sb.length < 64

/-- A stack whose one entry has been spilled. -/
def StackRegs.spilt (st : StackRegs) : StackRegs := { st with cache := [], ptr := st.ptr - 8 }

/-- A core after an access of a fill or spill: its hold is over, and the TLBs' order is another (R165, R202). -/
def Core.accessed (c : Core) (b : Tlbs) : Core := { c with hold := none, tlb := b }

theorem State.endHold_accessed (s : State) (n : Nat) (b : Tlbs) : (s.endHold n).modCore n (fun c => { c with tlb := b }) = s.modCore n (·.accessed b) :=
  s.modCore_modCore n _ _

theorem Core.accessed_stack (c : Core) (b : Tlbs) (ret : Bool) : (c.accessed b).stack ret = c.stack ret := by cases ret <;> rfl

theorem Core.buffer_stack (c : Core) (e : StoreEntry) (ret : Bool) : (c.buffer e).stack ret = c.stack ret := by cases ret <;> rfl

/-- The spilled entry is the youngest store of the buffer; beside the stack, the hold, the TLBs' order and the events noted change. -/
theorem spillOne_one (h : CanSpill s n ret t) (hc : ((s.core n).stack ret).cache = [x]) :
    ∃ b, spillOne n ret s = .ok () (s.modCore n fun c => (((c.accessed b).buffer
      { addr := t.addr (((s.core n).stack ret).ptr - 8).toNat, bytes := wordBytes x, rel := false }).setStack ret ((c.stack ret).spilt)).note 12) := by
  have hmap : Mapped (s.endHold n) n (((s.core n).stack ret).ptr - 8) 8 (stackAcc (s.core n) true) t := h.mapped.modCore rfl rfl rfl
  obtain ⟨b, hb⟩ := storeSpan_mapped hmap h.dirty
  rw [State.endHold_accessed] at hb
  have hsb : ((s.modCore n (·.accessed b)).core n).sb.length < 64 := by
    rw [State.modCore_get Core.sb rfl]
    exact h.room
  have hpa : (([{ va := (((s.core n).stack ret).ptr - 8).toNat, leaf := t, len := 8 }] : List Piece).flatMap Piece.addrs).headD 0 =
      t.addr (((s.core n).stack ret).ptr - 8).toNat := rfl
  have hkind : (s.modCore n (·.accessed b)).paKind (t.addr (((s.core n).stack ret).ptr - 8).toNat) = .dram := (State.modCore_paKind _).trans h.dram
  have hstore := fun e : StoreEntry => orWait_some (f := fun u => u.commitStore n [{ va := (((s.core n).stack ret).ptr - 8).toNat, leaf := t, len := 8 }] [e]) (State.commitStore_room (va := ((s.core n).stack ret).ptr - 8) (w := 8) (e := e) h.dirty hsb)
  refine ⟨b, ?_⟩
  simp only [spillOne, run_bind, coreOf, run_get, run_pure, h.aligned, not_true_eq_false, ne_eq, if_false, Nat.not_lt.mpr h.above, Nat.not_lt.mpr h.below, or_self,
    run_modify, hb, hpa, hkind, bne_self_eq_false, Bool.false_eq_true, hstore, onCore, State.modCore_modCore, hc, List.getLastD_cons, List.getLastD_nil]
  refine congrArg _ (s.modCore_congr n ?_)
  rw [Core.putStores_one, Core.buffer_stack, Core.accessed_stack, hc]
  rfl

end

/-! SPILLD and SPILLR (R108). -/

/-- A spill's own access changes nothing that its store and its stack rest on. -/
theorem Core.spilt_eq (c : Core) (b : Tlbs) (e : StoreEntry) (ret : Bool) (st : StackRegs) :
    ((c.accessed b).buffer e).setStack ret st = ((c.setStack ret st).buffer e).accessed b := by cases ret <;> rfl

/-- The hold, the TLBs and the events noted are none of what SameCore compares. -/
theorem Core.accessed_note_same (c : Core) (b : Tlbs) (ev : Nat) : SameCore c ((c.accessed b).note ev) := by constructor <;> rfl

section
variable {s : State} {k : Insn} {t : TlbEntry} {x : Word} {ret : Bool} {code : Byte}

theorem spillAll_settle (h : Ready s k.lcn) (hp : k.pfx = []) :
    spillAll k code ret s = settle s k.lcn 2 (s.sup k.lcn) ((do times ((s.core k.lcn).stack ret).cache.length (spillOne k.lcn ret); return .next : Run Retire) s) := by
  have hmax := h.dsMax
  have hrmax := h.rsMax
  rw [spillAll, instr_next h (.inl rfl) hp (fun _ => rfl) (by simp [op]) (Nat.zero_le _) (by omega) (Nat.zero_le _) (by omega)]
  rfl

theorem spillAll_empty (h : Ready s k.lcn) (hp : k.pfx = []) (hc : ((s.core k.lcn).stack ret).cache = []) :
    ∃ u, spillAll k code ret s = .next u ∧ Retired s u k.lcn 2 (s.core k.lcn) := by
  rw [spillAll_settle h hp, hc]
  exact ⟨_, rfl, retire_next h.lt (.refl s) (fun _ _ => rfl) (.refl _) rfl rfl rfl⟩

theorem spillAll_one (h : Ready s k.lcn) (hp : k.pfx = []) (hc : ((s.core k.lcn).stack ret).cache = [x]) (hs : CanSpill s k.lcn ret t) :
    ∃ u, spillAll k code ret s = .next u ∧ Retired s u k.lcn 2 (((s.core k.lcn).setStack ret ((s.core k.lcn).stack ret).spilt).buffers
      [{ addr := t.addr (((s.core k.lcn).stack ret).ptr - 8).toNat, bytes := wordBytes x, rel := false }]) := by
  obtain ⟨b, hb⟩ := spillOne_one hs hc
  generalize { addr := t.addr (((s.core k.lcn).stack ret).ptr - 8).toNat, bytes := wordBytes x, rel := false : StoreEntry } = e at hb ⊢
  rw [spillAll_settle h hp, hc]
  simp only [List.length_singleton, times, run_bind, hb, run_pure, settle_ok, Core.buffers_one]
  have hnew := s.modCore_core k.lcn (fun c => (((c.accessed b).buffer e).setStack ret (c.stack ret).spilt).note 12) h.lt
  rw [Core.spilt_eq] at hnew
  generalize ((s.core k.lcn).setStack ret ((s.core k.lcn).stack ret).spilt).buffer e = d at hnew ⊢
  refine ⟨_, rfl, retire_next (by rw [State.modCore_length]; exact h.lt) (.modCore s k.lcn _) (fun m hm => s.modCore_other k.lcn m _ hm) ?_ ?_ ?_ ?_⟩
  · rw [hnew]
    exact d.accessed_note_same b 12
  all_goals
    rw [hnew]
    rfl

end

theorem spillAllStacks : Claim.SpillAll := by
  intro k s x t h hp c acc spilt can
  refine ⟨fun hc => ?_, fun hc => ?_, fun hc ⟨ha, hlo, hhi, hd, hm, hk, hb⟩ => ?_, fun hc ⟨ha, hlo, hhi, hd, hm, hk, hb⟩ => ?_⟩
  · rw [exec_spilld, execSpilld]
    exact spillAll_empty h hp hc
  · rw [exec_spillr, execSpillr]
    exact spillAll_empty h hp hc
  · rw [exec_spilld, execSpilld]
    exact spillAll_one h hp hc ⟨ha, hlo, hhi, hd, hm, hk, hb⟩
  · rw [exec_spillr, execSpillr]
    exact spillAll_one h hp hc ⟨ha, hlo, hhi, hd, hm, hk, hb⟩

/-! One fill (R43). -/

section
variable {s : State} {n : Nat} {t : TlbEntry} {ret : Bool}

/-- The state of a stack that can be filled by one entry: aligned and within its bounds, its page readable and in memory. -/
structure CanFill (s : State) (n : Nat) (ret : Bool) (t : TlbEntry) : Prop where
  aligned : ((s.core n).stack ret).ptr.toNat % 8 = 0
  above : ((s.core n).stack ret).lo.toNat ≤ ((s.core n).stack ret).ptr.toNat
  below : ((s.core n).stack ret).ptr.toNat + 8 ≤ ((s.core n).stack ret).hi.toNat
  mapped : Mapped s n ((s.core n).stack ret).ptr 8 (stackAcc (s.core n) false) t
  readable : Readable s n (t.addr ((s.core n).stack ret).ptr.toNat) 8
  dram : s.paKind (t.addr ((s.core n).stack ret).ptr.toNat) = .dram

/-- A core after a fill's access: as after that of a spill, and its L1 in another order (R207). -/
def Core.filled (c : Core) (b : Tlbs) (l : List Nat) : Core := { c.accessed b with l1d := l }

/-- A fill reads the doubleword at the stack pointer. -/
theorem fillRead_run (h : CanFill s n ret t) :
    ∃ b l, fillRead n ret ((s.core n).stack ret).ptr.toNat s =
      .ok (wordOf ((List.range 8).map fun i => s.loadByte n (t.addr ((s.core n).stack ret).ptr.toNat + i))) (s.modCore n (·.filled b l)) := by
  have hmap : Mapped (s.endHold n) n ((s.core n).stack ret).ptr 8 (stackAcc (s.core n) false) t := h.mapped.modCore rfl rfl rfl
  obtain ⟨b, hb⟩ := translateSpan_mapped hmap
  rw [State.endHold_accessed] at hb
  have hread := readBytes_run (h.readable.modCore (f := (·.accessed b)) rfl)
  obtain ⟨l, hl⟩ := (s.modCore n (·.accessed b)).touchLines_eq n ((List.range 8).map (t.addr ((s.core n).stack ret).ptr.toNat + ·))
  rw [hl, State.modCore_modCore] at hread
  simp only [State.loadByte_modCore (s := s) (n := n) (f := (·.accessed b)) rfl] at hread
  have hspan : ([{ va := ((s.core n).stack ret).ptr.toNat, leaf := t, len := 8 }] : List Piece).flatMap Piece.addrs =
      (List.range 8).map (t.addr ((s.core n).stack ret).ptr.toNat + ·) := List.append_nil _
  have hhead : ((List.range 8).map (t.addr ((s.core n).stack ret).ptr.toNat + ·)).headD 0 = t.addr ((s.core n).stack ret).ptr.toNat := rfl
  have hkind : (s.modCore n (·.accessed b)).paKind (t.addr ((s.core n).stack ret).ptr.toNat) = .dram := (State.modCore_paKind _).trans h.dram
  refine ⟨b, l, ?_⟩
  simp only [fillRead, run_bind, coreOf, run_get, run_pure, h.aligned, not_true_eq_false, ne_eq, if_false, Nat.not_lt.mpr h.above, Nat.not_lt.mpr h.below, or_self,
    run_modify, BitVec.ofNat_toNat, BitVec.setWidth_eq, hb, hspan, hhead, hkind, bne_self_eq_false, Bool.false_eq_true, hread]
  rfl

/-- An entry outside the bounds of its stack raises before anything is read (R44). -/
theorem fillRead_outside {a : Nat} (ha : a % 8 = 0) (hout : a < ((s.core n).stack ret).lo.toNat ∨ ((s.core n).stack ret).hi.toNat < a + 8) :
    fillRead n ret a s = .error (.exc { Exc.plain 7 5 (s.core n).pc with sub := if ret then 1 else 0, cause := 0, faddr := BitVec.ofNat 64 a, info := 0 }) s := by
  simp only [fillRead, run_bind, coreOf, run_get, run_pure, ha, not_true_eq_false, ne_eq, if_false, if_pos hout, stackFault, throwExc, run_throw]
  rfl

/-- A core whose stack a fill has brought the entry x into, below those cached. -/
def Core.afterFill (c : Core) (b : Tlbs) (l : List Nat) (ret : Bool) (x : Word) : Core :=
  ((c.filled b l).setStack ret { c.stack ret with cache := (c.stack ret).cache ++ [x], ptr := (c.stack ret).ptr + 8 }).note 11

/-- A fill puts the doubleword read below the entries cached, and the stack pointer moves up. -/
theorem fillOne_run (h : CanFill s n ret t) : ∃ b l x, fillOne n ret s = .ok () (s.modCore n (·.afterFill b l ret x)) := by
  obtain ⟨b, l, hr⟩ := fillRead_run h
  refine ⟨b, l, wordOf ((List.range 8).map fun i => s.loadByte n (t.addr ((s.core n).stack ret).ptr.toNat + i)), ?_⟩
  simp only [fillOne, run_bind, coreOf, run_get, run_pure, hr, onCore, run_modify, State.modCore_modCore]
  exact congrArg _ (s.modCore_congr n (by cases ret <;> rfl))

theorem Core.afterFill_kept (c : Core) (b : Tlbs) (l : List Nat) (x : Word) : (c.afterFill b l false x).rs = c.rs ∧ (c.afterFill b l false x).psw = c.psw := ⟨rfl, rfl⟩

/-- An entry that was filled in and dropped at once leaves the stack pointer moved. -/
theorem Core.afterFill_drop (c : Core) (b : Tlbs) (l : List Nat) (x : Word) (hc : c.ds.cache = []) :
    (c.afterFill b l false x).replaceTop 1 [] c.psw = (({ c with ds := { c.ds with ptr := c.ds.ptr + 8 } } : Core).filled b l).note 11 := by
  simp [Core.afterFill, Core.replaceTop, Core.setStack, Core.stack, Core.filled, Core.accessed, Core.note, hc]

theorem Core.filled_note_same (c : Core) (b : Tlbs) (l : List Nat) (ev : Nat) : SameCore c ((c.filled b l).note ev) := by constructor <;> rfl

theorem fillOne_outside (ha : ((s.core n).stack ret).ptr.toNat % 8 = 0)
    (hout : ((s.core n).stack ret).ptr.toNat < ((s.core n).stack ret).lo.toNat ∨ ((s.core n).stack ret).hi.toNat < ((s.core n).stack ret).ptr.toNat + 8) :
    fillOne n ret s =
      .error (.exc { Exc.plain 7 5 (s.core n).pc with sub := if ret then 1 else 0, cause := 0, faddr := ((s.core n).stack ret).ptr, info := 0 }) s := by
  simp only [fillOne, run_bind, coreOf, run_get, run_pure, fillRead_outside ha hout, BitVec.ofNat_toNat, BitVec.setWidth_eq]

theorem makeRoom_fill (hc : ((s.core n).stack ret).cache = []) : makeRoom n ret 1 0 s = fillOne n ret s := by
  have hspills : max 0 1 - 1 + 0 - stackMax ret = 0 := by omega
  simp only [makeRoom, run_bind, coreOf, run_get, run_pure, hc, List.length_nil, Nat.sub_zero, times, hspills]
  cases fillOne n ret s <;> rfl

end

/-! DROP on an empty data stack, which fills first (R42). -/

section
variable {s u : State} {k : Insn} {o : Op} {body : Run Retire} {e : Stop} {t : TlbEntry}

/-- An instruction without prefixes that consumes one entry of an empty data stack fills it first: a fill that fails ends it. -/
theorem Ready.instr_fill_fails (h : Ready s k.lcn) (hp : k.pfx = []) (hn : o.noSlot = false) (hv : o.priv = false) (hc : (s.core k.lcn).ds.cache = [])
    (hf : fillOne k.lcn false s = .error e u) : instr k o 1 0 0 0 body s = settle s k.lcn o.len (s.sup k.lcn) (.error e u) := by
  have hchecks : precheck k o s = .ok () s := precheck_ok (by rw [hp]; exact pfxCause_nil fun _ => hn) (by simp [hv])
  have hroom : makeRoom k.lcn false 1 0 s = .error e u := (makeRoom_fill (ret := false) hc).trans hf
  simp only [instr, h.mayStart, run_bind, hchecks, hroom, hp, List.length_nil, Nat.zero_add, State.sup]

/-- A fill that succeeds, and leaves the return stack alone, is followed by the instruction's own execution. -/
theorem Ready.instr_fill_runs (h : Ready s k.lcn) (hp : k.pfx = []) (hn : o.noSlot = false) (hv : o.priv = false) (he : o.entry = none)
    (hc : (s.core k.lcn).ds.cache = []) (hf : fillOne k.lcn false s = .ok () u) (hrs : (u.core k.lcn).rs = (s.core k.lcn).rs) :
    instr k o 1 0 0 0 body s = settle s k.lcn o.len (s.sup k.lcn) (body u) := by
  have hchecks : precheck k o s = .ok () s := precheck_ok (by rw [hp]; exact pfxCause_nil fun _ => hn) (by simp [hv])
  have hroom : makeRoom k.lcn false 1 0 s = .ok () u := (makeRoom_fill (ret := false) hc).trans hf
  have hroomR : makeRoom k.lcn true 0 0 u = .ok () u := makeRoom_fits (by rw [Core.stack, if_pos rfl, hrs]; exact h.fitsR)
  have hseq : runSequence k.lcn o.entry u = .ok () u := by rw [he]; rfl
  simp only [instr, h.mayStart, run_bind, hchecks, hroom, hroomR, hseq, hp, List.length_nil, Nat.zero_add, State.sup]

end

theorem stackFills : Claim.StackFills := by
  intro k s t h hp hc c acc pa
  refine ⟨fun ha hlo hhi hm hr hk => ?_, fun ha hout => ?_⟩
  · obtain ⟨b, l, x, hf⟩ := fillOne_run (ret := false) ⟨ha, hlo, hhi, hm, hr, hk⟩
    rw [exec_drop, execDrop, stackOp, h.instr_fill_runs hp rfl rfl rfl hc hf (State.modCore_get Core.rs (Core.afterFill_kept _ b l x).1)]
    have hpsw : ((s.modCore k.lcn (·.afterFill b l false x)).core k.lcn).psw = c.psw := State.modCore_get Core.psw (Core.afterFill_kept _ b l x).2
    have hnew := (s.modCore_core k.lcn (fun d => (d.afterFill b l false x).replaceTop 1 [] c.psw) h.lt).trans (c.afterFill_drop b l x hc)
    generalize ({ c with ds := { c.ds with ptr := c.ds.ptr + 8 } } : Core) = d at hnew ⊢
    simp only [run_bind, coreOf, run_get, run_pure, onCore, run_modify, State.modCore_modCore, settle_ok, hpsw]
    generalize (fun d : Core => (d.afterFill b l false x).replaceTop 1 [] c.psw) = g at hnew ⊢
    refine ⟨_, rfl, retire_next (t := s.modCore k.lcn g) (by rw [State.modCore_length]; exact h.lt) (.modCore s k.lcn g) (fun m hm => s.modCore_other k.lcn m g hm)
      ?_ ?_ ?_ ?_⟩
    · rw [hnew]
      exact d.filled_note_same b l 11
    all_goals
      rw [hnew]
      rfl
  · have hf := fillOne_outside (ret := false) ha hout
    rw [exec_drop, execDrop, stackOp, h.instr_fill_fails hp rfl rfl hc hf]
    exact h.settle_exc _ _ _

/-- Settles O23: the spills, then the fill and its failure. -/
theorem stackMemory : Obligations.StackMemory := ⟨spillAllStacks, stackFills⟩

end Sys2Proof.Machine
end

section
/-! SUPPORT. The stages of a reset from its start to the handover (R28, R29, R428, R433, R486 to R495, R528), which settle the resets of O55. -/

namespace Sys2Proof.Machine

/-! What the start-up of the units that a reset has set leaves as it is. -/

/-- The cores, memory and its controllers, the subchannels and the life cycle of two states are the same. -/
structure StartKeeps (s t : State) : Prop where
  cores : t.cores = s.cores
  mem : t.mem = s.mem
  mc : t.mc = s.mc
  css : t.css = s.css
  life : t.life = s.life

namespace StartKeeps

theorem refl (s : State) : StartKeeps s s := ⟨rfl, rfl, rfl, rfl, rfl⟩

theorem trans {s t u : State} (a : StartKeeps s t) (b : StartKeeps t u) : StartKeeps s u :=
  ⟨b.cores.trans a.cores, b.mem.trans a.mem, b.mc.trans a.mc, b.css.trans a.css, b.life.trans a.life⟩

theorem foldl {α : Type} {f : State → α → State} (h : ∀ s x, StartKeeps s (f s x)) (xs : List α) (s : State) : StartKeeps s (xs.foldl f s) := by
  induction xs generalizing s with
  | nil => exact .refl s
  | cons x xs ih => exact (h s x).trans (ih _)

theorem modCt (s : State) (f : Ct → Ct) : StartKeeps s (s.modCt f) := ⟨rfl, rfl, rfl, rfl, rfl⟩

end StartKeeps

/-- The same, and the continuity unit. -/
structure Kept (s t : State) : Prop extends StartKeeps s t where
  ct : t.ct = s.ct

namespace Kept

theorem refl (s : State) : Kept s s := ⟨.refl s, rfl⟩

theorem trans {s t u : State} (a : Kept s t) (b : Kept t u) : Kept s u := ⟨a.toStartKeeps.trans b.toStartKeeps, b.ct.trans a.ct⟩

theorem foldl {α : Type} {f : State → α → State} (h : ∀ s x, Kept s (f s x)) (xs : List α) (s : State) : Kept s (xs.foldl f s) := by
  induction xs generalizing s with
  | nil => exact .refl s
  | cons x xs ih => exact (h s x).trans (ih _)

theorem reportAt (s : State) (src : Nat) (cls : FaultClass) (st : Nat) (p l : Byte) (d : Option Word32) (a : Word) : Kept s (s.reportAt src cls st p l d a) := by
  cases d <;> exact ⟨⟨rfl, rfl, rfl, rfl, rfl⟩, rfl⟩

theorem report (s : State) (src : Nat) (cls : FaultClass) (d : Option Word32) (a : Word) : Kept s (s.report src cls d a) := .reportAt ..

end Kept

section
variable (s : State)

theorem chooseControl_keeps : StartKeeps s s.chooseControl.2 := by
  unfold State.chooseControl
  extract_lets a b
  split_ifs <;> exact ⟨rfl, rfl, rfl, rfl, rfl⟩

theorem tornRecs_keeps (spoilt : List Word32) (rs : List JRec) : StartKeeps s (s.tornRecs spoilt rs).2 := by
  induction rs generalizing s with
  | nil => exact .refl s
  | cons r rs ih => exact (⟨rfl, rfl, rfl, rfl, rfl⟩ : StartKeeps s s.takeFree.2).trans (ih s.takeFree.2)

theorem replay_keeps (ctl : CtlCopy) (spoilt : List Word32) : StartKeeps s (s.replay ctl spoilt) := by
  unfold State.replay
  extract_lets lost
  exact ((Kept.foldl (fun _ _ => .report ..) lost s).toStartKeeps.trans (tornRecs_keeps _ spoilt _)).trans (.modCt ..)

theorem setPstate_keeps (p : PState) : StartKeeps s (s.setPstate p) := by
  unfold State.setPstate State.writeControl
  extract_lets
  split_ifs <;> exact ⟨rfl, rfl, rfl, rfl, rfl⟩

/-- No path to the witness is up before its connection opens (R446). -/
theorem witUp_reset {s : State} (h : s.css = .reset) : s.witUp = false := by
  have hconn : s.conn witnessKey = Conn.closed := by rw [State.conn, h]; rfl
  rw [State.witUp, hconn]
  exact Bool.and_false _

/-- A request is then held outstanding. -/
theorem startRequest_keeps (kind : Nat) (h : s.css = .reset) : StartKeeps s (s.startRequest kind) := by
  have held : ∀ f : Ct → Ct, StartKeeps s (s.takeFree.2.modCt f) := fun f => ⟨rfl, rfl, rfl, rfl, rfl⟩
  unfold State.startRequest
  split_ifs
  · exact .refl s
  · dsimp only
    rw [witUp_reset ((held _).css.trans h), if_neg (by decide)]
    exact held _

theorem roleAfterReset_keeps (ctl : CtlCopy) (h : s.css = .reset) : StartKeeps s (s.roleAfterReset ctl) := by
  unfold State.roleAfterReset
  extract_lets t u v
  have ht : StartKeeps s t := .modCt ..
  have hu : StartKeeps t u := (setPstate_keeps t .broken).trans ⟨rfl, rfl, rfl, rfl, rfl⟩
  have hport : ∀ (w : State) (p : Nat), StartKeeps w (w.modPort p fun x => { x with leat := true }) := fun _ _ => ⟨rfl, rfl, rfl, rfl, rfl⟩
  have hv : StartKeeps t v := hu.trans (.foldl hport _ u)
  split
  · exact ht
  · exact (ht.trans (setPstate_keeps t .solo)).trans (.modCt ..)
  · exact (ht.trans hv).trans (startRequest_keeps v wkSoloReq (by rw [hv.css, ht.css, h]))

theorem replayAll_keeps (spoilt : List Word32) (h : s.css = .reset) : StartKeeps s (s.replayAll spoilt) := by
  have hc := (chooseControl_keeps s).trans (replay_keeps _ s.chooseControl.1 spoilt)
  exact hc.trans (roleAfterReset_keeps _ _ (by rw [hc.css, h]))

theorem reportFlash_keeps : Kept s s.reportFlash := by
  have hpatch : Kept s (match s.life.flashPatch with
      | some st => if st = 0 then s else s.report 0xA01 .recoverable (some (st.setWidth 32)) 0
      | none => s) := by
    split
    · split_ifs
      · exact .refl s
      · exact .report ..
    · exact .refl s
  unfold State.reportFlash
  extract_lets t
  split
  · exact hpatch.trans (.report ..)
  · exact hpatch

theorem reportMissing_keeps : Kept s s.reportMissing :=
  (Kept.foldl (fun _ _ => .reportAt ..) _ s).trans (.foldl (fun _ _ => .reportAt ..) _ _)

theorem bootWay_keeps (slice way : Nat) : Kept s (s.bootWay slice way) := by
  unfold State.bootWay
  split
  · exact .refl s
  · split_ifs
    · exact .refl s
    · exact .report ..
    · exact ⟨⟨rfl, rfl, rfl, rfl, rfl⟩, rfl⟩

/-- The LFSR of slice k loaded (R260, R263). -/
def State.loadLfsr (s : State) (k : Nat) : State := s.drawLfsr.2.modPool fun p => { p with lfsr := modAt p.lfsr k (fun _ => s.drawLfsr.1) }

theorem loadLfsr_keeps (k : Nat) : Kept s (s.loadLfsr k) := ⟨⟨rfl, rfl, rfl, rfl, rfl⟩, rfl⟩

theorem wipePool_keeps (cold : Bool) (bad : List (Nat × Nat)) : Kept s (s.wipePool cold bad) := by
  unfold State.wipePool
  extract_lets ways p t u
  have hu : Kept t u := Kept.foldl loadLfsr_keeps _ t
  exact ((⟨⟨rfl, rfl, rfl, rfl, rfl⟩, rfl⟩ : Kept s t).trans hu).trans (.foldl (fun s w => bootWay_keeps s w.1 w.2) bad u)

/-- A channel at training (R271). -/
def State.trainChannel (r : StartTest) (s : State) (n : Nat) : State :=
  match startCause r n with
  | some c => s.startFailed n c
  | none => s

/-- A group after the training of its channels (R271). -/
def State.trainGroup (s : State) (g : Nat) : State :=
  if 2 ≤ s.failedIn g then ({ s with mc := { s.mc with zeroing := false } } : State).report (0x818 + g) .fatal none 0 else s

theorem State.train_eq (r : StartTest) :
    s.train r = (List.range 4).foldl State.trainGroup ((List.range 20).foldl (State.trainChannel r) { s with mc := .trained r }) := rfl

/-- The cores, memory, the subchannels, the life cycle and the continuity unit are the same, and main memory is not up (R271). -/
structure Training (s t : State) : Prop where
  cores : t.cores = s.cores
  mem : t.mem = s.mem
  css : t.css = s.css
  life : t.life = s.life
  ct : t.ct = s.ct
  notReady : t.mc.ready = false

theorem trainChannel_training {s t : State} (r : StartTest) (n : Nat) (h : Training s t) : Training s (t.trainChannel r n) := by
  unfold State.trainChannel
  cases startCause r n with
  | some c => exact ⟨h.cores, h.mem, h.css, h.life, h.ct, h.notReady⟩
  | none => exact h

theorem trainGroup_training {s t : State} (g : Nat) (h : Training s t) : Training s (t.trainGroup g) := by
  unfold State.trainGroup
  split_ifs
  · exact ⟨h.cores, h.mem, h.css, h.life, h.ct, h.notReady⟩
  · exact h

theorem train_training (r : StartTest) : Training s (s.train r) := by
  rw [State.train_eq]
  exact List.foldlRecOn _ _ (List.foldlRecOn _ _ ⟨rfl, rfl, rfl, rfl, rfl, rfl⟩ fun _ h n _ => trainChannel_training r n h) fun _ h g _ => trainGroup_training g h

end

/-! The cold reset (R492). -/

section
variable (s : State) (r : StartTest)

/-- The units of a cold reset at their reset values, the beats to the handover counted and the Pool wiped. -/
def State.coldStart : State :=
  let (b, u) := ({ s.cutChange with mc := .trained r } : State).coldBeats r.zeroed
  (({ u with plant := u.plant.restart b, mem := [] } : State).resetUnits true r).wipePool true r.ways

/-- A cold reset up to the zeroing of main memory. -/
def State.coldUp : State := ((s.coldStart r).train r).reportMissing.reportFlash.replayAll r.spoilt

theorem State.coldReset_eq : s.coldReset r = if r.zeroed then (s.coldUp r).memoryUp.handOver else s.coldUp r := rfl

/-- The physical cores that a cold reset leaves out. -/
def failingCores (r : StartTest) : List Nat := r.cores ++ r.cps.map spentCp

theorem coldStart_keeps : (s.coldStart r).mem = [] ∧ (s.coldStart r).css = .reset ∧ (s.coldStart r).life = s.cutChange.life.restart ∧
    (∃ b failing rsth, (s.coldStart r).ct = { s.cutChange.ct.restart [] failing b rsth with spent := [] }) ∧
    ∃ v rsth, (s.coldStart r).cores = coresFor (failingCores r) v rsth := by
  unfold State.coldStart
  have k := fun (b : Word) (u : State) => wipePool_keeps (({ u with plant := u.plant.restart b, mem := [] } : State).resetUnits true r) true r.ways
  exact ⟨(k _ _).mem, (k _ _).css, (k _ _).life, ⟨_, _, _, (k _ _).ct⟩, _, _, (k _ _).cores⟩

theorem coldUp_keeps : (s.coldUp r).mem = [] ∧ (s.coldUp r).life = s.cutChange.life.restart ∧ (s.coldUp r).mc.ready = false ∧
    ∃ v rsth, (s.coldUp r).cores = coresFor (failingCores r) v rsth := by
  obtain ⟨hmem, hcss, hlife, -, v, rsth, hcores⟩ := coldStart_keeps s r
  have ht := train_training (s.coldStart r) r
  have hreports := (reportMissing_keeps ((s.coldStart r).train r)).trans (reportFlash_keeps _)
  have k := hreports.toStartKeeps.trans (replayAll_keeps _ r.spoilt (by rw [hreports.css, ht.css, hcss]))
  exact ⟨k.mem.trans (ht.mem.trans hmem), k.life.trans (ht.life.trans hlife), by rw [State.coldUp, k.mc, ht.notReady], v, rsth, k.cores.trans (ht.cores.trans hcores)⟩

end

/-! The cores before and after the handover (R28, R493). -/

section
variable {s u : State} {spent : List Nat} {v : Word} {rsth : List Word} {n : Nat}

/-- A core released at the handover. -/
def Core.released (c : Core) : Core := if c.run == .paused then { c with run := .running } else c

theorem Core.released_absent (c : Core) : c.released.run = .absent ↔ c.run = .absent := by
  unfold Core.released
  split_ifs with h
  · rw [beq_iff_eq] at h
    simp [h]
  · rfl

theorem core_of_map (h : u.cores = s.cores.map Core.released) (n : Nat) : u.core n = (s.core n).released := by
  rw [State.core, State.core, h, List.getD_eq_getElem?_getD, List.getD_eq_getElem?_getD, List.getElem?_map]
  cases s.cores[n]? <;> rfl

theorem formWindow_keeps (s : State) : Kept s s.formWindow := by
  unfold State.formWindow
  extract_lets t
  split_ifs
  · exact (⟨⟨rfl, rfl, rfl, rfl, rfl⟩, rfl⟩ : Kept s t).trans (.foldl (fun _ _ => .report ..) _ t)
  · exact ⟨⟨rfl, rfl, rfl, rfl, rfl⟩, rfl⟩

/-- Rows 12 and 13 of R492: the boot region written and the cores released. -/
def State.release (s : State) (b : BootCopy) : State :=
  { s with
    cores := s.cores.map Core.released,
    mem := bootMemory s.mem b.payload,
    mc := { s.mc with poisonCode := s.mc.poisonCode.filter (fun l => !bootLine b.payload l) },
    pool := { s.pool with start := false } }

/-- What a handover comes to. -/
theorem handOver_cases (s : State) : s.handOver = s ∨ s.handOver = s.formWindow ∨ ∃ b, s.handOver = s.formWindow.release b := by
  by_cases hup : (!s.mc.ready || !s.pool.start) = true
  · exact .inl (by rw [State.handOver, if_pos hup])
  · rw [State.handOver, if_neg hup]
    dsimp only
    cases s.formWindow.life.bootCopy with
    | none => exact .inr (.inl rfl)
    | some b =>
      by_cases hfail : s.formWindow.pool.lockFail = true
      · exact .inr (.inl (if_pos hfail))
      · exact .inr (.inr ⟨b, if_neg hfail⟩)

/-- The handover leaves the cores or releases them. -/
theorem handOver_cores (s : State) : s.handOver.cores = s.cores ∨ s.handOver.cores = s.cores.map Core.released := by
  have hw := (formWindow_keeps s).cores
  rcases handOver_cases s with h | h | ⟨b, h⟩
  · exact .inl (by rw [h])
  · exact .inl (by rw [h, hw])
  · exact .inr (by rw [h, ← hw, State.release])

theorem memoryUp_cores (s : State) : s.memoryUp.cores = s.cores := by
  unfold State.memoryUp
  split_ifs <;> rfl

theorem handOver_absent (s : State) (n : Nat) : (s.handOver.core n).run = .absent ↔ (s.core n).run = .absent := by
  rcases handOver_cores s with h | h
  · rw [State.core, h, State.core]
  · rw [core_of_map h, Core.released_absent]

/-- Logical core n on physical core p as a reset sets it, not released yet (R493). -/
def startCore (v : Word) (rsth : List Word) (n p : Nat) : Core :=
  { Core.reset p v (rsth.getD 0 0) (rsth.getD 1 0) (rsth.getD 2 0 + BitVec.ofNat 64 (0x2000 * n)) with run := .paused }

theorem coresFor_eq (spent : List Nat) (v : Word) (rsth : List Word) :
    coresFor spent v rsth = (List.range 48).map fun n => ((passingCores spent)[n]?.map (startCore v rsth n)).getD Core.absent := by
  refine List.map_congr_left fun n _ => ?_
  cases (passingCores spent)[n]? <;> rfl

/-- A core that a reset has set: its start values, or an LCN without a core. -/
theorem core_of_coresFor (h : s.cores = coresFor spent v rsth) (hn : n < 48) :
    s.core n = ((passingCores spent)[n]?.map (startCore v rsth n)).getD Core.absent := by
  rw [State.core, h, coresFor_eq, List.getD_eq_getElem?_getD, List.getElem?_map, List.getElem?_range hn, Option.map_some, Option.getD_some]

theorem core_of_coresFor_beyond (h : s.cores = coresFor spent v rsth) (hn : 48 ≤ n) : s.core n = Core.absent := by
  rw [State.core, h, List.getD_eq_default _ _ (by simpa [coresFor_eq] using hn)]

theorem coresFor_absent (h : s.cores = coresFor spent v rsth) (hn : n < 48) : (s.core n).run = .absent ↔ (passingCores spent).length ≤ n := by
  rw [core_of_coresFor h hn, ← List.getElem?_eq_none_iff]
  cases (passingCores spent)[n]? with
  | none => exact ⟨fun _ => rfl, fun _ => rfl⟩
  | some p => exact ⟨fun h => (by cases h), fun h => (by cases h)⟩

theorem coresFor_notRunning (h : s.cores = coresFor spent v rsth) (n : Nat) : (s.core n).run ≠ .running := by
  rcases Nat.lt_or_ge n 48 with hn | hn
  · rw [core_of_coresFor h hn]
    cases (passingCores spent)[n]? with
    | none => exact fun h => (by cases h)
    | some p => exact fun h => (by cases h)
  · rw [core_of_coresFor_beyond h hn]
    decide

/-- A cold reset: the cores that fail their self-test leave the last LCNs absent, and nothing runs before main memory has been zeroed (R28, R286). -/
theorem coldReset_general (s : State) (r : StartTest) :
    (∀ n, n < 48 → (((s.coldReset r).core n).run = .absent ↔ (passingCores (failingCores r)).length ≤ n)) ∧
      (r.zeroed = false → (s.coldReset r).mem = [] ∧ (s.coldReset r).mc.ready = false ∧ ∀ n, ((s.coldReset r).core n).run ≠ .running) := by
  obtain ⟨hmem, -, hready, v, rsth, hcores⟩ := coldUp_keeps s r
  rw [State.coldReset_eq]
  cases hz : r.zeroed with
  | true =>
    refine ⟨fun n hn => ?_, fun h => by cases h⟩
    rw [if_pos rfl, handOver_absent, coresFor_absent ((memoryUp_cores _).trans hcores) hn]
  | false =>
    rw [if_neg (by decide)]
    exact ⟨fun n hn => coresFor_absent hcores hn, fun _ => ⟨hmem, hready, fun n => coresFor_notRunning hcores n⟩⟩

theorem boardReset_powered {f : State → State} (h : s.plant.power = .on) : boardReset s f = .next (f s) := if_pos h

theorem boardReset_unpowered {f : State → State} (h : s.plant.power ≠ .on) : boardReset s f = .next s := if_neg h

end

/-! The control area and the journal, where there is no record (R428, R433, R528). -/

section
variable {s u : State} {ctl : CtlCopy}

/-- A journal without records is replayed in silence. -/
theorem replay_empty (ctl : CtlCopy) (spoilt : List Word32) (h : s.ct.recs = []) :
    ∃ c, s.replay ctl spoilt = s.modCt (fun _ => c) ∧ c.recs = [] := by
  have hlive : s.ct.live = [] := by rw [Ct.live, h, List.filter_nil]
  refine ⟨({ s.ct with recs := [], waits := [], head := ctl.tail, nextgen := ctl.nextgen, tail := ctl.tail, tailgen := ctl.tailgen } : Ct).retail, ?_, rfl⟩
  rw [State.replay, hlive, h]
  rfl

/-- ROLE, PSTATE, PAIRID and the fence generation as a control area tells them. -/
structure TakenFrom (ctl : CtlCopy) (c : Ct) : Prop where
  recs : c.recs = []
  role : c.role = ctl.role
  pstate : c.pstate = ctl.pstate
  fgen : c.fgen = ctl.fgen
  pairId : c.pairId = ctl.pairId

/-- A control area that tells of no pair, over a journal without records: the continuity unit alone changes. -/
theorem replayAll_solo (spoilt : List Word32) (hc : s.chooseControl = (ctl, u)) (hp : ctl.pstate = .solo) (hr : u.ct.recs = []) :
    ∃ c, s.replayAll spoilt = u.modCt (fun _ => c) ∧ TakenFrom ctl c := by
  obtain ⟨c, he, hrecs⟩ := replay_empty ctl spoilt hr
  refine ⟨{ c with role := ctl.role, pstate := ctl.pstate, pairId := ctl.pairId, fgen := ctl.fgen }, ?_, hrecs, rfl, rfl, rfl, rfl⟩
  rw [State.replayAll, hc]
  dsimp only
  rw [he, State.roleAfterReset, hp]
  cases ctl.role <;> rfl

/-- A control area of which neither copy is good (R428). -/
theorem chooseControl_none (ha : s.ct.copyA.valid = false) (hb : s.ct.copyB.valid = false) :
    s.chooseControl = (CtlCopy.fresh, (s.modCt fun c => { c with useB := false, recs := [] }).report 0xA02 .severe none 0) := by
  simp [State.chooseControl, ha, hb]

theorem cutChange_none (h : s.life.change = none) : s.cutChange = s := by
  have hlife : { s.life with change := none } = s.life := by rw [← h]
  simp only [State.cutChange, h, Option.isSome_none, Bool.false_and, Bool.false_eq_true, if_false, State.modLife, hlife]

theorem handOver_kept (s : State) : s.handOver.ct = s.ct ∧ s.handOver.life = s.life := by
  have hw := formWindow_keeps s
  rcases handOver_cases s with h | h | ⟨b, h⟩
  · rw [h]
    exact ⟨rfl, rfl⟩
  · rw [h]
    exact ⟨hw.ct, hw.life⟩
  · rw [h]
    exact ⟨hw.ct, hw.life⟩

theorem memoryUp_kept (s : State) : s.memoryUp.ct = s.ct ∧ s.memoryUp.life = s.life := by
  unfold State.memoryUp
  split_ifs <;> exact ⟨rfl, rfl⟩

/-- The handover leaves the continuity unit and the life cycle as the start-up left them. -/
theorem coldReset_kept (s : State) (r : StartTest) : (s.coldReset r).ct = (s.coldUp r).ct ∧ (s.coldReset r).life = (s.coldUp r).life := by
  obtain ⟨hct, hlife⟩ := handOver_kept (s.coldUp r).memoryUp
  obtain ⟨uct, ulife⟩ := memoryUp_kept (s.coldUp r)
  rw [State.coldReset_eq]
  cases r.zeroed with
  | true =>
    rw [if_pos rfl]
    exact ⟨hct.trans uct, hlife.trans ulife⟩
  | false =>
    rw [if_neg (by decide)]
    exact ⟨rfl, rfl⟩

/-- A cold reset that finds neither copy of the control area good comes up active, without a pair and without records (R428). -/
theorem coldReset_fresh {r : StartTest} (hc : s.life.change = none) (ha : s.ct.copyA.valid = false) (hb : s.ct.copyB.valid = false) :
    TakenFrom .fresh (s.coldReset r).ct := by
  obtain ⟨-, -, -, ⟨b, failing, rsth, hct⟩, -⟩ := coldStart_keeps s r
  have hreports := (reportMissing_keeps ((s.coldStart r).train r)).trans (reportFlash_keeps _)
  have hstart := hreports.ct.trans ((train_training (s.coldStart r) r).ct.trans hct)
  have hup : s.coldUp r = ((s.coldStart r).train r).reportMissing.reportFlash.replayAll r.spoilt := rfl
  rw [cutChange_none hc] at hstart
  rw [(coldReset_kept s r).1, hup]
  generalize ((s.coldStart r).train r).reportMissing.reportFlash = w at hstart ⊢
  obtain ⟨c, he, htaken⟩ := replayAll_solo r.spoilt (chooseControl_none (s := w) (by rw [hstart]; exact ha) (by rw [hstart]; exact hb)) rfl rfl
  rw [he]
  exact htaken

end

/-! A change of life-cycle state (R501, R502). -/

theorem Fuses.blow_of_state (f : Fuses) (okeyh : BitVec 384) (target : Nat) :
    (target = 4 → f.blow target okeyh = { f with decom := true }) ∧
    (target = 1 → f.blow target okeyh = { f with prov := true, okeyh := f.okeyh ||| okeyh }) ∧
    (target = 2 → f.state = 1 → f.blow target okeyh = { f with oper := true }) ∧
    ((target = 2 ∧ f.state = 3) ∨ (target = 3 ∧ f.state = 2) → f.blow target okeyh = { f with svc := f.svc + 1 }) := by
  refine ⟨?_, ?_, ?_, ?_⟩
  · rintro rfl
    rfl
  · rintro rfl
    rfl
  · rintro rfl hs
    simp [Fuses.blow, hs]
  · rintro (⟨rfl, hs⟩ | ⟨rfl, hs⟩) <;> simp [Fuses.blow, hs]

theorem lifeCycleReset : Claim.LifeCycleReset := by
  intro s x r hx hsafe hbeat
  have hexec : exec (.coldReset .lifeCycle r) s = .next (s.completeChange x.target r) := by
    rw [exec_coldReset, execColdReset]
    simp only [hx]
    exact if_pos (by simp [hsafe, hbeat])
  rw [State.completeChange] at hexec
  obtain ⟨hdecom, hprov, hoper, hsvc⟩ := s.life.fuses.blow_of_state s.life.okeyh x.target
  generalize hv : State.modLife _ _ = v at hexec
  have hchange : v.life.change = none := by rw [← hv]; rfl
  have hfuses : v.life.fuses = s.life.fuses.blow x.target s.life.okeyh := by rw [← hv]; rfl
  obtain ⟨hrecs, hrole, hpstate, -, -⟩ := coldReset_fresh (r := r) hchange (by rw [← hv]; rfl) (by rw [← hv]; rfl)
  have hlife : (v.coldReset r).life = v.life.restart := by rw [(coldReset_kept v r).2, (coldUp_keeps v r).2.1, cutChange_none hchange]
  refine ⟨_, hexec, hrecs, by rw [hlife]; rfl, hrole, hpstate, ?_⟩
  have hblown : (v.coldReset r).life.fuses = s.life.fuses.blow x.target s.life.okeyh := by
    rw [hlife]
    exact hfuses
  rw [hblown]
  exact ⟨hdecom, hprov, hoper, hsvc⟩

end Sys2Proof.Machine
end

section
/-! SUPPORT. The handover of a reset that finds a boot copy, a good control area without records and every unit good (R28, R286, R487 to R495, R528), which settles the resets of O55. -/

namespace Sys2Proof.Machine

/-! Main memory with the boot region (R488, R493). -/

section
variable {m cs : Mem} {a : Nat}

theorem Mem.read_filter (g : Nat → Bool) : ∀ (m : Mem) (a : Nat), Mem.read (m.filter fun c => g c.1) a = if g a then m.read a else 0
  | [], a => by simp [Mem.read]
  | (x, v) :: m, a => by
    have ih := Mem.read_filter g m a
    by_cases hx : a = x
    · subst hx
      by_cases hg : g a = true <;> simp_all [Mem.read]
    · by_cases hg : g x = true <;> simp_all [Mem.read]

/-- Cells stored in memory leave every other address. -/
theorem Mem.read_overlay_other : ∀ {cs m : Mem}, m.wf = true → (∀ c ∈ cs, c.1 ≠ a) → (cs.foldl (fun m c => m.write c.1 c.2) m).read a = m.read a
  | [], _, _, _ => rfl
  | c :: cs, m, hm, hc => by
    rw [List.foldl_cons, Mem.read_overlay_other (Mem.write_wf hm c.1 c.2) fun d hd => hc d (List.mem_cons_of_mem c hd), Mem.read_write hm,
      if_neg fun h => hc c List.mem_cons_self h.symm]

theorem Mem.wfFrom_le : ∀ {cs : Mem} {lo : Nat}, Mem.wfFrom lo cs = true → ∀ c ∈ cs, lo ≤ c.1
  | (x, v) :: cs, lo, h, c, hc => by
    simp only [Mem.wfFrom, Bool.and_eq_true, decide_eq_true_eq] at h
    rcases List.mem_cons.mp hc with rfl | hc
    · exact h.1.1
    · exact Nat.le_of_succ_le (Nat.le_trans (Nat.succ_le_succ h.1.1) (Mem.wfFrom_le h.2 c hc))

/-- Where memory held zeros it holds the cells stored in it. -/
theorem Mem.read_overlay : ∀ {cs m : Mem} {lo : Nat}, m.wf = true → Mem.wfFrom lo cs = true → m.read a = 0 →
    (cs.foldl (fun m c => m.write c.1 c.2) m).read a = cs.read a
  | [], _, _, _, _, hz => hz
  | (x, v) :: cs, m, lo, hm, hc, hz => by
    simp only [Mem.wfFrom, Bool.and_eq_true, decide_eq_true_eq] at hc
    have hw := Mem.write_wf hm x v
    rw [List.foldl_cons, Mem.read]
    by_cases hx : a = x
    · subst hx
      rw [Mem.read_overlay_other hw fun d hd => by have := Mem.wfFrom_le hc.2 d hd; omega, Mem.read_write hm, if_pos rfl, if_pos rfl]
    · rw [if_neg hx]
      exact Mem.read_overlay hw hc.2 (by rw [Mem.read_write hm, if_neg hx, hz])

/-- Main memory as the boot region's writes find it, with the boot tree. -/
def treeMemory (m : Mem) : Mem := bootTree.foldl (fun m c => m.write c.1 c.2) (m.filter (fun c => !inBootArea c.1 && decide (c.1 < windowBase)))

theorem treeMemory_wf (h : m.wf = true) : (treeMemory m).wf = true := Mem.fold_wf (Mem.filter_wf h _)

variable {payload : List Byte}

theorem bootMemory_payload (h : m.wf = true) {i : Nat} (hi : i < payload.length) : (bootMemory m payload).read (0x1000000 + i) = payload[i] :=
  Mem.read_writeN (treeMemory_wf h) hi

theorem bootMemory_outside (h : m.wf = true) (ha : a < 0x1000000 ∨ 0x1000000 + payload.length ≤ a) : (bootMemory m payload).read a = (treeMemory m).read a :=
  Mem.read_writeN_other (treeMemory_wf h) ha

theorem bootMemory_tree (h : m.wf = true) (ha : a < 0x2000) : (bootMemory m payload).read a = Mem.read bootTree a := by
  rw [bootMemory_outside h (.inl (by omega))]
  refine Mem.read_overlay (Mem.filter_wf h _) bootTree_wf ?_
  rw [Mem.read_filter (fun a => !inBootArea a && decide (a < windowBase)), if_neg (by simp [inBootArea, ha])]

/-- Outside the boot tree and the payload memory stays where it is neither the boot TSB area nor the window, which read as zeros. -/
theorem bootMemory_other (h : m.wf = true) (hlo : 0x2000 ≤ a) (ha : a < 0x1000000 ∨ 0x1000000 + payload.length ≤ a) :
    (bootMemory m payload).read a = if !inBootArea a && decide (a < windowBase) then m.read a else 0 := by
  rw [bootMemory_outside h ha, treeMemory, Mem.read_overlay_other (Mem.filter_wf h _) fun c hc => by have := bootTree_cells c hc; omega]
  exact Mem.read_filter (fun a => !inBootArea a && decide (a < windowBase)) m a

end

/-! The stages of a start-up that finds every unit good. -/

section
variable {s : State} {r : StartTest}

theorem loadLfsr_eq (s : State) (k : Nat) : ∃ l f, s.loadLfsr k = { s with pool := { s.pool with lfsr := l }, free := f } := ⟨_, _, rfl⟩

theorem loadLfsrs_eq (ks : List Nat) (s : State) : ∃ l f, ks.foldl State.loadLfsr s = { s with pool := { s.pool with lfsr := l }, free := f } := by
  induction ks generalizing s with
  | nil => exact ⟨s.pool.lfsr, s.free, rfl⟩
  | cons k ks ih =>
    obtain ⟨l, f, h⟩ := loadLfsr_eq s k
    obtain ⟨l', f', h'⟩ := ih (s.loadLfsr k)
    exact ⟨l', f', by rw [List.foldl_cons, h', h]⟩

/-- The ways of the Pool as a reset finds them: a warm one keeps those that are disabled. -/
def State.waysFor (s : State) (cold : Bool) : List WayState := if cold then Pool.reset.ways else s.pool.ways.map fun w => { w with drain := [] }

/-- The Pool invalidated, its LFSRs not loaded yet (R263). -/
def State.poolCleared (s : State) (cold : Bool) : State :=
  { s with pool := { Pool.reset with ways := s.waysFor cold, lock := false, locked := false, start := true } }

theorem wipePool_eq (s : State) (cold : Bool) : s.wipePool cold [] = (List.range 16).foldl State.loadLfsr (s.poolCleared cold) := by
  unfold State.wipePool
  rw [List.foldl_nil]
  rfl

/-- The Pool wiped, no way failing its test: the Pool alone changes. -/
theorem wipePool_good (s : State) (cold : Bool) : ∃ l f, s.wipePool cold [] = { s with pool := { (s.poolCleared cold).pool with lfsr := l }, free := f } := by
  obtain ⟨l, f, h⟩ := loadLfsrs_eq (List.range 16) (s.poolCleared cold)
  exact ⟨l, f, (wipePool_eq s cold).trans h⟩

/-- No logical unit is missing (R29). -/
theorem reportMissing_none (hc : ∀ n, n < 48 → (s.core n).run ≠ .absent) (hl : ∀ n, n < 32 → s.ct.lcp.getD n none ≠ none) : s.reportMissing = s := by
  have hcores : (List.range 48).filter (fun n => (s.core n).run == .absent) = [] := by
    simp only [List.filter_eq_nil_iff, List.mem_range, beq_iff_eq]
    exact hc
  have hcps : (List.range 32).filter (fun n => s.ct.lcp.getD n none == none) = [] := by
    simp only [List.filter_eq_nil_iff, List.mem_range, beq_iff_eq]
    exact hl
  rw [State.reportMissing, hcores]
  exact congrArg (List.foldl _ s) hcps

/-- A boot copy runs, and no patch image fails (R243, R494). -/
theorem reportFlash_none {b : BootCopy} (hp : s.life.flashPatch = none) (hb : s.life.bootCopy = some b) : s.reportFlash = s := by
  simp [State.reportFlash, hp, hb]

theorem memoryUp_zeroed (h : s.mc.zeroing = true) : s.memoryUp = { s with mc := { s.mc with zeroing := false, ready := true } } := if_pos h

/-- The window formed where no way 15 is disabled (R265). -/
theorem formWindow_good (h : ∀ w ∈ s.pool.ways, bitAt w.dis 15 = false) :
    s.formWindow = s.modPool fun p => { p with lock := true, locked := true, lockFail := false } := by
  have hlocked : s.pool.ways.all (fun w => !bitAt w.dis 15) = true := by simpa using h
  have hfail : s.pool.ways.any (fun w => bitAt w.dis 15) = false := by simpa using h
  simp only [State.formWindow, State.modPool, hlocked, hfail, Bool.false_eq_true, if_false]

theorem handOver_boots {b : BootCopy} (hr : s.mc.ready = true) (hs : s.pool.start = true) (hw : ∀ w ∈ s.pool.ways, bitAt w.dis 15 = false)
    (hb : s.life.bootCopy = some b) : s.handOver = (s.modPool fun p => { p with lock := true, locked := true, lockFail := false }).release b := by
  rw [State.handOver, if_neg (by simp [hr, hs]), formWindow_good hw]
  dsimp only [State.modPool]
  rw [hb]
  exact if_neg (by decide)

end

/-! The units that a reset has set (R487, R492). -/

section
variable {s v : State} {b : BootCopy} {r : StartTest} {cold : Bool}

/-- The life cycle after a reset that finds a boot copy and no patch image: no master copy but the one of ROM (R242). -/
structure BootedLife (l m : Life) (b : BootCopy) : Prop where
  boot : m.bootCopy = some b
  patch : m.flashPatch = none
  fuses : m.fuses = l.fuses
  flash : m.flash = l.flash
  master : m.master = none

theorem Life.restart_booted {l : Life} (hb : l.bootCopy = some b) (hf : l.flash.mcode = []) : BootedLife l l.restart b := by
  have hpatch : l.flashPatch = none := by simp [Life.flashPatch, hf]
  refine ⟨hb, hpatch, rfl, rfl, ?_⟩
  rw [Life.restart, hpatch]
  rfl

theorem BootedLife.version {l m : Life} (h : BootedLife l m b) : m.masterVersion = mcverRom := by rw [Life.masterVersion, h.master]

/-- The units after rows 3 to 9 of R492: every core present and not released, the control area and the journal as they were, the rest at its reset values, and the Pool wiped. -/
structure UnitsUp (s v : State) (b : BootCopy) : Prop where
  cores : v.cores = coresFor [] mcverRom (rsthFor (some b))
  life : BootedLife s.life v.life b
  units : v.css = .reset ∧ v.cz = .reset ∧ v.cx = { Cx.reset with stagingKey := v.cx.stagingKey } ∧ v.slices = .reset ∧ v.eth = { Eth.reset with sent := s.eth.sent }
  lcp : v.ct.lcp = lcpFor []
  control : v.ct.copyA = s.ct.copyA ∧ v.ct.copyB = s.ct.copyB ∧ v.ct.recs = s.ct.recs
  start : v.pool.start = true
  ways : ∀ w ∈ v.pool.ways, bitAt w.dis 15 = false

/-- The units out of use after a reset (R420). -/
def State.outUnits (s : State) (cold : Bool) (r : StartTest) : List Nat := (if cold then [] else s.ct.spent) ++ r.cores ++ r.cps.map spentCp

theorem resetUnits_cores (s : State) (cold : Bool) (r : StartTest) :
    (s.resetUnits cold r).cores = coresFor (s.outUnits cold r) s.life.restart.masterVersion (rsthFor s.life.restart.bootCopy) := rfl

theorem resetUnits_lcp (s : State) (cold : Bool) (r : StartTest) : (s.resetUnits cold r).ct.lcp = lcpFor (s.outUnits cold r) := rfl

theorem outUnits_none (hs : (if cold then [] else s.ct.spent) = []) (hr : Sound r) : s.outUnits cold r = [] := by
  obtain ⟨hcores, hcps, -, -⟩ := hr
  rw [State.outUnits, hs, hcores, hcps]
  rfl

/-- The ways that a reset finds good keep way 15 (R263). -/
theorem waysFor_window (hw : cold = true ∨ ∀ w ∈ s.pool.ways, bitAt w.dis 15 = false) : ∀ w ∈ s.waysFor cold, bitAt w.dis 15 = false := by
  cases cold with
  | true =>
    intro w hmem
    rw [List.eq_of_mem_replicate hmem]
    rfl
  | false =>
    rintro _ hmem
    obtain ⟨w, hin, rfl⟩ := List.mem_map.mp hmem
    exact (hw.resolve_left (by decide)) w hin

/-- The units set and the Pool wiped, where no unit is out of use or fails its test and no way 15 is disabled. -/
theorem unitsUp (hb : s.life.bootCopy = some b) (hf : s.life.flash.mcode = []) (hs : (if cold then [] else s.ct.spent) = []) (hr : Sound r)
    (hw : cold = true ∨ ∀ w ∈ s.pool.ways, bitAt w.dis 15 = false) :
    let v := (s.resetUnits cold r).wipePool cold r.ways
    UnitsUp s v b ∧ v.weir = (if cold then .reset else { Weir.reset with outOfUse := s.weir.outOfUse }) ∧ v.plant = s.plant ∧ v.mem = s.mem ∧ v.mc = s.mc := by
  have hlife := Life.restart_booted hb hf
  have hcores := resetUnits_cores s cold r
  have hlcp := resetUnits_lcp s cold r
  rw [outUnits_none hs hr, hlife.version, hlife.boot] at hcores
  rw [outUnits_none hs hr] at hlcp
  obtain ⟨l, f, hv⟩ := wipePool_good (s.resetUnits cold r) cold
  rw [hr.2.2.1, hv]
  exact ⟨⟨hcores, hlife, ⟨rfl, rfl, rfl, rfl, rfl⟩, hlcp, ⟨rfl, rfl, rfl⟩, rfl, waysFor_window (s := s.resetUnits cold r) hw⟩, rfl, rfl, rfl, rfl⟩

theorem passingCores_all {n : Nat} (hn : n < 48) : (passingCores [])[n]? = some n := by
  have hall : passingCores [] = List.range 52 := by decide
  rw [hall, List.getElem?_range (by omega)]

theorem lcpFor_all : ∀ n, n < 32 → (lcpFor []).getD n none ≠ none := by decide

theorem UnitsUp.core (h : UnitsUp s v b) {n : Nat} (hn : n < 48) : v.core n = startCore mcverRom (rsthFor (some b)) n n := by
  rw [core_of_coresFor h.cores hn, passingCores_all hn]
  rfl

/-- A good control area that tells of no pair is taken from copy A, the newer (R428). -/
theorem chooseControl_copyA (ha : s.ct.copyA.valid = true) (hb : s.ct.copyB.valid = true) (hf : follows s.ct.copyB.cseq s.ct.copyA.cseq = false) :
    s.chooseControl = (s.ct.copyA, s.modCt fun c => { c with useB := false }) := by
  simp [State.chooseControl, ha, hb, hf]

/-- The start-up from the units to the handover changes the continuity unit alone: nothing is missing and nothing is replayed. -/
theorem UnitsUp.replays (h : UnitsUp s v b) (hboots : Boots s b) (spoilt : List Word32) :
    ∃ c, v.reportMissing.reportFlash.replayAll spoilt = v.modCt (fun _ => c) ∧ TakenFrom s.ct.copyA c := by
  obtain ⟨-, -, -, ⟨ha, hb, hf, hp⟩, hrecs⟩ := hboots
  obtain ⟨hcopyA, hcopyB, hvrecs⟩ := h.control
  have hmissing : v.reportMissing = v :=
    reportMissing_none (fun n hn => by rw [h.core hn]; exact fun e => by cases e) (fun n hn => by rw [h.lcp]; exact lcpFor_all n hn)
  have hchoice := chooseControl_copyA (s := v) (by rw [hcopyA, ha]) (by rw [hcopyB, hb]) (by rw [hcopyA, hcopyB, hf])
  obtain ⟨c, he, htaken⟩ := replayAll_solo spoilt hchoice (by rw [hcopyA, hp]) (hvrecs.trans hrecs)
  rw [hmissing, reportFlash_none h.life.patch h.life.boot]
  exact ⟨c, he, hcopyA ▸ htaken⟩

/-- The handover once main memory is up. -/
theorem UnitsUp.handedOver {c : Ct} (h : UnitsUp s v b) (hc : TakenFrom s.ct.copyA c) (hp : s.ct.copyA.pstate = .solo) (hr : v.mc.ready = true)
    (hm : v.mem.wf = true) :
    let t := (v.modCt fun _ => c).handOver
    HandedOver s t b ∧ t.weir = v.weir ∧ t.plant = v.plant ∧ t.mem = bootMemory v.mem b.payload := by
  have he := handOver_boots (s := v.modCt fun _ => c) (b := b) hr h.start h.ways h.life.boot
  intro t
  have ht : t = ((v.modCt fun _ => c).modPool fun p => { p with lock := true, locked := true, lockFail := false }).release b := he
  have hcore : ∀ n, t.core n = (v.core n).released := core_of_map (by rw [ht]; rfl)
  have hmem : t.mem = bootMemory v.mem b.payload := by rw [ht]; rfl
  refine ⟨⟨fun n hn => ?_, ?_, ?_, ?_, ?_, fun a ha => ?_, fun i hi => ?_⟩, ?_, ?_, hmem⟩
  · rw [hcore, h.core hn]
    rfl
  · rw [ht]
    rfl
  · rw [ht]
    exact h.units
  · rw [ht]
    exact ⟨h.life.fuses, h.life.flash, h.life.master⟩
  · rw [ht]
    exact ⟨hc.role, hc.pstate.trans hp, hc.fgen, hc.pairId⟩
  · rw [hmem, bootMemory_tree hm ha]
  · rw [hmem, bootMemory_payload hm hi]
  · rw [ht]
    rfl
  · rw [ht]
    rfl

/-- What a start-up meets and leaves rests on the life cycle, the continuity unit and the frames sent. -/
theorem Boots.of_same {x : State} (h : Boots s b) (hl : x.life = s.life) (hc : x.ct = s.ct) : Boots x b := by
  obtain ⟨hcopy, hchange, hflash, hcontrol, hempty⟩ := h
  exact ⟨by rw [hl]; exact hcopy, by rw [hl]; exact hchange, by rw [hl]; exact hflash, by rw [hc]; exact hcontrol, by rw [hc]; exact hempty⟩

theorem HandedOver.of_same {x t : State} (h : HandedOver x t b) (hl : x.life = s.life) (hc : x.ct = s.ct) (he : x.eth = s.eth) : HandedOver s t b := by
  obtain ⟨hcores, hwindow, hunits, hlife, hpair, htree, hpayload⟩ := h
  rw [hl] at hlife
  rw [hc] at hpair
  rw [he] at hunits
  exact ⟨hcores, hwindow, hunits, hlife, hpair, htree, hpayload⟩

end

/-! The cold reset (R270, R271, R286, R492). -/

section
variable {s v : State} {b : BootCopy} {r : StartTest}

theorem majority_same (d : BitVec 2 × BitVec 2) : majority (List.replicate 20 d) = d := by
  unfold majority
  refine List.foldlRecOn (motive := fun m => m = d) _ _ rfl fun m hm x hx => ?_
  rw [hm, List.eq_of_mem_replicate hx, if_neg (Nat.lt_irrefl _)]

theorem startCause_none (hp : Populated r) {n : Nat} (hn : n < 20) : startCause r n = none := by
  obtain ⟨d, hd, hdimms, htraining, -⟩ := hp
  have hget : r.dimms.getD n (0, 0) = d := by rw [hdimms, List.getD_replicate _ hn]
  have hmajority : majority r.dimms = d := by rw [hdimms, majority_same]
  rw [startCause, hget, hmajority, htraining]
  simpa using hd

theorem trained_channel (s : State) (r : StartTest) {n : Nat} (hn : n < 20) : ({ s with mc := .trained r } : State).channelFailed n = false := by
  simp [State.channelFailed, MemCtl.trained, hn]

theorem trained_group (s : State) (r : StartTest) {g : Nat} (hg : g < 4) : ({ s with mc := .trained r } : State).failedIn g = 0 := by
  rw [State.failedIn, List.length_eq_zero_iff, List.filter_eq_nil_iff]
  intro b hb
  rw [trained_channel s r (by have := List.mem_range.mp hb; rw [channelOf]; omega)]
  decide

/-- Every channel is good at training, and so is every group (R271). -/
theorem train_good (hp : Populated r) (s : State) : s.train r = { s with mc := .trained r } := by
  rw [State.train_eq]
  refine List.foldlRecOn (motive := fun u => u = { s with mc := .trained r }) _ _ ?_ fun u hu g hg => ?_
  · refine List.foldlRecOn (motive := fun u => u = { s with mc := .trained r }) _ _ rfl fun u hu n hn => ?_
    rw [hu, State.trainChannel, startCause_none hp (List.mem_range.mp hn)]
  · rw [hu, State.trainGroup, trained_group s r (List.mem_range.mp hg), if_neg (by decide)]

/-- Units of 16 bytes that each core zeroes, in beats of 57,600 (R286, log 61). -/
def zeroBeats (r : StartTest) : Nat := ((MemCtl.trained r).capG.toNat * 2 ^ 30 / 16 + 57599) / 57600

theorem coldBeats_bounds (v : Word) :
    let x : Word := BitVec.ofNat 64 (1001 + zeroBeats r + v.toNat % 501676)
    1001 + zeroBeats r ≤ x.toNat ∧ x.toNat < 1001 + zeroBeats r + 501676 := by
  have hcap := (MemCtl.trained r).capG.isLt
  have hv := Nat.mod_lt v.toNat (show 0 < 501676 by omega)
  have hz : zeroBeats r < 2 ^ 32 := by
    unfold zeroBeats
    omega
  intro x
  rw [BitVec.toNat_ofNat, Nat.mod_eq_of_lt (by omega)]
  omega

/-- The state in which a cold reset sets the units, that hands over at beat x (R487, R492). -/
def State.coldUnits (s : State) (r : StartTest) (x : Word) : State := { s with mc := .trained r, free := s.free + 1, plant := s.plant.restart x, mem := [] }

theorem coldStart_eq (hc : s.life.change = none) (hz : r.zeroed = true) :
    ∃ v : Word, s.coldStart r =
      ((s.coldUnits r (BitVec.ofNat 64 (1001 + zeroBeats r + v.toNat % 501676))).resetUnits true r).wipePool true r.ways := by
  refine ⟨s.takeFree.1, ?_⟩
  rw [State.coldStart, cutChange_none hc, hz]
  rfl

theorem UnitsUp.withMc (h : UnitsUp s v b) (m : MemCtl) : UnitsUp s { v with mc := m } b := ⟨h.cores, h.life, h.units, h.lcp, h.control, h.start, h.ways⟩

/-- A cold reset that finds everything good comes to its handover (R492). -/
theorem coldReset_boots (hboots : Boots s b) (hr : Sound r) (hp : Populated r) :
    let t := s.coldReset r
    HandedOver s t b ∧ t.weir = .reset ∧ t.plant.power = .on ∧ t.plant.todValid = false ∧ 1001 + zeroBeats r ≤ t.beatc.toNat ∧
      t.beatc.toNat < 1001 + zeroBeats r + 501676 ∧
      ∀ a, 0x2000 ≤ a → (a < 0x1000000 ∨ 0x1000000 + b.payload.length ≤ a) → t.mem.read a = 0 := by
  have hzeroed : r.zeroed = true := by
    obtain ⟨d, -, -, -, hz⟩ := hp
    exact hz
  obtain ⟨z, hstart⟩ := coldStart_eq hboots.change hzeroed
  obtain ⟨hlow, hhigh⟩ := coldBeats_bounds (r := r) z
  generalize hx : (BitVec.ofNat 64 (1001 + zeroBeats r + z.toNat % 501676) : Word) = x at hstart hlow hhigh
  have hunits : Boots (s.coldUnits r x) b := hboots.of_same rfl rfl
  obtain ⟨hup, hweir, hplant, hmem, hmc⟩ := unitsUp (s := s.coldUnits r x) (cold := true) hunits.copy hunits.flash rfl hr (.inl rfl)
  rw [← hstart] at hup hweir hplant hmem hmc
  have htrain : (s.coldStart r).train r = s.coldStart r := by
    rw [train_good hp]
    exact congrArg (fun m => { s.coldStart r with mc := m }) hmc.symm
  obtain ⟨c, hc, htaken⟩ := hup.replays hunits r.spoilt
  have hcoldUp : s.coldUp r = (s.coldStart r).modCt (fun _ => c) := by rw [State.coldUp, htrain, hc]
  have hready : (s.coldUp r).memoryUp = ({ s.coldStart r with mc := { (s.coldStart r).mc with zeroing := false, ready := true } } : State).modCt (fun _ => c) := by
    rw [hcoldUp]
    exact memoryUp_zeroed (congrArg MemCtl.zeroing hmc)
  have hwf : (s.coldStart r).mem.wf = true := congrArg Mem.wf hmem
  obtain ⟨hover, tweir, tplant, tmem⟩ := (hup.withMc { (s.coldStart r).mc with zeroing := false, ready := true }).handedOver htaken hunits.control.2.2.2 rfl hwf
  rw [State.coldReset_eq, hzeroed, if_pos rfl, hready]
  intro t
  have tempty : t.mem = bootMemory [] b.payload := tmem.trans (congrArg (bootMemory · b.payload) hmem)
  have tnew : t.plant = s.plant.restart x := tplant.trans hplant
  have tbeat : t.beatc = x := congrArg Plant.beatc tnew
  refine ⟨hover.of_same rfl rfl rfl, tweir.trans hweir, congrArg Plant.power tnew, congrArg Plant.todValid tnew, tbeat ▸ hlow, tbeat ▸ hhigh, fun a hlo ha => ?_⟩
  rw [tempty, bootMemory_other rfl hlo ha]
  exact ite_self _

end

/-! The warm reset (R285, R495). -/

section
variable {s v : State} {b : BootCopy} {r : StartTest}

/-- Lines written back leave all but the memory controllers' lists and the Pool's old copies (R285). -/
theorem writeBacks_eq (es : List DirEntry) (s : State) :
    ∃ pc ws d, es.foldl (fun s e => s.writeBack e.line) s = { s with mc := { s.mc with poisonCode := pc, writes := ws }, pool := { s.pool with dramOld := d } } := by
  induction es generalizing s with
  | nil => exact ⟨s.mc.poisonCode, s.mc.writes, s.pool.dramOld, rfl⟩
  | cons e es ih =>
    have hone : ∃ pc ws d, s.writeBack e.line = { s with mc := { s.mc with poisonCode := pc, writes := ws }, pool := { s.pool with dramOld := d } } := by
      unfold State.writeBack
      split
      · exact ⟨s.mc.poisonCode, s.mc.writes, s.pool.dramOld, rfl⟩
      · dsimp only
        split
        · exact ⟨_, _, _, rfl⟩
        · exact ⟨s.mc.poisonCode, s.mc.writes, s.pool.dramOld, rfl⟩
    obtain ⟨pc, ws, d, h⟩ := hone
    obtain ⟨pc', ws', d', h'⟩ := ih (s.writeBack e.line)
    exact ⟨pc', ws', d', by rw [List.foldl_cons, h', h]⟩

/-- The plant controller after a warm reset of n beats (R495). -/
def Plant.warm (p : Plant) (n : Nat) : Plant :=
  { (p.skip n).restart (p.skip n).beatc with todBase := (p.skip n).todBase, todValid := (p.skip n).todValid, slew := (p.skip n).slew }

/-- What the state in which a warm reset sets the units has of the one before it (R285, R495). -/
structure WarmUnits (s x : State) (n : Nat) : Prop where
  plant : x.plant = s.plant.warm n
  mem : x.mem = s.mem.filter (fun c => decide (c.1 < windowBase))
  ready : x.mc.ready = s.mc.ready
  ways : x.pool.ways = s.pool.ways
  weir : x.weir = s.weir
  ct : x.ct = s.ct
  life : x.life = s.life
  eth : x.eth = s.eth

/-- The state in which a warm reset of n beats sets the units. -/
def State.warmUnits (s : State) (n : Nat) : State :=
  let u := (s.takeFree.2.pool.dir.filter (fun e => s.takeFree.2.isDram (e.line * 256))).foldl (fun s e => s.writeBack e.line) s.takeFree.2
  { u with plant := s.plant.warm n, mem := u.mem.filter (fun c => decide (c.1 < windowBase)), mc := u.mc.restart }

theorem warmUnits_units (s : State) (n : Nat) : WarmUnits s (s.warmUnits n) n := by
  obtain ⟨pc, ws, d, hback⟩ := writeBacks_eq (s.takeFree.2.pool.dir.filter (fun e => s.takeFree.2.isDram (e.line * 256))) s.takeFree.2
  rw [State.warmUnits, hback]
  constructor <;> rfl

theorem warmReset_eq (s : State) (r : StartTest) (hc : s.life.change = none) :
    ∃ n, 151000 ≤ n ∧ n < 152701 ∧
      s.warmReset r = ((((s.warmUnits n).resetUnits false r).wipePool false r.ways).reportMissing.reportFlash.replayAll r.spoilt).handOver := by
  have hn := Nat.mod_lt s.takeFree.1.toNat (show 0 < 1701 by omega)
  refine ⟨151000 + s.takeFree.1.toNat % 1701, by omega, by omega, ?_⟩
  rw [State.warmReset, cutChange_none hc]
  rfl

/-- A warm reset that finds everything good comes to its handover (R495). -/
theorem warmReset_boots (hboots : Boots s b) (hr : Sound r) (hwf : s.mem.wf = true) (hready : s.mc.ready = true) (hspent : s.ct.spent = [])
    (hways : ∀ w ∈ s.pool.ways, bitAt w.dis 15 = false) :
    let t := s.warmReset r
    HandedOver s t b ∧ t.weir = { Weir.reset with outOfUse := s.weir.outOfUse } ∧
      ∃ n, 151000 ≤ n ∧ n < 152701 ∧ t.beatc = s.beatc + BitVec.ofNat 64 n ∧ t.plant.todValid = s.plant.todValid ∧ t.plant.slew = s.plant.slew ∧
        ∀ a, 0x70000 ≤ a → a < windowBase → (a < 0x1000000 ∨ 0x1000000 + b.payload.length ≤ a) → t.mem.read a = s.mem.read a := by
  obtain ⟨n, hlow, hhigh, hwarm⟩ := warmReset_eq s r hboots.change
  obtain ⟨xplant, xmem, xready, xways, xweir, xct, xlife, xeth⟩ := warmUnits_units s n
  generalize s.warmUnits n = x at hwarm xplant xmem xready xways xweir xct xlife xeth
  have hunits : Boots x b := hboots.of_same xlife xct
  obtain ⟨hup, hweir, hplant, hmem, hmc⟩ := unitsUp (s := x) (cold := false) hunits.copy hunits.flash (by rw [xct]; exact hspent) hr (.inr (by rw [xways]; exact hways))
  generalize (x.resetUnits false r).wipePool false r.ways = v at hwarm hup hweir hplant hmem hmc
  obtain ⟨c, hc, htaken⟩ := hup.replays hunits r.spoilt
  have vwf : v.mem.wf = true := by
    rw [hmem, xmem]
    exact Mem.filter_wf hwf _
  obtain ⟨hover, tweir, tplant, tmem⟩ := hup.handedOver htaken hunits.control.2.2.2 (by rw [hmc, xready, hready]) vwf
  rw [hc] at hwarm
  rw [← hwarm] at hover tweir tplant tmem
  intro t
  have tnew : t.plant = s.plant.warm n := tplant.trans (hplant.trans xplant)
  refine ⟨hover.of_same xlife xct xeth, tweir.trans (hweir.trans ?_), n, hlow, hhigh, congrArg Plant.beatc tnew, by rw [tnew]; rfl, by rw [tnew]; rfl,
    fun a hlo hwin ha => ?_⟩
  · rw [xweir]
    rfl
  · have hboot : inBootArea a = false := by simp [inBootArea]; omega
    rw [show t.mem = bootMemory v.mem b.payload from tmem, bootMemory_other vwf (by omega) ha, hmem, xmem, Mem.read_filter (fun a => decide (a < windowBase)) s.mem a]
    simp [hboot, hwin]

end

/-! The causes of a reset (R486, R514). -/

section
variable {s : State} {b : BootCopy} {r : StartTest}

theorem execColdReset_board (h : s.plant.power = .on) : exec (.coldReset .boardInput r) s = .next (s.coldReset r) := by
  rw [exec_coldReset, execColdReset]
  exact boardReset_powered h

theorem execWarmReset_board (h : s.plant.power = .on) : exec (.warmReset .boardInput r) s = .next (s.warmReset r) := by
  rw [exec_warmReset, execWarmReset]
  exact boardReset_powered h

theorem execReset_unpowered (h : s.plant.power ≠ .on) : exec (.coldReset .boardInput r) s = .next s ∧ exec (.warmReset .boardInput r) s = .next s := by
  rw [exec_coldReset, execColdReset, exec_warmReset, execWarmReset]
  exact ⟨boardReset_unpowered h, boardReset_unpowered h⟩

theorem execColdReset_command {x : Word} (hsafe : s.weir.safe = false) (hdue : s.life.resetDue = some (.cold x)) (hb : 1 ≤ s.since x) :
    exec (.coldReset .command r) s = .next (s.coldReset r) := by
  rw [exec_coldReset, execColdReset]
  exact if_pos (by simp [State.resetBegins, hsafe, hdue, hb])

theorem execWarmReset_command {x : Word} (hsafe : s.weir.safe = false) (hdue : s.life.resetDue = some (.warm x)) (hb : 1 ≤ s.since x) :
    exec (.warmReset .command r) s = .next (s.warmReset r) := by
  rw [exec_warmReset, execWarmReset]
  exact if_pos (by simp [State.resetBegins, hsafe, hdue, hb])

theorem execColdReset_sequence (hp : s.plant.power = .sequencing) (hb : 5000 ≤ s.since s.plant.seqAt) :
    exec (.coldReset .powerSequence r) s = .next (s.sequenceDone.coldReset r) := by
  rw [exec_coldReset, execColdReset]
  exact if_pos ⟨hp, hb⟩

end

theorem resetsHandOver : Claim.Resets := by
  refine ⟨fun s r hon => ⟨_, execColdReset_board hon, coldReset_general s r⟩, fun s hon r => execReset_unpowered hon,
    fun s b r hboots hr => ⟨fun hp => ?_, fun hwf hready hspent hways => ?_⟩⟩
  · have hcold := coldReset_boots hboots hr hp
    refine ⟨fun hon => ⟨_, execColdReset_board hon, hcold⟩, fun x hsafe hdue hb => ⟨_, execColdReset_command hsafe hdue hb, hcold⟩, fun hseq hb => ?_⟩
    obtain ⟨hover, hrest⟩ := coldReset_boots (s := s.sequenceDone) (hboots.of_same rfl rfl) hr hp
    exact ⟨_, execColdReset_sequence hseq hb, hover.of_same rfl rfl rfl, hrest⟩
  · obtain ⟨hover, hweir, n, hlow, hhigh, hrest⟩ := warmReset_boots hboots hr hwf hready hspent hways
    exact ⟨fun hon => ⟨_, n, execWarmReset_board hon, hover, hweir, hlow, hhigh, hrest⟩,
      fun x hsafe hdue hb => ⟨_, n, execWarmReset_command hsafe hdue hb, hover, hweir, hlow, hhigh, hrest⟩⟩

end Sys2Proof.Machine
end

section
/-! SUPPORT. The reset of one core (R189, R256, R496, R509), which settles the rest of O55. -/

namespace Sys2Proof.Machine

section
variable {s t u : State} {n p line : Nat} {tgt : Byte} {bad : List Nat}

/-! The command: refused, or the core stops. -/

/-- A core that the start of its reset has stopped (R496 step 1). -/
def Core.halted (c : Core) : Core :=
  { c with hold := none, inval := none, run := .paused, stalled := none, due := [], ioWait := none, devRead := none }

/-- The state in which the reset of core n has begun (R496 step 1). -/
def State.resetBegun (s : State) (tgt : Byte) : State :=
  { s with
    cores := modAt s.cores tgt.toNat Core.halted, pool := s.pool.dropInval tgt.toNat, ct := { s.ct with rstTgt := tgt, rstResult := 0 },
    life := { s.life with coreResets := s.life.coreResets ++ [{ lcn := tgt.toNat, beat := s.beatc }] } }

theorem startCoreReset_refused (issuer : Nat) (h : 48 ≤ tgt.toNat ∨ (s.core tgt.toNat).run = .absent ∨ tgt.toNat = issuer) :
    s.startCoreReset issuer tgt = s.rstAnswer tgt 2 := if_pos h

theorem resetting_none (h : s.life.coreResets = []) : s.resetting n = false := by simp [State.resetting, h]

/-- The start of a core reset changes its core once. -/
theorem modCore_halted (s : State) (n : Nat) :
    modAt (modAt (modAt s.cores n fun c => { c with hold := none }) n fun c => { c with inval := none }) n
      (fun c => { c with run := .paused, stalled := none, due := [], ioWait := none, devRead := none }) = modAt s.cores n Core.halted := by
  simp only [modAt, List.modify_modify_eq]
  rfl

theorem startCoreReset_begun {issuer : Nat} (hn : tgt.toNat < 48) (hrun : (s.core tgt.toNat).run ≠ .absent) (hi : tgt.toNat ≠ issuer)
    (hnone : s.life.coreResets = []) : s.startCoreReset issuer tgt = s.resetBegun tgt := by
  rw [State.resetBegun, ← modCore_halted, State.startCoreReset]
  dsimp only
  rw [if_neg (by simp [hrun, hi]; omega), resetting_none hnone, if_neg Bool.false_ne_true]
  rfl

/-! The L2 of the core can be drained as before. -/

theorem any_modify_le {α : Type} {g : α → Bool} {f : α → α} (h : ∀ x, g (f x) = true → g x = true) :
    ∀ (xs : List α) (i : Nat), (xs.modify i f).any g = true → xs.any g = true
  | [], _, hx => by simp at hx
  | x :: xs, 0, hx => by
    simp only [List.modify_zero_cons, List.any_cons, Bool.or_eq_true] at hx ⊢
    exact hx.imp_left (h x)
  | x :: xs, i + 1, hx => by
    simp only [List.modify_succ_cons, List.any_cons, Bool.or_eq_true] at hx ⊢
    exact hx.imp_right (any_modify_le h xs i)

/-- A message under way once an invalidation has been given up was under way before. -/
theorem Pool.dropInval_flights (q : Pool) (n : Nat) {g : Flight → Bool} (hg : ∀ f, g f = true → f.dests ≠ []) (h : (q.dropInval n).flights.any g = true) :
    q.flights.any g = true := by
  obtain ⟨f, hf, hgf⟩ := List.any_eq_true.mp h
  obtain ⟨f₀, hf₀, rfl⟩ := List.mem_map.mp (List.mem_filter.mp hf).1
  by_cases hof : f₀.body.ofInval n = true
  · rw [if_pos hof] at hgf
    exact absurd rfl (hg _ hgf)
  · rw [if_neg hof] at hgf
    exact List.any_eq_true.mpr ⟨f₀, hf₀, hgf⟩

theorem resetBegun_lineBusy (h : (s.resetBegun tgt).lineBusy line = true) : s.lineBusy line = true := by
  simp only [State.lineBusy, Bool.or_eq_true] at h ⊢
  refine h.imp (.imp id fun hc => ?_) fun hf => ?_
  · exact any_modify_le (f := Core.halted) (by simp [Core.halted]) s.cores _ hc
  · exact s.pool.dropInval_flights _ (by simp +contextual) hf

theorem resetBegun_drainable (h : s.drainable p = true) : (s.resetBegun tgt).drainable p = true := by
  simp only [State.drainable, Bool.and_eq_true, Bool.not_eq_true'] at h ⊢
  obtain ⟨⟨hlines, hflights⟩, hevict⟩ := h
  refine ⟨⟨Bool.eq_false_iff.mpr fun hb => ?_, Bool.eq_false_iff.mpr fun hf => ?_⟩, hevict⟩
  · obtain ⟨l, hl, hbusy⟩ := List.any_eq_true.mp hb
    exact Bool.eq_false_iff.mp hlines (List.any_eq_true.mpr ⟨l, hl, resetBegun_lineBusy hbusy⟩)
  · refine Bool.eq_false_iff.mp hflights (s.pool.dropInval_flights _ (fun f hg => ?_) hf)
    rintro hnil
    simp [hnil] at hg

theorem resetBegun_core (hrun : (s.core tgt.toNat).run ≠ .absent) : (s.resetBegun tgt).core tgt.toNat = (s.core tgt.toNat).halted :=
  s.modCore_core _ Core.halted (State.core_lt hrun)

theorem resetBegun_ready (hrun : (s.core tgt.toNat).run ≠ .absent) (hs : (s.core tgt.toNat).sparing = false)
    (hd : s.drainable (s.core tgt.toNat).pcn = true) (hdev : (s.core tgt.toNat).devStore = none) :
    (s.resetBegun tgt).coreResetReady tgt.toNat = true := by
  have hresetting : (s.resetBegun tgt).resetting tgt.toNat = true := by simp [State.resetting, State.resetBegun]
  have hdrain := resetBegun_drainable (tgt := tgt) hd
  simp [State.coreResetReady, resetBegun_core hrun, Core.halted, hresetting, hs, hdrain, hdev]

/-! The drain of the L2, and the core with nothing left of its stores. -/

/-- What the drain of an L2 leaves as it is. -/
structure DrainKeeps (s t : State) : Prop where
  mem : t.mem = s.mem
  ct : t.ct = s.ct
  life : t.life = s.life
  plant : t.plant = s.plant
  length : t.cores.length = s.cores.length

theorem DrainKeeps.trans (a : DrainKeeps s t) (b : DrainKeeps t u) : DrainKeeps s u :=
  ⟨b.mem.trans a.mem, b.ct.trans a.ct, b.life.trans a.life, b.plant.trans a.plant, b.length.trans a.length⟩

theorem evictCopy_keeps (s : State) (agent line : Nat) : DrainKeeps s (s.evictCopy agent line) ∧ (s.evictCopy agent line).weir = s.weir := by
  unfold State.evictCopy State.dropCopy State.loseResvs
  dsimp only
  split <;> exact ⟨⟨rfl, rfl, rfl, rfl, by simp [State.modDir, State.modPool]⟩, rfl⟩

theorem poisonCopy_keeps (s : State) (line : Nat) : DrainKeeps s (s.poisonCopy line) :=
  ⟨rfl, rfl, rfl, rfl, rfl⟩

theorem drainCopy_keeps (s : State) (agent : Nat) (bad : List Nat) (line : Nat) : DrainKeeps s (s.drainCopy agent bad line) := by
  unfold State.drainCopy
  dsimp only
  split
  · exact (evictCopy_keeps s agent line).1.trans (poisonCopy_keeps _ _)
  · exact (evictCopy_keeps s agent line).1

/-- A line whose data can be read is drained without a report. -/
theorem drainCopy_weir (s : State) (agent line : Nat) : (s.drainCopy agent [] line).weir = s.weir := by
  simp [State.drainCopy, (evictCopy_keeps s agent line).2]

theorem drainL2_keeps (s : State) (p : Nat) (bad : List Nat) : DrainKeeps s (s.drainL2 p bad) :=
  List.foldlRecOn (motive := DrainKeeps s) _ _ ⟨rfl, rfl, rfl, rfl, rfl⟩ fun _ ht l _ => ht.trans (drainCopy_keeps _ p bad l)

theorem drainL2_weir (s : State) (p : Nat) : (s.drainL2 p []).weir = s.weir :=
  List.foldlRecOn (motive := fun t => t.weir = s.weir) _ _ rfl fun t ht l _ => (drainCopy_weir t p l).trans ht

/-- A core under reset whose L2 is drained and whose stores are given up (R189, R256); its reset is no longer in progress. -/
def State.emptied (s : State) (n : Nat) (bad : List Nat) : State :=
  ((s.drainL2 (s.core n).pcn bad).modLife fun l => { l with coreResets := l.coreResets.filter (fun r => r.lcn != n) }).modCore n
    fun c => { c with sb := [], devStore := none, dsl := none }

theorem endCoreReset_passed : s.endCoreReset n true bad = (s.emptied n bad).resetCore n (s.core n).pcn := rfl

theorem endCoreReset_spared {i : Nat} (h : (s.emptied n bad).readySlot = some i) :
    s.endCoreReset n false bad = (((s.emptied n bad).spend (s.core n).pcn).resetCore n ((s.emptied n bad).slot i).phys).modSlot i fun x => { x with st := .empty } := by
  rw [State.endCoreReset, if_neg Bool.false_ne_true]
  change (match (s.emptied n bad).readySlot with | some _ => _ | none => _) = _
  rw [h]
  rfl

theorem endCoreReset_lost (h : (s.emptied n bad).readySlot = none) : s.endCoreReset n false bad = (s.emptied n bad).loseCore n := by
  rw [State.endCoreReset, if_neg Bool.false_ne_true]
  change (match (s.emptied n bad).readySlot with | some _ => _ | none => _) = _
  rw [h]
  rfl

/-- The state in which a core whose reset has just begun waits for its self-test. -/
structure Awaiting (s t : State) (tgt : Byte) : Prop where
  mem : t.mem = s.mem
  ct : t.ct = { s.ct with rstTgt := tgt, rstResult := 0 }
  resets : t.life.coreResets = []
  master : t.life.master = s.life.master
  plant : t.plant = s.plant
  length : t.cores.length = s.cores.length

theorem emptied_awaiting (h : s.life.coreResets = []) : Awaiting s ((s.resetBegun tgt).emptied tgt.toNat bad) tgt := by
  have k := drainL2_keeps (s.resetBegun tgt) ((s.resetBegun tgt).core tgt.toNat).pcn bad
  rw [State.emptied]
  generalize (s.resetBegun tgt).drainL2 _ bad = d at k
  refine ⟨k.mem, k.ct, ?_, (congrArg Life.master k.life :), k.plant, ?_⟩
  · have hd : d.life.coreResets = [{ lcn := tgt.toNat, beat := s.beatc }] := by rw [k.life, State.resetBegun, h]; rfl
    simp [State.modLife, hd]
  · rw [State.modCore_length]
    exact k.length.trans (by simp [State.resetBegun, modAt])

theorem emptied_weir : ((s.resetBegun tgt).emptied n []).weir = s.weir := drainL2_weir (s.resetBegun tgt) _

/-! The core starts again. -/

theorem mclSettle_keeps (s : State) :
    s.mclSettle.cores = s.cores ∧ s.mclSettle.mem = s.mem ∧ s.mclSettle.ct = s.ct ∧ s.mclSettle.weir = s.weir ∧
      s.mclSettle.life.coreResets = s.life.coreResets ∧ s.mclSettle.life.coreStores = s.life.coreStores := by
  unfold State.mclSettle
  split <;> exact ⟨rfl, rfl, rfl, rfl, rfl, rfl⟩

theorem takeMaster_keeps (s : State) (n : Nat) :
    (s.takeMaster n).mem = s.mem ∧ (s.takeMaster n).ct = s.ct ∧ (s.takeMaster n).life.coreResets = s.life.coreResets := by
  obtain ⟨-, hmem, hct, -, hresets, -⟩ := mclSettle_keeps ((s.modCore n fun c => { c with mcver := s.life.masterVersion }).modLife
    fun l => { l.fillCore (s.core n).pcn with toSwitch := l.toSwitch.filter (· != n) })
  exact ⟨hmem, hct, hresets⟩

theorem takeMaster_core (hn : n < s.cores.length) : (s.takeMaster n).core n = { s.core n with mcver := s.life.masterVersion } := by
  rw [← s.modCore_core n (fun c => { c with mcver := s.life.masterVersion }) hn]
  exact congrArg (List.getD · n Core.absent) (mclSettle_keeps _).1

/-- A core whose control store is filled from a master copy without redirect entries runs the sequences of ROM. -/
theorem takeMaster_rom (hm : s.life.masterStore.redir = []) (hn : n < s.cores.length) : RomOnly (s.takeMaster n) n := by
  have hstores : (s.takeMaster n).life.coreStores = modAt s.life.coreStores (s.core n).pcn (fun _ => s.life.masterStore) := (mclSettle_keeps _).2.2.2.2.2
  rw [RomOnly, State.store, hstores, takeMaster_core hn]
  by_cases hp : (s.core n).pcn < s.life.coreStores.length
  · simp [modAt, List.getD, hp, hm]
  · simp [modAt, List.getD, hp]
    rfl

/-- The registers of a core at its restart (R493, R496, R509). -/
def State.freshCore (s : State) (n p : Nat) : Core :=
  Core.reset p s.life.masterVersion (s.ct.rsthWas.getD 0 0) (s.ct.rsthWas.getD 1 0) (s.ct.rsthWas.getD 2 0 + BitVec.ofNat 64 (0x2000 * n))

/-- The registers of core n set for its restart, before it takes the master copy. -/
def State.restarted (s : State) (n p : Nat) : State := s.modCore n fun _ => { s.freshCore n p with mcver := 0 }

theorem resetCore_eq : s.resetCore n p = (((s.restarted n p).takeMaster n).withSequence n 0 some).getD ((s.restarted n p).takeMaster n) := rfl

theorem resetCore_fresh (hn : n < s.cores.length) (hm : s.life.masterStore.redir = []) :
    (s.resetCore n p).core n = s.freshCore n p ∧ (s.resetCore n p).mem = s.mem ∧ (s.resetCore n p).ct = s.ct ∧
      (s.resetCore n p).life.coreResets = s.life.coreResets := by
  have hlen : n < (s.restarted n p).cores.length := by rwa [State.restarted, State.modCore_length]
  have hcore : (s.restarted n p).core n = { s.freshCore n p with mcver := 0 } := s.modCore_core n _ hn
  have hrom : RomOnly ((s.restarted n p).takeMaster n) n := takeMaster_rom hm hlen
  rw [resetCore_eq, State.withSequence_rom hrom, Option.getD_some, takeMaster_core hlen, hcore]
  exact ⟨rfl, takeMaster_keeps _ n⟩

theorem readySlot_lt {i : Nat} (h : s.readySlot = some i) : i < s.ct.slots.length := by
  have hready := List.find?_some h
  by_contra hi
  simp [State.slot, List.getD, hi] at hready

theorem modSlot_slot (s : State) {i : Nat} (f : Slot → Slot) (h : i < s.ct.slots.length) : (s.modSlot i f).slot i = f (s.slot i) := by
  simp [State.modSlot, State.modCt, State.slot, modAt, List.getD, h]

/-! No spare is left: the core is gone. -/

/-- Core n is absent with no invalidation of its own in progress, and Weir has received nothing new. -/
structure Gone (s t : State) (n : Nat) : Prop where
  run : (t.core n).run = .absent
  inval : (t.core n).inval = none
  weir : t.weir = s.weir

theorem retire_next_others (s : State) (m len : Nat) (sup : Bool) (h : n ≠ m) :
    (s.retire m len sup .next).core n = s.core n ∧ (s.retire m len sup .next).weir = s.weir := by
  obtain ⟨u, q, hu⟩ := s.retire_eq m len sup (r := .next) (by simp)
  rw [hu]
  constructor
  · rw [(State.switchDue_frame _ m).2.2 n h, u.modCore_other m n _ h, q.others n h]
  · rcases (u.modCore m fun c => c.retired len sup .next).switchDue_cases m with e | ⟨v, l, e⟩ <;> (rw [e]; exact q.outside.weir)

theorem ackInval_others (s : State) (m k : Nat) (h : n ≠ m) : (s.ackInval m k).core n = s.core n ∧ (s.ackInval m k).weir = s.weir := by
  rw [State.ackInval]
  split
  · exact ⟨rfl, rfl⟩
  · next v _ =>
    extract_lets w
    split
    · rw [State.endInval]
      obtain ⟨hcore, hweir⟩ := retire_next_others (n := n) (s.modCore m fun c => { c.pushes w.kind.operands [] with inval := none }) m 2 (pswS (s.core m).psw) h
      exact ⟨hcore.trans (s.modCore_other m n _ h), hweir⟩
    · exact ⟨s.modCore_other m n _ h, rfl⟩

theorem ackInval_gone (h : Gone s t n) (m : Nat) : Gone s (t.ackInval m n) n := by
  by_cases hm : n = m
  · subst hm
    have hself : t.ackInval n n = t := by rw [State.ackInval, h.inval]
    rwa [hself]
  · obtain ⟨hcore, hweir⟩ := ackInval_others t m n hm
    exact ⟨by rw [hcore, h.run], by rw [hcore, h.inval], hweir.trans h.weir⟩

theorem forgetInvals_gone (hn : n < s.cores.length) (hrun : (s.core n).run = .absent) : Gone s (s.forgetInvals n) n := by
  have hdrop : (s.dropInval n).core n = { s.core n with inval := none } := (s.modPool (·.dropInval n)).modCore_core n _ hn
  exact List.foldlRecOn (motive := fun t => Gone s t n) _ _ ⟨by rw [hdrop, ← hrun], by rw [hdrop], rfl⟩ fun t ht m _ => ackInval_gone ht m

/-- A core that no spare replaces, before the other cores stop waiting for it. -/
def State.unserved (s : State) (n : Nat) : State :=
  ((((s.reportAt 0xA00 .severe 82 0xFF (BitVec.ofNat 8 n) none 0).spend (s.core n).pcn).modCt fun t => { t with kept := assoc t.kept n (s.core n) }).modCore n
    fun c => { c with run := .absent, sparing := false }).mclGone n

theorem loseCore_eq : s.loseCore n = (s.unserved n).forgetInvals n := rfl

theorem unserved_cores : (s.unserved n).cores = (s.modCore n fun c => { c with run := .absent, sparing := false }).cores := (mclSettle_keeps _).1

theorem unserved_weir : (s.unserved n).weir = (s.reportAt 0xA00 .severe 82 0xFF (BitVec.ofNat 8 n) none 0).weir := (mclSettle_keeps _).2.2.2.1

theorem loseCore_gone (hn : n < s.cores.length) : ((s.loseCore n).core n).run = .absent ∧ Reported s (s.loseCore n) 0xA00 .severe 0 := by
  have hcore : (s.unserved n).core n = { s.core n with run := .absent, sparing := false } := by
    rw [← s.modCore_core n (fun c => { c with run := .absent, sparing := false }) hn]
    exact congrArg (List.getD · n Core.absent) unserved_cores
  have hlen : n < (s.unserved n).cores.length := by rwa [unserved_cores, State.modCore_length]
  have hgone := forgetInvals_gone hlen (by rw [hcore])
  rw [loseCore_eq]
  refine ⟨hgone.run, ?_⟩
  rw [Reported, hgone.weir, unserved_weir]
  exact reportAt_reported ..

/-! The command as a whole. -/

theorem execCoreReset_refused {issuer : Nat} {pass : Bool} (hsafe : s.weir.safe = false) (hnone : s.life.coreResets = [])
    (h : 48 ≤ tgt.toNat ∨ (s.core tgt.toNat).run = .absent ∨ tgt.toNat = issuer) :
    exec (.coreReset issuer tgt pass bad) s = .next (s.rstAnswer tgt 2) := by
  have hready : (s.rstAnswer tgt 2).coreResetReady tgt.toNat = false := by
    rw [State.coreResetReady, resetting_none (s := s.rstAnswer tgt 2) hnone]
    rfl
  rw [exec_coreReset, execCoreReset]
  dsimp only
  rw [hsafe, if_neg Bool.false_ne_true, resetting_none hnone, if_neg Bool.false_ne_true, startCoreReset_refused issuer h, hready, if_neg Bool.false_ne_true]

theorem execCoreReset_ends {issuer : Nat} {pass : Bool} (hsafe : s.weir.safe = false) (hnone : s.life.coreResets = []) (hn : tgt.toNat < 48)
    (hrun : (s.core tgt.toNat).run ≠ .absent) (hi : tgt.toNat ≠ issuer) (hready : (s.resetBegun tgt).coreResetReady tgt.toNat = true) :
    exec (.coreReset issuer tgt pass bad) s = .next ((s.resetBegun tgt).endCoreReset tgt.toNat pass bad) := by
  rw [exec_coreReset, execCoreReset]
  dsimp only
  rw [hsafe, if_neg Bool.false_ne_true, resetting_none hnone, if_neg Bool.false_ne_true, startCoreReset_begun hn hrun hi hnone, hready, if_pos rfl]

theorem Awaiting.freshCore (h : Awaiting s t tgt) : t.freshCore n p = s.freshCore n p := by
  rw [State.freshCore, Life.masterVersion, h.ct, h.master]
  rfl

theorem Awaiting.readySlot (h : Awaiting s t tgt) : t.readySlot = s.readySlot := by
  simp only [State.readySlot, State.slot, h.ct]

theorem Awaiting.slot (h : Awaiting s t tgt) (i : Nat) : t.slot i = s.slot i := by
  simp only [State.slot, h.ct]

theorem Awaiting.masterStore (h : Awaiting s t tgt) (hm : s.life.masterStore.redir = []) : t.life.masterStore.redir = [] := by
  rwa [Life.masterStore, h.master]

end

theorem coreReset : Claim.CoreReset := by
  intro s issuer tgt bad hsafe hnone hmaster n c r fresh
  refine ⟨fun pass h => ⟨_, execCoreReset_refused hsafe hnone h, rfl, rfl, rfl⟩, fun hn hrun hi hsparing hdrain hdev => ?_⟩
  have hpcn : ((s.resetBegun tgt).core n).pcn = c.pcn := by rw [resetBegun_core hrun]; rfl
  have hends := fun pass bad => execCoreReset_ends (pass := pass) (bad := bad) hsafe hnone hn hrun hi (resetBegun_ready hrun hsparing hdrain hdev)
  have hlen := State.core_lt hrun
  have hawait := fun bad => emptied_awaiting (tgt := tgt) (bad := bad) hnone
  refine ⟨?_, fun i hslot => ?_, fun hslot => ?_⟩
  · have w := hawait bad
    obtain ⟨hcore, hmem, hct, hresets⟩ := resetCore_fresh (p := c.pcn) (w.length ▸ hlen) (w.masterStore hmaster)
    refine ⟨_, hends true bad, ?_⟩
    rw [endCoreReset_passed, hpcn, hct, hmem, hresets, w.ct]
    exact ⟨hcore.trans w.freshCore, rfl, rfl, w.resets, w.mem⟩
  · have w := hawait bad
    refine ⟨_, hends false bad, ?_⟩
    rw [endCoreReset_spared (w.readySlot.trans hslot), hpcn, w.slot]
    generalize (s.resetBegun tgt).emptied tgt.toNat bad = d at w
    obtain ⟨hcore, hmem, hct, -⟩ := resetCore_fresh (s := d.spend c.pcn) (p := (s.slot i).phys) (w.length ▸ hlen) (w.masterStore hmaster)
    have hslots : ((d.spend c.pcn).resetCore n (s.slot i).phys).ct.slots = s.ct.slots := by
      rw [hct]
      exact (congrArg Ct.slots w.ct :)
    refine ⟨hcore.trans w.freshCore, ?_, ?_, hmem.trans w.mem⟩
    · rw [modSlot_slot _ _ (hslots ▸ readySlot_lt hslot)]
    · exact (congrArg Ct.rstResult hct :).trans (congrArg Ct.rstResult w.ct :)
  · have w := hawait []
    obtain ⟨hrun, hreport⟩ := loseCore_gone (w.length ▸ hlen)
    refine ⟨_, hends false [], ?_⟩
    rw [endCoreReset_lost (w.readySlot.trans hslot)]
    obtain ⟨e, hflight, hsrc, hcls, haddr, hbeat⟩ := hreport
    exact ⟨hrun, e, by rw [hflight, emptied_weir], hsrc, hcls, haddr, hbeat.trans (congrArg Plant.beatc w.plant)⟩

/-- Settles O55: the stages of a reset give the handover, the end of a life-cycle change and the reset of one core. -/
theorem resets : Obligations.Resets := ⟨resetsHandOver, lifeCycleReset, coreReset⟩

end Sys2Proof.Machine
end

section
/-! SUPPORT. Stack and literal instructions (R72 to R76), which settle O4 and O5. -/

namespace Sys2Proof.Machine

/-! Moves of entries (R72, R73). -/

section
variable {k : Insn} {s : State} {bytes : List Byte} {len : Nat} {f : List Word → Word → List Word × Word} {xs ys rest : List Word} {i j : Nat}

/-- An instruction without prefixes that turns the cached entries xs on top of the data stack into ys, with room for them, and leaves PSW alone. -/
theorem stackMove_next (h : Ready s k.lcn) (hp : k.pfx = []) (hc : (s.core k.lcn).ds.cache = xs ++ rest) (hi : xs.length = i) (hj : ys.length = j)
    (hf : ∀ p, f xs p = (ys, p)) (hroom : ys.length + rest.length ≤ 32) :
    stackOp k (op bytes len) i j f s = .next (s.after k len fun c => c.withStack (ys ++ rest)) := by
  subst hi hj
  refine stackOp_next h rfl hp rfl rfl rfl ?_ ?_ ?_
  · simp [hc]
  · simp [hc]; omega
  · simp [hc, hf, Core.replaceTop, Core.withStack]

/-- The same where no more entries come than go: the room is there. -/
theorem stackMove_fits (h : Ready s k.lcn) (hp : k.pfx = []) (hc : (s.core k.lcn).ds.cache = xs ++ rest) (hi : xs.length = i) (hj : ys.length = j)
    (hf : ∀ p, f xs p = (ys, p)) (hle : ys.length ≤ xs.length) :
    stackOp k (op bytes len) i j f s = .next (s.after k len fun c => c.withStack (ys ++ rest)) := by
  have hmax := h.dsMax
  rw [hc, List.length_append] at hmax
  exact stackMove_next h hp hc hi hj hf (by omega)

/-- An instruction without prefixes that pushes a value that does not depend on the state. -/
theorem literal_next {v : Word} (h : Ready s k.lcn) (hp : k.pfx = []) (hroom : (s.core k.lcn).ds.cache.length < 32) :
    stackOp k (op bytes len) 0 1 (fun _ p => ([v], p)) s = .next (s.after k len fun c => c.withStack (v :: c.ds.cache)) := by
  have hmove := stackMove_next (bytes := bytes) (len := len) (f := fun _ p => ([v], p)) (xs := []) (rest := (s.core k.lcn).ds.cache) h hp rfl rfl rfl (fun _ => rfl)
    (by rw [List.length_singleton]; omega)
  exact hmove.trans (congrArg _ (s.after_congr k len rfl))

end

theorem dataStackMoves : Claim.DataStackMoves := by
  intro k s a b c d rest h hp
  refine ⟨?nop, fun hc hr => ?dup, fun hc => ?drop, fun hc => ?swap, fun hc hr => ?overTop, fun hc => ?rot, fun hc => ?nip, fun hc hr => ?tuck,
    fun hc hr => ?dup2, fun hc => ?drop2, fun hc => ?swap2, fun hc hr => ?over2⟩
  case nop =>
    have hmove := stackMove_fits (bytes := [0x00]) (len := 1) (f := fun _ p => ([], p)) (xs := []) (rest := (s.core k.lcn).ds.cache) h hp rfl rfl rfl
      (fun _ => rfl) (Nat.le_refl _)
    exact (exec_nop s k).trans (hmove.trans (congrArg _ (s.after_congr k 1 rfl)))
  case dup => exact (exec_dup s k).trans (stackMove_next (xs := [a]) (ys := [a, a]) h hp hc rfl rfl (fun _ => rfl) (by simp; omega))
  case drop => exact (exec_drop s k).trans (stackMove_fits (xs := [a]) (ys := []) h hp hc rfl rfl (fun _ => rfl) (by simp))
  case swap => exact (exec_swap s k).trans (stackMove_fits (xs := [b, a]) (ys := [a, b]) h hp hc rfl rfl (fun _ => rfl) (by simp))
  case overTop => exact (exec_over s k).trans (stackMove_next (xs := [b, a]) (ys := [a, b, a]) h hp hc rfl rfl (fun _ => rfl) (by simp; omega))
  case rot => exact (exec_rot s k).trans (stackMove_fits (xs := [c, b, a]) (ys := [a, c, b]) h hp hc rfl rfl (fun _ => rfl) (by simp))
  case nip => exact (exec_nip s k).trans (stackMove_fits (xs := [b, a]) (ys := [b]) h hp hc rfl rfl (fun _ => rfl) (by simp))
  case tuck => exact (exec_tuck s k).trans (stackMove_next (xs := [b, a]) (ys := [b, a, b]) h hp hc rfl rfl (fun _ => rfl) (by simp; omega))
  case dup2 => exact (exec_dup2 s k).trans (stackMove_next (xs := [b, a]) (ys := [b, a, b, a]) h hp hc rfl rfl (fun _ => rfl) (by simp; omega))
  case drop2 => exact (exec_drop2 s k).trans (stackMove_fits (xs := [b, a]) (ys := []) h hp hc rfl rfl (fun _ => rfl) (by simp))
  case swap2 => exact (exec_swap2 s k).trans (stackMove_fits (xs := [d, c, b, a]) (ys := [b, a, d, c]) h hp hc rfl rfl (fun _ => rfl) (by simp))
  case over2 => exact (exec_over2 s k).trans (stackMove_next (xs := [d, c, b, a]) (ys := [b, a, d, c, b, a]) h hp hc rfl rfl (fun _ => rfl) (by simp; omega))

theorem literals : Claim.Literals := fun k s h hp hroom =>
  ⟨fun v => (exec_lit8 s k v).trans (literal_next h hp hroom), fun v => (exec_lit16 s k v).trans (literal_next h hp hroom),
    fun v => (exec_lit32 s k v).trans (literal_next h hp hroom), fun v => (exec_lit64 s k v).trans (literal_next h hp hroom)⟩

/-! The return stack (R74). -/

theorem returnStackMoves : Claim.ReturnStackMoves := by
  intro k s a rest h hp
  have hds := h.dsMax
  have hrs := h.rsMax
  refine ⟨fun hc hr => ?toR, fun hc hd => ?rFrom, fun hc hd => ?rFetch, fun hc => ?rdrop⟩
  case toR =>
    rw [exec_toR, execToR]
    exact h.instr_after (.inl rfl) hp (fun _ => rfl) (fun hv => by cases hv) (by simp [hc]) (by omega) (Nat.zero_le _) (by omega) rfl rfl
      (by simp [hc, t0, Core.pushes, Core.rpushes, Core.withStack, Core.withReturn])
  case rFrom =>
    rw [exec_rFrom, execRFrom]
    exact h.instr_after (.inl rfl) hp (fun _ => rfl) (fun hv => by cases hv) (Nat.zero_le _) (by omega) (by simp [hc]) (by omega) rfl rfl
      (by simp [hc, Core.rtop, Core.pushes, Core.rpushes, Core.withStack, Core.withReturn])
  case rFetch =>
    rw [exec_rFetch, execRFetch]
    exact h.instr_after (.inl rfl) hp (fun _ => rfl) (fun hv => by cases hv) (Nat.zero_le _) (by omega) (by simp [hc]) (by simp [hc] at hrs ⊢; omega) rfl rfl
      (by simp [hc, Core.rtop, Core.pushes, Core.withStack])
  case rdrop =>
    rw [exec_rdrop, execRdrop]
    exact h.instr_after (.inl rfl) hp (fun _ => rfl) (fun hv => by cases hv) (Nat.zero_le _) (by omega) (by simp [hc]) (by omega) rfl rfl
      (by simp [hc, Core.rpushes, Core.withReturn])

/-! PICK and DEPTH (R75, R76). -/

section
variable {k : Insn} {s : State}

theorem pick_cached {n : BitVec 8} {v : Word} (h : Ready s k.lcn) (hp : k.pfx = []) (hroom : (s.core k.lcn).ds.cache.length < 32)
    (hv : (s.core k.lcn).ds.cache[n.toNat]? = some v) :
    exec (.pick k n) s = .next (s.after k 2 fun c => c.withStack (v :: (s.core k.lcn).ds.cache)) := by
  have hrs := h.rsMax
  have hlt : n.toNat < (s.core k.lcn).ds.cache.length := (List.getElem?_eq_some_iff.mp hv).1
  have hget : (s.core k.lcn).ds.cache.getD n.toNat 0 = v := by rw [List.getD, hv, Option.getD_some]
  rw [exec_pick, execPick]
  exact h.instr_after (f := fun c => c.pushes 0 [v]) (.inl rfl) hp (fun _ => rfl) (fun hv => by cases hv) (Nat.zero_le _) (by omega) (Nat.zero_le _) (by omega) rfl
    (by simp only [run_bind, coreOf_run, if_pos hlt, run_pure, hget, onCore_run]) rfl

theorem depth_next (h : Ready s k.lcn) (hp : k.pfx = []) (hroom : (s.core k.lcn).ds.cache.length < 32) :
    exec (.depth k) s = .next (s.after k 1 fun c => c.withStack
      ((BitVec.ofNat 64 (s.core k.lcn).ds.cache.length + ((s.core k.lcn).ds.hi - (s.core k.lcn).ds.ptr) / 8) :: (s.core k.lcn).ds.cache)) := by
  have hrs := h.rsMax
  rw [exec_depth, execDepth]
  exact h.instr_after
    (f := fun c => c.pushes 0 [BitVec.ofNat 64 (s.core k.lcn).ds.cache.length + ((s.core k.lcn).ds.hi - (s.core k.lcn).ds.ptr) / 8])
    (.inl rfl) hp (fun _ => rfl) (fun hv => by cases hv) (Nat.zero_le _) (by omega) (Nat.zero_le _) (by omega) rfl
    (by simp only [run_bind, coreOf_run, onCore_run, run_pure]) rfl

end

theorem pickAndDepth : Claim.PickAndDepth := fun _ _ h hp hroom => ⟨fun _ _ => pick_cached h hp hroom, depth_next h hp hroom⟩

/-- Settles O4: the moves of the data stack, the literals, the moves between the stacks, and PICK and DEPTH. -/
theorem stackInstructions : Obligations.StackInstructions := ⟨dataStackMoves, literals, returnStackMoves, pickAndDepth⟩

/-- The sum of R76 in doublewords is the one of natural numbers modulo 2^64. -/
theorem depthWord_eq (v : Nat) (hi ptr : Word) :
    BitVec.ofNat 64 v + (hi - ptr) / 8 = BitVec.ofNat 64 ((v + (2 ^ 64 + hi.toNat - ptr.toNat) % 2 ^ 64 / 8) % 2 ^ 64) := by
  have hhi := hi.isLt
  have hptr := ptr.isLt
  have hdiff : (hi - ptr).toNat = (2 ^ 64 + hi.toNat - ptr.toNat) % 2 ^ 64 := by rw [BitVec.toNat_sub]; omega
  apply BitVec.eq_of_toNat_eq
  rw [BitVec.toNat_add, BitVec.toNat_udiv, hdiff]
  simp

theorem depth : Claim.Depth := fun k s h hp hroom =>
  (depth_next h hp hroom).trans (congrArg _ (s.after_congr k 1 (by rw [depthWord_eq])))

/-- Settles O5: the number that DEPTH pushes, as R76 computes it. -/
theorem depthOfTheStack : Obligations.DepthOfTheStack := depth

end Sys2Proof.Machine
end

section
/-! SUPPORT. Logic, bit and shift instructions (R77, R80), which settle O7. -/

namespace Sys2Proof.Machine

/-! What the bit counts describe (R80). -/

/-- The leading zeros of the low n bits: those bits are 0, and the next one, where there is one, is 1. -/
theorem leadZeros_spec (x n : Nat) :
    leadZeros x n ≤ n ∧ (∀ i, i < leadZeros x n → x.testBit (n - 1 - i) = false) ∧ (leadZeros x n < n → x.testBit (n - 1 - leadZeros x n) = true) := by
  induction n with
  | zero => simp [leadZeros]
  | succ n ih =>
    obtain ⟨hle, hzeros, hone⟩ := ih
    cases hbit : x.testBit n with
    | true => simp [leadZeros, hbit]
    | false =>
      rw [leadZeros, hbit, if_neg Bool.false_ne_true]
      refine ⟨by omega, fun i hi => ?_, fun hlt => ?_⟩
      · cases i with
        | zero => exact hbit
        | succ i =>
          rw [show n + 1 - 1 - (i + 1) = n - 1 - i by omega]
          exact hzeros i (by omega)
      · rw [show n + 1 - 1 - (1 + leadZeros x n) = n - 1 - leadZeros x n by omega]
        exact hone (by omega)

/-- The trailing zeros of the low n bits: those bits are 0, and the next one, where there is one, is 1. -/
theorem trailZeros_spec (x n : Nat) :
    trailZeros x n ≤ n ∧ (∀ i, i < trailZeros x n → x.testBit i = false) ∧ (trailZeros x n < n → x.testBit (trailZeros x n) = true) := by
  induction n generalizing x with
  | zero => simp [trailZeros]
  | succ n ih =>
    obtain ⟨hle, hzeros, hone⟩ := ih (x / 2)
    cases hbit : x.testBit 0 with
    | true => simp [trailZeros, hbit]
    | false =>
      rw [trailZeros, hbit, if_neg Bool.false_ne_true]
      refine ⟨by omega, fun i hi => ?_, fun hlt => ?_⟩
      · cases i with
        | zero => exact hbit
        | succ i =>
          rw [Nat.testBit_succ]
          exact hzeros i (by omega)
      · rw [Nat.add_comm 1, Nat.testBit_succ]
        exact hone (by omega)

/-- The 1 bits among the low n, counted. -/
theorem popLow_eq_countP (x n : Nat) : popLow x n = (List.range n).countP x.testBit := by
  induction n with
  | zero => rfl
  | succ n ih =>
    rw [popLow, ih, List.range_succ, List.countP_append, List.countP_singleton, Nat.add_comm]

/-! The instructions. -/

section
variable {k : Insn} {s : State} {a b : Word} {rest : List Word}

/-- A logic instruction on two cached entries, with code L of R77. -/
theorem logic2_next {code : Byte} {f : Word → Word → Word} (h : Ready s k.lcn) (hp : k.pfx = []) (hc : (s.core k.lcn).ds.cache = b :: a :: rest) :
    logic2 k code f s = .next (s.after k 1 fun c => { c.withStack (f a b :: rest) with
      psw := setFlags (s.core k.lcn).psw (decide (f a b = 0)) (f a b).msb false (pswC (s.core k.lcn).psw) }) :=
  binary_next h hp hc (by rw [flagsLogic_eq])

end

theorem flagsShift_eq (p r : Word) (n : Nat) (out : Bool) :
    flagsShift p r n out = setFlags p (decide (r = 0)) r.msb false (if n = 0 then pswC p else out) := by
  simp [flagsShift, isZ, isN, beq_eq_decide]

theorem logicAndBits : Claim.LogicAndBits := by
  intro k s a b rest h hp
  refine ⟨fun hc => ⟨(exec_andB s k).trans (logic2_next h hp hc), (exec_orB s k).trans (logic2_next h hp hc), (exec_xorB s k).trans (logic2_next h hp hc),
    (exec_andn s k).trans (logic2_next h hp hc), (exec_rol s k).trans (logic2_next h hp hc), (exec_ror s k).trans (logic2_next h hp hc)⟩,
    fun hc => ⟨?notB, ?sxw, ?zxw, ?bswap, ?clz, ?ctz, ?popc⟩⟩
  case notB => exact (exec_notB s k).trans (unary_next h hp hc (by rw [flagsLogic_eq]))
  case sxw => exact (exec_sxw s k).trans (unary_next h hp hc (by rw [sext, fld, ← BitVec.setWidth_eq_extractLsb' (by decide)]))
  case zxw => exact (exec_zxw s k).trans (unary_next h hp hc (by rw [zext, fld, ← BitVec.setWidth_eq_extractLsb' (by decide)]))
  case bswap => exact (exec_bswap s k).trans (unary_next h hp hc rfl)
  case clz =>
    obtain ⟨hle, hzeros, hone⟩ := leadZeros_spec a.toNat 64
    exact ⟨_, (exec_clz s k).trans (unary_next h hp hc rfl), hle, hzeros, hone⟩
  case ctz =>
    obtain ⟨hle, hzeros, hone⟩ := trailZeros_spec a.toNat 64
    exact ⟨_, (exec_ctz s k).trans (unary_next h hp hc rfl), hle, hzeros, hone⟩
  case popc => exact (exec_popc s k).trans (unary_next h hp hc (by rw [popLow_eq_countP]; rfl))

theorem shifts : Claim.Shifts := by
  intro k s a b imm rest h hp
  refine ⟨fun hc => ⟨?_, ?_, ?_⟩, fun hc => ⟨?_, ?_, ?_⟩⟩
  · exact (exec_shl s k).trans (binary_next h hp hc (by rw [shlOp, flagsShift_eq]; rfl))
  · exact (exec_shr s k).trans (binary_next h hp hc (by rw [shrOp, flagsShift_eq]; rfl))
  · exact (exec_sar s k).trans (binary_next h hp hc (by rw [sarOp, flagsShift_eq]; rfl))
  · exact (exec_shli s k imm).trans (unary_next h hp hc (by rw [shlOp, flagsShift_eq]; rfl))
  · exact (exec_shri s k imm).trans (unary_next h hp hc (by rw [shrOp, flagsShift_eq]; rfl))
  · exact (exec_sari s k imm).trans (unary_next h hp hc (by rw [sarOp, flagsShift_eq]; rfl))

/-- Settles O7: logic and bits, then the shifts with their count and their carry. -/
theorem logicAndShifts : Obligations.LogicAndShifts := ⟨logicAndBits, shifts⟩

end Sys2Proof.Machine
end

section
/-! SUPPORT. Loads of every width (R57, R85, R91, R184, R187), which settle O9. -/

namespace Sys2Proof.Machine

/-! What a load or store changes of its core (R61, R202). -/

/-- A change of one core, and then a retirement in sequence. -/
theorem State.modCore_retires {s : State} {n : Nat} {f : Core → Core} {c : Core} (len : Nat) (sup : Bool) (h : n < s.cores.length) (hsame : SameCore c (f (s.core n)))
    (hpc : (f (s.core n)).pc = c.pc) (hdelay : (f (s.core n)).delay = c.delay) (hnpc : (f (s.core n)).npc = c.npc) :
    Retired s ((s.modCore n f).retire n len sup .next) n len c := by
  rw [← s.modCore_core n f h] at hsame hpc hdelay hnpc
  exact retire_next (by rwa [State.modCore_length]) (.modCore s n f) (fun m hm => s.modCore_other n m f hm) hsame hpc hdelay hnpc

/-- The address of a memory instruction (R85). -/
theorem effective_eq (a : Word) (d : Option (BitVec 16)) : effective a d = accessAddr a d := by cases d <;> rfl

section
variable {s : State} {k : Insn} {n w : Nat} {va : Word} {acc : Acc} {t : TlbEntry}

/-- The physical addresses of an access in one page. -/
theorem addresses_mapped (h : Mapped s n va w acc t) :
    ∃ b, addresses n va w acc s = .ok ((List.range w).map (t.addr va.toNat + ·)) (s.modCore n fun c => { c with tlb := b }) := by
  obtain ⟨b, hb⟩ := translateSpan_mapped h
  refine ⟨b, ?_⟩
  rw [addresses, run_bind, hb]
  exact congrArg (EStateM.Result.ok · _) (List.append_nil _)

/-- With no REL store in its buffer, an ACQ load has nothing to drain (R187). -/
theorem acquireDrain_none (h : ∀ e ∈ (s.core n).sb, e.rel = false) : acquireDrain n s = .ok () s := by
  have hall : (s.core n).sb.reverse.takeWhile (fun e => !e.rel) = (s.core n).sb.reverse :=
    List.takeWhile_eq_self_iff.mpr fun e he => by simp [h e (List.mem_reverse.mp he)]
  rw [acquireDrain, run_bind, coreOf_run]
  simp only [hall, List.length_reverse, Nat.sub_self]
  exact orWait_some (s.drainFirst_none n)

/-- The prefixes of a load: a delay slot has none, and every arrangement is permitted elsewhere (R57). -/
theorem LoadPrefixes.admitted {code : Byte} {d : Option (BitVec 16)} (h : LoadPrefixes s k) : pfxCause (s.core k.lcn).delay (loadCode code d) k.pfx = none := by
  cases hd : (s.core k.lcn).delay with
  | true =>
    rw [h.slot hd]
    exact pfxCause_nil fun _ => by cases d <;> rfl
  | false =>
    have hform := h.form
    simp only [List.mem_cons, List.not_mem_nil, or_false] at hform
    rcases hform with e | e | e | e | e <;> rw [e] <;> cases d <;> rfl

/-- An ACQ load finds nothing that it has to wait for. -/
theorem LoadPrefixes.acquireDrain {b : Tlbs} (h : LoadPrefixes s k) (hacq : k.pfx.contains .acq = true) :
    acquireDrain k.lcn (s.modCore k.lcn (·.accessed b)) = .ok () (s.modCore k.lcn (·.accessed b)) :=
  acquireDrain_none (by rw [State.modCore_get Core.sb rfl]; exact h.order (by simpa using hacq))

theorem loadCode_len (code : Byte) (d : Option (BitVec 16)) : (loadCode code d).len = accessLen d := by cases d <;> rfl

/-- A load whose prefixes are permitted and whose entries fit is its own execution. -/
theorem Ready.instr_load {code : Byte} {d : Option (BitVec 16)} {j : Nat} {body : Run Retire} (h : Ready s k.lcn) (hp : LoadPrefixes s k)
    (hi : 1 ≤ (s.core k.lcn).ds.cache.length) (hj : (s.core k.lcn).ds.cache.length - 1 + j ≤ 32) :
    instr k (loadCode code d) 1 j 0 0 body s = settle s k.lcn (k.pfx.length + accessLen d) (s.sup k.lcn) (body s) := by
  rw [instr_ready h (.inl (by cases d <;> rfl)) hp.admitted (by cases d <;> exact fun hv => by cases hv) ⟨hi, hj⟩ h.fitsR, loadCode_len]

/-- An access ends the hold of its core once it is translated (R202). -/
theorem State.accessed_endHold (s : State) (n : Nat) (b : Tlbs) : (s.modCore n fun c => { c with tlb := b }).endHold n = s.modCore n (·.accessed b) :=
  s.modCore_modCore n _ _

theorem State.modCore_isDram (s : State) (n : Nat) (f : Core → Core) (a : Nat) : (s.modCore n f).isDram a = s.isDram a := by unfold State.isDram; rfl

/-- The hold, the TLBs' order and the L1D are none of what SameCore compares. -/
theorem Core.filled_same (c : Core) (b : Tlbs) (l : List Nat) : SameCore c (c.filled b l) := by constructor <;> rfl

/-- What a load brings replaces the address on the stack, whatever the access did to the caches. -/
theorem Core.filled_pushes {c : Core} {b : Tlbs} {l : List Nat} {a : Word} {rest : List Word} (xs : List Word) (hc : c.ds.cache = a :: rest) :
    (c.filled b l).pushes 1 xs = (c.withStack (xs ++ rest)).filled b l := by
  simp [Core.pushes, Core.filled, Core.accessed, Core.withStack, hc]

/-- The bytes of an access are those that stood before its translation; they leave the L1D in another order. -/
theorem readBytes_accessed {pa : Nat} (hr : Readable s n pa w) (b : Tlbs) :
    ∃ l, readBytes n ((List.range w).map (pa + ·)) (s.modCore n (·.accessed b)) =
      .ok ((List.range w).map fun i => s.loadByte n (pa + i)) (s.modCore n (·.filled b l)) := by
  have hread := readBytes_run (hr.modCore (f := (·.accessed b)) rfl)
  obtain ⟨l, hl⟩ := (s.modCore n (·.accessed b)).touchLines_eq n ((List.range w).map (pa + ·))
  rw [hl, State.modCore_modCore] at hread
  simp only [State.loadByte_modCore (s := s) (n := n) (f := (·.accessed b)) rfl] at hread
  exact ⟨l, hread⟩

/-- The bytes of a load: the hold ends, and the TLBs and the L1D are in another order. -/
theorem loadBytes_run (hp : LoadPrefixes s k) (hm : Mapped s k.lcn va w (dataAcc (s.core k.lcn) (k.pfx.contains .usr) false) t)
    (hr : Readable s k.lcn (t.addr va.toNat) w) :
    ∃ b l, loadBytes k va w s = .ok ((List.range w).map fun i => s.loadByte k.lcn (t.addr va.toNat + i)) (s.modCore k.lcn (·.filled b l)) := by
  obtain ⟨b, hb⟩ := addresses_mapped hm
  obtain ⟨l, hread⟩ := readBytes_accessed hr b
  refine ⟨b, l, ?_⟩
  simp only [loadBytes, run_bind, coreOf_run, hb, run_modify, State.accessed_endHold]
  cases hacq : k.pfx.contains .acq with
  | false => simp only [Bool.false_eq_true, if_false, hread]
  | true =>
    simp only [if_true, run_bind, hp.acquireDrain hacq, hread]

end

/-! The loads of R85. -/

section
variable {s : State} {k : Insn} {a : Word} {rest : List Word} {t : TlbEntry}

/-- A load of w bytes on a cached address: their number, extended by f, replaces the address. -/
theorem load_next {code : Byte} {d : Option (BitVec 16)} {w : Nat} {f : Nat → Word} (h : Ready s k.lcn) (hp : LoadPrefixes s k)
    (hc : (s.core k.lcn).ds.cache = a :: rest) (hm : Mapped s k.lcn (accessAddr a d) w (dataAcc (s.core k.lcn) (k.pfx.contains .usr) false) t)
    (hr : Readable s k.lcn (t.addr (accessAddr a d).toNat) w) :
    ∃ u, load k code d w f s = .next u ∧ Retired s u k.lcn (k.pfx.length + accessLen d)
      ((s.core k.lcn).withStack (f (s.loadNat k.lcn (t.addr (accessAddr a d).toNat) w) :: rest)) := by
  have hmax := h.dsMax
  obtain ⟨b, l, hload⟩ := loadBytes_run hp hm hr
  have htop : effective (t0 (s.core k.lcn).ds.cache) d = accessAddr a d := by rw [hc, effective_eq]; rfl
  rw [load, h.instr_load hp (by simp [hc]) (by omega)]
  simp only [run_bind, coreOf_run, htop, hload, onCore_run, State.modCore_modCore, run_pure, settle_ok]
  refine ⟨_, rfl, State.modCore_retires _ _ h.lt ?_ rfl rfl rfl⟩
  rw [Core.filled_pushes (b := b) (l := l) [_] hc]
  exact Core.filled_same _ b l

end

theorem loads : Claim.Loads := by
  intro k s d a rest t h hp hc
  simp only [List.forall_mem_cons, List.not_mem_nil, false_implies, implies_true, and_true]
  exact ⟨load_next h hp hc, load_next h hp hc, load_next h hp hc, load_next h hp hc, load_next h hp hc, load_next h hp hc, load_next h hp hc⟩

/-! LDP and LDI (R85, R91). -/

theorem map_range_part {α : Type} (g : Nat → α) {off v w : Nat} (h : off + v ≤ w) :
    (((List.range w).map g).drop off).take v = (List.range v).map fun i => g (off + i) := by
  apply List.ext_getElem
  · simp; omega
  · intro i h1 h2
    simp

/-- A part of the bytes of a load as a doubleword. -/
theorem State.loadNat_part (s : State) (n pa : Nat) {off w : Nat} (h : off + 8 ≤ w) :
    wordOf ((((List.range w).map fun i => s.loadByte n (pa + i)).drop off).take 8) = BitVec.ofNat 64 (s.loadNat n (pa + off) 8) := by
  rw [map_range_part _ h, wordOf, State.loadNat]
  simp only [Nat.add_assoc]

/-- Each address of a list finds its own byte. -/
theorem find?_zip_map {as : List Nat} {g : Nat → Byte} {a : Nat} (h : a ∈ as) : (as.zip (as.map g)).find? (fun p => p.1 == a) = some (a, g a) := by
  induction as with
  | nil => cases h
  | cons x as ih =>
    rw [List.map_cons, List.zip_cons_cons, List.find?_cons]
    by_cases hx : x = a
    · simp [hx]
    · rw [show (x == a) = false by simpa using hx]
      exact ih ((List.mem_cons.mp h).resolve_left (Ne.symm hx))

section
variable {s : State} {k : Insn} {a : Word} {rest : List Word} {t : TlbEntry}

theorem ldp_next (h : Ready s k.lcn) (hp : LoadPrefixes s k) (hc : (s.core k.lcn).ds.cache = a :: rest) (hroom : rest.length ≤ 30)
    (hm : Mapped s k.lcn a 16 (dataAcc (s.core k.lcn) (k.pfx.contains .usr) false) t) (hr : Readable s k.lcn (t.addr a.toNat) 16) :
    ∃ u, exec (.ldp k) s = .next u ∧ Retired s u k.lcn (k.pfx.length + 1) ((s.core k.lcn).withStack
      (BitVec.ofNat 64 (s.loadNat k.lcn (t.addr a.toNat + 8) 8) :: BitVec.ofNat 64 (s.loadNat k.lcn (t.addr a.toNat) 8) :: rest)) := by
  obtain ⟨b, l, hload⟩ := loadBytes_run hp hm hr
  have htop : t0 (s.core k.lcn).ds.cache = a := by rw [hc]; rfl
  have hlow := s.loadNat_part k.lcn (t.addr a.toNat) (off := 8) (w := 16) (by omega)
  have hhigh := s.loadNat_part k.lcn (t.addr a.toNat) (off := 0) (w := 16) (by omega)
  rw [List.take_of_length_le (by simp)] at hlow
  rw [exec_ldp, execLdp, h.instr_load hp (by simp [hc]) (by simp [hc]; omega)]
  simp only [run_bind, coreOf_run, htop, hload, onCore_run, State.modCore_modCore, run_pure, settle_ok]
  refine ⟨_, rfl, State.modCore_retires _ _ h.lt ?_ rfl rfl rfl⟩
  rw [Core.filled_pushes (b := b) (l := l) [_, _] hc, hlow, ← List.drop_zero (l := (List.range 16).map _), hhigh]
  exact Core.filled_same _ b l

theorem ldi_next (h : Ready s k.lcn) (hp : k.pfx = []) (hc : (s.core k.lcn).ds.cache = a :: rest)
    (hm : Mapped s k.lcn a 8 { instr := true, rd := false, wr := false, fetch := true, user := !s.sup k.lcn, uaOk := false } t)
    (hr : Readable s k.lcn (t.addr a.toNat) 8) (hdram : ∀ i, i < 8 → s.isDram (t.addr a.toNat + i) = true) :
    ∃ u, exec (.ldi k) s = .next u ∧
      Retired s u k.lcn 1 ((s.core k.lcn).withStack (BitVec.ofNat 64 (s.loadNat k.lcn (t.addr a.toNat) 8) :: rest)) := by
  have hds := h.dsMax
  have hrs := h.rsMax
  obtain ⟨b, hb⟩ := addresses_mapped hm
  obtain ⟨l, hread⟩ := readBytes_accessed hr b
  have htop : t0 (s.core k.lcn).ds.cache = a := by rw [hc]; rfl
  generalize has : (List.range 8).map (t.addr a.toNat + ·) = as at hb hread
  have hall : ∀ x ∈ as, (s.modCore k.lcn (·.accessed b)).isDram x = true := by
    rw [← has, List.forall_mem_map]
    exact fun i hi => (State.modCore_isDram ..).trans (hdram i (List.mem_range.mp hi))
  have hfilter : as.filter (s.modCore k.lcn (·.accessed b)).isDram = as := List.filter_eq_self.mpr hall
  have hnone : as.find? (fun x => !(s.modCore k.lcn (·.accessed b)).isDram x) = none := by
    rw [List.find?_eq_none]
    exact fun x hx => by simp [hall x hx]
  have hbytes : (List.range 8).map (fun i => s.loadByte k.lcn (t.addr a.toNat + i)) = as.map (s.loadByte k.lcn) := by rw [← has, List.map_map]; rfl
  have hspell : wordOf (as.map (s.loadByte k.lcn)) = BitVec.ofNat 64 (s.loadNat k.lcn (t.addr a.toNat) 8) := by rw [← hbytes, wordOf, State.loadNat]
  have hend := s.accessed_endHold k.lcn b
  rw [hbytes] at hread
  rw [exec_ldi, execLdi, instr_next h (.inl rfl) hp (fun _ => rfl) (fun hv => by cases hv) (by simp [hc]) (by omega) (Nat.zero_le _) (by omega)]
  generalize s.modCore k.lcn (·.accessed b) = u at hend hread hfilter hnone
  generalize hv : s.modCore k.lcn (·.filled b l) = v at hread
  rw [State.sup] at hb
  simp only [run_bind, coreOf_run, htop, hb, run_modify, run_get, hend, hfilter, hread, hnone, run_pure, onCore_run, settle_ok]
  rw [List.map_congr_left (g := s.loadByte k.lcn) fun x hx => by rw [find?_zip_map hx], hspell, ← hv, State.modCore_modCore]
  refine ⟨_, rfl, State.modCore_retires _ _ h.lt ?_ rfl rfl rfl⟩
  rw [Core.filled_pushes (b := b) (l := l) [_] hc]
  exact Core.filled_same _ b l

end

theorem pairAndInstructionLoads : Claim.PairAndInstructionLoads := fun _ _ _ _ _ h hc => ⟨fun hp hroom hm hr => ldp_next h hp hc hroom hm hr, fun hp hm hr hd => ldi_next h hp hc hm hr hd⟩

/-- Settles O9: the loads of every width, then LDP and LDI. -/
theorem loadInstructions : Obligations.LoadInstructions := ⟨loads, pairAndInstructionLoads⟩

end Sys2Proof.Machine
end

section
/-! SUPPORT. Stores of every width (R85, R91, R180, R197, R199, R201), which settle O10. -/

namespace Sys2Proof.Machine

/-! Stores into the buffer (R180, R201). -/

/-- What stores leave of a reservation: one that touches its granule ends it (R201). -/
def resvAfter (r : Option Reservation) (es : List StoreEntry) : Option Reservation :=
  es.foldl (fun r e => if e.bytes.isEmpty then r else r.filter (·.granule ≠ lineOf e.addr)) r

theorem resvAfter_cons (r : Option Reservation) (e : StoreEntry) (es : List StoreEntry) :
    resvAfter r (e :: es) = resvAfter (if e.bytes.isEmpty then r else r.filter (·.granule ≠ lineOf e.addr)) es := rfl

theorem Core.buffers_eq (c : Core) (es : List StoreEntry) : c.buffers es = { c with sb := c.sb ++ es, resv := resvAfter c.resv es } := by
  induction es generalizing c with
  | nil => simp [Core.buffers, resvAfter]
  | cons e es ih =>
    have hstep : c.buffers (e :: es) = (c.buffer e).buffers es := by rw [← c.buffers_one e]; rfl
    rw [hstep, ih]
    simp [Core.buffer, resvAfter]

/-- Stores put into the buffer together and one after the other leave the same core. -/
theorem Core.putStores_eq (c : Core) (es : List StoreEntry) : c.putStores es = c.buffers es := by
  have hfold : ∀ (es : List StoreEntry) (c : Core),
      es.foldl (fun c e => if e.bytes.isEmpty then c else loseResv c (lineOf e.addr)) c = { c with resv := resvAfter c.resv es } := by
    intro es
    induction es with
    | nil => exact fun _ => rfl
    | cons e es ih =>
      intro c
      rw [List.foldl_cons, ih]
      cases he : e.bytes.isEmpty with
      | true => simp only [resvAfter_cons, he, if_true]
      | false => simp only [resvAfter_cons, he, Bool.false_eq_true, if_false, loseResv_eq]
  rw [Core.putStores, hfold, Core.buffers_eq]

section
variable {s : State} {k : Insn} {n w : Nat} {va : Word} {acc : Acc} {t : TlbEntry}

/-- Stores into a page marked dirty go into the buffer together, when that has room for them. -/
theorem State.commitStore_fits {es : List StoreEntry} (hd : t.d = true) (hsb : (s.core n).sb.length + es.length ≤ 64) :
    s.commitStore n [{ va := va.toNat, leaf := t, len := w }] es = some (s.modCore n (·.buffers es)) := by
  have hnone : (s.core n).sb.length + es.length - sbMax = 0 := by rw [sbMax]; omega
  simp only [State.commitStore, State.markPieces, hd, if_true, Option.bind_some, State.pushStores, hnone, State.drainFirst_none, Option.map_some, Core.putStores_eq]

theorem storePieces_mapped (h : Mapped s n va w acc t) (hd : t.d = true) :
    ∃ b, storePieces n va w acc s = .ok [{ va := va.toNat, leaf := t, len := w }] (s.modCore n fun c => { c with tlb := b }) := by
  obtain ⟨b, hb⟩ := storeSpan_mapped h hd
  exact ⟨b, by rw [storePieces, run_bind, hb]; rfl⟩

/-- The addresses of a store in one page. -/
theorem storeSpan_addrs (t : TlbEntry) (va : Word) (w : Nat) :
    ([{ va := va.toNat, leaf := t, len := w }] : List Piece).flatMap Piece.addrs = (List.range w).map (t.addr va.toNat + ·) := List.append_nil _

/-- A store that was accepted: its core's access, and its entries behind the older ones. -/
theorem commitStore_accessed {es : List StoreEntry} (b : Tlbs) (hd : t.d = true) (hsb : (s.core n).sb.length + es.length ≤ 64) :
    (s.modCore n (·.accessed b)).commitStore n [{ va := va.toNat, leaf := t, len := w }] es = some (s.modCore n fun c => (c.accessed b).buffers es) := by
  rw [State.commitStore_fits hd (by rw [State.modCore_get Core.sb rfl]; exact hsb), State.modCore_modCore]

/-- What the access changes beside the buffer is none of what SameCore compares. -/
theorem Core.accessed_buffers_pushes {c : Core} (b : Tlbs) (es : List StoreEntry) {i : Nat} {rest : List Word} (hc : c.ds.cache.drop i = rest) :
    ((c.accessed b).buffers es).pushes i [] = ((c.withStack rest).buffers es).accessed b := by
  simp [Core.buffers_eq, Core.pushes, Core.accessed, Core.withStack, hc]

theorem Core.accessed_same (c : Core) (b : Tlbs) : SameCore c (c.accessed b) := by constructor <;> rfl

/-- The end of a store of i operands: they go, and it retires. -/
theorem State.store_retires {es : List StoreEntry} {i : Nat} {rest : List Word} (b : Tlbs) (len : Nat) (sup : Bool) (hn : n < s.cores.length)
    (hc : (s.core n).ds.cache.drop i = rest) :
    Retired s ((s.modCore n fun c => ((c.accessed b).buffers es).pushes i []).retire n len sup .next) n len (((s.core n).withStack rest).buffers es) := by
  have hcore := Core.accessed_buffers_pushes b es hc
  refine State.modCore_retires len sup hn ?_ ?_ ?_ ?_ <;> rw [hcore]
  · exact Core.accessed_same _ b
  all_goals rfl

/-! The entries of a store (R197). -/

/-- The entries of the claim: one where the address is a multiple of the width, and single bytes otherwise. -/
theorem storeEntries_range {va : Word} {pa : Nat} {bs : List Byte} {rel : Bool} (hw : bs ≠ []) :
    storeEntries va ((List.range bs.length).map (pa + ·)) bs rel =
      if va.toNat % bs.length = 0 then [{ addr := pa, bytes := bs, rel := rel }]
      else (List.range bs.length).zipWith (fun i b => { addr := pa + i, bytes := [b], rel := rel }) bs := by
  have hhead : ((List.range bs.length).map (pa + ·)).headD 0 = pa := by
    obtain ⟨b, bs, rfl⟩ := List.exists_cons_of_ne_nil hw
    rw [List.length_cons, List.range_succ_eq_map]
    rfl
  rw [storeEntries, hhead, List.zip_eq_zipWith, List.map_zipWith, List.zipWith_map_left]

theorem storeEntries_length {va : Word} {as : List Nat} {bs : List Byte} {rel : Bool} (hw : bs ≠ []) (ha : as.length = bs.length) :
    (storeEntries va as bs rel).length ≤ bs.length := by
  rw [storeEntries]
  split
  · exact List.length_pos_iff.mpr hw
  · simp [ha]

/-- The prefixes of a store: a delay slot has none, and every arrangement is permitted elsewhere (R57). -/
theorem StorePrefixes.admitted {code : Byte} {d : Option (BitVec 16)} (h : StorePrefixes s k) : pfxCause (s.core k.lcn).delay (storeCode code d) k.pfx = none := by
  cases hd : (s.core k.lcn).delay with
  | true =>
    rw [h.slot hd]
    exact pfxCause_nil fun _ => by cases d <;> rfl
  | false =>
    have hform := h.form
    simp only [List.mem_cons, List.not_mem_nil, or_false] at hform
    rcases hform with e | e | e | e | e <;> rw [e] <;> cases d <;> rfl

theorem storeCode_len (code : Byte) (d : Option (BitVec 16)) : (storeCode code d).len = accessLen d := by cases d <;> rfl

/-- A store whose prefixes are permitted and whose operands are cached is its own execution. -/
theorem Ready.instr_store {code : Byte} {d : Option (BitVec 16)} {i : Nat} {body : Run Retire} (h : Ready s k.lcn) (hp : StorePrefixes s k)
    (hi : i ≤ (s.core k.lcn).ds.cache.length) :
    instr k (storeCode code d) i 0 0 0 body s = settle s k.lcn (k.pfx.length + accessLen d) (s.sup k.lcn) (body s) := by
  have hmax := h.dsMax
  rw [instr_ready h (.inl (by cases d <;> rfl)) hp.admitted (by cases d <;> exact fun hv => by cases hv) ⟨hi, by rw [stackMax]; simp; omega⟩ h.fitsR, storeCode_len]

end

/-! The stores of R85. -/

section
variable {s : State} {k : Insn} {a x : Word} {rest : List Word} {t : TlbEntry}

/-- A store of bytes in one page. -/
theorem storeBytes_run {va : Word} {bs : List Byte} (hw : bs ≠ []) (hm : Mapped s k.lcn va bs.length (dataAcc (s.core k.lcn) (k.pfx.contains .usr) true) t)
    (hd : t.d = true) (hsb : (s.core k.lcn).sb.length + bs.length ≤ 64) :
    ∃ b, storeBytes k va bs s = .ok () (s.modCore k.lcn fun c => (c.accessed b).buffers
      (storeEntries va ((List.range bs.length).map (t.addr va.toNat + ·)) bs (k.pfx.contains .rel))) := by
  obtain ⟨b, hb⟩ := storePieces_mapped hm hd
  have hlen := storeEntries_length (va := va) (as := (List.range bs.length).map (t.addr va.toNat + ·)) (rel := k.pfx.contains .rel) hw (by simp)
  have hcommit := commitStore_accessed (s := s) (n := k.lcn) (va := va) (w := bs.length) b hd (Nat.le_trans (Nat.add_le_add_left hlen _) hsb)
  refine ⟨b, ?_⟩
  simp only [storeBytes, run_bind, coreOf_run, hb, run_modify, State.accessed_endHold, storeSpan_addrs]
  exact orWait_some (f := fun s => s.commitStore k.lcn _ _) hcommit

/-- A store of the low w bytes of x on cached operands. -/
theorem store_next {code : Byte} {d : Option (BitVec 16)} {w : Nat} (hw : 0 < w) (hw8 : w ≤ 8) (h : Ready s k.lcn) (hp : StorePrefixes s k)
    (hc : (s.core k.lcn).ds.cache = a :: x :: rest) (hd : t.d = true)
    (hm : Mapped s k.lcn (accessAddr a d) w (dataAcc (s.core k.lcn) (k.pfx.contains .usr) true) t) (hsb : (s.core k.lcn).sb.length + w ≤ 64) :
    ∃ u, store k code d w s = .next u ∧ Retired s u k.lcn (k.pfx.length + accessLen d) (((s.core k.lcn).withStack rest).buffers
      (if (accessAddr a d).toNat % w = 0 then [{ addr := t.addr (accessAddr a d).toNat, bytes := (wordBytes x).drop (8 - w), rel := k.pfx.contains .rel }]
        else (List.range w).zipWith (fun i b => { addr := t.addr (accessAddr a d).toNat + i, bytes := [b], rel := k.pfx.contains .rel }) ((wordBytes x).drop (8 - w)))) := by
  have hva : effective (t0 (s.core k.lcn).ds.cache) d = accessAddr a d := by rw [hc, effective_eq]; rfl
  have hx : t1 (s.core k.lcn).ds.cache = x := by rw [hc]; rfl
  have hlen : ((wordBytes x).drop (8 - w)).length = w := by rw [List.length_drop, show (wordBytes x).length = 8 from rfl]; omega
  generalize hbs : (wordBytes x).drop (8 - w) = bs at hlen ⊢
  subst hlen
  obtain ⟨b, hb⟩ := storeBytes_run (List.length_pos_iff.mp hw) hm hd hsb
  rw [storeEntries_range (List.length_pos_iff.mp hw)] at hb
  rw [store, h.instr_store hp (by simp [hc])]
  simp only [run_bind, coreOf_run, hva, hx, hbs, hb, onCore_run, State.modCore_modCore, run_pure, settle_ok]
  exact ⟨_, rfl, State.store_retires b _ _ h.lt (by rw [hc]; rfl)⟩

/-- STP at a multiple of 16 in main memory (R199). -/
theorem stp_next {x0 x1 : Word} (h : Ready s k.lcn) (hp : StorePrefixes s k) (hc : (s.core k.lcn).ds.cache = a :: x1 :: x0 :: rest) (hd : t.d = true)
    (ha : a.toNat % 16 = 0) (hk : s.paKind (t.addr a.toNat) = .dram) (hsb : (s.core k.lcn).sb.length < 64)
    (hm : Mapped s k.lcn a 16 (dataAcc (s.core k.lcn) (k.pfx.contains .usr) true) t) :
    ∃ u, exec (.stp k) s = .next u ∧ Retired s u k.lcn (k.pfx.length + 1) (((s.core k.lcn).withStack rest).buffers
      [{ addr := t.addr a.toNat, bytes := wordBytes x0 ++ wordBytes x1, rel := k.pfx.contains .rel }]) := by
  obtain ⟨b, hb⟩ := storePieces_mapped hm hd
  have hentries : pairEntries (s.modCore k.lcn (·.accessed b)) a ((List.range 16).map (t.addr a.toNat + ·)) (wordBytes x0 ++ wordBytes x1) (k.pfx.contains .rel) =
      [{ addr := t.addr a.toNat, bytes := wordBytes x0 ++ wordBytes x1, rel := k.pfx.contains .rel }] := by
    have hhead : ((List.range 16).map (t.addr a.toNat + ·)).headD 0 = t.addr a.toNat := rfl
    rw [pairEntries, hhead, if_pos ⟨ha, (State.modCore_paKind _).trans hk⟩]
  have hcommit := commitStore_accessed (s := s) (n := k.lcn) (va := a) (w := 16)
    (es := [{ addr := t.addr a.toNat, bytes := wordBytes x0 ++ wordBytes x1, rel := k.pfx.contains .rel }]) b hd (Nat.succ_le_of_lt hsb)
  rw [← hentries] at hcommit
  have hstore := orWait_some (f := fun s => s.commitStore k.lcn _ (pairEntries s a _ _ _)) hcommit
  rw [hentries] at hstore
  have htop : t0 (s.core k.lcn).ds.cache = a ∧ t1 (s.core k.lcn).ds.cache = x1 ∧ t2 (s.core k.lcn).ds.cache = x0 := by rw [hc]; exact ⟨rfl, rfl, rfl⟩
  rw [exec_stp, execStp, h.instr_store hp (by simp [hc])]
  simp only [run_bind, coreOf_run, htop, hb, run_modify, State.accessed_endHold, storeSpan_addrs, hstore, onCore_run, State.modCore_modCore, run_pure, settle_ok]
  exact ⟨_, rfl, State.store_retires b _ _ h.lt (by rw [hc]; rfl)⟩

/-- STI at a multiple of 8 in main memory (R91). -/
theorem sti_next (h : Ready s k.lcn) (hp : k.pfx = []) (hc : (s.core k.lcn).ds.cache = a :: x :: rest) (hd : t.d = true)
    (ha : a.toNat % 8 = 0) (hdram : s.isDram (t.addr a.toNat) = true) (hsb : (s.core k.lcn).sb.length < 64)
    (hm : Mapped s k.lcn a 8 { instr := true, rd := false, wr := true, fetch := false, user := !s.sup k.lcn, uaOk := pswUA (s.core k.lcn).psw } t) :
    ∃ u, exec (.sti k) s = .next u ∧ Retired s u k.lcn 1 (((s.core k.lcn).withStack rest).buffers
      [{ addr := t.addr a.toNat, bytes := wordBytes x, rel := false }]) := by
  have hds := h.dsMax
  have hrs := h.rsMax
  obtain ⟨b, hb⟩ := storePieces_mapped hm hd
  have hentries : storeEntries a ((List.range 8).map (t.addr a.toNat + ·)) (wordBytes x) false = [{ addr := t.addr a.toNat, bytes := wordBytes x, rel := false }] :=
    (storeEntries_range (bs := wordBytes x) (List.cons_ne_nil _ _)).trans (if_pos ha)
  have hcommit := commitStore_accessed (s := s) (n := k.lcn) (va := a) (w := 8) (es := [{ addr := t.addr a.toNat, bytes := wordBytes x, rel := false }]) b hd
    (Nat.succ_le_of_lt hsb)
  have hin : (s.modCore k.lcn (·.accessed b)).isDram (t.addr a.toNat) = true := (State.modCore_isDram ..).trans hdram
  have hnone : ([{ addr := t.addr a.toNat, bytes := wordBytes x, rel := false }] : List StoreEntry).find? (fun e => !(s.modCore k.lcn (·.accessed b)).isDram e.addr) = none := by
    simp [hin]
  have hkept : ([{ addr := t.addr a.toNat, bytes := wordBytes x, rel := false }] : List StoreEntry).filter (fun e => (s.modCore k.lcn (·.accessed b)).isDram e.addr) =
      [{ addr := t.addr a.toNat, bytes := wordBytes x, rel := false }] := by simp [hin]
  rw [← hkept] at hcommit
  have hstore := orWait_some (f := fun s => s.commitStore k.lcn _ (List.filter (fun e => s.isDram e.addr) _)) hcommit
  rw [hkept] at hstore
  have htop : t0 (s.core k.lcn).ds.cache = a ∧ t1 (s.core k.lcn).ds.cache = x := by rw [hc]; exact ⟨rfl, rfl⟩
  have hend := s.accessed_endHold k.lcn b
  generalize s.modCore k.lcn (·.accessed b) = u at hend hstore hnone
  rw [State.sup] at hb
  rw [exec_sti, execSti, instr_next h (.inl rfl) hp (fun _ => rfl) (fun hv => by cases hv) (by simp [hc]) (by omega) (Nat.zero_le _) (by omega)]
  simp only [run_bind, coreOf_run, htop, hb, run_modify, hend, run_get, storeSpan_addrs, hentries, hstore, hnone, onCore_run, State.modCore_modCore, run_pure, settle_ok]
  exact ⟨_, rfl, State.store_retires b _ _ h.lt (by rw [hc]; rfl)⟩

end

theorem stores : Claim.Stores := by
  intro k s d a x rest t h hp hc hd
  simp only [List.forall_mem_cons, List.not_mem_nil, false_implies, implies_true, and_true]
  exact ⟨store_next (by decide) (by decide) h hp hc hd, store_next (by decide) (by decide) h hp hc hd, store_next (by decide) (by decide) h hp hc hd,
    store_next (by decide) (by decide) h hp hc hd⟩

theorem pairAndInstructionStores : Claim.PairAndInstructionStores := fun _ _ _ _ _ _ _ h hd =>
  ⟨fun hp hc ha hk hsb hm => stp_next h hp hc hd ha hk hsb hm, fun hp hc ha hdram hsb hm => sti_next h hp hc hd ha hdram hsb hm⟩

/-- Settles O10: the stores of every width, then STP and STI. -/
theorem storeInstructions : Obligations.StoreInstructions := ⟨stores, pairAndInstructionStores⟩

end Sys2Proof.Machine
end

section
/-! SUPPORT. Reservations and conditional stores (R88, R180, R200 to R202, R249), which settle O11. -/

namespace Sys2Proof.Machine

/-! The hold over a retirement (R202). -/

section
variable (s : State) (n len : Nat) (sup : Bool)

theorem State.perfTimed_hold (i : Nat) : ((s.perfTimed n sup i).core n).hold = (s.core n).hold := by
  unfold State.perfTimed
  split
  · split
    · exact State.modCore_get (s := s.takeFree.2) Core.hold rfl
    · rfl
  · rfl

theorem State.perfTick_hold : ((s.perfTick n sup).core n).hold = (s.core n).hold := by
  unfold State.perfTick
  generalize List.range 8 = l
  induction l generalizing s with
  | nil => rfl
  | cons i l ih => exact (ih _).trans (s.perfTimed_hold n sup i)

theorem Core.countDue_hold (c : Core) (f : Nat → Bool) : (c.countDue sup f).hold = c.hold := by
  have hfold : ∀ (l : List Nat) (c : Core), (l.foldl (fun c ev => c.perfAddAs sup ev 1) c).hold = c.hold := by
    intro l
    induction l with
    | nil => exact fun _ => rfl
    | cons ev l ih => exact fun c => ih (c.perfAddAs sup ev 1)
  exact hfold _ c

theorem Core.retired_hold (c : Core) : (c.retired len sup .next).hold = c.hold := by
  have hcount := c.countDue_hold sup fun _ => true
  rw [← hcount, Core.retired, Core.advance]
  split <;> rfl

/-- A hold that has instructions left has one fewer after a retirement in sequence. -/
theorem State.retire_hold {s : State} {n : Nat} {m : HoldMark} (hn : n < s.cores.length) (hm : (s.core n).hold = some m) (h1 : 1 < m.left) :
    ((s.retire n len sup .next).core n).hold = some { m with left := m.left - 1 } := by
  have hs : (Retire.next == Retire.stay) = false := by decide
  have e : s.retire n len sup .next =
      (((((s.countHold n false).modCore n fun c => c.perfAddAs sup 2 1).perfTick n sup).modCore n fun c => c.retired len sup .next)).switchDue n := by
    unfold State.retire
    simp [hs, Core.retired]
  have hcount : s.countHold n false = s.modCore n fun c => { c with hold := some { m with left := m.left - 1 } } := by
    simp only [State.countHold, hm, Bool.false_or, decide_eq_true_eq, if_neg (Nat.not_le.mpr h1)]
  have hquiet : Quiet s (((s.countHold n false).modCore n fun c => c.perfAddAs sup 2 1).perfTick n sup) n :=
    ((countHold_quiet s n false).trans (.modCore (by constructor <;> rfl) rfl rfl rfl)).trans (perfTick_quiet _ n sup)
  have hhold : ((((s.countHold n false).modCore n fun c => c.perfAddAs sup 2 1).perfTick n sup).core n).hold = some { m with left := m.left - 1 } := by
    rw [State.perfTick_hold, hcount, State.modCore_modCore, State.modCore_core _ _ _ hn]
    rfl
  generalize ((s.countHold n false).modCore n fun c => c.perfAddAs sup 2 1).perfTick n sup = u at e hquiet hhold
  obtain ⟨-, ⟨v, hv⟩, -⟩ := (u.modCore n fun c => c.retired len sup .next).switchDue_frame n
  rw [e, hv, State.modCore_core _ _ _ (hquiet.len ▸ hn)]
  exact (Core.retired_hold len sup _).trans hhold

end

/-- What a retirement in sequence leaves apart from the microcode image (R244): memory, the channel subsystem, Weir, and all of its core but MCVER. -/
theorem Retired.frame {s t : State} {n len : Nat} {c : Core} (h : Retired s t n len c) :
    t.mem = s.mem ∧ t.css = s.css ∧ t.weir = s.weir ∧ ∃ u v, Stepped s u n len c ∧ t.core n = { u.core n with mcver := v } := by
  obtain ⟨u, hu, rfl⟩ := h
  obtain ⟨hmem, ⟨v, hv⟩, -⟩ := u.switchDue_frame n
  refine ⟨hmem.trans hu.outside.mem, ?_, ?_, u, v, hu, hv⟩
  · rcases u.switchDue_cases n with e | ⟨_, _, e⟩ <;> rw [e] <;> exact hu.outside.css
  · rcases u.switchDue_cases n with e | ⟨_, _, e⟩ <;> rw [e] <;> exact hu.outside.weir

/-! A line that its core owns (R249). -/

section
variable {s : State} {n a : Nat}

/-- A line held alone in E or M is obtained as it stands. -/
theorem State.acquire_held {agent line : Nat} (h : s.agentState agent line = some .e ∨ s.agentState agent line = some .m) : s.acquire agent line = some s := by
  have hown : (s.agentState agent line == some .m || s.agentState agent line == some .e) = true := by
    rcases h with h | h <;> rw [h] <;> rfl
  rw [State.acquire, if_pos hown]

theorem State.modCore_guarded (f : Core → Core) (a : Nat) : (s.modCore n f).guarded a = s.guarded a := by unfold State.guarded; rfl

/-- A state whose cores are those of another, each changed. -/
theorem State.core_map {u : State} {g : Core → Core} (h : u.cores = s.cores.map g) (hn : n < s.cores.length) : u.core n = g (s.core n) := by
  simp [State.core, h, List.getD, hn]

theorem State.putBytes_mem (own : Bool) : ∀ (s : State) (a : Nat) (bs : List Byte), (s.putBytes a own bs).mem = s.mem.writeN a bs
  | _, _, [] => rfl
  | s, a, b :: bs => (s.putByte a b own).putBytes_mem own (a + 1) bs

theorem State.putBytes_cores (own : Bool) : ∀ (s : State) (a : Nat) (bs : List Byte), (s.putBytes a own bs).cores = s.cores
  | _, _, [] => rfl
  | s, a, b :: bs => (s.putByte a b own).putBytes_cores own (a + 1) bs

theorem State.dropRead_mem (s : State) (line : Nat) (whole : Bool) : (s.dropRead line whole).mem = s.mem := by cases whole <;> rfl

theorem State.dropRead_cores (s : State) (line : Nat) (whole : Bool) : (s.dropRead line whole).cores = s.cores := by cases whole <;> rfl

/-- A store into a line of its own core is performed at once: its bytes are in memory, and every core of another agent loses a reservation on the granule (R180, R201). -/
theorem State.performStore_owned {bs : List Byte} (hw : s.windowForming a = false) (hk : s.paKind a = .dram) (hg : s.guarded a = false)
    (ho : s.agentState (s.core n).pcn (lineOf a) = some .e ∨ s.agentState (s.core n).pcn (lineOf a) = some .m) :
    ∃ u, s.performStore n a bs = some u ∧ u.mem = s.mem.writeN a bs ∧
      u.cores = s.cores.map fun c => if c.pcn != (s.core n).pcn then loseResv c (lineOf a) else c := by
  unfold State.performStore
  rw [if_neg (by rw [hw]; exact Bool.false_ne_true), hk]
  simp only [hg, Bool.and_false, Bool.false_eq_true, if_false, State.acquire_held ho]
  refine ⟨_, rfl, ?_, ?_⟩
  · exact (State.dropRead_mem _ _ _).trans (s.putBytes_mem true a bs)
  · exact congrArg (List.map _) ((State.dropRead_cores _ _ _).trans (s.putBytes_cores true a bs))

end

/-! LDR (R88, R200). -/

section
variable {s : State} {n : Nat} {a : Word} {pa : Nat}

/-- A store buffer without a store to a line needs no drain for it. -/
theorem throughLine_untouched {sb : List StoreEntry} {line : Nat} (h : ∀ e ∈ sb, lineOf e.addr ≠ line) : throughLine sb line = 0 := by
  have hall : sb.reverse.takeWhile (fun e => lineOf e.addr != line) = sb.reverse :=
    List.takeWhile_eq_self_iff.mpr fun e he => bne_iff_ne.mpr (h e (List.mem_reverse.mp he))
  rw [throughLine, hall, List.length_reverse, Nat.sub_self]

/-- At an address that is not a multiple of 8 no reservation is left. -/
theorem reserve_unaligned (ha : a.toNat % 8 ≠ 0) : reserve n a pa s = .ok () (s.modCore n fun c => { c with resv := none }) := by
  simp only [reserve, run_bind, run_get, ha, false_and, if_false, onCore_run]

/-- In a line of its own core an LDR sets its reservation and its hold, which its own retirement counts first. -/
theorem reserve_owned (ha : a.toNat % 8 = 0) (hk : s.paKind pa = .dram) (hg : s.guarded pa = false) (hsb : ∀ e ∈ (s.core n).sb, lineOf e.addr ≠ lineOf pa)
    (ho : s.agentState (s.core n).pcn (lineOf pa) = some .e ∨ s.agentState (s.core n).pcn (lineOf pa) = some .m) :
    reserve n a pa s = .ok () (s.modCore n fun c =>
      { c with resv := some { va := a, granule := lineOf pa }, hold := some { line := lineOf pa, left := 18 } }) := by
  have hdrain : orWait (fun s => s.drainFirst n (throughLine (s.core n).sb (lineOf pa))) s = .ok () s :=
    orWait_some (by rw [throughLine_untouched hsb]; exact s.drainFirst_none n)
  have hline := orWait_some (f := fun u => u.acquire (s.core n).pcn (lineOf pa)) (State.acquire_held ho)
  have hheld : (s.agentState (s.core n).pcn (lineOf pa) == some .e || s.agentState (s.core n).pcn (lineOf pa) == some .m) = true := by
    rcases ho with ho | ho <;> rw [ho] <;> rfl
  simp only [reserve, run_bind, run_get, ha, hk, hg, and_self, if_true, hdrain, hline, hheld, onCore_run]

end

section
variable {s : State} {k : Insn} {a : Word} {rest : List Word} {t : TlbEntry}

/-- An LDR is its access, then its reservation, which leaves what it loaded. -/
theorem ldr_run {f : Core → Core} (h : Ready s k.lcn) (hp : LoadPrefixes s k) (hc : (s.core k.lcn).ds.cache = a :: rest)
    (hm : Mapped s k.lcn a 8 (dataAcc (s.core k.lcn) (k.pfx.contains .usr) false) t) (hr : Readable s k.lcn (t.addr a.toNat) 8)
    (hres : ∀ b l, reserve k.lcn a (t.addr a.toNat) (s.modCore k.lcn (·.filled b l)) = .ok () ((s.modCore k.lcn (·.filled b l)).modCore k.lcn f)) :
    ∃ b l, exec (.ldr k) s = .next ((s.modCore k.lcn fun c =>
      (f (c.filled b l)).pushes 1 [BitVec.ofNat 64 (s.loadNat k.lcn (t.addr a.toNat) 8)]).retire k.lcn (k.pfx.length + 1) (s.sup k.lcn) .next) := by
  have hmax := h.dsMax
  obtain ⟨b, hb⟩ := addresses_mapped hm
  obtain ⟨l, hread⟩ := readBytes_accessed hr b
  have htop : t0 (s.core k.lcn).ds.cache = a := by rw [hc]; rfl
  have hhead : ((List.range 8).map (t.addr a.toNat + ·)).headD 0 = t.addr a.toNat := rfl
  have hspell : wordOf ((List.range 8).map fun i => s.loadByte k.lcn (t.addr a.toNat + i)) = BitVec.ofNat 64 (s.loadNat k.lcn (t.addr a.toNat) 8) := by
    rw [wordOf, State.loadNat]
  refine ⟨b, l, ?_⟩
  rw [exec_ldr, execLdr, h.instr_load hp (by simp [hc]) (by omega)]
  simp only [run_bind, coreOf_run, htop, hb, run_modify, State.accessed_endHold]
  cases hacq : k.pfx.contains .acq with
  | false =>
    simp only [Bool.false_eq_true, if_false, run_bind, hread, hhead, hres, onCore_run, run_pure, settle_ok, hspell, State.modCore_modCore]
    rfl
  | true =>
    simp only [if_true, run_bind, hp.acquireDrain hacq, hread, hhead, hres, onCore_run, run_pure, settle_ok, hspell, State.modCore_modCore]
    rfl

end

/-- The core of an LDR: what it loaded and its reservation; the hold is none of what SameCore compares. -/
theorem Core.filled_reserve_same {c : Core} {b : Tlbs} {l : List Nat} {a x : Word} {rest : List Word} {r : Option Reservation} {m : Option HoldMark}
    (hc : c.ds.cache = a :: rest) :
    SameCore { c.withStack (x :: rest) with resv := r } (({ c.filled b l with resv := r, hold := m } : Core).pushes 1 [x]) := by
  rw [Core.pushes, show (c.filled b l).ds.cache = a :: rest from hc]
  constructor <;> rfl

theorem loadReserve : Claim.LoadReserve := by
  intro k s a rest t h hp hc c pa hm hr c'
  refine ⟨fun ha => ?_, fun ha hk ho hg hsb => ?_⟩
  · obtain ⟨b, l, he⟩ := ldr_run h hp hc hm hr fun b l => reserve_unaligned ha
    refine ⟨_, he, State.modCore_retires _ _ h.lt ?_ rfl rfl rfl⟩
    exact Core.filled_reserve_same hc
  · obtain ⟨b, l, he⟩ := ldr_run h hp hc hm hr fun b l => reserve_owned ha ((State.modCore_paKind _).trans hk) ((State.modCore_guarded _ _).trans hg)
      (by rw [State.modCore_get Core.sb rfl]; exact hsb) (by rw [State.modCore_agentState, State.modCore_get Core.pcn rfl]; exact ho.held)
    refine ⟨_, he, State.modCore_retires _ _ h.lt ?_ rfl rfl rfl, ?_⟩
    · exact Core.filled_reserve_same hc
    · exact State.retire_hold _ _ (m := { line := lineOf pa, left := 18 }) (by rw [State.modCore_length]; exact h.lt) (by rw [State.modCore_core _ _ _ h.lt]; rfl) (show 1 < 18 by decide)

/-! STC (R88). -/

/-- The first level of a TLB after a hit still has the one entry that serves. -/
theorem filter_refilled {l : List TlbEntry} {p : TlbEntry → Bool} {t : TlbEntry} {m : Nat} (h : l.filter p = [t]) :
    ((t :: l.filter (· != t)).take (m + 1)).filter p = [t] := by
  have hp : p t = true := (List.mem_filter.mp (h ▸ List.mem_singleton_self t)).2
  have hrest : ((l.filter (· != t)).take m).filter p = [] := by
    refine List.filter_eq_nil_iff.mpr fun x hx hpx => ?_
    obtain ⟨hxl, hxt⟩ := List.mem_filter.mp (List.mem_of_mem_take hx)
    have hmem : x ∈ l.filter p := List.mem_filter.mpr ⟨hxl, hpx⟩
    rw [h, List.mem_singleton] at hmem
    exact bne_iff_ne.mp hxt hmem
  rw [List.take_succ_cons, List.filter_cons, if_pos hp, hrest]

/-- The TLBs after a hit on an entry: it is the latest used of both levels (R173). -/
def Tlbs.used (b : Tlbs) (t : TlbEntry) : Tlbs := (b.fill2 t).fill1 t

section
variable {s : State} {n w : Nat} {va : Word} {acc : Acc} {t : TlbEntry}

theorem translateSpan_used (h : Mapped s n va w acc t) :
    translateSpan n va w acc s = .ok (.ok [{ va := va.toNat, leaf := t, len := w }]) (s.modCore n fun c => { c with tlb := c.tlb.used t }) := by
  have hroom : w ≤ 2 ^ t.size - va.toNat % 2 ^ t.size := by have := h.inPage; omega
  simp only [translateSpan, translate, run_bind, coreOf, run_get, run_pure, h.find, h.first, h.allowed, Option.isNone_none, if_true, onCore, run_modify, if_pos hroom]
  rfl

/-- A hit leaves the access as well mapped as before. -/
theorem Mapped.used (h : Mapped s n va w acc t) (hn : n < s.cores.length) : Mapped (s.modCore n fun c => { c with tlb := c.tlb.used t }) n va w acc t := by
  have hcore := s.modCore_core n (fun c => { c with tlb := c.tlb.used t }) hn
  obtain ⟨hhit, hside, ⟨hi, hd⟩, hallowed, hpage⟩ := h
  refine ⟨?_, hside, ?_, ?_, hpage⟩
  · rw [hcore, ← hside]
    rw [← hside] at hhit
    cases ht : t.instr with
    | true =>
      rw [ht, if_pos rfl] at hhit
      simp only [if_true, Tlbs.used, Tlbs.fill1, Tlbs.fill2, ht]
      exact filter_refilled hhit
    | false =>
      rw [ht, if_neg Bool.false_ne_true] at hhit
      simp only [Bool.false_eq_true, if_false, Tlbs.used, Tlbs.fill1, Tlbs.fill2, ht]
      exact filter_refilled hhit
  · rw [hcore]
    cases ht : t.instr with
    | true =>
      simp only [Tlbs.used, Tlbs.fill1, Tlbs.fill2, ht, if_true]
      exact ⟨List.length_take_le _ _, hd⟩
    | false =>
      simp only [Tlbs.used, Tlbs.fill1, Tlbs.fill2, ht, Bool.false_eq_true, if_false]
      exact ⟨hi, List.length_take_le _ _⟩
  · rw [hcore]
    exact hallowed

/-- The access of a store after a hit of its own. -/
theorem storeSpan_used (h : Mapped s n va w acc t) (hn : n < s.cores.length) (hd : t.d = true) :
    ∃ b, storeSpan n va w acc (s.modCore n fun c => { c with tlb := c.tlb.used t }) =
      .ok (.ok [{ va := va.toNat, leaf := t, len := w }]) (s.modCore n fun c => { c with tlb := b }) := by
  obtain ⟨b, hb⟩ := storeSpan_mapped (h.used hn) hd
  exact ⟨b, by rw [hb, State.modCore_modCore]⟩

end

section
variable {s : State} {n a : Nat} {va : Word} {t : TlbEntry} {bs : List Byte}

theorem stcAddr_one (t : TlbEntry) (va : Word) (w : Nat) : stcAddr [{ va := va.toNat, leaf := t, len := w + 1 }] = t.addr va.toNat := by
  rw [stcAddr, storeSpan_addrs, List.range_succ_eq_map]
  rfl

theorem Core.mayStore_none {c : Core} (h : c.resv = none) : c.mayStore va a = false := by rw [Core.mayStore, h]

theorem Core.mayStore_some {c : Core} (h : c.resv = some { va := va, granule := lineOf a }) : c.mayStore va a = true := by
  rw [Core.mayStore, h]
  simp

/-- The store of an STC that has its reservation (R88). -/
theorem State.storeConditional_reserved {w : Nat} (hd : t.d = true) (hr : (s.core n).resv = some { va := va, granule := lineOf (t.addr va.toNat) }) :
    s.storeConditional n va [{ va := va.toNat, leaf := t, len := w + 1 }] bs = (s.endHold n).performStore n (t.addr va.toNat) bs := by
  have hmay := Core.mayStore_some (va := va) (a := t.addr va.toNat) hr
  simp only [State.storeConditional, stcAddr_one, hmay, if_true, State.markPieces, hd, Option.bind_some]

end

section
variable {s : State} {k : Insn} {a x : Word} {rest : List Word} {t : TlbEntry}

theorem stc_unreserved (h : Ready s k.lcn) (hp : k.pfx = []) (hc : (s.core k.lcn).ds.cache = a :: x :: rest) (hr : (s.core k.lcn).resv = none)
    (hm : Mapped s k.lcn a 8 (dataAcc (s.core k.lcn) false true) t) :
    ∃ u, exec (.stc k) s = .next u ∧ Retired s u k.lcn 1 { (s.core k.lcn).withStack (0 :: rest) with resv := none } := by
  have hds := h.dsMax
  have hrs := h.rsMax
  have htop : t0 (s.core k.lcn).ds.cache = a ∧ t1 (s.core k.lcn).ds.cache = x := by rw [hc]; exact ⟨rfl, rfl⟩
  have hspan := translateSpan_used hm
  have hmay : ((s.modCore k.lcn fun c => { c with tlb := c.tlb.used t }).core k.lcn).mayStore a (stcAddr [{ va := a.toNat, leaf := t, len := 8 }]) = false :=
    Core.mayStore_none ((State.modCore_get Core.resv rfl).trans hr)
  rw [exec_stc, execStc, instr_next h (.inl rfl) hp (fun _ => rfl) (fun hv => by cases hv) (by simp [hc]) (by omega) (Nat.zero_le _) (by omega)]
  simp only [run_bind, coreOf_run, htop, hp, List.contains_nil, hspan, Bool.false_eq_true, if_false, hmay, dropReservation, run_modify, onCore_run, State.endHold,
    State.modCore_modCore, run_pure, settle_ok]
  refine ⟨_, rfl, State.modCore_retires _ _ h.lt ?_ rfl rfl rfl⟩
  rw [Core.pushes, hc]
  constructor <;> rfl

/-- A core in whose own line a store was performed is as it was (R201). -/
theorem State.core_performed {u v : State} {n line : Nat} (hn : n < u.cores.length)
    (h : v.cores = u.cores.map fun c => if c.pcn != (u.core n).pcn then loseResv c line else c) : v.core n = u.core n := by
  rw [State.core_map h hn, bne_self_eq_false]
  rfl

theorem stc_reserved (h : Ready s k.lcn) (hp : k.pfx = []) (hc : (s.core k.lcn).ds.cache = a :: x :: rest) (hd : t.d = true)
    (hm : Mapped s k.lcn a 8 (dataAcc (s.core k.lcn) false true) t) (hr : (s.core k.lcn).resv = some { va := a, granule := lineOf (t.addr a.toNat) })
    (hk : s.paKind (t.addr a.toNat) = .dram) (hg : s.guarded (t.addr a.toNat) = false) (hw : s.windowForming (t.addr a.toNat) = false)
    (ho : Owned s (s.core k.lcn).pcn (lineOf (t.addr a.toNat))) :
    ∃ u, exec (.stc k) s = .next u ∧ (u.core k.lcn).ds.cache = 1 :: rest ∧ (u.core k.lcn).resv = none ∧ u.mem = s.mem.writeN (t.addr a.toNat) (wordBytes x) := by
  have hds := h.dsMax
  have hrs := h.rsMax
  have htop : t0 (s.core k.lcn).ds.cache = a ∧ t1 (s.core k.lcn).ds.cache = x := by rw [hc]; exact ⟨rfl, rfl⟩
  have hspan := translateSpan_used hm
  have hmay : ((s.modCore k.lcn fun c => { c with tlb := c.tlb.used t }).core k.lcn).mayStore a (stcAddr [{ va := a.toNat, leaf := t, len := 8 }]) = true := by
    rw [stcAddr_one]
    exact Core.mayStore_some ((State.modCore_get Core.resv rfl).trans hr)
  obtain ⟨b, hb⟩ := storeSpan_used hm h.lt hd
  obtain ⟨v, hv, hmem, hcores⟩ := State.performStore_owned (s := s.modCore k.lcn (·.accessed b)) (n := k.lcn) (bs := wordBytes x) ((State.modCore_windowForming _).trans hw)
    ((State.modCore_paKind _).trans hk) ((State.modCore_guarded _ _).trans hg) (by rw [State.modCore_agentState, State.modCore_get Core.pcn rfl]; exact ho.held)
  have hstore : orWait (fun s => s.storeConditional k.lcn a [{ va := a.toNat, leaf := t, len := 8 }] (wordBytes x)) (s.modCore k.lcn fun c => { c with tlb := b }) =
      .ok () v :=
    orWait_some ((State.storeConditional_reserved hd ((State.modCore_get Core.resv rfl).trans hr)).trans (by rw [State.accessed_endHold, hv]))
  have hn : k.lcn < (s.modCore k.lcn (·.accessed b)).cores.length := by rw [State.modCore_length]; exact h.lt
  have hcore : v.core k.lcn = (s.core k.lcn).accessed b := (State.core_performed hn hcores).trans (s.modCore_core _ _ h.lt)
  have hresv : (v.core k.lcn).resv.isSome = true := by rw [hcore]; exact congrArg Option.isSome hr
  rw [exec_stc, execStc, instr_next h (.inl rfl) hp (fun _ => rfl) (fun hv => by cases hv) (by simp [hc]) (by omega) (Nat.zero_le _) (by omega)]
  simp only [run_bind, coreOf_run, htop, hp, List.contains_nil, hspan, Bool.false_eq_true, if_false, hmay, if_true, hb, hstore, hresv, dropReservation, run_modify,
    onCore_run, State.endHold, State.modCore_modCore, run_pure, settle_ok]
  have hlen : k.lcn < v.cores.length := by rw [hcores, List.length_map]; exact hn
  obtain ⟨hmem', -, -, u, y, hu, hy⟩ := (State.modCore_retires (f := fun c => ({ c with hold := none, resv := none } : Core).pushes 2 [1]) (storeCode 0x3E none).len (s.sup k.lcn) hlen
    (.refl _) rfl rfl rfl).frame
  refine ⟨_, rfl, ?_, ?_, hmem'.trans hmem⟩
  · rw [hy, hu.core.ds, hcore]
    simp [Core.pushes, Core.accessed, hc]
  · rw [hy]
    exact hu.core.resv

end

theorem storeConditional : Claim.StoreConditional := by
  intro k s a x rest t h hp hc hd c pa hwf hm
  refine ⟨fun hr => stc_unreserved h hp hc hr hm, fun hr _ hk hg hw ho => ?_⟩
  obtain ⟨u, he, hstack, hresv, hmem⟩ := stc_reserved h hp hc hd hm hr hk hg hw ho
  refine ⟨u, he, hstack, hresv, fun i hi => ?_, fun b hb => ?_⟩
  · have hi' : i < (wordBytes x).length := hi
    rw [hmem, Mem.read_writeN hwf hi', List.getD_eq_getElem _ _ hi']
  · rw [hmem, Mem.read_writeN_other hwf hb]

/-- Settles O11: LDR with its reservation, and STC with and without one. -/
theorem reserveAndConditional : Obligations.ReserveAndConditional := ⟨loadReserve, storeConditional⟩

end Sys2Proof.Machine
end

section
/-! SUPPORT. FENCE, ISYNC and WAIT (R89, R90, R97, R99, R100), which settle O12. -/

namespace Sys2Proof.Machine

section
variable {s t : State} {n : Nat} {code : List Byte}

/-- Once the buffer has drained and no device store is outstanding, nothing is left to wait for. -/
theorem ioDrain_drained (h : s.drain n = some t) (hd : (t.core n).devStore = none) : ioDrain n code s = .ok () t := by
  have hdrain : orWait (fun s => s.drain n) s = .ok () t := orWait_some h
  have hsettle : t.settleStore n = some t := by rw [State.settleStore, hd]
  simp only [ioDrain, run_bind, hdrain, run_get, hsettle, run_set]

/-- A device store without a response leaves the instruction waiting for it (R99, R100). -/
theorem ioDrain_waits {d : PortAccess} (hsb : (s.core n).sb = []) (hd : (s.core n).devStore = some d) (hw : s.unitAnswers d.port = false ∨ s.overdue d = true) :
    ioDrain n code s = .error .wait (s.modCore n fun c => { c with ioWait := some code }) := by
  have hdrain : orWait (fun s => s.drain n) s = .ok () s := orWait_some (f := fun s => s.drain n) (State.drain_empty hsb)
  have hnone : (s.unitAnswers d.port && !s.overdue d) = false := by
    rcases hw with hw | hw <;> simp [hw]
  have hsettle : s.settleStore n = none := by
    rw [State.settleStore, hd]
    simp only [hnone, Bool.false_eq_true, if_false]
  simp only [ioDrain, run_bind, hdrain, run_get, hsettle, onCore_run, run_throw]

end

section
variable {k : Insn} {s t : State}

/-- An instruction without operands and prefixes is its own execution. -/
theorem Ready.instr_bare {o : Op} {body : Run Retire} (h : Ready s k.lcn) (hp : k.pfx = []) (he : o.entry = none ∨ RomOnly s k.lcn) (hn : o.noSlot = false)
    (hv : o.priv = true → s.sup k.lcn = true) : instr k o 0 0 0 0 body s = settle s k.lcn o.len (s.sup k.lcn) (body s) := by
  have hds := h.dsMax
  have hrs := h.rsMax
  exact instr_next h he hp (fun _ => hn) hv (Nat.zero_le _) (by omega) (Nat.zero_le _) (by omega)

theorem fence_drained (h : Ready s k.lcn) (hp : k.pfx = []) (hd : s.drain k.lcn = some t) (hs : (t.core k.lcn).devStore = none) :
    exec (.fence k) s = .next (t.retire k.lcn 1 (s.sup k.lcn) .next) := by
  rw [exec_fence, execFence, h.instr_bare hp (.inl rfl) rfl (fun hv => by cases hv), run_bind, ioDrain_drained hd hs]
  rfl

theorem isync_next (h : Ready s k.lcn) (hp : k.pfx = []) : exec (.isync k) s = .next (s.retire k.lcn 1 (s.sup k.lcn) .next) := by
  rw [exec_isync, execIsync, stackOp, h.instr_bare hp (.inl rfl) rfl (fun hv => by cases hv), run_bind, coreOf_run]
  simp only [run_bind, onCore_run, run_pure, settle_ok]
  rw [State.modCore_self rfl]
  rfl

/-- WAIT after its drain: the core waits unless an interrupt is due. -/
theorem wait_drained (h : Ready s k.lcn) (hp : k.pfx = []) (hd : s.drain k.lcn = some t) (hs : (t.core k.lcn).devStore = none) (hsup : s.sup k.lcn = true)
    (hr : RomOnly s k.lcn) :
    exec (.wait k) s = .next ((if t.nextEvent k.lcn = none then t.modCore k.lcn (fun c => { c with run := .waiting }) else t).retire k.lcn 2 (s.sup k.lcn) .next) := by
  rw [exec_wait, execWait, h.instr_bare hp (.inr hr) rfl (fun _ => hsup)]
  simp only [run_bind, ioDrain_drained hd hs, run_get]
  cases he : t.nextEvent k.lcn with
  | none =>
    simp only [Option.isNone_none, if_true, run_bind, onCore_run, run_pure, settle_ok]
    rfl
  | some e =>
    simp only [Option.isNone_some, Bool.false_eq_true, if_false, run_pure, settle_ok, reduceCtorEq]
    rfl

end

theorem fencesAndWait : Claim.FencesAndWait := by
  intro k s t h hp hd hs
  refine ⟨fence_drained h hp hd hs, isync_next h hp, fun hsup hr he => ?_, fun hsup hr he => ?_⟩
  · rw [wait_drained h hp hd hs hsup hr, if_pos he]
  · rw [wait_drained h hp hd hs hsup hr, if_neg he]

theorem fenceWaits : Claim.FenceWaits := by
  intro k s d h hp hsb hd hw
  rw [exec_fence, execFence, h.instr_bare hp (.inl rfl) rfl (fun hv => by cases hv), run_bind, ioDrain_waits hsb hd hw]
  rfl

/-- Settles O12: what completes once the store buffer has drained, and FENCE while its device store has no response. -/
theorem fencesAndWaits : Obligations.FencesAndWaits := ⟨fencesAndWait, fenceWaits⟩

end Sys2Proof.Machine
end

section
/-! SUPPORT. Invalidation of translations and its messages (R106, R107, R175), which settle O22. -/

namespace Sys2Proof.Machine

/-! Messages leave the cores alone. -/

section
variable (s : State) (a b n : Nat) (m : PoolMsg)

theorem State.send_core : (s.send a b m).core n = s.core n := rfl

theorem State.send_modCore (f : Core → Core) : (s.modCore n f).send a b m = (s.send a b m).modCore n f := rfl

theorem State.takeMsg_cores {s u : State} {st : Nat} {f : PoolMsg → Bool} {m : PoolMsg} (h : s.takeMsg st f = some (m, u)) : u.cores = s.cores := by
  obtain ⟨q, -, hq⟩ := Option.map_eq_some_iff.mp h
  rw [← (Prod.mk.inj hq).2]
  rfl

theorem State.core_congr {s u : State} (h : u.cores = s.cores) (n : Nat) : u.core n = s.core n := by rw [State.core, State.core, h]

end

/-- The TLBI that core n sends to each of some cores (R175). -/
def State.sendTlbi (s : State) (n : Nat) (dests : List Nat) : State := dests.foldl (fun s m => s.send (s.core n).pcn (s.core m).pcn (.tlbi n)) s

theorem State.sendTlbi_cores (s : State) (n : Nat) (dests : List Nat) : (s.sendTlbi n dests).cores = s.cores := by
  induction dests generalizing s with
  | nil => rfl
  | cons m dests ih => exact ih _

/-- What the messages carry does not rest on what an invalidation does to its own core. -/
theorem State.sendTlbi_modCore (s : State) (n : Nat) (dests : List Nat) {f : Core → Core} (hf : ∀ c, (f c).pcn = c.pcn) :
    (s.modCore n f).sendTlbi n dests = (s.sendTlbi n dests).modCore n f := by
  have hpcn : ∀ (s : State) m, ((s.modCore n f).core m).pcn = (s.core m).pcn := by
    intro s m
    by_cases hm : m = n
    · rw [hm]
      exact State.modCore_get Core.pcn (hf _)
    · rw [s.modCore_other n m f hm]
  induction dests generalizing s with
  | nil => rfl
  | cons m dests ih =>
    have hstep : (s.modCore n f).sendTlbi n (m :: dests) =
        ((s.send (s.core n).pcn (s.core m).pcn (.tlbi n)).modCore n f).sendTlbi n dests := by
      rw [← State.send_modCore, ← hpcn s n, ← hpcn s m]
      rfl
    rw [hstep, ih]
    rfl

/-! An instruction that waits for its acknowledgements (R175). -/

/-- A core that waits for acknowledgements stays at its instruction, and switches to no microcode image (R244). -/
theorem State.retire_invalidating {s : State} {n : Nat} {v : Invalidation} (hn : n < s.cores.length) (hd : (s.core n).due = []) (hv : (s.core n).inval = some v)
    (len : Nat) (sup : Bool) :
    s.retire n len sup .stay = s.modCore n fun c => { c with slotFresh := false, retries := 0, ioWait := none, strProgress := false } := by
  have hdone : s.retire n len sup .stay = (s.modCore n fun c => { c with slotFresh := false, retries := 0, ioWait := none, strProgress := false }).switchDue n := by
    unfold State.retire
    rw [if_pos rfl]
    refine congrArg (State.switchDue · n) (State.modCore_congr s n ?_)
    simp [Core.countDue_nil hd, Core.advance, hv]
  have hinval : ((s.modCore n fun c => { c with slotFresh := false, retries := 0, ioWait := none, strProgress := false }).core n).inval = some v := by
    rw [State.modCore_core _ _ _ hn]
    exact hv
  rw [hdone, State.switchDue]
  simp [Core.betweenInstrs, hinval]

/-- A core that has sent its TLBIs: its own entries are gone, and it waits for the acknowledgements. -/
def Core.invalidates (c : Core) (v : InvKind) (dests : List Nat) : Core := { c with tlb := c.tlb.remove v, inval := some { kind := v, toReach := dests, toAck := [] } }

section
variable {k : Insn} {s : State} {code : Byte} {entry i : Nat} {kind : List Word → InvKind} {v : InvKind}

theorem invalidate_sent (h : Ready s k.lcn) (hr : RomOnly s k.lcn) (hp : k.pfx = []) (hsup : s.sup k.lcn = true) (hi : i ≤ (s.core k.lcn).ds.cache.length)
    (hv : kind (s.core k.lcn).ds.cache = v) (ho : s.othersPresent k.lcn ≠ []) :
    ∃ t, invalidate k code entry kind i s = .next t ∧ SameOutside (s.sendTlbi k.lcn (s.othersPresent k.lcn)) t ∧ (∀ m, m ≠ k.lcn → t.core m = s.core m) ∧
      (t.core k.lcn).inval = some { kind := v, toReach := s.othersPresent k.lcn, toAck := [] } ∧ (t.core k.lcn).tlb = (s.core k.lcn).tlb.remove v ∧
      (t.core k.lcn).ds = (s.core k.lcn).ds ∧ (t.core k.lcn).pc = (s.core k.lcn).pc := by
  have hds := h.dsMax
  have hrs := h.rsMax
  have hempty : (s.othersPresent k.lcn).isEmpty = false := by simpa using ho
  generalize hto : s.othersPresent k.lcn = dests at hempty
  have hsend := s.sendTlbi_modCore k.lcn dests (f := (·.invalidates v dests)) fun _ => rfl
  have hcores := s.sendTlbi_cores k.lcn dests
  rw [State.sendTlbi] at hsend
  rw [invalidate, instr_next h (.inr hr) hp (fun _ => rfl) (fun _ => hsup) hi (by omega) (Nat.zero_le _) (by omega)]
  simp only [run_bind, coreOf_run, run_get, hv, hto, onCore_run, hempty, Bool.false_eq_true, if_false, run_modify, run_pure, settle_ok, State.modCore_modCore]
  generalize s.sendTlbi k.lcn dests = u at hsend hcores
  have hn : k.lcn < u.cores.length := hcores ▸ h.lt
  have hcore : (u.modCore k.lcn (·.invalidates v dests)).core k.lcn = (s.core k.lcn).invalidates v dests := by
    rw [u.modCore_core _ _ hn, State.core_congr hcores]
  have hstay := State.retire_invalidating (s := u.modCore k.lcn (·.invalidates v dests)) (by rw [State.modCore_length]; exact hn) (by rw [hcore]; exact h.owes)
    (by rw [hcore]; rfl) 2 (s.sup k.lcn)
  rw [State.modCore_modCore] at hstay
  refine ⟨_, congrArg _ ((congrArg (fun w : State => w.retire k.lcn 2 (s.sup k.lcn) .stay) hsend).trans hstay), .modCore u k.lcn _, fun m hm => ?_, ?_⟩
  · rw [u.modCore_other k.lcn m _ hm, State.core_congr hcores]
  · rw [u.modCore_core _ _ hn, State.core_congr hcores]
    exact ⟨rfl, rfl, rfl, rfl⟩

theorem invalidate_alone {xs : List Word} (h : Ready s k.lcn) (hr : RomOnly s k.lcn) (hp : k.pfx = []) (hsup : s.sup k.lcn = true)
    (hi : i ≤ (s.core k.lcn).ds.cache.length) (hv : kind (s.core k.lcn).ds.cache = v) (hx : (s.core k.lcn).ds.cache.drop i = xs) (ho : s.othersPresent k.lcn = []) :
    invalidate k code entry kind i s = .next (s.after k 2 fun c => { c.withStack xs with tlb := c.tlb.remove v }) := by
  have hds := h.dsMax
  have hrs := h.rsMax
  refine h.instr_after (f := fun c => ({ c with tlb := c.tlb.remove v } : Core).pushes i []) (.inr hr) hp (fun _ => rfl) (fun _ => hsup) hi (by omega) (Nat.zero_le _)
    (by omega) rfl ?_ ?_
  · simp only [run_bind, coreOf_run, run_get, hv, ho, onCore_run, List.isEmpty_nil, if_true, run_pure, State.modCore_modCore]
  · simp [Core.pushes, Core.withStack, hx]

end

theorem invalidations : Claim.Invalidations := by
  intro k s va pid rest h hr hp hsup c others sent issued
  have hfld : fld pid 0 16 = pid.setWidth 16 := (BitVec.setWidth_eq_extractLsb' (by decide)).symm
  refine ⟨fun (hc : (s.core k.lcn).ds.cache = _) => ?_, fun (hc : (s.core k.lcn).ds.cache = _) => ?_, ?_⟩
  · have hi : 2 ≤ (s.core k.lcn).ds.cache.length := by simp [hc]
    refine ⟨fun ho => ?_, fun ho => ?_⟩ <;> rw [exec_invpg, execInvpg]
    · exact invalidate_sent (i := 2) (v := .page va (pid.setWidth 16)) h hr hp hsup hi (by rw [hc, ← hfld]; rfl) ho
    · exact invalidate_alone (i := 2) (v := .page va (pid.setWidth 16)) h hr hp hsup hi (by rw [hc, ← hfld]; rfl) (by simp [hc]) ho
  · have hi : 1 ≤ (s.core k.lcn).ds.cache.length := by simp [hc]
    refine ⟨fun ho => ?_, fun ho => ?_⟩ <;> rw [exec_invtag, execInvtag]
    · exact invalidate_sent (i := 1) (v := .tag (pid.setWidth 16)) h hr hp hsup hi (by rw [hc, ← hfld]; rfl) ho
    · exact invalidate_alone (i := 1) (v := .tag (pid.setWidth 16)) h hr hp hsup hi (by rw [hc, ← hfld]; rfl) (by simp [hc]) ho
  · refine ⟨fun ho => ?_, fun ho => ?_⟩ <;> rw [exec_invall, execInvall]
    · exact invalidate_sent (i := 0) (v := .all) h hr hp hsup (Nat.zero_le _) rfl ho
    · exact invalidate_alone (i := 0) (v := .all) h hr hp hsup (Nat.zero_le _) rfl rfl ho

/-! The messages (R175). -/

section
variable {s u : State} {target issuer sender : Nat} {v : Invalidation} {m : PoolMsg}

theorem tlbi_reaches (ht : target < s.cores.length) (hi : issuer < s.cores.length) (hne : target ≠ issuer) (hv : (s.core issuer).inval = some v)
    (hm : s.takeMsg (s.core target).pcn (· == .tlbi issuer) = some (m, u)) :
    ∃ t, exec (.tlbi target issuer) s = .next t ∧ (t.core target).tlb = (s.core target).tlb.remove v.kind ∧
      (t.core issuer).inval = some { v with toReach := v.toReach.erase target, toAck := target :: v.toAck } ∧
      SameOutside (u.send (s.core target).pcn (s.core issuer).pcn (.tlba target issuer)) t := by
  have hcores := State.takeMsg_cores hm
  have htarget : ((u.modCore target fun c => { c with tlb := c.tlb.remove v.kind }).modCore issuer fun c =>
      { c with inval := some { v with toReach := v.toReach.erase target, toAck := target :: v.toAck } }).core target =
        { s.core target with tlb := (s.core target).tlb.remove v.kind } := by
    rw [State.modCore_other _ _ _ _ hne, State.modCore_core _ _ _ (hcores ▸ ht), State.core_congr hcores]
  have hissuer : ((u.modCore target fun c => { c with tlb := c.tlb.remove v.kind }).modCore issuer fun c =>
      { c with inval := some { v with toReach := v.toReach.erase target, toAck := target :: v.toAck } }).core issuer =
        { s.core issuer with inval := some { v with toReach := v.toReach.erase target, toAck := target :: v.toAck } } := by
    rw [State.modCore_core _ _ _ (by rw [State.modCore_length, hcores]; exact hi), State.modCore_other _ _ _ _ hne.symm, State.core_congr hcores]
  have hexec : exec (.tlbi target issuer) s = .next ((((u.modCore target fun c => { c with tlb := c.tlb.remove v.kind }).modCore issuer fun c =>
      { c with inval := some { v with toReach := v.toReach.erase target, toAck := target :: v.toAck } }).send (s.core target).pcn (s.core issuer).pcn (.tlba target issuer))) := by
    rw [exec_tlbi, execTlbi, hv, hm]
    simp only [htarget, hissuer]
  refine ⟨_, hexec, ?_, ?_, ?_⟩
  · rw [State.send_core, htarget]
  · rw [State.send_core, hissuer]
  · exact (SameOutside.modCore _ target _).trans (.modCore _ issuer _)

theorem tlba_last (hi : issuer < s.cores.length) (hv : (s.core issuer).inval = some v) (hm : s.takeMsg (s.core issuer).pcn (· == .tlba sender issuer) = some (m, u))
    (hreach : v.toReach = []) (hack : v.toAck = [sender]) :
    ∃ t, exec (.tlba sender issuer) s = .next t ∧
      Retired u t issuer 2 { (s.core issuer).withStack ((s.core issuer).ds.cache.drop v.kind.operands) with inval := none } := by
  have hcores := State.takeMsg_cores hm
  have hcore := State.core_congr hcores issuer
  have hexec : exec (.tlba sender issuer) s = .next (u.endInval issuer v.kind) := by
    rw [exec_tlba, execTlba, hm]
    simp [State.ackInval, hcore, hv, hreach, hack]
  rw [← hcore]
  exact ⟨_, hexec, State.modCore_retires _ _ (hcores ▸ hi) (.refl _) rfl rfl rfl⟩

theorem tlba_others {rest : List Nat} (hi : issuer < s.cores.length) (hv : (s.core issuer).inval = some v)
    (hm : s.takeMsg (s.core issuer).pcn (· == .tlba sender issuer) = some (m, u)) (hreach : v.toReach = []) (hack : v.toAck = sender :: rest) (hrest : rest ≠ [])
    (hsender : sender ∉ rest) :
    ∃ t, exec (.tlba sender issuer) s = .next t ∧ (t.core issuer).inval = some { v with toAck := rest } ∧ SameOutside u t := by
  have hcores := State.takeMsg_cores hm
  have hcore := State.core_congr hcores issuer
  have hfilter : v.toAck.filter (· != sender) = rest := by
    rw [hack, List.filter_cons, if_neg (by simp)]
    exact List.filter_eq_self.mpr fun x hx => bne_iff_ne.mpr fun e => hsender (e ▸ hx)
  have hleft : rest.isEmpty = false := by simpa using hrest
  have hexec : exec (.tlba sender issuer) s = .next (u.modCore issuer fun c => { c with inval := some { v with toAck := rest } }) := by
    rw [exec_tlba, execTlba, hm]
    simp only [State.ackInval, hcore, hv, hreach, hfilter, List.filter_nil, List.isEmpty_nil, hleft, Bool.and_false, Bool.false_eq_true, if_false]
  refine ⟨_, hexec, ?_, .modCore u issuer _⟩
  rw [State.modCore_core _ _ _ (hcores ▸ hi)]

end

theorem invalidationMessages : Claim.InvalidationMessages := fun _ _ _ _ _ _ ht hi hne hv =>
  ⟨fun _ _ hm => tlbi_reaches ht hi hne hv hm, fun _ _ hm hreach => ⟨tlba_last hi hv hm hreach, tlba_others hi hv hm hreach⟩⟩

/-- Settles O22: the instructions, then their messages. -/
theorem invalidation : Obligations.Invalidation := ⟨invalidations, invalidationMessages⟩

end Sys2Proof.Machine
end

section
/-! SUPPORT. The channel instructions (R102 to R104, R289, R301 to R303), which settle O25. -/

namespace Sys2Proof.Machine

/-! A byte in memory, whatever the form of the list. -/

section
variable {a b : Nat} {v : Byte}

theorem Mem.read_write_other (h : b ≠ a) : ∀ m : Mem, (m.write a v).read b = m.read b
  | [] => by
    rw [Mem.write]
    split_ifs
    · rfl
    · simp [Mem.read, h]
  | (c, w) :: m => by
    have ih := Mem.read_write_other h m
    rw [Mem.write]
    split_ifs with hlt hv heq hv <;> simp_all [Mem.read]

theorem Mem.read_write_nonzero (h : v ≠ 0) : ∀ m : Mem, (m.write a v).read a = v
  | [] => by
    rw [Mem.write, if_neg h]
    exact if_pos rfl
  | (c, w) :: m => by
    have ih := Mem.read_write_nonzero h m
    rw [Mem.write]
    split_ifs with hlt heq <;> simp_all [Mem.read]

theorem Mem.read_writeN_below : ∀ {a b : Nat} (bs : List Byte) (m : Mem), b < a → (m.writeN a bs).read b = m.read b
  | _, _, [], _, _ => rfl
  | _, _, _ :: bs, m, h => (Mem.read_writeN_below bs _ (Nat.lt_succ_of_lt h)).trans (Mem.read_write_other (Nat.ne_of_lt h) m)

theorem Mem.read_writeN_head (h : v ≠ 0) (bs : List Byte) (m : Mem) : (m.writeN a (v :: bs)).read a = v :=
  (Mem.read_writeN_below bs _ (Nat.lt_succ_self a)).trans (Mem.read_write_nonzero h m)

end

/-! The number that bytes spell, the most significant first (R6). -/

theorem natOf_foldl : ∀ (bs : List Byte) (n : Nat), bs.foldl (fun n b => n * 256 + b.toNat) n = n * 256 ^ bs.length + natOf bs
  | [], n => by simp [natOf]
  | b :: bs, n => by
    rw [natOf, List.foldl_cons, List.foldl_cons, natOf_foldl bs, natOf_foldl bs (0 * 256 + b.toNat), List.length_cons, pow_succ]
    ring

theorem natOf_cons (b : Byte) (bs : List Byte) : natOf (b :: bs) = b.toNat * 256 ^ bs.length + natOf bs := by
  have h := natOf_foldl bs (0 * 256 + b.toNat)
  rw [Nat.zero_mul, Nat.zero_add] at h
  rw [← h, natOf, List.foldl_cons, Nat.zero_mul, Nat.zero_add]

theorem natOf_lt : ∀ bs : List Byte, natOf bs < 256 ^ bs.length
  | [] => Nat.one_pos
  | b :: bs => by
    have hbs := natOf_lt bs
    have hb := b.isLt
    rw [natOf_cons, List.length_cons, pow_succ]
    nlinarith

/-- The first of eight bytes is the highest of their doubleword. -/
theorem wordOf_top (b : Byte) {bs : List Byte} (h : bs.length = 7) : (wordOf (b :: bs)).toNat / 2 ^ 56 = b.toNat := by
  have hbs := natOf_lt bs
  have hb := b.isLt
  rw [wordOf, BitVec.toNat_ofNat, natOf_cons]
  rw [h] at hbs ⊢
  omega

/-! STATE in the table (R289). -/

theorem fld_putFld {n w : Nat} (x : BitVec n) (lo : Nat) (v : BitVec w) (h : lo + w ≤ n) : fld (putFld x lo v) lo w = v := by
  ext i hi
  simp [fld, putFld, hi, show lo + i < n by omega]

/-- Bits 59 to 57 of a doubleword lie in its first byte. -/
theorem fld_state_toNat (w : Word) : (fld w 57 3).toNat = w.toNat / 2 ^ 56 / 2 % 8 := by
  rw [fld, BitVec.extractLsb'_toNat, Nat.shiftRight_eq_div_pow, Nat.div_div_eq_div_mul]
  rfl

section
variable (s : State) (n : Nat)

/-- What the table holds as STATE of a subchannel rests on the first byte of its entry alone. -/
theorem State.sch_state : (s.sch n).state = (s.mem.read (schAddr n)).toNat / 2 % 8 := by
  have hstatus : (s.sch n).status = wordOf (s.mem.read (schAddr n) :: s.mem.readN (schAddr n + 1) 7) := rfl
  rw [SchEntry.state, fld_state_toNat, hstatus, wordOf_top _ rfl]

end

/-- A subchannel's STATE that is not 0, stored in the table. -/
theorem Mem.read_status {st : Nat} (h0 : st ≠ 0) (h8 : st < 8) (m : Mem) (a : Nat) (w : Word) :
    ((m.writeN a (wordBytes (putFld w 57 (BitVec.ofNat 3 st)))).read a).toNat / 2 % 8 = st := by
  have hfld := fld_putFld w 57 (BitVec.ofNat 3 st) (by decide)
  generalize putFld w 57 (BitVec.ofNat 3 st) = v at hfld
  have hst : (BitVec.ofNat 8 (v.toNat / 256 ^ 7)).toNat / 2 % 8 = st := by
    have hv := fld_state_toNat v
    rw [hfld, BitVec.toNat_ofNat] at hv
    have hlt := v.isLt
    rw [BitVec.toNat_ofNat]
    omega
  have hbyte : BitVec.ofNat 8 (v.toNat / 256 ^ 7) ≠ 0 := fun e => h0 (by rw [← hst, e]; rfl)
  rw [wordBytes, bytesOf, Mem.read_writeN_head hbyte, hst]

/-! What a store into the table leaves as it was. -/

/-- Memory, the channel subsystem and the cores' data stacks are as they were. -/
structure SameStacks (s t : State) : Prop where
  mem : t.mem = s.mem
  css : t.css = s.css
  ds : t.cores.map Core.ds = s.cores.map Core.ds

theorem SameStacks.refl (s : State) : SameStacks s s := ⟨rfl, rfl, rfl⟩

theorem SameStacks.trans {s t u : State} (a : SameStacks s t) (b : SameStacks t u) : SameStacks s u :=
  ⟨b.mem.trans a.mem, b.css.trans a.css, b.ds.trans a.ds⟩

theorem map_ds {cs : List Core} {g : Core → Core} (h : ∀ c, (g c).ds = c.ds) : (cs.map g).map Core.ds = cs.map Core.ds := by
  rw [List.map_map]
  exact List.map_congr_left fun c _ => h c

theorem loseResv_ds (c : Core) (line : Nat) : (loseResv c line).ds = c.ds := by
  unfold loseResv
  split
  · split_ifs <;> rfl
  · rfl

/-- An agent's copy that ends with its data returned leaves the coherent value. -/
theorem State.dropCopy_stacks (s : State) (agent line : Nat) : SameStacks s (s.dropCopy agent line true) := by
  unfold State.dropCopy
  generalize (s.agentState agent line == some .m) = dirty
  have hcores : (s.cores.map fun c => if c.pcn == agent then c.dropL1 line else c).map Core.ds = s.cores.map Core.ds :=
    map_ds fun c => by split_ifs <;> rfl
  cases dirty with
  | false => exact ⟨rfl, rfl, hcores⟩
  | true => exact ⟨rfl, rfl, hcores⟩

theorem State.dropOthers_stacks (s : State) (line : Nat) : SameStacks s (s.dropOthers line none) := by
  unfold State.dropOthers
  generalize ((s.dirEntry line).map DirEntry.pv).getD [] = pv
  induction pv generalizing s with
  | nil => exact .refl s
  | cons a pv ih => exact (s.dropCopy_stacks a line).trans (ih _)

theorem State.putBytes_css (own : Bool) : ∀ (s : State) (a : Nat) (bs : List Byte), (s.putBytes a own bs).css = s.css
  | _, _, [] => rfl
  | s, a, b :: bs => (s.putByte a b own).putBytes_css own (a + 1) bs

/-- A CP's store into the window (R290): its bytes are in memory, and the channel subsystem and the cores' data stacks are as they were. -/
theorem State.tableStore_stacks (s : State) (a : Nat) (v : Word) :
    SameStacks { s with mem := s.mem.writeN a (wordBytes v) } (s.tableStore a v) := by
  have hdrop := s.dropOthers_stacks (lineOf a)
  unfold State.tableStore
  dsimp only
  generalize s.dropOthers (lineOf a) none = u at hdrop
  refine ⟨?_, ?_, ?_⟩
  · exact (u.putBytes_mem false a _).trans (congrArg (Mem.writeN · a (wordBytes v)) hdrop.mem)
  · exact (u.putBytes_css false a _).trans hdrop.css
  · refine (map_ds fun c => ?_).trans ((congrArg (List.map Core.ds) (u.putBytes_cores false a _)).trans hdrop.ds)
    split_ifs
    · exact loseResv_ds c _
    · rfl

/-! What a channel instruction meets at the channel subsystem (R104, R301 to R303). -/

section
variable {s : State} {sch a : Nat} {p : Word}

theorem State.startio_down (h : (s.sch sch).state = 4) : s.startio sch p a = (3, s) := by rw [State.startio, stDown, if_pos h]

theorem State.startio_busy (h : (s.sch sch).state ≠ 0) (hd : (s.sch sch).state ≠ 4) : s.startio sch p a = (1, s) := by
  rw [State.startio, stDown, stIdle, if_neg hd, if_pos h, ite_self]

theorem State.startio_full (h : (s.sch sch).state = 0) (hr : (s.slice (s.sch sch).slice).st = .running) (hf : 65536 ≤ s.css.ops.length) :
    s.startio sch p a = (2, s) := by
  rw [State.startio, stDown, stIdle, opMax, if_neg (by omega), if_neg (not_not.mpr hr), if_neg (not_not.mpr h), if_pos hf]

theorem State.startio_taken (h : (s.sch sch).state = 0) (hr : (s.slice (s.sch sch).slice).st = .running) (hf : s.css.ops.length < 65536) :
    s.startio sch p a = (0, s.startOp sch p a) := by
  rw [State.startio, stDown, stIdle, opMax, if_neg (by omega), if_neg (not_not.mpr hr), if_neg (not_not.mpr h), if_neg (Nat.not_le.mpr hf)]

/-- The operation that STARTIO begins (R301). -/
def State.newOp (s : State) (sch : Nat) (parm : Word) (ccw : Nat) : Operation :=
  newOperation s.css.nextOp sch (s.sch sch).slice (4 * (s.sch sch).slice + (s.sch sch).cq) parm ccw

/-- The channel subsystem once it has begun an operation (R301). -/
def State.addOp (s : State) (sch : Nat) (parm : Word) (ccw : Nat) : State :=
  s.modCss fun c => { c with ops := c.ops ++ [s.newOp sch parm ccw], nextOp := c.nextOp + 1, peak := max c.peak (c.ops.length + 1) }

theorem State.startOp_eq (s : State) (sch : Nat) (p : Word) (a : Nat) : s.startOp sch p a =
    (s.addOp sch p a).tableStore (schAddr sch) (putFld (s.sch sch).status 57 (BitVec.ofNat 3 1)) := rfl

/-- STARTIO accepted: the operation is the last of the channel subsystem, and the subchannel is ACTIVE. -/
theorem State.startOp_effects (s : State) (sch : Nat) (p : Word) (a : Nat) :
    (s.startOp sch p a).css.ops = s.css.ops ++ [s.newOp sch p a] ∧ ((s.startOp sch p a).sch sch).state = 1 ∧
      (s.startOp sch p a).cores.map Core.ds = s.cores.map Core.ds := by
  have hstore := (s.addOp sch p a).tableStore_stacks (schAddr sch) (putFld (s.sch sch).status 57 (BitVec.ofNat 3 1))
  rw [State.startOp_eq]
  refine ⟨congrArg Css.ops hstore.css, ?_, hstore.ds⟩
  rw [State.sch_state, hstore.mem]
  exact Mem.read_status (by decide) (by decide) s.mem (schAddr sch) (s.sch sch).status

end

/-! The checks (R103). -/

section
variable {s : State} {n sch : Nat}

theorem SchOpen.toNat (h : SchOpen s n sch) : (BitVec.ofNat 64 sch).toNat = sch := by
  have hrange := h.range
  rw [BitVec.toNat_ofNat]
  omega

theorem SchOpen.checkSch (h : SchOpen s n sch) : s.checkSch (s.core n) (BitVec.ofNat 64 sch) = .ok sch := by
  rw [State.checkSch, h.toNat, if_neg (Nat.not_le.mpr h.range), h.slice]
  simp only [h.valid, Bool.not_true, Bool.false_eq_true, if_false, ne_eq, not_true]

/-- Nothing is left to end or to wait for (R99, R202). -/
theorem SchOpen.endHold (h : SchOpen s n sch) : s.endHold n = s := State.modCore_self (by rw [← h.held])

end

section
variable {k : Insn} {s t : State} {sch : Nat} {x : Word} {rest : List Word}

theorem Ready.instr_haltio {body : Run Retire} (h : Ready s k.lcn) (hr : RomOnly s k.lcn) (hp : k.pfx = []) (hc : (s.core k.lcn).ds.cache = x :: rest) :
    instr k { op [0xA7] 1 with entry := some 0x1100 } 1 1 0 0 body s = settle s k.lcn 1 (s.sup k.lcn) (body s) := by
  have hds := h.dsMax
  have hrs := h.rsMax
  exact instr_next h (.inr hr) hp (fun _ => rfl) (fun hv => by cases hv) (by simp [hc]) (by omega) (Nat.zero_le _) (by omega)

theorem haltio_absent (h : Ready s k.lcn) (hr : RomOnly s k.lcn) (hp : k.pfx = []) (hc : (s.core k.lcn).ds.cache = x :: rest)
    (hx : s.checkSch (s.core k.lcn) x = .absent) : exec (.haltio k) s = .next (s.after k 1 fun c => c.withStack (3 :: rest)) := by
  have htop : t0 (s.core k.lcn).ds.cache = x := by rw [hc]; rfl
  have hds := h.dsMax
  have hrs := h.rsMax
  rw [exec_haltio, execHaltio]
  refine h.instr_after (f := fun c => c.pushes 1 [cc3]) (.inr hr) hp (fun _ => rfl) (fun hv => by cases hv) (by simp [hc]) (by omega) (Nat.zero_le _) (by omega) rfl ?_ ?_
  · simp only [run_bind, coreOf_run, run_get, htop, hx, onCore_run, run_pure]
  · simp [Core.pushes, Core.withStack, hc, cc3]

theorem haltio_denied (h : Ready s k.lcn) (hr : RomOnly s k.lcn) (hp : k.pfx = []) (hc : (s.core k.lcn).ds.cache = x :: rest)
    (hx : s.checkSch (s.core k.lcn) x = .denied) :
    exec (.haltio k) s = s.raises k.lcn { Exc.plain 21 4 (s.core k.lcn).pc with cause := 4, info := x } := by
  have htop : t0 (s.core k.lcn).ds.cache = x := by rw [hc]; rfl
  rw [exec_haltio, execHaltio, h.instr_haltio hr hp hc]
  simp only [run_bind, coreOf_run, run_get, htop, hx, ioProtection, throwExc_run, h.settle_exc]
  rfl

/-- HALTIO past its checks is what it meets at the channel subsystem. -/
theorem haltio_next {cc : Nat} (h : Ready s k.lcn) (hr : RomOnly s k.lcn) (hp : k.pfx = []) (hc : (s.core k.lcn).ds.cache = BitVec.ofNat 64 sch :: rest)
    (ho : SchOpen s k.lcn sch) (hh : s.haltio sch = some (cc, t)) :
    exec (.haltio k) s = .next ((t.modCore k.lcn fun c => c.pushes 1 [BitVec.ofNat 64 cc]).retire k.lcn 1 (s.sup k.lcn) .next) := by
  have htop : t0 (s.core k.lcn).ds.cache = BitVec.ofNat 64 sch := by rw [hc]; rfl
  rw [exec_haltio, execHaltio, h.instr_haltio hr hp hc]
  simp only [run_bind, coreOf_run, run_get, htop, ho.checkSch, run_modify, ho.endHold, ioDrain_idle ho.drained ho.answered, hh, run_set, onCore_run, run_pure, settle_ok]

/-- HALTIO that leaves the channel subsystem as it is. -/
theorem haltio_stays {cc : Nat} (h : Ready s k.lcn) (hr : RomOnly s k.lcn) (hp : k.pfx = []) (hc : (s.core k.lcn).ds.cache = BitVec.ofNat 64 sch :: rest)
    (ho : SchOpen s k.lcn sch) (hh : s.haltio sch = some (cc, s)) :
    exec (.haltio k) s = .next (s.after k 1 fun c => c.withStack ([BitVec.ofNat 64 cc] ++ rest)) := by
  rw [haltio_next h hr hp hc ho hh, State.after, hp]
  exact congrArg (fun u : State => Host.Outcome.next (u.retire k.lcn 1 (s.sup k.lcn) .next)) (State.modCore_congr s k.lcn (by simp [Core.pushes, Core.withStack, hc]))

theorem testio_next (h : Ready s k.lcn) (hr : RomOnly s k.lcn) (hp : k.pfx = []) (hc : (s.core k.lcn).ds.cache = BitVec.ofNat 64 sch :: rest)
    (ho : SchOpen s k.lcn sch) (hroom : rest.length ≤ 30) :
    exec (.testio k) s = .next (s.after k 1 fun c => c.withStack ([BitVec.ofNat 64 (s.testio sch).2, (s.testio sch).1] ++ rest)) := by
  have htop : t0 (s.core k.lcn).ds.cache = BitVec.ofNat 64 sch := by rw [hc]; rfl
  have hrs := h.rsMax
  rw [exec_testio, execTestio]
  refine h.instr_after (f := fun c => c.pushes 1 [BitVec.ofNat 64 (s.testio sch).2, (s.testio sch).1]) (.inr hr) hp (fun _ => rfl) (fun hv => by cases hv) (by simp [hc])
    (by simp [hc]; omega) (Nat.zero_le _) (by omega) rfl ?_ ?_
  · simp only [run_bind, coreOf_run, run_get, htop, ho.checkSch, run_modify, ho.endHold, ioDrain_idle ho.drained ho.answered, onCore_run, run_pure]
  · simp [Core.pushes, Core.withStack, hc]

/-- STARTIO past its checks is what it meets at the channel subsystem; its translation left the TLBs in another order. -/
theorem startio_next {ccwa parm : Word} {tl : TlbEntry} (h : Ready s k.lcn) (hr : RomOnly s k.lcn) (hp : k.pfx = [])
    (hc : (s.core k.lcn).ds.cache = BitVec.ofNat 64 sch :: ccwa :: parm :: rest) (ho : SchOpen s k.lcn sch) (ha : ccwa.toNat % 32 = 0)
    (hm : Mapped s k.lcn ccwa 8 (dataAcc (s.core k.lcn) false false) tl) :
    ∃ b, ∀ cc t, (s.modCore k.lcn (·.accessed b)).startio sch parm (tl.addr ccwa.toNat) = (cc, t) →
      exec (.startio k) s = .next ((t.modCore k.lcn fun c => c.pushes 3 [BitVec.ofNat 64 cc]).retire k.lcn 1 (s.sup k.lcn) .next) := by
  have hds := h.dsMax
  have hrs := h.rsMax
  have htop : t0 (s.core k.lcn).ds.cache = BitVec.ofNat 64 sch ∧ t1 (s.core k.lcn).ds.cache = ccwa ∧ t2 (s.core k.lcn).ds.cache = parm := by
    rw [hc]
    exact ⟨rfl, rfl, rfl⟩
  have hhead : ((List.range 8).map (tl.addr ccwa.toNat + ·)).headD 0 = tl.addr ccwa.toNat := rfl
  obtain ⟨b, hb⟩ := addresses_mapped hm
  have hidle : ioDrain k.lcn [0xA6] (s.modCore k.lcn (·.accessed b)) = .ok () (s.modCore k.lcn (·.accessed b)) :=
    ioDrain_idle ((State.modCore_get Core.sb rfl).trans ho.drained) ((State.modCore_get Core.devStore rfl).trans ho.answered)
  refine ⟨b, fun cc t hs => ?_⟩
  rw [exec_startio, execStartio, instr_next h (.inr hr) hp (fun _ => rfl) (fun hv => by cases hv) (by simp [hc]) (by omega) (Nat.zero_le _) (by omega)]
  simp only [run_bind, coreOf_run, run_get, htop, ho.checkSch, ccwAddress, hb, ha, ne_eq, not_true, if_false, run_pure, hhead, run_modify, State.accessed_endHold, hidle,
    hs, run_set, onCore_run, settle_ok]
  rfl

end

theorem channelChecks : Claim.ChannelChecks := by
  intro k s x rest h hr hp hc c none3 denied
  refine ⟨fun hx => haltio_absent h hr hp hc ?_, fun hx hj => haltio_denied h hr hp hc ?_, fun j hx hj hv => haltio_absent h hr hp hc ?_,
    fun j hx hj hv hne => haltio_denied h hr hp hc ?_⟩
  · rw [State.checkSch, if_pos hx]
  all_goals rw [State.checkSch, if_neg (Nat.not_le.mpr hx), hj]
  · simp only [hv, Bool.not_false, if_true]
  · simp only [hv, Bool.not_true, Bool.false_eq_true, if_false, hne, ne_eq, not_false_eq_true, if_true]

section
variable {s : State} {sch : Nat} {o : Operation}

/-- The condition code of HALTIO where no operation is running (R104). -/
theorem State.haltio_quiet {cc : Nat} (h : ((s.sch sch).state, cc) ∈ [(0, 2), (2, 0), (4, 3)]) : s.haltio sch = some (cc, s) := by
  simp only [List.mem_cons, Prod.mk.injEq, List.not_mem_nil, or_false] at h
  obtain ⟨he, rfl⟩ | ⟨he, rfl⟩ | ⟨he, rfl⟩ := h <;> simp [State.haltio, he, stDown, stIdle, stHalting]

theorem State.haltio_op (h : (s.sch sch).state = 1 ∨ (s.sch sch).state = 3) (ho : s.opOfSch sch = some o) :
    s.haltio sch = if o.pastHalt then some (1, s) else (s.haltOp o).map fun s => (0, s) := by
  rw [State.haltio, stDown, stIdle, stHalting, if_neg (by omega), if_neg (by omega), if_neg (by omega), ho]

theorem State.testio_down (h : (s.sch sch).state = 4) : s.testio sch = (0, 3) := by rw [State.testio, stDown, if_pos h]

theorem State.testio_up (h : (s.sch sch).state ≠ 4) : s.testio sch = ((s.sch sch).status, if (s.sch sch).state = 0 then 0 else 1) := by
  rw [State.testio, stDown, stIdle, if_neg h]

end

theorem haltIoAndTestIo : Claim.HaltIoAndTestIo := by
  intro k s sch rest h hr hp hc ho e gives
  refine ⟨fun he => ?_, fun he => ?_, fun he => ?_, fun o he hop hpast => ?_, fun o t he hop hpast ht => ?_, fun hroom => ⟨fun he => ?_, fun he => ?_, fun he hd => ?_⟩⟩
  · exact haltio_stays h hr hp hc ho (State.haltio_quiet (by rw [he]; simp))
  · exact haltio_stays h hr hp hc ho (State.haltio_quiet (by rw [he]; simp))
  · exact haltio_stays h hr hp hc ho (State.haltio_quiet (by rw [he]; simp))
  · exact haltio_stays (cc := 1) h hr hp hc ho (by rw [State.haltio_op he hop, if_pos hpast])
  · exact haltio_next (cc := 0) h hr hp hc ho (by rw [State.haltio_op (.inl he) hop, hpast, ht]; rfl)
  · have hnext := testio_next h hr hp hc ho hroom
    rwa [State.testio_up (ne_of_eq_of_ne he (by decide)), if_pos he] at hnext
  · have hnext := testio_next h hr hp hc ho hroom
    rwa [State.testio_down he] at hnext
  · have hnext := testio_next h hr hp hc ho hroom
    rwa [State.testio_up hd, if_neg he] at hnext

section
variable {k : Insn} {s t v : State} {n : Nat} {x y z : Word} {rest : List Word} {b : Tlbs}

/-- A condition code that starts nothing replaces the three operands. -/
theorem startio_stays (cc : Word) (hn : n < s.cores.length) (hc : (s.core n).ds.cache = x :: y :: z :: rest) :
    Retired s (((s.modCore n (·.accessed b)).modCore n fun c => c.pushes 3 [cc]).retire n 1 (s.sup n) .next) n 1 ((s.core n).withStack (cc :: rest)) := by
  rw [State.modCore_modCore]
  refine State.modCore_retires _ _ hn ?_ rfl rfl rfl
  rw [Core.pushes, show ((s.core n).accessed b).ds.cache = x :: y :: z :: rest from hc]
  constructor <;> rfl

/-- The data stack of each core rests on its own entry of the table of cores. -/
theorem State.core_ds (h : t.cores.map Core.ds = s.cores.map Core.ds) (n : Nat) : (t.core n).ds = (s.core n).ds := by
  have hget : ∀ u : State, (u.core n).ds = (u.cores.map Core.ds).getD n Core.absent.ds := fun u => by
    rw [State.core, List.getD_eq_getElem?_getD, List.getD_eq_getElem?_getD, List.getElem?_map]
    cases u.cores[n]? <;> rfl
  rw [hget, hget, h]

/-- Condition code 0 above the rest of the stack, after a start that left the cores' data stacks as they were. -/
theorem startio_started (hn : n < s.cores.length) (hc : (s.core n).ds.cache = x :: y :: z :: rest)
    (hv : v.cores.map Core.ds = (s.modCore n (·.accessed b)).cores.map Core.ds) :
    ∃ t, t = (v.modCore n fun c => c.pushes 3 [0]).retire n 1 (s.sup n) .next ∧ (t.core n).ds.cache = 0 :: rest ∧ t.css = v.css ∧ t.mem = v.mem := by
  have hlen : n < v.cores.length := by
    have hl := congrArg List.length hv
    rw [List.length_map, List.length_map, State.modCore_length] at hl
    omega
  have hds : (v.core n).ds = (s.core n).ds := (State.core_ds hv n).trans (State.modCore_get Core.ds rfl)
  obtain ⟨hmem, hcss, -, u, w, hu, hw⟩ := (State.modCore_retires (f := fun c => c.pushes 3 [0]) 1 (s.sup n) hlen (.refl _) rfl rfl rfl).frame
  refine ⟨_, rfl, ?_, hcss, hmem⟩
  rw [hw, hu.core.ds]
  simp [Core.pushes, hds, hc]

end

theorem startIo : Claim.StartIo := by
  intro k s ccwa parm sch rest tl h hr hp hc ho ha hm e
  obtain ⟨b, hb⟩ := startio_next h hr hp hc ho ha hm
  generalize hw : s.modCore k.lcn (·.accessed b) = w at hb
  have hsch : w.sch sch = s.sch sch := by rw [← hw]; rfl
  have hslice : ∀ j, w.slice j = s.slice j := fun j => by rw [← hw]; rfl
  have hcss : w.css = s.css := by rw [← hw]; rfl
  have hstays := fun cc => startio_stays (b := b) cc h.lt hc
  rw [hw] at hstays
  refine ⟨fun he hrun hroom => ?_, fun he hrun hfull => ?_, fun he hd => ?_, fun he => ?_⟩
  · obtain ⟨hops, hstate, hds⟩ := w.startOp_effects sch parm (tl.addr ccwa.toNat)
    obtain ⟨t, ht, hstack, htcss, htmem⟩ := startio_started (v := w.startOp sch parm (tl.addr ccwa.toNat)) (b := b) h.lt hc (by rw [hw]; exact hds)
    refine ⟨t, w.newOp sch parm (tl.addr ccwa.toNat), ?_, hstack, ?_, rfl, rfl, rfl, ?_, ?_, rfl, ?_⟩
    · rw [ht]
      exact hb 0 _ (State.startio_taken (by rw [hsch]; exact he) (by rw [hslice, hsch]; exact hrun) (by rw [hcss]; exact hroom))
    · rw [htcss, hops, hcss]
    · exact congrArg SchEntry.slice hsch
    · exact congrArg (fun e : SchEntry => 4 * e.slice + e.cq) hsch
    · rw [State.sch_state, htmem, ← State.sch_state, hstate]
  · exact ⟨_, hb 2 w (State.startio_full (by rw [hsch]; exact he) (by rw [hslice, hsch]; exact hrun) (by rw [hcss]; exact hfull)), hstays 2⟩
  · exact ⟨_, hb 1 w (State.startio_busy (by rw [hsch]; exact he) (by rw [hsch]; exact hd)), hstays 1⟩
  · exact ⟨_, hb 3 w (State.startio_down (by rw [hsch]; exact he)), hstays 3⟩

/-- Settles O25: STARTIO, then HALTIO and TESTIO, then the checks that come first. -/
theorem channelInstructions : Obligations.ChannelInstructions := ⟨startIo, haltIoAndTestIo, channelChecks⟩

end Sys2Proof.Machine
end

section
/-! SUPPORT. The answers of units and what is lost of them (R99, R100, R144, R195), and the performance of buffered stores (R180, R186), which settle O26. -/

namespace Sys2Proof.Machine

/-! The answer of a unit (R99). -/

section
variable {s : State} {n : Nat} {a : PortAccess} {q : Port}

theorem State.unitAnswers_eq (hq : portAt a.port.toNat = some q) : s.unitAnswers a.port = s.portAnswers q := by rw [State.unitAnswers, hq]

theorem State.writeAt_eq {v : Word} (hq : portAt a.port.toNat = some q) : s.writeAt n a.port v = s.portWrite n q v := by rw [State.writeAt, hq]

theorem State.readAt_eq (hq : portAt a.port.toNat = some q) : s.readAt n a.port = s.portRead n q := by rw [State.readAt, hq]

/-- A device store acts at its response, and is then outstanding no longer. -/
theorem deviceResponse_store {t : State} (hr : (s.core n).devRead = none) (hd : (s.core n).devStore = some a) (hq : portAt a.port.toNat = some q)
    (ha : s.portAnswers q = true) (ho : s.overdue a = false) (hw : s.portWrite n q a.value = some t) :
    exec (.deviceResponse n) s = .next (t.modCore n fun c => { c with devStore := none }) := by
  have hsettle : s.settleStore n = some (t.modCore n fun c => { c with devStore := none }) := by
    rw [State.settleStore, hd]
    simp only [State.unitAnswers_eq hq, ha, ho, Bool.not_false, Bool.and_self, if_true, State.answerStore, State.writeAt_eq hq, hw, Option.map_some]
  rw [exec_deviceResponse, execDeviceResponse, hr]
  simp only [hsettle, orSame]

/-- The value of an outstanding read replaces the port address, and the read is outstanding no longer. -/
theorem State.finishRead_retires {p v : Word} {rest : List Word} (hn : n < s.cores.length) (hc : (s.core n).ds.cache = p :: rest) :
    Retired s (s.finishRead n v) n 1 { (s.core n).withStack (v :: rest) with devRead := none } := by
  rw [State.finishRead]
  refine State.modCore_retires _ _ hn ?_ rfl rfl rfl
  rw [Core.pushes, hc]
  exact .refl _

theorem deviceResponse_read {p : Word} {rest : List Word} (hr : (s.core n).devRead = some a) (hq : portAt a.port.toNat = some q) (ha : s.portAnswers q = true)
    (ho : s.overdue a = false) (hn : n < (s.portRead n q).2.cores.length) (hc : ((s.portRead n q).2.core n).ds.cache = p :: rest) :
    ∃ t, exec (.deviceResponse n) s = .next t ∧ (t.core n).devRead = none ∧ (t.core n).ds.cache = (s.portRead n q).1 :: rest := by
  have hexec : exec (.deviceResponse n) s = .next ((s.portRead n q).2.finishRead n (s.portRead n q).1) := by
    rw [exec_deviceResponse, execDeviceResponse, hr]
    simp only [State.unitAnswers_eq hq, ha, ho, Bool.not_false, Bool.and_self, if_true, State.readAt_eq hq]
  obtain ⟨-, -, -, u, v, hu, hv⟩ := (State.finishRead_retires (v := (s.portRead n q).1) hn hc).frame
  refine ⟨_, hexec, ?_, ?_⟩
  · rw [hv]
    exact hu.core.devRead
  · rw [hv]
    exact congrArg StackRegs.cache hu.core.ds

end

/-! Accesses that are lost (R100, R144, R194, R195). -/

section
variable {s u : State} {n : Nat} {a : PortAccess}

/-- Four beats after its issue the time of an access has come: no more than the reference cycles of the beat move. -/
theorem State.expire_due (h : 4 ≤ (s.beatc - a.issued).toNat) : ∃ u, s.expire a = some u ∧ SameOutside { s with plant := u.plant } u ∧ u.cores = s.cores := by
  rw [State.expire, State.since]
  by_cases h5 : 5 ≤ (s.beatc - a.issued).toNat
  · rw [if_pos h5]
    exact ⟨s, rfl, .refl s, rfl⟩
  · rw [if_neg h5, if_pos (by omega)]
    exact ⟨_, rfl, .refl _, rfl⟩

theorem State.expire_weir (h : s.expire a = some u) : u.weir = s.weir := by
  unfold State.expire at h
  split_ifs at h
  · rw [Option.some.inj h]
  · rw [← Option.some.inj h]

theorem deviceStoreLost_next (hd : (s.core n).devStore = some a) (hu : s.expire a = some u) :
    ∃ w, exec (.deviceStoreLost n) s = .next (w.loseStore n a) ∧ (w = u.takeFree.2 ∨ u.takeFree.2.writeAt n a.port a.value = some w) := by
  have hexec : exec (.deviceStoreLost n) s =
      .next ((if bitAt u.takeFree.1 0 then (u.takeFree.2.writeAt n a.port a.value).getD u.takeFree.2 else u.takeFree.2).loseStore n a) := by
    rw [exec_deviceStoreLost, execDeviceStoreLost, hd]
    simp only [hu]
  refine ⟨_, hexec, ?_⟩
  by_cases hb : bitAt u.takeFree.1 0 = true
  · rw [if_pos hb]
    cases hw : u.takeFree.2.writeAt n a.port a.value with
    | none => exact .inl rfl
    | some w => exact .inr rfl
  · rw [if_neg hb]
    exact .inl rfl

/-- A report of a core is the last of those on their way to Weir (R402, R403). -/
theorem State.reportCore_inFlight (s : State) (n k : Nat) (cls : FaultClass) (d : Word32) (addr : Word) :
    ∃ r, (s.reportCore n k cls (some d) addr).weir.inFlight = s.weir.inFlight ++ [r] ∧ r.src = 16 * (s.core n).pcn + k ∧ r.cls = cls ∧ r.detail = d ∧ r.addr = addr :=
  ⟨_, rfl, rfl, rfl, rfl, rfl⟩

theorem State.loseStore_effects (hn : n < s.cores.length) :
    ((s.loseStore n a).core n).devStore = none ∧
      ((s.loseStore n a).core n).dsl = some (match (s.core n).dsl with | some d => { d with more := true } | none => { port := a.port, more := false }) ∧
      ∃ r, (s.loseStore n a).weir.inFlight = s.weir.inFlight ++ [r] ∧ r.src = 16 * (s.core n).pcn + 12 ∧ r.cls = .corrected ∧ r.detail = 0 ∧
        r.addr = a.port.setWidth 64 := by
  have hcores := s.reportCore_cores n 12 .corrected (some 0) (zext a.port)
  have hcore : (s.reportCore n 12 .corrected (some 0) (zext a.port)).core n = s.core n := State.core_congr hcores n
  refine ⟨?_, ?_, s.reportCore_inFlight n 12 .corrected 0 (zext a.port)⟩
  · rw [State.loseStore, State.modCore_core _ _ _ (hcores ▸ hn)]
  · rw [State.loseStore, State.modCore_core _ _ _ (hcores ▸ hn), hcore]
    cases (s.core n).dsl <;> rfl

/-- A lost read pushes all ones and is recorded, and its core goes on. -/
theorem lostRead_next {p : Word} {rest : List Word} (hn : n < s.cores.length) (hr : (s.core n).devRead = some a) (hw : a.wide = true)
    (hdelay : (s.core n).delay = false) (h4 : 4 ≤ (s.beatc - a.issued).toNat) (hc : (s.core n).ds.cache = p :: rest) :
    ∃ t r, exec (.lostRead n) s = .next t ∧ (t.core n).devRead = none ∧ (t.core n).ds.cache = BitVec.allOnes 64 :: rest ∧ (t.core n).pc = (s.core n).pc + 1 ∧
      t.weir.inFlight = s.weir.inFlight ++ [r] ∧ r.src = 16 * (s.core n).pcn + 12 ∧ r.cls = .recoverable ∧ r.detail = 1 ∧ r.addr = a.port.setWidth 64 := by
  obtain ⟨u, hu, -, hucores⟩ := State.expire_due h4
  have hcores := (u.reportCore_cores n 12 .recoverable (some 1) (zext a.port)).trans hucores
  have hcore := State.core_congr hcores n
  obtain ⟨r, hr', hsrc, hcls, hdetail, haddr⟩ := u.reportCore_inFlight n 12 .recoverable 1 (zext a.port)
  have hexec : exec (.lostRead n) s = .next ((u.reportCore n 12 .recoverable (some 1) (zext a.port)).finishRead n (BitVec.allOnes 64)) := by
    rw [exec_lostRead, execLostRead, hr]
    simp only [hu, hw, if_true]
  obtain ⟨-, -, hweir, v, x, hv, hx⟩ := (State.finishRead_retires (v := BitVec.allOnes 64) (hcores ▸ hn) (hcore ▸ hc)).frame
  refine ⟨_, r, hexec, ?_, ?_, ?_, ?_, ?_, hcls, hdetail, haddr⟩
  · rw [hx]
    exact hv.core.devRead
  · rw [hx]
    exact congrArg StackRegs.cache hv.core.ds
  · rw [hx]
    refine hv.pc.trans ?_
    rw [hcore]
    exact if_neg (by rw [Core.withStack, hdelay]; decide)
  · rw [hweir, hr', State.expire_weir hu]
  · rw [hsrc, State.core_congr hucores]

end

theorem portAnswers : Claim.PortAnswers := by
  intro s n a p rest hn c
  exact ⟨fun q t hr hd hq ha ho hw => deviceResponse_store hr hd hq ha ho hw, fun q hr hq ha ho hlen hc => deviceResponse_read hr hq ha ho hlen hc, State.expire_due,
    fun u hd hu => deviceStoreLost_next hd hu, State.loseStore_effects hn, fun hr hw hdelay h4 hc => lostRead_next hn hr hw hdelay h4 hc⟩

/-! A buffered store (R180, R181, R186). -/

/-- An entry that overlaps no older one may leave the buffer, a REL entry only as the oldest. -/
theorem mayPerform_clear {older : List StoreEntry} {e : StoreEntry}
    (h : ∀ o ∈ older, o.addr + o.bytes.length ≤ e.addr ∨ e.addr + e.bytes.length ≤ o.addr) (hrel : e.rel = true → older = []) : mayPerform older e = true := by
  have hany : older.any (fun o => o.overlaps e) = false := by
    rw [List.any_eq_false]
    intro o ho
    have := h o ho
    simp only [StoreEntry.overlaps, Bool.and_eq_true, decide_eq_true_eq]
    omega
  cases hr : e.rel with
  | false => simp [mayPerform, hany, hr]
  | true => simp [mayPerform, hr, hrel hr]

/-- A core whose reservation is on the granule loses it. -/
theorem loseResv_granule {c : Core} {line : Nat} (h : c.resv.map Reservation.granule = some line) : (loseResv c line).resv = none := by
  obtain ⟨r, hr, hg⟩ := Option.map_eq_some_iff.mp h
  simp only [loseResv, hr, hg, if_true]

theorem storePerformed : Claim.StorePerformed := by
  intro s n i e hn hsafe hwf he hclear hrel hk hg hw ho _
  have hmay : mayPerform ((s.core n).sb.take i) e = true := mayPerform_clear hclear fun hr => by rw [hrel hr, List.take_zero]
  obtain ⟨u, hu, hmem, hcores⟩ := State.performStore_owned (bs := e.bytes) hw hk hg ho.held
  have hlen : n < u.cores.length := by rw [hcores, List.length_map]; exact hn
  have hexec : exec (.storePerformed n i) s = .next (u.modCore n fun c => { c with sb := c.sb.eraseIdx i }) := by
    rw [exec_storePerformed, execStorePerformed, he]
    simp only [hsafe, hmay, Bool.not_true, Bool.or_self, Bool.false_eq_true, if_false, hu]
  refine ⟨_, hexec, ?_, fun j hj => ?_, fun b hb => ?_, fun m c hm hc hpcn hresv => ?_⟩
  · rw [State.modCore_core _ _ _ hlen, State.core_performed hn hcores]
  · rw [State.modCore_mem, hmem, Mem.read_writeN hwf hj, List.getD_eq_getElem _ _ hj]
  · rw [State.modCore_mem, hmem, Mem.read_writeN_other hwf hb]
  · have hml : m < s.cores.length := by
      by_contra hml
      rw [hc, State.core, List.getD_eq_default _ _ (Nat.not_lt.mp hml)] at hresv
      cases hresv
    rw [State.modCore_other _ _ _ _ hm, State.core_map hcores hml, ← hc, if_pos (bne_iff_ne.mpr hpcn), loseResv_granule hresv]

/-- Settles O26: the answers of units, and what is lost of them, then the stores of the buffer. -/
theorem answersAndPerformedStores : Obligations.AnswersAndPerformedStores := ⟨portAnswers, storePerformed⟩

end Sys2Proof.Machine
end

section
/-! SUPPORT. Packed-decimal instructions (R118 to R122), which settle O21. -/

namespace Sys2Proof.Machine

/-! Nibbles and their digits (R118, R119). -/

theorem nibble_zero (x : Nat) : nibble x 0 = x % 16 := by rw [nibble, Nat.pow_zero, Nat.div_one]

theorem nibble_succ (x i : Nat) : nibble x (i + 1) = nibble (x / 16) i := by rw [nibble, nibble, Nat.pow_succ', Nat.div_div_eq_div_mul]

theorem digitsFrom_succ (x i n : Nat) : digitsFrom x (i + 1) n = digitsFrom (x / 16) i n := by
  induction n generalizing i with
  | zero => rfl
  | succ n ih => rw [digitsFrom, digitsFrom, nibble_succ, ih]

theorem packDigits_mod (m n : Nat) : packDigits m (n + 1) % 16 = m % 10 := by
  rw [packDigits]
  omega

theorem packDigits_div (m n : Nat) : packDigits m (n + 1) / 16 = packDigits (m / 10) n := by
  rw [packDigits]
  omega

theorem packDigits_lt (m n : Nat) : packDigits m n < 16 ^ n := by
  induction n generalizing m with
  | zero => exact Nat.one_pos
  | succ n ih =>
    have := ih (m / 10)
    rw [packDigits, Nat.pow_succ]
    omega

/-- The nibbles of packed digits are decimal digits. -/
theorem nibble_packDigits_le (m n i : Nat) : nibble (packDigits m n) i ≤ 9 := by
  induction n generalizing m i with
  | zero => simp [packDigits, nibble]
  | succ n ih =>
    cases i with
    | zero =>
      rw [nibble_zero, packDigits_mod]
      omega
    | succ i =>
      rw [nibble_succ, packDigits_div]
      exact ih _ _

/-- Digits packed and read again: the number modulo the power of ten. -/
theorem digitsFrom_packDigits (m n : Nat) : digitsFrom (packDigits m n) 0 n = m % 10 ^ n := by
  induction n generalizing m with
  | zero => simp [digitsFrom, Nat.mod_one]
  | succ n ih => rw [digitsFrom, nibble_zero, packDigits_mod, digitsFrom_succ, packDigits_div, ih, Nat.pow_succ', Nat.mod_mul]

/-! A packed result (R120). -/

theorem decPack_mod (neg : Bool) (m : Nat) : decPack neg m % 16 = if neg = true ∧ m % 10 ^ 31 ≠ 0 then 13 else 12 := by
  simp only [decPack, Bool.and_eq_true, decide_eq_true_eq]
  split <;> omega

theorem decPack_div (neg : Bool) (m : Nat) : decPack neg m / 16 = packDigits (m % 10 ^ 31) 31 := by
  simp only [decPack]
  split <;> omega

theorem decPack_valid (neg : Bool) (m : Nat) : DecValid (decPack neg m) := by
  have hdiv := decPack_div neg m
  have hmod := decPack_mod neg m
  refine ⟨?_, ?_, fun i hi _ => ?_⟩
  · have := packDigits_lt (m % 10 ^ 31) 31
    omega
  · split at hmod <;> omega
  · obtain ⟨j, rfl⟩ : ∃ j, i = j + 1 := ⟨i - 1, by omega⟩
    have hnibble : nibble (decPack neg m) (j + 1) ≤ 9 := by
      rw [nibble_succ, hdiv]
      exact nibble_packDigits_le _ _ _
    exact hnibble

theorem decPack_value (neg : Bool) (m : Nat) :
    decValue (decPack neg m) = if neg = true ∧ m % 10 ^ 31 ≠ 0 then -((m % 10 ^ 31 : Nat) : Int) else ((m % 10 ^ 31 : Nat) : Int) := by
  simp only [decValue, digitsFrom_succ, decPack_div, digitsFrom_packDigits, nibble_zero, decPack_mod, Nat.mod_mod]
  split <;> rfl

theorem packedResult : Claim.PackedResult := fun neg m => ⟨decPack_valid neg m, decPack_value neg m⟩

/-! The check of the nibbles (R119). -/

theorem nibbleOk_iff (x i : Nat) : nibbleOk x i = true ↔ if i = 0 then x % 16 = 12 ∨ x % 16 = 13 else x / 16 ^ i % 16 ≤ 9 := by
  unfold nibbleOk
  split
  · simp [nibble_zero]
  · exact decide_eq_true_iff

theorem DecValid.nibbleOk {x i : Nat} (h : DecValid x) (hi : i < 32) : nibbleOk x i = true := by
  obtain ⟨-, hsign, hdigits⟩ := h
  rw [nibbleOk_iff]
  split
  · exact hsign
  · exact hdigits i (by omega) hi

theorem DecValid.badNibble {x : Nat} (h : DecValid x) : badNibble x = none := by
  rw [Machine.badNibble, List.find?_eq_none]
  exact fun i hi => by simp [h.nibbleOk (List.mem_range.mp hi)]

theorem badNibble_lowest {x i : Nat} (hi : i < 32) (hbad : nibbleOk x i ≠ true) (hlow : ∀ j, j < i → nibbleOk x j = true) : badNibble x = some i := by
  rw [badNibble, List.find?_range_eq_some]
  exact ⟨by simpa using hbad, List.mem_range.mpr hi, fun j hj => by simp [hlow j hj]⟩

/-- The mask of the invalid nibbles among the lowest n. -/
def badMaskBelow (x n : Nat) : Nat := (List.range n).foldl (fun m i => if nibbleOk x i then m else m + 2 ^ i) 0

theorem badMaskBelow_succ (x n : Nat) : badMaskBelow x (n + 1) = if nibbleOk x n then badMaskBelow x n else badMaskBelow x n + 2 ^ n := by
  rw [badMaskBelow, List.range_succ, List.foldl_append]
  rfl

theorem badMaskBelow_lt (x n : Nat) : badMaskBelow x n < 2 ^ n := by
  induction n with
  | zero => exact Nat.one_pos
  | succ n ih =>
    rw [badMaskBelow_succ, Nat.pow_succ]
    split <;> omega

/-- Bit i of the mask stands for nibble i (R122). -/
theorem badMaskBelow_testBit (x : Nat) {n i : Nat} (hi : i < n) : (badMaskBelow x n).testBit i = !nibbleOk x i := by
  induction n with
  | zero => omega
  | succ n ih =>
    have hlt := badMaskBelow_lt x n
    rw [badMaskBelow_succ]
    rcases Nat.lt_or_eq_of_le (Nat.le_of_lt_succ hi) with h | rfl
    · split
      · exact ih h
      · rw [Nat.add_comm, Nat.testBit_two_pow_add_gt h]
        exact ih h
    · split
      · rename_i hok
        rw [Nat.testBit_lt_two_pow hlt, hok]
        rfl
      · rename_i hok
        rw [Nat.add_comm, Nat.testBit_two_pow_add_eq, Nat.testBit_lt_two_pow hlt, Bool.eq_false_of_not_eq_true hok]

theorem pairNat_eq (h l : Word) : pairNat h l = decPair h l := by rw [pairNat, decPair]

/-! A run whose first part is known: stated without the match of `run_bind`, which the kernel would decide by running that part on its numbers. -/

theorem run_bind_ok {α β : Type} {x : Run α} {f : α → Run β} {s t : State} {a : α} (h : x s = .ok a t) : (x >>= f) s = f a t := by rw [run_bind, h]

theorem run_bind_error {α β : Type} {x : Run α} {f : α → Run β} {s t : State} {e : Stop} (h : x s = .error e t) : (x >>= f) s = .error e t := by rw [run_bind, h]

/-! Instructions on decimal operands (R119, R121). -/

theorem decFlags_eq (p : Word) (x : Nat) (v c : Bool) : decFlags p x v c = setFlags p (decide (x / 16 = 0)) (decide (x % 16 = 13)) v c := by
  rw [decFlags, nibble_zero, beq_eq_decide, beq_eq_decide]

/-- A packed result x with the flags V and C in the place of the operands above rest (R120). -/
def State.packed (s : State) (k : Insn) (rest : List Word) (x : Nat) (v c : Bool) : Out :=
  .next (s.after k 2 fun y => { y.withStack (BitVec.ofNat 64 x :: BitVec.ofNat 64 (x / 2 ^ 64) :: rest) with
    psw := setFlags (s.core k.lcn).psw (decide (x / 16 = 0)) (decide (x % 16 = 13)) v c })

section
variable {k : Insn} {s : State} {n i j below : Nat} {b : Byte} {f : List Word → Word → List Word × Word} {xs r rest : List Word} {h l ah al bh bl p : Word}

theorem checkDec_one {x : Nat} (hx : DecValid x) : checkDec n x none s = .ok () s := by
  simp [checkDec, hx.badNibble]

theorem checkDec_two {x y : Nat} (hx : DecValid x) (hy : DecValid y) : checkDec n x (some y) s = .ok () s := by
  simp [checkDec, hx.badNibble, hy.badNibble]

/-- The first operand holds an invalid nibble: Decimal-Data with the lowest one. -/
theorem checkDec_bad {x nib : Nat} {y : Option Nat} (hx : badNibble x = some nib) :
    checkDec n x y s = .error (.exc { Exc.plain 14 4 (s.core n).pc with sub := 0, cause := BitVec.ofNat 16 nib }) s := by
  simp [checkDec, hx, decimalData]

/-- A decimal instruction that consumes xs, among them one valid operand below some entries. -/
theorem decOp_one (hr : Ready s k.lcn) (hp : k.pfx = []) (hc : (s.core k.lcn).ds.cache = xs ++ rest) (hi : xs.length = i) (hj : j ≤ i)
    (hh : (xs ++ rest).getD (below + 1) 0 = h) (hl : (xs ++ rest).getD below 0 = l) (hv : DecValid (decPair h l)) (hf : f xs (s.core k.lcn).psw = (r, p)) :
    decOp k b i j false below f s = .next (s.after k 2 fun c => { c.withStack (r ++ rest) with psw := p }) := by
  have hds := hr.dsMax
  have hrs := hr.rsMax
  have hcheck : checkDec k.lcn (decPair h l) none s = .ok () s := checkDec_one hv
  subst hi
  rw [decOp]
  refine hr.instr_after (f := fun c => c.replaceTop xs.length r p) (.inl rfl) hp (fun _ => rfl) (fun hpriv => by cases hpriv) (by simp [hc])
    (by simp [hc] at hds ⊢; omega) (Nat.zero_le _) (by omega) rfl ?_ ?_
  · simp only [run_bind_ok (coreOf_run _ _), Bool.false_eq_true, if_false, hc, hh, hl, pairNat_eq, run_bind_ok hcheck, List.take_left, hf, run_bind_ok (onCore_run _ _ _),
      run_pure]
  · simp [Core.replaceTop, Core.withStack, hc]

/-- A decimal instruction on two valid operands. -/
theorem decOp_two (hr : Ready s k.lcn) (hp : k.pfx = []) (hj : j ≤ 4) (hc : (s.core k.lcn).ds.cache = bl :: bh :: al :: ah :: rest)
    (ha : DecValid (decPair ah al)) (hb : DecValid (decPair bh bl)) (hf : f [bl, bh, al, ah] (s.core k.lcn).psw = (r, p)) :
    decOp k b 4 j true 0 f s = .next (s.after k 2 fun c => { c.withStack (r ++ rest) with psw := p }) := by
  have hds := hr.dsMax
  have hrs := hr.rsMax
  have hcheck : checkDec k.lcn (decPair ah al) (some (decPair bh bl)) s = .ok () s := checkDec_two ha hb
  rw [decOp]
  refine hr.instr_after (f := fun c => c.replaceTop 4 r p) (.inl rfl) hp (fun _ => rfl) (fun hpriv => by cases hpriv) (by simp [hc]) (by omega) (Nat.zero_le _) (by omega) rfl ?_ ?_
  · simp only [run_bind_ok (coreOf_run _ _), if_true, hc, List.getD_cons_succ, List.getD_cons_zero, pairNat_eq, run_bind_ok hcheck, List.take_succ_cons, List.take_zero, hf,
      run_bind_ok (onCore_run _ _ _), run_pure]
  · simp [Core.replaceTop, Core.withStack, hc]

/-- A decimal instruction whose operand at the top is not valid changes nothing (R119). -/
theorem decOp_bad {nib : Nat} (hr : Ready s k.lcn) (hp : k.pfx = []) (hi : i ≤ (s.core k.lcn).ds.cache.length) (hj : j ≤ i)
    (hc : (s.core k.lcn).ds.cache = l :: h :: rest) (hbad : badNibble (decPair h l) = some nib) :
    decOp k b i j false 0 f s = s.raises k.lcn { Exc.plain 14 4 (s.core k.lcn).pc with sub := 0, cause := BitVec.ofNat 16 nib } := by
  have hcheck := checkDec_bad (s := s) (n := k.lcn) (x := decPair h l) (y := none) hbad
  rw [decOp, hr.instr_shrinking rfl hp rfl rfl hi hj]
  simp only [run_bind_ok (coreOf_run _ _), Bool.false_eq_true, if_false, hc, List.getD_cons_succ, List.getD_cons_zero, pairNat_eq, run_bind_error hcheck]
  exact hr.settle_exc _ _ _

end

/-- The magnitude of a value is that of its digits. -/
theorem decValue_natAbs (x : Nat) : (decValue x).natAbs = digitsFrom x 1 31 := by
  rw [decValue]
  split
  · exact Int.natAbs_neg _
  · rfl

theorem decA_four (bl bh al ah : Word) : decA [bl, bh, al, ah] = decValue (decPair ah al) := congrArg decValue (pairNat_eq ah al)

theorem decB_cons (bl bh : Word) (xs : List Word) : decB (bl :: bh :: xs) = decValue (decPair bh bl) := congrArg decValue (pairNat_eq bh bl)

theorem shiftOperand_three (n bl bh : Word) : shiftOperand [n, bl, bh] = ((decValue (decPair bh bl)).natAbs, decide (decPair bh bl % 16 = 13)) := by
  have hpair : pairNat (t2 [n, bl, bh]) (t1 [n, bl, bh]) = decPair bh bl := pairNat_eq bh bl
  rw [shiftOperand, hpair, decValue_natAbs, nibble_zero, beq_eq_decide]

section
variable {k : Insn} {s : State} {b : Byte} {n bl bh al ah : Word} {rest : List Word}

theorem decOp_sum {g : Int → Int → Int} (h : Ready s k.lcn) (hp : k.pfx = []) (hc : (s.core k.lcn).ds.cache = bl :: bh :: al :: ah :: rest)
    (ha : DecValid (decPair ah al)) (hb : DecValid (decPair bh bl)) :
    let e := g (decValue (decPair ah al)) (decValue (decPair bh bl))
    decOp k b 4 2 true 0 (fun x p => decSum (g (decA x) (decB x)) p) s =
      s.packed k rest (decPack (decide (e < 0)) e.natAbs) (decide (10 ^ 31 ≤ e.natAbs)) false := by
  intro e
  rw [decOp_two h hp (by omega) hc ha hb (by rw [decA_four, decB_cons, decSum, decFlags_eq])]
  rfl

/-- A decimal instruction that consumes xs, among them one valid operand, and delivers a packed result. -/
theorem decOp_packed {i below x : Nat} {f : List Word → Word → List Word × Word} {xs : List Word} {v c : Bool} (h : Ready s k.lcn) (hp : k.pfx = [])
    (hc : (s.core k.lcn).ds.cache = xs ++ rest) (hi : xs.length = i) (h2 : 2 ≤ i) (hbh : (xs ++ rest).getD (below + 1) 0 = bh) (hbl : (xs ++ rest).getD below 0 = bl)
    (hb : DecValid (decPair bh bl)) (hf : f xs (s.core k.lcn).psw = (decEntries x, decFlags (s.core k.lcn).psw x v c)) :
    decOp k b i 2 false below f s = s.packed k rest x v c := by
  rw [decOp_one h hp hc hi h2 hbh hbl hb hf, decFlags_eq]
  rfl

end

theorem decimalArithmetic : Claim.DecimalArithmetic := by
  intro k s ah al bh bl n rest h hp ha hb cache p A B put sum m neg by_
  refine ⟨fun hc => ⟨?_, ?_, ?_⟩, fun hc => ⟨?_, ?_⟩, fun hc => ⟨?_, ?_⟩⟩
  · rw [exec_dadd, execDadd]
    exact decOp_sum (g := (· + ·)) h hp hc ha hb
  · rw [exec_dsub, execDsub]
    exact decOp_sum (g := (· - ·)) h hp hc ha hb
  · rw [exec_dcmp, execDcmp]
    exact decOp_two (r := []) h hp (by omega) hc ha hb (by rw [decA_four, decB_cons, beq_eq_decide])
  · rw [exec_dneg, execDneg]
    exact decOp_packed (xs := [bl, bh]) h hp hc rfl (by omega) rfl rfl hb (by simp only [decB_cons, Int.natAbs_neg]; rfl)
  · rw [exec_cvdb, execCvdb]
    exact decOp_one (xs := [bl, bh]) (r := [_]) h hp hc rfl (by omega) rfl rfl hb (by rw [decB_cons]; simp only [isZ, isN, beq_eq_decide]; rfl)
  · rw [exec_dshl, execDshl]
    exact decOp_packed (xs := [n, bl, bh]) h hp hc rfl (by omega) rfl rfl hb (by rw [shiftOperand_three]; rfl)
  · rw [exec_dshr, execDshr]
    exact decOp_packed (xs := [n, bl, bh]) h hp hc rfl (by omega) rfl rfl hb (by rw [shiftOperand_three]; rfl)

theorem decimalChecks : Claim.DecimalChecks := by
  intro k s h l rest hr hp c x ok
  have hcache : c.ds.cache = (s.core k.lcn).ds.cache := rfl
  have hok : ∀ i, nibbleOk x i = true ↔ ok i := nibbleOk_iff x
  refine ⟨fun hc hlen => ?_, fun hc hlen => ⟨badMask x, fun i hi => ?_, badMaskBelow_lt x 32, ?_⟩, fun hc i hi hbad hlow => ?_⟩
  · rw [hcache] at hc
    rw [exec_cvbd, execCvbd]
    refine stackOp_next hr rfl hp rfl rfl rfl (by simp [hc]) (by simp [hc]; omega) ?_
    simp only [hc, t0, List.take_succ_cons, List.take_zero, List.getD_cons_zero, decFlags_eq]
    simp only [Core.replaceTop, Core.withStack, hc]
    rfl
  · rw [badMask, ← badMaskBelow, badMaskBelow_testBit x hi, ← hok, Bool.not_eq_true', Bool.not_eq_true]
  · rw [hcache] at hc
    have hpair : pairNat (t1 [l, h]) (t0 [l, h]) = x := pairNat_eq h l
    rw [exec_dchk, execDchk]
    refine stackOp_next hr rfl hp rfl rfl rfl (by simp [hc]) (by simp [hc]; omega) ?_
    simp only [hc, List.take_succ_cons, List.take_zero, hpair, beq_eq_decide]
    simp only [Core.replaceTop, Core.withStack, hc]
    rfl
  · rw [hcache] at hc
    rw [exec_dneg, execDneg]
    exact decOp_bad hr hp (by simp [hc]) (by omega) hc (badNibble_lowest hi ((hok i).not.mpr hbad) fun j hj => (hok j).mpr (hlow j hj))

/-- Settles O21: packed results, the decimal instructions on valid operands, and what takes or refuses any operand. -/
theorem packedDecimal : Obligations.PackedDecimal := ⟨packedResult, decimalArithmetic, decimalChecks⟩

end Sys2Proof.Machine
end

section
/-! SUPPORT. Floating-point instructions with their conditions (R123 to R133), which settle O20. -/

namespace Sys2Proof.Machine

/-! FPC (R123, R128). -/

/-- The flags of the conditions that a result met, in their places in FPC. -/
def fpFlags (r : FpRes) : Word32 :=
  (if r.nv then 1 <<< 20 else 0) ||| (if r.dz then 1 <<< 19 else 0) ||| (if r.ov then 1 <<< 18 else 0) ||| (if r.tiny then 1 <<< 17 else 0) ||| (if r.ix then 1 <<< 16 else 0)

theorem fpSet_eq (fpc : Word32) (r : FpRes) : fpSet fpc r = fpc ||| fpFlags r := by
  simp only [fpSet, fpFlags, BitVec.or_assoc]

theorem fpRaise_masked {fpc : Word32} (h : FpMasked fpc) (r : FpRes) : fpRaise fpc r = none := by
  have hflush : fpcSubm fpc = true := h.1
  have hmask : ∀ i, 8 ≤ i → i ≤ 12 → bitAt fpc i = false := h.2
  simp [fpRaise, hflush, hmask]

/-! Operands (R123, R126). -/

section
variable {s : State} {n : Nat} {f : Fmt}

theorem fpDatum_flush {fpc : Word32} (h : fpcSubm fpc = true) (x : Word) : fpDatum fpc f x = (f.unpack (f.raw x)).flush := if_pos h

theorem fpDatum_trap {fpc : Word32} (h : fpcSubm fpc = false) (x : Word) : fpDatum fpc f x = f.unpack (f.raw x) := if_neg (Bool.eq_false_iff.mp h)

/-- Flush mode takes every operand (R126). -/
theorem fpOperands_flush {xs : List Fp} (h : fpcSubm (s.core n).fpc = true) : fpOperands n xs s = .ok (xs.map Fp.flush) s := by
  simp [fpOperands, h]

/-- Trap mode takes operands that are not subnormal. -/
theorem fpOperands_normal {xs : List Fp} (h : fpcSubm (s.core n).fpc = false) (hx : ∀ x ∈ xs, x.isSub = false) : fpOperands n xs s = .ok xs s := by
  simp [fpOperands, h, List.findIdx?_eq_none_iff.mpr hx]

/-- The first subnormal operand raises Subnormal in trap mode, its place in SUB. -/
theorem fpOperands_subnormal {xs : List Fp} {i : Nat} (h : fpcSubm (s.core n).fpc = false) (hx : xs.findIdx? Fp.isSub = some i) :
    fpOperands n xs s = .error (.exc { Exc.plain 20 4 (s.core n).pc with sub := BitVec.ofNat 8 i }) s := by
  simp [fpOperands, h, hx]

/-- Usable entries are the data that the claims name. -/
theorem fpOperands_usable {xs : List Word} (h : ∀ x ∈ xs, FpUsable (s.core n).fpc f x) :
    fpOperands n ((xs.map f.raw).map f.unpack) s = .ok (xs.map (fpDatum (s.core n).fpc f)) s := by
  cases hmode : fpcSubm (s.core n).fpc with
  | true =>
    rw [fpOperands_flush hmode, List.map_map, List.map_map]
    simp only [funext (fpDatum_flush (f := f) hmode), Function.comp_def]
  | false =>
    rw [fpOperands_normal hmode]
    · simp only [List.map_map, funext (fpDatum_trap (f := f) hmode), Function.comp_def]
    · simp only [List.map_map, List.forall_mem_map]
      exact fun x hx => (h x hx).resolve_left (Bool.eq_false_iff.mp hmode)

/-! The conditions of a result (R128). -/

theorem fpConclude_next {r : FpRes} (h : fpRaise (s.core n).fpc r = none) :
    fpConclude n r s = .ok () (s.modCore n fun c => { c with fpc := fpSet (s.core n).fpc r }) := by
  simp only [fpConclude, run_bind_ok (coreOf_run _ _), h, onCore_run]
  exact congrArg _ (State.modCore_congr s n rfl)

theorem fpConclude_raises {r : FpRes} {v : Nat} (h : fpRaise (s.core n).fpc r = some v) :
    fpConclude n r s = .error (.exc { Exc.plain v 4 (s.core n).pc with sub := if v = 20 then 3 else 0 }) s := by
  by_cases hv : v = 20
  · subst hv
    simp [fpConclude, h]
  · simp [fpConclude, h, hv, Exc.plain]

end

/-! Instructions of the arithmetic form (R129). -/

section
variable {k : Insn} {s : State} {i : Nat} {bytes : List Byte} {fi : Fmt} {f : Rm → List Nat → List Fp → FpRes} {xs rest : List Word} {r : FpRes}

/-- The entries that an instruction reads, the deepest first. -/
theorem operands_reverse (hc : (s.core k.lcn).ds.cache = xs.reverse ++ rest) (hi : xs.length = i) : ((s.core k.lcn).ds.cache.take i).reverse = xs := by
  rw [hc, List.take_left' (by simpa using hi), List.reverse_reverse]

/-- An instruction of the arithmetic form up to its conditions. -/
theorem fpOp_settle {body : Run Retire} (h : Ready s k.lcn) (hp : k.pfx = []) (hc : (s.core k.lcn).ds.cache = xs.reverse ++ rest) (hi : xs.length = i) (h1 : 1 ≤ i) :
    instr k (op bytes 2) i 1 0 0 body s = settle s k.lcn 2 (s.sup k.lcn) (body s) :=
  h.instr_shrinking rfl hp rfl rfl (by simp [hc, hi]) h1

/-- What an instruction of i operands leaves: its result in their place, and the conditions met. -/
theorem conclude_pushes (hp : k.pfx = []) (hc : (s.core k.lcn).ds.cache.drop i = rest) (r : FpRes) :
    ((s.modCore k.lcn fun c => { c with fpc := fpSet (s.core k.lcn).fpc r }).modCore k.lcn fun c => c.pushes i [BitVec.ofNat 64 r.bits]).retire k.lcn 2 (s.sup k.lcn) .next =
      s.after k 2 fun c => { c.withStack (BitVec.ofNat 64 r.bits :: rest) with fpc := fpSet (s.core k.lcn).fpc r } := by
  rw [State.modCore_modCore, s.modCore_congr k.lcn (g := fun c => { c.withStack (BitVec.ofNat 64 r.bits :: rest) with fpc := fpSet (s.core k.lcn).fpc r })]
  · simp [State.after, hp]
  · simp [Core.pushes, Core.withStack, hc]

theorem fpOp_next (h : Ready s k.lcn) (hp : k.pfx = []) (hc : (s.core k.lcn).ds.cache = xs.reverse ++ rest) (hi : xs.length = i) (h1 : 1 ≤ i)
    (hu : ∀ x ∈ xs, FpUsable (s.core k.lcn).fpc fi x) (hf : f (rmOf (s.core k.lcn).fpc) (xs.map fi.raw) (xs.map (fpDatum (s.core k.lcn).fpc fi)) = r)
    (hr : fpRaise (s.core k.lcn).fpc r = none) :
    fpOp k (op bytes 2) fi i f s = .next (s.after k 2 fun c => { c.withStack (BitVec.ofNat 64 r.bits :: rest) with fpc := fpSet (s.core k.lcn).fpc r }) := by
  rw [fpOp, fpOp_settle h hp hc hi h1]
  simp only [run_bind_ok (coreOf_run _ _), operands_reverse hc hi, run_bind_ok (fpOperands_usable hu), hf, run_bind_ok (fpConclude_next hr), run_bind_ok (onCore_run _ _ _),
    run_pure, settle_ok]
  exact congrArg _ (conclude_pushes hp (by rw [hc, List.drop_left' (by simpa using hi)]) r)

/-- A condition that is enabled leaves the operands and FPC (R128). -/
theorem fpOp_raises {v : Nat} (h : Ready s k.lcn) (hp : k.pfx = []) (hc : (s.core k.lcn).ds.cache = xs.reverse ++ rest) (hi : xs.length = i) (h1 : 1 ≤ i)
    (hu : ∀ x ∈ xs, FpUsable (s.core k.lcn).fpc fi x) (hf : f (rmOf (s.core k.lcn).fpc) (xs.map fi.raw) (xs.map (fpDatum (s.core k.lcn).fpc fi)) = r)
    (hr : fpRaise (s.core k.lcn).fpc r = some v) :
    fpOp k (op bytes 2) fi i f s = s.raises k.lcn { Exc.plain v 4 (s.core k.lcn).pc with sub := if v = 20 then 3 else 0 } := by
  rw [fpOp, fpOp_settle h hp hc hi h1]
  simp only [run_bind_ok (coreOf_run _ _), operands_reverse hc hi, run_bind_ok (fpOperands_usable hu), hf, run_bind_error (fpConclude_raises hr)]
  exact h.settle_exc _ _ _

/-- A subnormal operand in trap mode leaves the operands and FPC (R126). -/
theorem fpOp_subnormal {j : Nat} (h : Ready s k.lcn) (hp : k.pfx = []) (hc : (s.core k.lcn).ds.cache = xs.reverse ++ rest) (hi : xs.length = i) (h1 : 1 ≤ i)
    (hm : fpcSubm (s.core k.lcn).fpc = false) (hx : ((xs.map fi.raw).map fi.unpack).findIdx? Fp.isSub = some j) :
    fpOp k (op bytes 2) fi i f s = s.raises k.lcn { Exc.plain 20 4 (s.core k.lcn).pc with sub := BitVec.ofNat 8 j } := by
  rw [fpOp, fpOp_settle h hp hc hi h1]
  simp only [run_bind_ok (coreOf_run _ _), operands_reverse hc hi, run_bind_error (fpOperands_subnormal hm hx)]
  exact h.settle_exc _ _ _

/-- An integer converted to a format (R129). -/
theorem fromInt_next {b : Byte} {g : Word → Int} {a : Word} (h : Ready s k.lcn) (hp : k.pfx = []) (hc : (s.core k.lcn).ds.cache = a :: rest)
    (hf : fi.fromInteger (rmOf (s.core k.lcn).fpc) (g a) = r) (hr : fpRaise (s.core k.lcn).fpc r = none) :
    fromInt k b fi g s = .next (s.after k 2 fun c => { c.withStack (BitVec.ofNat 64 r.bits :: rest) with fpc := fpSet (s.core k.lcn).fpc r }) := by
  have htop : t0 (s.core k.lcn).ds.cache = a := by rw [hc]; rfl
  rw [fromInt, h.instr_shrinking rfl hp rfl rfl (by simp [hc]) (by omega)]
  simp only [run_bind_ok (coreOf_run _ _), htop, hf, run_bind_ok (fpConclude_next hr), run_bind_ok (onCore_run _ _ _), run_pure, settle_ok]
  exact congrArg _ (conclude_pushes hp (by rw [hc]; rfl) r)

/-- An instruction on one entry that meets no condition and leaves PSW. -/
theorem signOp_next {a y : Word} {g : List Word → Word → List Word × Word} (h : Ready s k.lcn) (hp : k.pfx = []) (hc : (s.core k.lcn).ds.cache = a :: rest)
    (hg : g [a] (s.core k.lcn).psw = ([y], (s.core k.lcn).psw)) : stackOp k (op bytes 2) 1 1 g s = .next (s.after k 2 fun c => c.withStack (y :: rest)) := by
  refine stackOp_next h rfl hp rfl rfl rfl (by simp [hc]) (by have := h.dsMax; omega) ?_
  simp [hc, hg, Core.replaceTop, Core.withStack]

/-- FCMP: the operands go, and the relation is left in the flags (R130). -/
theorem fcmp_next {w : FpWidth} {a b : Word} (h : Ready s k.lcn) (hp : k.pfx = []) (hc : (s.core k.lcn).ds.cache = b :: a :: rest)
    (ha : FpUsable (s.core k.lcn).fpc (fmtOf w) a) (hb : FpUsable (s.core k.lcn).fpc (fmtOf w) b) :
    let A := fpDatum (s.core k.lcn).fpc (fmtOf w) a
    let B := fpDatum (s.core k.lcn).fpc (fmtOf w) b
    let r : FpRes := { FpRes.exact 0 with nv := A.isSnan || B.isSnan }
    fpRaise (s.core k.lcn).fpc r = none → execFcmp k w s = .next (s.after k 2 fun c => { c.withStack rest with
      fpc := fpSet (s.core k.lcn).fpc r
      psw := setFlags (s.core k.lcn).psw (A.rel B == .eq) (A.rel B == .lt) (A.rel B == .un) (A.rel B == .eq || A.rel B == .gt) }) := by
  intro A B r hr
  have hrev : ((s.core k.lcn).ds.cache.take 2).reverse = [a, b] := operands_reverse hc rfl
  have hops := fpOperands_usable (s := s) (n := k.lcn) (f := fmtOf w) (xs := [a, b]) (by simp [ha, hb])
  have hconclude := fpConclude_next hr
  have hleft : x0 ([a, b].map (fpDatum (s.core k.lcn).fpc (fmtOf w))) = A := rfl
  have hright : x1 ([a, b].map (fpDatum (s.core k.lcn).fpc (fmtOf w))) = B := rfl
  rw [execFcmp, h.instr_shrinking rfl hp rfl rfl (by simp [hc]) (by omega)]
  simp only [run_bind_ok (coreOf_run _ _), hrev, run_bind_ok hops, hleft, hright]
  rw [run_bind_ok hconclude]
  simp only [run_bind_ok (onCore_run _ _ _), run_pure, settle_ok, State.modCore_modCore]
  rw [State.after, hp]
  refine congrArg (fun u : State => Host.Outcome.next (u.retire k.lcn 2 (s.sup k.lcn) .next)) (State.modCore_congr s k.lcn ?_)
  simp [Core.replaceTop, Core.withStack, hc]

/-- An instruction whose conditions are masked completes, and FPC may gain flags. -/
def Completes (s : State) (k : Insn) (rest : List Word) (out : Out) : Prop :=
  ∃ (r : Word) (flags : Word32), out = .next (s.after k 2 fun c => { c.withStack (r :: rest) with fpc := c.fpc ||| flags })

/-- A result that sets its conditions in FPC completes. -/
theorem Completes.of_set {out : Out} (h : out = .next (s.after k 2 fun c => { c.withStack (BitVec.ofNat 64 r.bits :: rest) with fpc := fpSet (s.core k.lcn).fpc r })) :
    Completes s k rest out :=
  ⟨_, fpFlags r, h.trans (congrArg _ (s.after_congr k 2 (by rw [fpSet_eq])))⟩

/-- A result that leaves FPC as it was completes. -/
theorem Completes.of_keep {out : Out} {x : Word} (h : out = .next (s.after k 2 fun c => c.withStack (x :: rest))) : Completes s k rest out :=
  ⟨x, 0, h.trans (congrArg _ (s.after_congr k 2 (by simp [Core.withStack])))⟩

theorem fpOp_completes (h : Ready s k.lcn) (hp : k.pfx = []) (hm : FpMasked (s.core k.lcn).fpc) (hc : (s.core k.lcn).ds.cache = xs.reverse ++ rest) (hi : xs.length = i)
    (h1 : 1 ≤ i) : Completes s k rest (fpOp k (op bytes 2) fi i f s) :=
  .of_set (fpOp_next h hp hc hi h1 (fun _ _ => .inl hm.1) rfl (fpRaise_masked hm _))

theorem fromInt_completes {b : Byte} {g : Word → Int} {a : Word} (h : Ready s k.lcn) (hp : k.pfx = []) (hm : FpMasked (s.core k.lcn).fpc)
    (hc : (s.core k.lcn).ds.cache = a :: rest) : Completes s k rest (fromInt k b fi g s) :=
  .of_set (fromInt_next h hp hc rfl (fpRaise_masked hm _))

end

theorem floatArithmetic : Claim.FloatArithmetic := by
  intro k s w a b d rest h hp cache fpc f rm rd raw goes
  refine ⟨fun hc ha hb => ?_, fun hc ha => ?_, fun hc ha hb hd => ?_⟩
  · have two {bytes g r} (hg : g rm ([a, b].map f.raw) ([a, b].map (fpDatum fpc f)) = r) (hr : fpRaise fpc r = none) : fpOp k (op bytes 2) f 2 g s = goes r :=
      fpOp_next (xs := [a, b]) h hp hc rfl (by omega) (by simpa using ⟨ha, hb⟩) hg hr
    simp only [List.forall_mem_cons, List.not_mem_nil, false_implies, implies_true, and_true, exec_fadd, execFadd, exec_fsub, execFsub, exec_fmul, execFmul, exec_fdiv, execFdiv,
      exec_fmin, execFmin, exec_fmax, execFmax]
    exact ⟨two rfl, two rfl, two rfl, two rfl, two rfl, two rfl⟩
  · rw [exec_fsqrt, execFsqrt]
    exact fpOp_next (xs := [a]) h hp hc rfl (by omega) (by simpa using ha) rfl
  · rw [exec_fma, execFma]
    exact fpOp_next (xs := [a, b, d]) h hp hc rfl (by omega) (by simpa using ⟨ha, hb, hd⟩) rfl

theorem floatConversions : Claim.FloatConversions := by
  intro k s a rest h hp hc fpc rm goes rdD rdS
  have one {bytes fi g r} (hu : FpUsable fpc fi a) (hg : g rm [fi.raw a] [fpDatum fpc fi a] = r) (hr : fpRaise fpc r = none) : fpOp k (op bytes 2) fi 1 g s = goes r :=
    fpOp_next (xs := [a]) h hp hc rfl (by omega) (by simpa using hu) hg hr
  simp only [List.forall_mem_cons, List.not_mem_nil, false_implies, implies_true, and_true, exec_fcvtSD, execFcvtSD, exec_fcvtLD, execFcvtLD, exec_fcvtLUD, execFcvtLUD,
    exec_fcvtDS, execFcvtDS, exec_fcvtLS, execFcvtLS, exec_fcvtLUS, execFcvtLUS, exec_fcvtDL, execFcvtDL, exec_fcvtDLU, execFcvtDLU, exec_fcvtSL, execFcvtSL, exec_fcvtSLU, execFcvtSLU]
  exact ⟨fun hu => ⟨one hu rfl, one hu rfl, one hu rfl⟩, fun hu => ⟨one hu rfl, one hu rfl, one hu rfl⟩, fromInt_next h hp hc rfl, fromInt_next h hp hc rfl,
    fromInt_next h hp hc rfl, fromInt_next h hp hc rfl⟩

theorem floatSignsAndCompare : Claim.FloatSignsAndCompare := by
  intro k s w a b rest h hp cache fpc p f x goes
  refine ⟨fun hc => ⟨?_, ?_, ?_⟩, fun hc ha hb => ?_⟩
  · rw [exec_fneg, execFneg]
    exact signOp_next h hp hc rfl
  · rw [exec_fabs, execFabs]
    exact signOp_next h hp hc rfl
  · rw [exec_fclass, execFclass]
    exact signOp_next h hp hc rfl
  · intro A B r hr
    rw [exec_fcmp, fcmp_next h hp hc ha hb hr]
    simp only [beq_eq_decide, Bool.decide_or]
    rfl

theorem floatCompletes : Claim.FloatCompletes := by
  intro k s w a b d rest h hp hm cache completes
  refine ⟨fun hc => ?_, fun hc => ?_, fun hc => ?_⟩
  · have two {bytes fi g} : Completes s k rest (fpOp k (op bytes 2) fi 2 g s) := fpOp_completes (xs := [a, b]) h hp hm hc rfl (by omega)
    have hcmp := fcmp_next (w := w) h hp hc (.inl hm.1) (.inl hm.1) (fpRaise_masked hm _)
    simp only [completes, exec_fadd, execFadd, exec_fsub, execFsub, exec_fmul, execFmul, exec_fdiv, execFdiv, exec_fmin, execFmin, exec_fmax, execFmax, exec_fcmp]
    exact ⟨two, two, two, two, two, two, _, fpFlags _, hcmp.trans (congrArg _ (s.after_congr k 2 (by rw [fpSet_eq])))⟩
  · simp only [completes, exec_fma, execFma]
    exact fpOp_completes (xs := [a, b, d]) h hp hm hc rfl (by omega)
  · have one {bytes fi g} : Completes s k rest (fpOp k (op bytes 2) fi 1 g s) := fpOp_completes (xs := [a]) h hp hm hc rfl (by omega)
    have sign {bytes g y} (hg : g [a] (s.core k.lcn).psw = ([y], (s.core k.lcn).psw)) : Completes s k rest (stackOp k (op bytes 2) 1 1 g s) := .of_keep (signOp_next h hp hc hg)
    have int {code fi g} : Completes s k rest (fromInt k code fi g s) := fromInt_completes h hp hm hc
    simp only [completes, exec_fsqrt, execFsqrt, exec_fneg, execFneg, exec_fabs, execFabs, exec_fclass, execFclass, exec_fcvtSD, execFcvtSD, exec_fcvtLD, execFcvtLD, exec_fcvtLUD,
      execFcvtLUD, exec_fcvtDS, execFcvtDS, exec_fcvtLS, execFcvtLS, exec_fcvtLUS, execFcvtLUS, exec_fcvtDL, execFcvtDL, exec_fcvtDLU, execFcvtDLU, exec_fcvtSL, execFcvtSL,
      exec_fcvtSLU, execFcvtSLU]
    exact ⟨one, sign rfl, sign rfl, sign rfl, one, one, int, int, one, one, int, int, one, one⟩

theorem floatTraps : Claim.FloatTraps := by
  intro k s w a b rest v h hp hc c f
  refine ⟨fun ha hb hr => ?_, fun hm ha => ?_, fun hm ha hb => ?_⟩
  · rw [exec_fadd, execFadd]
    exact fpOp_raises (xs := [a, b]) h hp hc rfl (by omega) (by simpa using ⟨ha, hb⟩) rfl hr
  · change (f.unpack (f.raw a)).isSub = true at ha
    rw [exec_fadd, execFadd]
    exact fpOp_subnormal (xs := [a, b]) (fi := f) (j := 0) h hp hc rfl (by omega) hm (by simp [List.findIdx?_cons, ha])
  · change (f.unpack (f.raw a)).isSub = false at ha
    change (f.unpack (f.raw b)).isSub = true at hb
    rw [exec_fadd, execFadd]
    exact fpOp_subnormal (xs := [a, b]) (fi := f) (j := 1) h hp hc rfl (by omega) hm (by simp [List.findIdx?_cons, ha, hb])

/-- Settles O20: each form with its result, its conditions masked, and its traps. -/
theorem floatingPoint : Obligations.FloatingPoint := ⟨floatArithmetic, floatConversions, floatSignsAndCompare, floatCompletes, floatTraps⟩

end Sys2Proof.Machine
end

section
/-! SUPPORT. One element of the string instructions (R110 to R113), which settle O19. -/

namespace Sys2Proof.Machine

/-! Accesses of an element that hit (R113, R165, R173). -/

/-- A list in which another of its members was moved to the head, within its size, still has the one member that serves. -/
theorem filter_moved {l : List TlbEntry} {p : TlbEntry → Bool} {t x : TlbEntry} {m : Nat} (h : l.filter p = [x]) (ht : t ∈ l) (hm : l.length ≤ m) :
    ((t :: l.filter (· != t)).take m).filter p = [x] := by
  have hlt : (l.filter (· != t)).length < l.length := List.length_filter_lt_length_iff_exists.mpr ⟨t, ht, by simp⟩
  have hrest : (l.filter (· != t)).filter p = [x].filter (· != t) := by rw [← h, List.filter_filter, List.filter_filter]; simp only [Bool.and_comm]
  rw [List.take_of_length_le (by rw [List.length_cons]; omega), List.filter_cons, hrest]
  by_cases hp : p t = true
  · obtain rfl : t = x := List.mem_singleton.mp (h ▸ List.mem_filter.mpr ⟨ht, hp⟩)
    simp [hp]
  · have hx : p x = true := (List.mem_filter.mp (h ▸ List.mem_singleton_self x)).2
    have hne : x ≠ t := fun e => hp (e ▸ hx)
    simp [hp, hne]

/-- The state s with core n turned into c, but for its hold and the order of its TLBs and its L1D, which accesses change. -/
def Turned (s u : State) (n : Nat) (c : Core) : Prop := ∃ b m l, u = s.modCore n fun _ => { c with hold := m, tlb := b, l1d := l }

section
variable {s u v : State} {n w x : Nat} {va vb : Word} {acc acc' : Acc} {t t' : TlbEntry} {c : Core}

theorem Turned.refl : Turned s s n (s.core n) := ⟨_, _, _, (State.modCore_self rfl).symm⟩

/-- A change of the core that does not rest on what accesses change. -/
theorem Turned.modCore {g : Core → Core} (h : Turned s u n c) (hg : ∀ b m l, g { c with hold := m, tlb := b, l1d := l } = { g c with hold := m, tlb := b, l1d := l }) :
    Turned s (u.modCore n g) n (g c) := by
  obtain ⟨b, m, l, rfl⟩ := h
  exact ⟨b, m, l, by rw [State.modCore_modCore]; exact s.modCore_congr n (hg b m l)⟩

/-- A further change of what accesses change. -/
theorem Turned.access {f : Core → Core} (h : Turned s u n c) (hf : ∀ d, ∃ b m l, f d = { d with hold := m, tlb := b, l1d := l }) : Turned s (u.modCore n f) n c := by
  obtain ⟨b, m, l, rfl⟩ := h
  obtain ⟨b', m', l', he⟩ := hf { c with hold := m, tlb := b, l1d := l }
  exact ⟨b', m', l', by rw [State.modCore_modCore]; exact s.modCore_congr n he⟩

theorem Turned.outside (h : Turned s u n c) : SameOutside s u := by
  obtain ⟨b, m, l, rfl⟩ := h
  exact .modCore s n _

theorem Turned.others (h : Turned s u n c) : ∀ m, m ≠ n → u.core m = s.core m := by
  obtain ⟨b, m, l, rfl⟩ := h
  exact fun j hj => s.modCore_other n j _ hj

theorem Turned.length (h : Turned s u n c) : u.cores.length = s.cores.length := by
  obtain ⟨b, m, l, rfl⟩ := h
  exact s.modCore_length n _

theorem Turned.core (h : Turned s u n c) (hn : n < s.cores.length) : ∃ b m l, u.core n = { c with hold := m, tlb := b, l1d := l } := by
  obtain ⟨b, m, l, rfl⟩ := h
  exact ⟨b, m, l, s.modCore_core n _ hn⟩

/-- What accesses that hit leave of a state: their core as it was, and what hit before hits again. -/
structure Looked (s u : State) (n : Nat) : Prop where
  turned : Turned s u n (s.core n)
  hits : ∀ {va w acc t}, Mapped s n va w acc t → Mapped u n va w acc t

theorem Looked.refl : Looked s s n := ⟨.refl, id⟩

/-- A hit moves an entry within its TLB, and every access that hit hits again. -/
theorem Mapped.used_other (h : Mapped s n va w acc t) (h' : Mapped s n vb x acc' t') (hn : n < s.cores.length) :
    Mapped (s.modCore n fun c => { c with tlb := c.tlb.used t }) n vb x acc' t' := by
  have hcore := s.modCore_core n (fun c => { c with tlb := c.tlb.used t }) hn
  have hfirst := h.first
  obtain ⟨hhit, hside, ⟨hi, hd⟩, hallowed, hpage⟩ := h'
  refine ⟨?_, hside, ?_, ?_, hpage⟩
  · rw [hcore]
    cases ht : t.instr with
    | true =>
      simp only [Tlbs.first, ht, if_true, List.contains_iff_mem] at hfirst
      simp only [Tlbs.used, Tlbs.fill1, Tlbs.fill2, ht, if_true]
      cases ha : acc'.instr with
      | true =>
        rw [ha, if_pos rfl] at hhit
        exact filter_moved hhit hfirst hi
      | false =>
        rw [ha, if_neg Bool.false_ne_true] at hhit
        exact hhit
    | false =>
      simp only [Tlbs.first, ht, Bool.false_eq_true, if_false, List.contains_iff_mem] at hfirst
      simp only [Tlbs.used, Tlbs.fill1, Tlbs.fill2, ht, Bool.false_eq_true, if_false]
      cases ha : acc'.instr with
      | true =>
        rw [ha, if_pos rfl] at hhit
        exact hhit
      | false =>
        rw [ha, if_neg Bool.false_ne_true] at hhit
        exact filter_moved hhit hfirst hd
  · exact (h.used hn).room
  · rw [hcore]
    exact hallowed

theorem Looked.modCore {f : Core → Core} (h : Looked s u n) (hf : ∀ d, ∃ m l, f d = { d with hold := m, l1d := l }) : Looked s (u.modCore n f) n := by
  have hsame : ∀ {α : Type} (g : Core → α), (∀ d m l, g { d with hold := m, l1d := l } = g d) → ∀ d, g (f d) = g d := by
    intro α g hg d
    obtain ⟨m, l, he⟩ := hf d
    rw [he, hg]
  refine ⟨h.turned.access fun d => ?_, fun hm => (h.hits hm).modCore ?_ ?_ ?_⟩
  · obtain ⟨m, l, he⟩ := hf d
    exact ⟨d.tlb, m, l, he⟩
  · exact hsame Core.tlb (fun _ _ _ => rfl) _
  · exact hsame Core.pid (fun _ _ _ => rfl) _
  · exact hsame Core.krr (fun _ _ _ => rfl) _

/-- The hold ends at an access (R202). -/
theorem Looked.endHold (h : Looked s u n) : Looked s (u.endHold n) n := h.modCore fun d => ⟨none, d.l1d, rfl⟩

theorem Looked.touchLines (h : Looked s u n) (as : List Nat) : Looked s (u.touchLines n as) n := by
  obtain ⟨l, hl⟩ := u.touchLines_eq n as
  rw [hl]
  exact h.modCore fun d => ⟨d.hold, l, rfl⟩

theorem Looked.used (h : Looked s u n) (hm : Mapped s n va w acc t) (hn : n < s.cores.length) :
    Looked s (u.modCore n fun c => { c with tlb := c.tlb.used t }) n :=
  ⟨h.turned.access fun d => ⟨d.tlb.used t, d.hold, d.l1d, rfl⟩, fun hm' => (h.hits hm).used_other (h.hits hm') (by rw [h.turned.length]; exact hn)⟩

/-- The access rights of a core rest on its PSW alone. -/
theorem Looked.dataAcc (h : Looked s u n) (hn : n < s.cores.length) (usr wr : Bool) : dataAcc (u.core n) usr wr = dataAcc (s.core n) usr wr := by
  obtain ⟨b, m, l, he⟩ := h.turned.core hn
  rw [he]
  rfl

theorem Looked.readable (h : Looked s u n) {pa : Nat} (hr : Readable s n pa w) : Readable u n pa w := by
  obtain ⟨b, m, l, rfl⟩ := h.turned
  exact hr.modCore rfl

theorem Looked.loadByte (h : Looked s u n) (a : Nat) : u.loadByte n a = s.loadByte n a := by
  obtain ⟨b, m, l, rfl⟩ := h.turned
  exact State.loadByte_modCore rfl a

theorem addresses_looked (h : Looked s u n) (hn : n < s.cores.length) (hm : Mapped s n va w acc t) :
    ∃ v, addresses n va w acc u = .ok ((List.range w).map (t.addr va.toNat + ·)) v ∧ Looked s v n := by
  refine ⟨_, ?_, h.used hm hn⟩
  rw [addresses, run_bind_ok (translateSpan_used (h.hits hm))]
  exact congrArg (EStateM.Result.ok · _) (List.append_nil _)

end

section
variable {s u : State} {k : Insn} {va : Word} {w : Nat} {t : TlbEntry}

/-- The prefixes of a string instruction in the claim: none, or one that repeats (R57). -/
structure StringPrefixes (s : State) (k : Insn) : Prop where
  form : k.pfx ∈ [[], [Pfx.rep], [Pfx.repz], [Pfx.repnz]]
  slot : (s.core k.lcn).delay = true → k.pfx = []

theorem StringPrefixes.cases (h : StringPrefixes s k) : k.pfx = [] ∨ ∃ p, k.pfx = [p] ∧ Pfx.group p = 0 := by
  have hform := h.form
  simp only [List.mem_cons, List.not_mem_nil, or_false] at hform
  rcases hform with e | e | e | e
  · exact .inl e
  all_goals exact .inr ⟨_, e, rfl⟩

/-- No element is an access of USR, ACQ or REL. -/
theorem StringPrefixes.plain (h : StringPrefixes s k) : k.pfx.contains .usr = false ∧ k.pfx.contains .acq = false ∧ k.pfx.contains .rel = false := by
  have hform := h.form
  simp only [List.mem_cons, List.not_mem_nil, or_false] at hform
  rcases hform with e | e | e | e <;> rw [e] <;> decide

theorem StringPrefixes.admitted {b : Byte} (h : StringPrefixes s k) : pfxCause (s.core k.lcn).delay (stringCode b) k.pfx = none := by
  cases hd : (s.core k.lcn).delay with
  | true =>
    rw [h.slot hd]
    exact pfxCause_nil fun _ => rfl
  | false =>
    have hform := h.form
    simp only [List.mem_cons, List.not_mem_nil, or_false] at hform
    rcases hform with e | e | e | e <;> rw [e] <;> rfl

theorem checkElement_cons {xs : List (Word × Nat × Bool)} {wr : Bool} (hp : StringPrefixes s k) (h : Looked s u k.lcn) (hn : k.lcn < s.cores.length)
    (hm : Mapped s k.lcn va w (dataAcc (s.core k.lcn) false wr) t) : ∃ v, checkElement k ((va, w, wr) :: xs) u = checkElement k xs v ∧ Looked s v k.lcn := by
  rw [← h.dataAcc hn] at hm
  obtain ⟨v, hv, hlook⟩ := addresses_looked h hn hm
  refine ⟨v, ?_, hlook⟩
  obtain ⟨husr, -, -⟩ := hp.plain
  rw [checkElement, run_bind_ok (coreOf_run _ _), husr, run_bind_ok hv]

/-- The checks of an element that reads at va and reaches vb too (R113). -/
theorem checkElement_two {vb : Word} {x : Nat} {wr wr' : Bool} {t' : TlbEntry} (hp : StringPrefixes s k) (h : Looked s u k.lcn) (hn : k.lcn < s.cores.length)
    (hm : Mapped s k.lcn va w (dataAcc (s.core k.lcn) false wr) t) (hm' : Mapped s k.lcn vb x (dataAcc (s.core k.lcn) false wr') t') :
    ∃ v, checkElement k [(va, w, wr), (vb, x, wr')] u = .ok () v ∧ Looked s v k.lcn := by
  obtain ⟨v, hv, hlook⟩ := checkElement_cons hp h hn hm
  obtain ⟨v', hv', hlook'⟩ := checkElement_cons hp hlook hn hm'
  exact ⟨v', hv.trans hv', hlook'⟩

/-- The bytes that an element reads. -/
theorem loadBytes_looked (hp : StringPrefixes s k) (h : Looked s u k.lcn) (hn : k.lcn < s.cores.length) (hb : ByteAt s k.lcn va w (dataAcc (s.core k.lcn) false false) t) :
    ∃ v, loadBytes k va w u = .ok ((List.range w).map fun i => s.loadByte k.lcn (t.addr va.toNat + i)) v ∧ Looked s v k.lcn := by
  obtain ⟨husr, hacq, -⟩ := hp.plain
  obtain ⟨v, hv, hlook⟩ := addresses_looked h hn hb.mapped
  have hread := readBytes_run (hlook.endHold.readable hb.readable)
  simp only [hlook.endHold.loadByte] at hread
  refine ⟨_, Eq.trans ?_ hread, hlook.endHold.touchLines _⟩
  rw [loadBytes, run_bind_ok (coreOf_run _ _), husr, h.dataAcc hn, run_bind_ok hv, run_bind_ok (run_modify _ _), hacq]
  rfl

/-- A core with the bytes that a string instruction stores at va in its buffer, the most significant first (R197). -/
def Core.stored (d : Core) (va : Word) (pa : Nat) (bs : List Byte) : Core :=
  d.buffers (if va.toNat % bs.length = 0 then [{ addr := pa, bytes := bs, rel := false }]
    else (List.range bs.length).zipWith (fun i b => { addr := pa + i, bytes := [b], rel := false }) bs)

theorem storeBytes_looked {bs : List Byte} (hp : StringPrefixes s k) (h : Looked s u k.lcn) (hn : k.lcn < s.cores.length) (hw : bs ≠ []) (hw8 : bs.length ≤ 8)
    (hm : Mapped s k.lcn va bs.length (dataAcc (s.core k.lcn) false true) t) (hd : t.d = true) (hsb : (s.core k.lcn).sb.length < 56) :
    ∃ v, storeBytes k va bs u = .ok () v ∧ Turned s v k.lcn ((s.core k.lcn).stored va (t.addr va.toNat) bs) := by
  obtain ⟨husr, -, hrel⟩ := hp.plain
  have hsbu : (u.core k.lcn).sb = (s.core k.lcn).sb := by
    obtain ⟨b, m, l, he⟩ := h.turned.core hn
    rw [he]
  rw [← h.dataAcc hn, ← husr] at hm
  obtain ⟨b, hb⟩ := storeBytes_run hw (h.hits hm) hd (by rw [hsbu]; omega)
  rw [storeEntries_range hw, hrel] at hb
  refine ⟨_, hb.trans (congrArg _ (u.modCore_modCore k.lcn (·.accessed b) (·.buffers _)).symm), ?_⟩
  refine (h.turned.access fun d => ⟨b, none, d.l1d, rfl⟩).modCore fun b m l => ?_
  simp only [Core.buffers_eq]

end

/-! The loop of R112. -/

/-- Whether the loop of a repeated instruction ends with an element that left its core as c, CNT not yet counted down (R112). -/
def LoopEnds (p : Pfx) (test : Bool) (c : Core) : Prop :=
  c.cnt - 1 = 0 ∨ (test = true ∧ ((p = .repz ∧ pswZ c.psw = false) ∨ (p = .repnz ∧ pswZ c.psw = true)))

theorem loopEnds_iff {p : Pfx} {test : Bool} {c : Core} :
    LoopEnds p test c ↔ c.cnt - 1 = 0 ∨ (test && ((p == .repz && !pswZ c.psw) || (p == .repnz && pswZ c.psw))) = true := by
  simp only [LoopEnds, Bool.and_eq_true, Bool.or_eq_true, beq_iff_eq, Bool.not_eq_true']

section
variable {s u : State} {k : Insn} {n : Nat} {c : Core} {test : Bool} {element : Run Unit} {p : Pfx}

theorem repeatOf_one (hg : Pfx.group p = 0) : repeatOf [p] = some p := by simp [repeatOf, hg]

theorem repeated_alone (hp : k.pfx = []) (he : element s = .ok () u) : repeated k test element s = .ok .next u := by
  rw [repeated, hp]
  exact run_bind_ok he

theorem repeated_none (hp : k.pfx = [p]) (hg : Pfx.group p = 0) (hcnt : (s.core k.lcn).cnt = 0) : repeated k test element s = .ok .next s := by
  rw [repeated, hp, repeatOf_one hg]
  simp only [run_bind_ok (coreOf_run _ _), hcnt, if_true, run_pure]

/-- An element of a repeated instruction, with CNT counted down. -/
theorem repeated_element (hp : k.pfx = [p]) (hg : Pfx.group p = 0) (hn : k.lcn < s.cores.length) (hcnt : (s.core k.lcn).cnt ≠ 0) (he : element s = .ok () u)
    (ht : Turned s u k.lcn c) :
    ∃ v, Turned s v k.lcn { c with cnt := c.cnt - 1 } ∧ (LoopEnds p test c → repeated k test element s = .ok .next v) ∧
      (¬LoopEnds p test c → repeated k test element s = .ok .stay v) := by
  have hturned : Turned s (u.modCore k.lcn fun c => { c with cnt := c.cnt - 1 }) k.lcn { c with cnt := c.cnt - 1 } := ht.modCore fun _ _ _ => rfl
  refine ⟨_, hturned, ?_⟩
  rw [repeated, hp, repeatOf_one hg, loopEnds_iff]
  simp only [run_bind_ok (coreOf_run _ _), hcnt, if_false, run_bind_ok he, run_bind_ok (onCore_run _ _ _)]
  generalize u.modCore k.lcn (fun c => { c with cnt := c.cnt - 1 }) = v at hturned ⊢
  obtain ⟨b, m, l, hcore⟩ := hturned.core hn
  rw [hcore]
  dsimp only
  split
  · rename_i h0
    exact ⟨fun _ => rfl, fun hno => absurd (.inl h0) hno⟩
  · split
    · rename_i hends
      exact ⟨fun _ => rfl, fun hno => absurd (.inr hends) hno⟩
    · rename_i h0 hgoes
      exact ⟨fun hyes => absurd hyes (not_or.mpr ⟨h0, hgoes⟩), fun _ => rfl⟩

/-- What retires in sequence after an element is the core that it left. -/
theorem Turned.retired (h : Turned s u n c) (hn : n < s.cores.length) (len : Nat) (sup : Bool) : Retired s (u.retire n len sup .next) n len c := by
  obtain ⟨b, m, l, he⟩ := h.core hn
  refine retire_next (by rw [h.length]; exact hn) h.outside h.others ?_ (by rw [he]) (by rw [he]) (by rw [he])
  rw [he]
  constructor <;> rfl

/-- The core between two elements: it has counted its events, and its pc stays (R112, R114). -/
def Core.betweenElements (c : Core) (sup : Bool) : Core :=
  { c.countDue sup (fun _ => true) with slotFresh := false, retries := 0, ioWait := none, strProgress := c.inval.isNone && c.devRead.isNone }

theorem State.retire_stay (s : State) (n len : Nat) (sup : Bool) : s.retire n len sup .stay = (s.modCore n (·.betweenElements sup)).switchDue n := by
  unfold State.retire
  rw [if_pos rfl]
  rfl

theorem Turned.stays (h : Turned s u n c) (hn : n < s.cores.length) (len : Nat) (sup : Bool) :
    ∃ v, SameOutside s v ∧ (∀ m, m ≠ n → v.core m = s.core m) ∧ SameCore c (v.core n) ∧ (v.core n).pc = c.pc ∧ u.retire n len sup .stay = v.switchDue n := by
  obtain ⟨b, m, l, he⟩ := h.core hn
  obtain ⟨hsame, hpc, -, -⟩ := countDue_same (u.core n) sup (fun _ => true)
  have hcore := u.modCore_core n (·.betweenElements sup) (by rw [h.length]; exact hn)
  refine ⟨u.modCore n (·.betweenElements sup), h.outside.trans (.modCore u n _), fun j hj => (u.modCore_other n j _ hj).trans (h.others j hj), ?_, ?_, u.retire_stay n len sup⟩
  · have hfirst : SameCore c (u.core n) := by
      rw [he]
      constructor <;> rfl
    have hlast : SameCore ((u.core n).countDue sup fun _ => true) ((u.core n).betweenElements sup) := by constructor <;> rfl
    rw [hcore]
    exact (hfirst.trans hsame).trans hlast
  · rw [hcore]
    exact hpc.trans (by rw [he])

/-- A string instruction of the prefixes of the claim: its loop decides. -/
theorem stringOp_settle {b : Byte} {i : Nat} (h : Ready s k.lcn) (hp : StringPrefixes s k) (hi : i ≤ (s.core k.lcn).ds.cache.length) :
    stringOp k b i test element s = settle s k.lcn (k.pfx.length + 1) (s.sup k.lcn) (repeated k test element s) := by
  have hmax := h.dsMax
  rw [stringOp, instr_ready h (.inl rfl) hp.admitted (fun hv => by cases hv) ⟨hi, show _ ≤ 32 by omega⟩ h.fitsR]
  rfl

/-- With CNT = 0 a repeated instruction does nothing (R112). -/
theorem stringOp_none {b : Byte} {i : Nat} (h : Ready s k.lcn) (hp : StringPrefixes s k) (hi : i ≤ (s.core k.lcn).ds.cache.length) (hk : k.pfx ≠ [])
    (hcnt : (s.core k.lcn).cnt = 0) : ∃ u, stringOp k b i test element s = .next u ∧ Retired s u k.lcn 2 (s.core k.lcn) := by
  obtain ⟨p, he, hg⟩ := hp.cases.resolve_left hk
  rw [stringOp_settle h hp hi, repeated_none he hg hcnt, settle_ok, he]
  exact ⟨_, rfl, Turned.refl.retired h.lt _ _⟩

theorem Elapsed.of_alone (hk : k.pfx = []) (h : Retired s u k.lcn 1 c) : Elapsed s u k c test := by
  refine ⟨fun _ => h, fun q hq => ?_⟩
  rw [hk] at hq
  cases hq

theorem Elapsed.of_loop (hk : k.pfx = [p]) (hends : LoopEnds p test c → Retired s u k.lcn 2 { c with cnt := c.cnt - 1 })
    (hgoes : ¬LoopEnds p test c → ∃ v, SameOutside s v ∧ (∀ m, m ≠ k.lcn → v.core m = s.core m) ∧ SameCore { c with cnt := c.cnt - 1 } (v.core k.lcn) ∧
      (v.core k.lcn).pc = c.pc ∧ u = v.switchDue k.lcn) : Elapsed s u k c test := by
  refine ⟨fun hq => ?_, fun q hq => ?_⟩
  · rw [hk] at hq
    cases hq
  · rw [hk] at hq
    cases hq
    exact ⟨hends, hgoes⟩

/-- One element, alone or as one of a loop (R111, R112). -/
theorem stringOp_elapsed {b : Byte} {i : Nat} (h : Ready s k.lcn) (hp : StringPrefixes s k) (hi : i ≤ (s.core k.lcn).ds.cache.length)
    (hcnt : k.pfx ≠ [] → (s.core k.lcn).cnt ≠ 0) (he : ∃ u, element s = .ok () u ∧ Turned s u k.lcn c) :
    ∃ u, stringOp k b i test element s = .next u ∧ Elapsed s u k c test := by
  obtain ⟨u, hrun, hturned⟩ := he
  rw [stringOp_settle h hp hi]
  rcases hp.cases with hk | ⟨p, hk, hg⟩
  · rw [repeated_alone hk hrun, settle_ok, hk]
    exact ⟨_, rfl, .of_alone hk (hturned.retired h.lt _ _)⟩
  · obtain ⟨v, hv, hends, hgoes⟩ := repeated_element hk hg h.lt (hcnt (by rw [hk]; exact List.cons_ne_nil _ _)) hrun hturned (test := test)
    by_cases hend : LoopEnds p test c
    · rw [hends hend, settle_ok, hk]
      exact ⟨_, rfl, .of_loop hk (fun _ => hv.retired h.lt _ _) (absurd hend)⟩
    · rw [hgoes hend, settle_ok, hk]
      exact ⟨_, rfl, .of_loop hk (absurd · hend) fun _ => hv.stays h.lt _ _⟩

end

/-! The elements (R110). -/

theorem wordOf_one (b : Byte) : wordOf [b] = b.setWidth 64 := by simp [wordOf, natOf, BitVec.ofNat_toNat]

/-- SRC and DST advanced (R110). -/
def Core.moved (c : Core) (ds dd : Nat) : Core := { c with src := c.src + BitVec.ofNat 64 ds, dst := c.dst + BitVec.ofNat 64 dd }

theorem Core.moved_src (c : Core) (ds : Nat) : c.moved ds 0 = { c with src := c.src + BitVec.ofNat 64 ds } := by simp [Core.moved]

theorem Core.moved_dst (c : Core) (dd : Nat) : c.moved 0 dd = { c with dst := c.dst + BitVec.ofNat 64 dd } := by simp [Core.moved]

/-- SRC and DST may advance before or after the bytes are put into the store buffer. -/
theorem Core.stored_moved (c : Core) (va : Word) (pa : Nat) (bs : List Byte) (ds dd : Nat) : (c.stored va pa bs).moved ds dd = (c.moved ds dd).stored va pa bs := by
  simp only [Core.stored, Core.moved, Core.buffers_eq]

section
variable {s u : State} {k : Insn} {w : Nat} {c : Core} {va x : Word} {rest : List Word} {t ts td tt : TlbEntry}

/-- The last step of an element. -/
theorem stringStep_turned (h : Turned s u k.lcn c) (ds dd : Nat) : ∃ v, stringStep k.lcn ds dd u = .ok () v ∧ Turned s v k.lcn (c.moved ds dd) :=
  ⟨_, rfl, h.modCore fun _ _ _ => rfl⟩

/-- The one byte that an element reads. -/
theorem loadByte_looked (hp : StringPrefixes s k) (h : Looked s u k.lcn) (hn : k.lcn < s.cores.length) (hb : ByteAt s k.lcn va 1 (dataAcc (s.core k.lcn) false false) t) :
    ∃ v, loadBytes k va 1 u = .ok [s.loadByte k.lcn (t.addr va.toNat)] v ∧ Looked s v k.lcn := loadBytes_looked hp h hn hb

/-- The stores of an element and its step. -/
theorem store_turned {bs : List Byte} (hp : StringPrefixes s k) (h : Looked s u k.lcn) (hn : k.lcn < s.cores.length) (hw : bs ≠ []) (hw8 : bs.length ≤ 8)
    (hm : Mapped s k.lcn (s.core k.lcn).dst bs.length (dataAcc (s.core k.lcn) false true) td) (hd : td.d = true) (hsb : (s.core k.lcn).sb.length < 56) (ds dd : Nat) :
    ∃ v, (do storeBytes k (s.core k.lcn).dst bs; stringStep k.lcn ds dd : Run Unit) u = .ok () v ∧
      Turned s v k.lcn (((s.core k.lcn).moved ds dd).stored (s.core k.lcn).dst (td.addr (s.core k.lcn).dst.toNat) bs) := by
  obtain ⟨v, hv, hturned⟩ := storeBytes_looked hp h hn hw hw8 hm hd hsb
  obtain ⟨v', hv', hturned'⟩ := stringStep_turned hturned ds dd
  rw [Core.stored_moved] at hturned'
  exact ⟨v', (run_bind_ok hv).trans hv', hturned'⟩

/-- The element of MOVS and DMOVS: w bytes from SRC to DST. -/
def moveElement (k : Insn) (w : Nat) : Run Unit := do
  let c ← coreOf k.lcn
  checkElement k [(c.src, w, false), (c.dst, w, true)]
  let bs ← loadBytes k c.src w
  storeBytes k c.dst bs
  stringStep k.lcn w w

theorem execMovs_eq (k : Insn) (s : State) : execMovs k s = stringOp k 0x90 0 false (moveElement k 1) s := rfl

theorem execDmovs_eq (k : Insn) (s : State) : execDmovs k s = stringOp k 0x95 0 false (moveElement k 8) s := rfl

theorem moveElement_turned (hp : StringPrefixes s k) (hn : k.lcn < s.cores.length) (hw : 0 < w) (hw8 : w ≤ 8)
    (hs : ByteAt s k.lcn (s.core k.lcn).src w (dataAcc (s.core k.lcn) false false) ts)
    (hm : Mapped s k.lcn (s.core k.lcn).dst w (dataAcc (s.core k.lcn) false true) td) (hd : td.d = true) (hsb : (s.core k.lcn).sb.length < 56) :
    ∃ v, moveElement k w s = .ok () v ∧ Turned s v k.lcn (((s.core k.lcn).moved w w).stored (s.core k.lcn).dst (td.addr (s.core k.lcn).dst.toNat)
      ((List.range w).map fun i => s.loadByte k.lcn (ts.addr (s.core k.lcn).src.toNat + i))) := by
  obtain ⟨u1, hcheck, hlook1⟩ := checkElement_two hp .refl hn hs.mapped hm
  obtain ⟨u2, hload, hlook2⟩ := loadBytes_looked hp hlook1 hn hs
  generalize hbs : (List.range w).map (fun i => s.loadByte k.lcn (ts.addr (s.core k.lcn).src.toNat + i)) = bs at hload ⊢
  obtain rfl : bs.length = w := by rw [← hbs, List.length_map, List.length_range]
  obtain ⟨v, hstore, hturned⟩ := store_turned hp hlook2 hn (List.length_pos_iff.mp hw) hw8 hm hd hsb bs.length bs.length
  refine ⟨v, ?_, hturned⟩
  simp only [moveElement, run_bind_ok (coreOf_run _ _), run_bind_ok hcheck, run_bind_ok hload]
  exact hstore

/-- FILLS: the low byte of the entry to DST. -/
theorem fills_next (h : Ready s k.lcn) (hp : StringPrefixes s k) (hcnt : k.pfx ≠ [] → (s.core k.lcn).cnt ≠ 0) (hc : (s.core k.lcn).ds.cache = x :: rest)
    (hm : Mapped s k.lcn (s.core k.lcn).dst 1 (dataAcc (s.core k.lcn) false true) td) (hd : td.d = true) (hsb : (s.core k.lcn).sb.length < 56) :
    ∃ u, execFills k s = .next u ∧
      Elapsed s u k (({ s.core k.lcn with dst := (s.core k.lcn).dst + 1 } : Core).stored (s.core k.lcn).dst (td.addr (s.core k.lcn).dst.toNat) [x.setWidth 8]) false := by
  refine stringOp_elapsed h hp (by simp [hc]) hcnt ?_
  obtain ⟨v, hstore, hturned⟩ := store_turned (bs := [x.setWidth 8]) hp .refl h.lt (List.cons_ne_nil _ _) (by simp) hm hd hsb 0 1
  have htop : fld (t0 (s.core k.lcn).ds.cache) 0 8 = x.setWidth 8 := by rw [hc, BitVec.setWidth_eq_extractLsb' (by omega)]; rfl
  rw [Core.moved_dst] at hturned
  refine ⟨v, ?_, hturned⟩
  rw [run_bind_ok (coreOf_run _ _), htop]
  exact hstore

/-- CMPS: the flags of the byte at SRC minus the byte at DST. -/
theorem cmps_next (h : Ready s k.lcn) (hp : StringPrefixes s k) (hcnt : k.pfx ≠ [] → (s.core k.lcn).cnt ≠ 0)
    (hs : ByteAt s k.lcn (s.core k.lcn).src 1 (dataAcc (s.core k.lcn) false false) ts) (hb : ByteAt s k.lcn (s.core k.lcn).dst 1 (dataAcc (s.core k.lcn) false false) td) :
    ∃ u, execCmps k s = .next u ∧ Elapsed s u k { s.core k.lcn with
      psw := flagsSub (s.core k.lcn).psw ((s.loadByte k.lcn (ts.addr (s.core k.lcn).src.toNat)).setWidth 64) ((s.loadByte k.lcn (td.addr (s.core k.lcn).dst.toNat)).setWidth 64) false
      src := (s.core k.lcn).src + 1, dst := (s.core k.lcn).dst + 1 } true := by
  refine stringOp_elapsed h hp (Nat.zero_le _) hcnt ?_
  obtain ⟨u1, hcheck, hlook1⟩ := checkElement_two hp .refl h.lt hs.mapped hb.mapped
  obtain ⟨u2, hleft, hlook2⟩ := loadByte_looked hp hlook1 h.lt hs
  obtain ⟨u3, hright, hlook3⟩ := loadByte_looked hp hlook2 h.lt hb
  generalize s.loadByte k.lcn (ts.addr (s.core k.lcn).src.toNat) = a at hleft ⊢
  generalize s.loadByte k.lcn (td.addr (s.core k.lcn).dst.toNat) = b at hright ⊢
  obtain ⟨v, hstep, hturned⟩ := stringStep_turned
    (hlook3.turned.modCore (g := fun c => { c with psw := flagsSub c.psw (a.setWidth 64) (b.setWidth 64) false }) fun _ _ _ => rfl) 1 1
  refine ⟨v, ?_, hturned⟩
  simp only [run_bind_ok (coreOf_run _ _), run_bind_ok hcheck, run_bind_ok hleft, run_bind_ok hright, run_bind_ok (onCore_run _ _ _), wordOf_one]
  exact hstep

/-- SCANS: the flags of the byte at SRC minus the low byte of the entry. -/
theorem scans_next (h : Ready s k.lcn) (hp : StringPrefixes s k) (hcnt : k.pfx ≠ [] → (s.core k.lcn).cnt ≠ 0) (hc : (s.core k.lcn).ds.cache = x :: rest)
    (hs : ByteAt s k.lcn (s.core k.lcn).src 1 (dataAcc (s.core k.lcn) false false) ts) :
    ∃ u, execScans k s = .next u ∧ Elapsed s u k { s.core k.lcn with
      psw := flagsSub (s.core k.lcn).psw ((s.loadByte k.lcn (ts.addr (s.core k.lcn).src.toNat)).setWidth 64) ((x.setWidth 8).setWidth 64) false
      src := (s.core k.lcn).src + 1 } true := by
  refine stringOp_elapsed h hp (by simp [hc]) hcnt ?_
  obtain ⟨u1, hload, hlook⟩ := loadByte_looked hp .refl h.lt hs
  have htop : fld (t0 (s.core k.lcn).ds.cache) 0 8 = x.setWidth 8 := by rw [hc, BitVec.setWidth_eq_extractLsb' (by omega)]; rfl
  generalize s.loadByte k.lcn (ts.addr (s.core k.lcn).src.toNat) = a at hload ⊢
  obtain ⟨v, hstep, hturned⟩ := stringStep_turned
    (hlook.turned.modCore (g := fun c => { c with psw := flagsSub c.psw (a.setWidth 64) (zext (fld (t0 c.ds.cache) 0 8)) false }) fun _ _ _ => rfl) 1 0
  rw [Core.moved_src, htop, zext] at hturned
  refine ⟨v, ?_, hturned⟩
  simp only [run_bind_ok (coreOf_run _ _), run_bind_ok hload, run_bind_ok (onCore_run _ _ _), wordOf_one]
  exact hstep

/-- XLATS: the byte of the table that the byte at SRC selects, to DST. -/
theorem xlats_next (h : Ready s k.lcn) (hp : StringPrefixes s k) (hcnt : k.pfx ≠ [] → (s.core k.lcn).cnt ≠ 0) (hc : (s.core k.lcn).ds.cache = x :: rest)
    (hs : ByteAt s k.lcn (s.core k.lcn).src 1 (dataAcc (s.core k.lcn) false false) ts)
    (ht : ByteAt s k.lcn (x + (s.loadByte k.lcn (ts.addr (s.core k.lcn).src.toNat)).setWidth 64) 1 (dataAcc (s.core k.lcn) false false) tt)
    (hm : Mapped s k.lcn (s.core k.lcn).dst 1 (dataAcc (s.core k.lcn) false true) td) (hd : td.d = true) (hsb : (s.core k.lcn).sb.length < 56) :
    ∃ u, execXlats k s = .next u ∧ Elapsed s u k (((s.core k.lcn).moved 1 1).stored (s.core k.lcn).dst (td.addr (s.core k.lcn).dst.toNat)
      [s.loadByte k.lcn (tt.addr (x + (s.loadByte k.lcn (ts.addr (s.core k.lcn).src.toNat)).setWidth 64).toNat)]) false := by
  refine stringOp_elapsed h hp (by simp [hc]) hcnt ?_
  obtain ⟨u1, hload, hlook1⟩ := loadByte_looked hp .refl h.lt hs
  obtain ⟨u2, hcheck, hlook2⟩ := checkElement_two hp hlook1 h.lt ht.mapped hm
  obtain ⟨u3, htable, hlook3⟩ := loadByte_looked hp hlook2 h.lt ht
  generalize s.loadByte k.lcn (ts.addr (s.core k.lcn).src.toNat) = a at hload hcheck htable ⊢
  generalize s.loadByte k.lcn (tt.addr (x + a.setWidth 64).toNat) = b at htable ⊢
  obtain ⟨v, hstore, hturned⟩ := store_turned (bs := [b]) hp hlook3 h.lt (List.cons_ne_nil _ _) (by simp) hm hd hsb 1 1
  have htop : t0 (s.core k.lcn).ds.cache = x := by rw [hc]; rfl
  refine ⟨v, ?_, hturned⟩
  simp only [run_bind_ok (coreOf_run _ _), run_bind_ok hload, htop, wordOf_one, run_bind_ok hcheck, run_bind_ok htable]
  exact hstore

end

theorem strings : Claim.Strings := by
  intro k s x rest ts td tt h hform hslot c rd wr src put
  have hp : StringPrefixes s k := ⟨hform, hslot⟩
  refine ⟨fun hk hcnt => ⟨?_, ?_, ?_, fun hc => ⟨?_, ?_, ?_⟩⟩, fun hcnt hsb hd => ⟨fun hs hm => ?_, fun hs hm => ?_, fun hc hm => ?_, fun hs hb => ?_, fun hc hs => ?_, fun hc hs ht hm => ?_⟩⟩
  · exact stringOp_none h hp (Nat.zero_le _) hk hcnt
  · exact stringOp_none h hp (Nat.zero_le _) hk hcnt
  · exact stringOp_none h hp (Nat.zero_le _) hk hcnt
  · exact stringOp_none h hp (by rw [hc]; exact Nat.succ_pos _) hk hcnt
  · exact stringOp_none h hp (by rw [hc]; exact Nat.succ_pos _) hk hcnt
  · exact stringOp_none h hp (by rw [hc]; exact Nat.succ_pos _) hk hcnt
  · rw [exec_movs, execMovs_eq]
    exact stringOp_elapsed h hp (Nat.zero_le _) hcnt (moveElement_turned hp h.lt (by omega) (by omega) hs hm hd hsb)
  · rw [exec_dmovs, execDmovs_eq]
    exact stringOp_elapsed h hp (Nat.zero_le _) hcnt (moveElement_turned hp h.lt (by omega) (by omega) hs hm hd hsb)
  · exact fills_next h hp hcnt hc hm hd hsb
  · exact cmps_next h hp hcnt hs hb
  · exact scans_next h hp hcnt hc hs
  · exact xlats_next h hp hcnt hc hs ht hm hd hsb

/-- Settles O19: a repeated instruction with CNT = 0, and then one element of each. -/
theorem stringInstructions : Obligations.StringInstructions := strings

end Sys2Proof.Machine
end

section
/-! SUPPORT. Usable task-state blocks, and the entry of exceptions and interrupts (R137 to R153), which settle O14, O15 and O17. -/

namespace Sys2Proof.Machine

/-! Usable task-state blocks (R149). -/

section
variable {b x : Nat}

/-- Main memory ends below the end of the 52-bit space (R270, R272). -/
theorem State.capacity_lt (s : State) : s.capacity < 2 ^ 52 := by
  have := s.mc.capG.isLt
  rw [State.capacity]
  omega

/-- Guarded regions begin and end at multiples of 2 MiB, so each of them holds a block of 1 KiB whole or not at all (R434). -/
theorem GuardRegion.holds_block (g : GuardRegion) (hb : b % 1024 = 0) (hbx : b ≤ x) (hxb : x < b + 1024) : g.holds x = g.holds b := by
  have hbase : g.base.toNat * 2 ^ 21 ≤ x ↔ g.base.toNat * 2 ^ 21 ≤ b := by omega
  have hend : x < (g.base.toNat + g.size.toNat) * 2 ^ 21 ↔ b < (g.base.toNat + g.size.toNat) * 2 ^ 21 := by omega
  simp only [GuardRegion.holds, hbase, hend]

theorem State.guarded_block (s : State) (hb : b % 1024 = 0) (hbx : b ≤ x) (hxb : x < b + 1024) : s.guarded x = s.guarded b := by
  simp only [State.guarded, GuardRegion.holds_block _ hb hbx hxb]

end

theorem usableTsb : Claim.UsableTsb := by
  intro s a
  have hcap := s.capacity_lt
  simp only [State.tsbUsable, State.isDram, Bool.and_eq_true, Bool.not_eq_true', Bool.and_eq_false_iff, Bool.or_eq_false_iff, beq_iff_eq, beq_eq_false_iff_ne,
    decide_eq_true_eq]
  constructor
  · rintro ⟨⟨hal, hin⟩, hrole⟩
    refine ⟨hal, by omega, fun x _ hx => by omega, ?_⟩
    rintro ⟨hstandby, x, hax, hxa, hg⟩
    obtain hother | ⟨hfree, -⟩ := hrole
    · exact hother hstandby
    · rw [s.guarded_block hal hax hxa, hfree] at hg
      cases hg
  · rintro ⟨hal, -, hdram, hfree⟩
    have hlast := hdram (a.toNat + 1023) (by omega) (by omega)
    refine ⟨⟨hal, by omega⟩, or_iff_not_imp_left.mpr fun hstandby => ?_⟩
    have hblock : s.guarded a.toNat = false := by
      rw [Bool.eq_false_iff]
      exact fun hg => hfree ⟨not_not.mp hstandby, a.toNat, le_rfl, by omega, hg⟩
    exact ⟨hblock, (s.guarded_block hal (by omega) (by omega)).trans hblock⟩

/-- Settles O14: a region holds the block at TSBR whole or not at all, and main memory ends below 2^52. -/
theorem usableTsbBlock : Obligations.UsableTsbBlock := usableTsb

/-! Entry, checkstop and stall (R141, R142, R150, R153). -/

section
variable {s d w : State} {n vec orig level : Nat} {e : Exc}

/-- A report of a core adds one event of its source to those on their way to Weir (R402, R403). -/
theorem State.reportCore_reported (s : State) (n k : Nat) (cls : FaultClass) (detail : Option Word32) (addr : Word) :
    Reported s (s.reportCore n k cls detail addr) (16 * (s.core n).pcn + k) cls addr := reportAt_reported ..

/-- Activation that no longer waits for a core leaves the cores, memory and Weir (R244). -/
theorem State.mclGone_keeps (s : State) (n : Nat) :
    (s.mclGone n).cores = s.cores ∧ (s.mclGone n).mem = s.mem ∧ (s.mclGone n).weir = s.weir := by
  obtain ⟨hcores, hmem, -, hweir, -⟩ := mclSettle_keeps (s.modLife fun l => { l with toSwitch := l.toSwitch.filter (· != n) })
  exact ⟨hcores, hmem, hweir⟩

theorem State.mclGone_core (s : State) (n m : Nat) : (s.mclGone n).core m = s.core m := State.core_congr (s.mclGone_keeps n).1 m

/-- A core with a usable block at TSBR is in the handler once its TSB is written: steps 3 to 8 of R150. -/
theorem State.enterFrom3_entered (hn : n < w.cores.length) (hu : s.tsbUsable (s.core n).tsbr = true) (hw : s.writeTsb n e vec orig level = some w) :
    ∃ t, s.enterFrom3 n e vec orig level = some t ∧ Entered (w.core n) (t.core n) vec level ∧ t.mem = w.mem := by
  simp only [State.enterFrom3, hu, if_true, hw, Option.map_some, State.endHold, State.modCore_modCore]
  generalize hv : w.modCore n _ = v
  obtain ⟨hmem, ⟨x, hcore⟩, -⟩ := v.switchDue_frame n
  refine ⟨_, rfl, ?_, by rw [hmem, ← hv, State.modCore_mem]⟩
  rw [hcore, ← hv, w.modCore_core n _ hn]
  constructor <;> rfl

/-- A software checkstop writes its TSB and leaves TSBR (R142). -/
theorem State.checkstop_written (hn : n < w.cores.length) (hd : s.drain n = some d) (hu : d.tsbUsable (d.core n).tsbr = true)
    (hw : d.writeTsb n e e.vec 0 7 = some w) :
    ∃ t, s.checkstop n e = some t ∧ (t.core n).run = .checkstopped ∧ (t.core n).tsbr = (w.core n).tsbr ∧
      t.weir.inFlight.length = w.weir.inFlight.length + 1 := by
  obtain ⟨r, hflight, -⟩ := w.reportCore_reported n 11 .severe none 0
  have hcores := w.reportCore_cores n 11 .severe none 0
  simp only [State.checkstop, hd, hu, if_true, hw, Option.map_some, State.endHold, State.modCore_modCore]
  refine ⟨_, rfl, ?_, ?_, ?_⟩
  · rw [State.mclGone_core, State.modCore_core _ _ _ (hcores ▸ hn)]
  · rw [State.mclGone_core, State.modCore_core _ _ _ (hcores ▸ hn), State.core_congr hcores]
  · rw [(State.mclGone_keeps _ n).2.2, State.modCore_weir, hflight, List.length_append, List.length_singleton]

/-- Below level 7 a synchronous exception is entered, at its own vector or as a Double Fault (R141). -/
theorem State.raiseSync_taken (h7 : pswML (s.core n).psw < 7) (hl : pswML (s.core n).psw < e.level) : s.raiseSync n e = s.enter n e e.vec 0 e.level := by
  rw [State.raiseSync, if_neg (by omega), if_pos hl]

theorem State.raiseSync_double (h7 : pswML (s.core n).psw < 7) (hl : e.level ≤ pswML (s.core n).psw) : s.raiseSync n e = s.enter n e 2 e.vec 7 := by
  rw [State.raiseSync, if_neg (by omega), if_neg (by omega)]

/-- An entry whose block at TSBR is not usable stalls its core and writes nothing (R149, R153). -/
theorem State.enter_stalls (hn : n < s.cores.length) (hr : RomOnly s n) (hsb : (s.core n).sb = []) (hu : s.tsbUsable (s.core n).tsbr = false) :
    ∃ t, s.enter n e vec orig level = some t ∧ (t.core n).run = .stalled ∧ t.mem = s.mem ∧ (t.core n).tsbr = (s.core n).tsbr ∧
      (t.core n).psw = (s.core n).psw ∧ Reported s t (16 * (s.core n).pcn + 10) .severe (s.core n).tsbr := by
  have hcores := s.reportCore_cores n 10 .severe none (s.core n).tsbr
  have hcore := State.modCore_core (s.reportCore n 10 .severe none (s.core n).tsbr) n
    (fun c => { c with run := .stalled, due := [], ioWait := none, stalled := some { e with vec := vec, orig := orig, level := level } }) (hcores ▸ hn)
  rw [State.core_congr hcores] at hcore
  rw [State.enter, State.withSequence_rom hr, State.drain_empty hsb, Option.bind_some, State.enterFrom3]
  simp only [hu, Bool.false_eq_true, if_false]
  refine ⟨_, rfl, by rw [hcore], ?_, by rw [hcore], by rw [hcore], s.reportCore_reported n 10 .severe none (s.core n).tsbr⟩
  rw [State.modCore_mem, State.reportCore_mem]

end

theorem exceptionEntered : Claim.ExceptionEntry := by
  intro s d w n e hn hr hd hu ml
  refine ⟨fun h7 hl hw => ?_, fun hl h7 hw => ?_, fun h7 hw => ?_⟩
  · rw [State.raiseSync_taken h7 hl]
    exact State.enter_entered hn hr hd hu hw
  · rw [State.raiseSync_double h7 hl]
    exact State.enter_entered hn hr hd hu hw
  · rw [State.raiseSync, if_pos h7]
    exact State.checkstop_written hn hd hu hw

theorem unusableTsbStalls : Claim.UnusableTsbStalls := by
  intro s n e hn hr hsb hu h7
  have hraise : ∃ vec orig level, s.raiseSync n e = s.enter n e vec orig level := by
    rcases lt_or_ge (pswML (s.core n).psw) e.level with hl | hl
    · exact ⟨_, _, _, State.raiseSync_taken h7 hl⟩
    · exact ⟨_, _, _, State.raiseSync_double h7 hl⟩
  obtain ⟨vec, orig, level, hraise⟩ := hraise
  obtain ⟨t, ht, hrun, hmem, htsbr, hpsw, r, hflight, hsrc, hcls, haddr, -⟩ := State.enter_stalls (e := e) (vec := vec) (orig := orig) (level := level) hn hr hsb hu
  exact ⟨t, hraise.trans ht, hrun, hmem, htsbr, hpsw, r, hflight, hsrc, hcls, haddr⟩

/-- Settles O15: an exception is entered, escalated or stops its core by its level and ML, and stalls it without a usable block. -/
theorem exceptionEntry : Obligations.ExceptionEntry := ⟨exceptionEntered, unusableTsbStalls⟩

/-! Interrupts (R137, R139). -/

section
variable {s : State} {n vec level : Nat}

/-- The best event of a list in ascending order of vectors: no other has a higher level, and none of its level a lower vector. -/
theorem bestEvent_first : ∀ {es : List (Nat × Nat)}, es.Pairwise (fun a b => a.1 < b.1) → es ≠ [] →
    ∃ b, bestEvent es = some b ∧ b ∈ es ∧ ∀ e ∈ es, e.2 < b.2 ∨ (e.2 = b.2 ∧ b.1 ≤ e.1)
  | [e], _, _ => ⟨e, rfl, List.mem_singleton_self e, by simp⟩
  | e :: f :: es, hp, _ => by
    obtain ⟨hfirst, hrest⟩ := List.pairwise_cons.mp hp
    obtain ⟨b, hb, hmem, hbest⟩ := bestEvent_first hrest (List.cons_ne_nil f es)
    have heb := hfirst b hmem
    rw [bestEvent, hb]
    by_cases hlt : e.2 < b.2
    · refine ⟨b, if_pos hlt, List.mem_cons_of_mem _ hmem, List.forall_mem_cons.mpr ⟨.inl hlt, hbest⟩⟩
    · refine ⟨e, if_neg hlt, List.mem_cons_self, List.forall_mem_cons.mpr ⟨.inr ⟨rfl, le_rfl⟩, fun g hg => ?_⟩⟩
      have := hbest g hg
      omega

/-- The pending events stand in ascending order of vectors (R139). -/
theorem State.pendingEvents_ascending (s : State) (n : Nat) : (s.pendingEvents n).Pairwise fun a b => a.1 < b.1 := by
  have hsub : ∀ (p : Prop) [Decidable p] (e : Nat × Nat), (if p then [e] else []).Sublist [e] := fun p _ e => by
    split
    · exact .refl _
    · exact List.nil_sublist _
  have hall : (s.pendingEvents n).Sublist [(1, 7), (3, 6), (23, 1), (24, 1), (25, 2), (26, 3), (27, 3), (28, s.weirLevel n)] := by
    unfold State.pendingEvents
    exact (((((((hsub _ (1, 7)).append (hsub _ (3, 6))).append (hsub _ (23, 1))).append (hsub _ (24, 1))).append (hsub _ (25, 2))).append (hsub _ (26, 3))).append
      (hsub _ (27, 3))).append (hsub _ (28, s.weirLevel n))
  exact List.Pairwise.sublist hall (by simp)

/-- The event that R139 takes: the one of the highest level, the lowest vector first, when its level exceeds ML. -/
theorem State.nextEvent_best (hmem : (vec, level) ∈ s.pendingEvents n) (hml : pswML (s.core n).psw < level)
    (hbest : ∀ e ∈ s.pendingEvents n, e.2 < level ∨ (e.2 = level ∧ vec ≤ e.1)) : s.nextEvent n = some (vec, level) := by
  obtain ⟨b, hb, hbmem, hfirst⟩ := bestEvent_first (s.pendingEvents_ascending n) (List.ne_nil_of_mem hmem)
  have hle := hfirst _ hmem
  have hge := hbest _ hbmem
  have heq : b = (vec, level) := Prod.ext (by omega) (by omega)
  rw [State.nextEvent, hb, heq]
  exact if_pos hml

/-- A core that runs or waits, with nothing in progress, stands at a boundary (R139). -/
theorem State.atBoundary_idle (hrun : (s.core n).run = .running ∨ (s.core n).run = .waiting) (hsafe : s.weir.safe = false) (hread : (s.core n).devRead = none)
    (hinval : (s.core n).inval = none) (hwait : (s.core n).ioWait = none) (hfresh : (s.core n).slotFresh = false) : s.atBoundary n = true := by
  rcases hrun with hrun | hrun <;> simp [State.atBoundary, hrun, hsafe, hread, hinval, hwait, hfresh]

/-- The control store of a core is that of its physical core. -/
theorem RomOnly.modCore {f : Core → Core} (h : RomOnly s n) (hf : (f (s.core n)).pcn = (s.core n).pcn) : RomOnly (s.modCore n f) n := by
  rw [RomOnly, State.store, State.modCore_get Core.pcn hf]
  exact h

theorem Core.clearTaken_pcn (c : Core) (vec : Nat) : (c.clearTaken vec).pcn = c.pcn := by
  unfold Core.clearTaken
  split_ifs <;> rfl

end

theorem interruptEntered : Claim.InterruptEntry := by
  intro s d w n vec level hrun hsafe hread hinval hwait hfresh hr hn hmem hml hbest hd hu hw
  obtain ⟨t, ht, hent, htmem, -⟩ := State.enter_entered hn (hr.modCore (Core.clearTaken_pcn _ vec)) hd hu hw
  refine ⟨t, ?_, hent, htmem⟩
  rw [exec_takeInterrupt, execTakeInterrupt, if_pos (State.atBoundary_idle hrun hsafe hread hinval hwait hfresh), State.takeEvent,
    State.nextEvent_best hmem hml hbest]
  simp only [ht, orSame]

/-- Settles O17: the events stand in ascending order of vectors, so the best one is the first of the highest level. -/
theorem interruptEntry : Obligations.InterruptEntry := interruptEntered

end Sys2Proof.Machine
end

section
/-! SUPPORT. Events of one core (R140, R202, R219, R223 to R225, R261, R459, R526), which settle O27. -/

namespace Sys2Proof.Machine

section
variable {s t : State} {n : Nat}

/-! Inter-core interrupts and holds (R140, R202, R261). -/

theorem State.settleStore_none (h : (s.core n).devStore = none) : s.settleStore n = some s := by rw [State.settleStore, h]

/-- A core with nothing buffered or outstanding sets the target's ICI and its own bit of ICISRC there at once. -/
theorem iciSend_next {v : Word} {m : Nat} (hv : v.toNat % 256 = m) (hm : m < 48) (htarget : (s.core m).run ≠ .absent) (hrun : (s.core n).run ≠ .absent)
    (hsb : (s.core n).sb = []) (hdev : (s.core n).devStore = none) :
    exec (.iciSend n v) s = .next (s.modCore m fun c => { c with ici := true, iciSrc := c.iciSrc ||| (1 <<< n) }) := by
  have hfld : (fld v 0 8).toNat = m := by simpa [fld] using hv
  rw [exec_iciSend, execIciSend, if_neg hrun, State.drain_empty hsb, Option.bind_some, State.settleStore_none hdev, Option.map_some, orSame, hfld,
    State.sendIci, if_pos ⟨hm, htarget⟩]

theorem holdEnd_unmarked (h : s.pool.oldestHold (s.core n).pcn = none) : exec (.holdEnd n) s = .next (s.endHold n) := by
  rw [exec_holdEnd, execHoldEnd, h]

theorem Pool.oldestHold_agent {p : Pool} {agent : Nat} {h : SliceHold} (hh : p.oldestHold agent = some h) : h.agent = agent := by
  simpa using (List.mem_filter.mp (List.mem_of_getLast? hh)).2

/-- The end of the oldest mark of a core, which is that of its hold, with nothing waiting at the slices. -/
theorem holdEnd_marked {h : SliceHold} (hn : n < s.cores.length) (hh : s.pool.oldestHold (s.core n).pcn = some h)
    (hline : (s.core n).hold.map HoldMark.line = some h.line) (hq : s.pool.queue = []) :
    ∃ t, exec (.holdEnd n) s = .next t ∧ t.core n = { s.core n with hold := none } ∧ t.mem = s.mem ∧ t.pool.holds = s.pool.holds.erase h := by
  rw [exec_holdEnd, execHoldEnd, hh]
  dsimp only
  rw [State.endMark, State.serveQueue_empty _ (by exact hq)]
  refine ⟨_, rfl, ?_, rfl, rfl⟩
  rw [State.core_map (s := s) rfl hn, if_pos]
  simp [Pool.oldestHold_agent hh, hline]

/-! Timers (R459). -/

theorem Timer.fire_oneShot {x : Timer} (k : Nat) (h : x.ctl.extractLsb' 32 32 = 0) :
    x.fire k = { x with prevCtl := 0, ctl := (x.ctl ||| 4) &&& ~~~1 } := by
  have hperiod : (fld x.ctl 32 32).toNat = 0 := congrArg BitVec.toNat h
  simp only [Timer.fire, hperiod, if_true]

theorem timerMatch_due {i : Fin 2} {x : Timer} (hrun : (s.core n).run ≠ .absent) (hx : (s.core n).timers[i.val]? = some x) (hdue : x.due s.beatc = true) :
    ∃ t, exec (.timerMatch n i) s = .next t ∧ (t.core n).timers[i.val]? = some (x.fire s.beatc.toNat) := by
  refine ⟨s.modCore n fun c => { c with timers := modAt c.timers i.val (·.fire s.beatc.toNat) }, by simp [execTimerMatch, hx, hdue, hrun], ?_⟩
  rw [State.modCore_core _ _ _ (State.core_lt hrun)]
  simp [modAt, hx]

end

theorem coreEventsActed : Claim.CoreEvents := by
  intro s n v m i x hn
  refine ⟨fun hv hm htarget hrun hsb hdev _ => ?_, fun hnone => ?_, fun h hh hline hq => ?_, fun hrun hx hon hcmp hperiod => ?_⟩
  · refine ⟨_, iciSend_next hv hm htarget hrun hsb hdev, ?_, ?_, .modCore s m _⟩ <;> rw [State.modCore_core _ _ _ (State.core_lt htarget)]
  · refine ⟨_, holdEnd_unmarked hnone, ?_, ?_, endHold_same s n⟩ <;> rw [State.endHold, State.modCore_core _ _ _ hn]
  · obtain ⟨t, ht, hcore, hmem, hholds⟩ := holdEnd_marked hn hh hline hq
    exact ⟨t, ht, by rw [hcore], by rw [hcore], hmem, hholds⟩
  · have hdue : x.due s.beatc = true := by simp [Timer.due, bitAt, hon, hcmp]
    obtain ⟨t, ht, htimer⟩ := timerMatch_due hrun hx hdue
    rw [Timer.fire_oneShot _ hperiod] at htimer
    exact ⟨t, _, ht, htimer, by simp, by simp, rfl⟩

/-! Instruction retry (R219 to R225). -/

section
variable {s : State} {n : Nat}

/-- The core after the restart of its instruction (R220, R224). -/
def Core.restarted (c : Core) : Core :=
  { c.perfAdd 14 1 with hold := none, inval := none, retries := c.retries + 1, resv := none, due := [], ioWait := none }

theorem State.restart_eq (s : State) (n : Nat) :
    s.restart n = ((s.modPool (·.dropInval n)).modCore n Core.restarted).withSequence n 0x0A00 some := by
  rw [State.restart, State.dropInval, State.modCore_modCore]
  change ((((s.modPool (·.dropInval n)).modCore n _).modCore n _).withSequence n 0x0A00 some) = _
  rw [State.modCore_modCore]
  rfl

/-- A restart by the sequence of ROM changes its core and the Pool's messages of an invalidation alone. -/
theorem State.restart_rom (hn : n < s.cores.length) (hr : RomOnly s n) :
    ∃ t, s.restart n = some t ∧ t.core n = (s.core n).restarted ∧ t.weir = s.weir ∧ t.mem = s.mem := by
  have hrom : RomOnly (s.modPool (·.dropInval n)) n := hr
  rw [State.restart_eq, State.withSequence_rom (hrom.modCore rfl)]
  exact ⟨_, rfl, (s.modPool (·.dropInval n)).modCore_core n _ hn, rfl, rfl⟩

/-- A core that retry gives up is paused with a SEVERE event of its retry source (R224). -/
theorem State.pauseCore_paused (hn : n < s.cores.length) :
    ((s.pauseCore n).core n).run = .paused ∧ (s.pauseCore n).mem = s.mem ∧ Reported s (s.pauseCore n) (16 * (s.core n).pcn + 7) .severe 0 := by
  refine ⟨?_, rfl, s.reportCore_reported n 7 .severe none 0⟩
  rw [State.pauseCore, State.modCore_core]
  simpa [State.dropInval, State.endHold] using hn

/-- A core whose checkpoint is lost stops with a FATAL event of its checkpoint source (R225). -/
theorem State.loseCheckpoint_stops (hn : n < s.cores.length) :
    ((s.loseCheckpoint n).core n).run = .checkstopped ∧ Reported s (s.loseCheckpoint n) (16 * (s.core n).pcn + 6) .fatal 0 := by
  refine ⟨?_, ?_⟩
  · rw [State.loseCheckpoint, State.mclGone_core, State.modCore_core]
    simpa [State.cancelSparing, State.dropInval, State.endHold] using hn
  · rw [State.loseCheckpoint, Reported, (State.mclGone_keeps _ n).2.2]
    exact s.reportCore_reported n 6 .fatal none 0

/-- An error of an execution unit of a running core with no IN outstanding goes to retry (R219). -/
theorem instructionRetry_tried (hrun : (s.core n).run = .running) (hread : (s.core n).devRead = none) :
    exec (.instructionRetry n .executionUnit none) s = orSame s (s.tryAgain n .executionUnit) := by
  simp [execInstructionRetry, hrun, Core.issued, hread]

/-- Retry of an execution unit's error while Weir's CORRECTED action holds RETRY: recorded, and then by the number of retries made (R224). -/
theorem State.tryAgain_executionUnit (hretry : (s.weir.source (16 * (s.core n).pcn)).actC.getLsbD 12 = true) :
    s.tryAgain n .executionUnit = if (s.core n).retries < 2 then (s.reportCore n 0 .corrected none 0).restart n
      else some ((s.reportCore n 0 .corrected none 0).pauseCore n) := by
  simp only [State.tryAgain, RetryError.source, coreSrc, Nat.add_zero, WeirSource.act, bitAt, hretry, Bool.true_and, State.disposeError, decide_eq_true_eq]

end

theorem instructionRetried : Claim.InstructionRetry := by
  intro s n hn hrun hread c retry
  have hcores := s.reportCore_cores n 0 .corrected none 0
  have hcore : (s.reportCore n 0 .corrected none 0).core n = s.core n := State.core_congr hcores n
  obtain ⟨r, hflight, hsrc, hcls, -⟩ := s.reportCore_reported n 0 .corrected none 0
  refine ⟨fun hretry hlt hr => ?_, fun hretry hge => ?_, fun w => ?_⟩
  · have hrom : RomOnly (s.reportCore n 0 .corrected none 0) n := hr
    obtain ⟨t, ht, htcore, hweir, hmem⟩ := State.restart_rom (hcores ▸ hn) hrom
    rw [hcore] at htcore
    have hexec : exec (.instructionRetry n .executionUnit none) s = .next t := by
      rw [instructionRetry_tried hrun hread, State.tryAgain_executionUnit hretry, if_pos hlt, ht, orSame]
    refine ⟨t, r, hexec, hweir ▸ hflight, hsrc, hcls, ?_⟩
    rw [htcore]
    exact ⟨rfl, rfl, rfl, rfl, rfl, hrun, hmem.trans (s.reportCore_mem ..)⟩
  · obtain ⟨hpaused, hmem, r', hflight', hsrc', hcls', -⟩ := State.pauseCore_paused (s := s.reportCore n 0 .corrected none 0) (hcores ▸ hn)
    refine ⟨_, r, r', ?_, by rw [hflight', hflight, List.append_assoc]; rfl, hcls', by rw [hsrc', hcore], hpaused, hmem.trans (s.reportCore_mem ..)⟩
    rw [instructionRetry_tried hrun hread, State.tryAgain_executionUnit hretry, if_neg (Nat.not_lt.mpr hge), orSame]
  · obtain ⟨hstop, r, hflight, hsrc, hcls, -⟩ := State.loseCheckpoint_stops hn
    exact ⟨_, r, by simp [execInstructionRetry, hrun], hflight, hsrc, hcls, hstop⟩

/-! Stored data (R264, R526). -/

section
variable {s : State} {n line : Nat}

/-- A line that is valid in the Pool is poisoned where it stands (R264). -/
theorem State.poisonLine_valid (h : (s.dirEntry line).isSome = true) : s.poisonLine line = some (s.poisonCopy line) := by
  obtain ⟨e, he⟩ := Option.isSome_iff_exists.mp h
  rw [State.poisonLine, State.allocate, he, Option.map_some]

theorem State.poisonCopy_poisoned (h : (s.dirEntry line).isSome = true) : (s.poisonCopy line).poisoned line = true := by
  obtain ⟨e, he⟩ := Option.isSome_iff_exists.mp h
  have hentry : (s.poisonCopy line).dirEntry line = some { e with p := true }.write := by
    refine Eq.trans ?_ ((s.modDir_dirEntry line (fun e => { e with p := true }) fun _ => rfl).trans (congrArg _ he))
    exact State.dirEntry_congr rfl line
  rw [State.poisoned, hentry]
  rfl

theorem State.poisonCopy_cores (s : State) (line : Nat) : (s.poisonCopy line).cores = s.cores := rfl

/-- A machine check of cause 2 made pending for a line, the L2 source of the core with it; the first one keeps its record (R526). -/
def Core.pendCheck (c : Core) (line : Nat) : Core :=
  { c with mca := if c.mca.isSome then c.mca else some { line := line, src := 16 * c.pcn + 3 } }

theorem machineCheckStoredData_next (hrun : (s.core n).run ≠ .absent) (hkind : s.paKind (line * 256) ≠ .hole)
    (hvalid : (s.dirEntry line).isSome = true) :
    exec (.machineCheckStoredData n line) s =
      .next (((s.poisonCopy line).reportCore n 3 .recoverable none (BitVec.ofNat 64 (line * 256))).modCore n (·.pendCheck line)) := by
  have hcore : ((s.poisonCopy line).reportCore n 3 .recoverable none (BitVec.ofNat 64 (line * 256))).core n = s.core n :=
    (State.core_congr (State.reportCore_cores ..) n).trans (State.core_congr (s.poisonCopy_cores line) n)
  rw [exec_machineCheckStoredData, execMachineCheckStoredData]
  simp only [hrun, hkind, if_false, State.poisonLine_valid hvalid]
  refine congrArg _ (State.modCore_congr _ n ?_)
  rw [hcore]
  rfl

end

theorem storedDataChecked : Claim.StoredDataCheck := by
  intro s n line hn hrun hkind hvalid
  have hcores := (s.poisonCopy line).reportCore_cores n 3 .recoverable none (BitVec.ofNat 64 (line * 256))
  have hcore := (State.core_congr hcores n).trans (State.core_congr (s.poisonCopy_cores line) n)
  refine ⟨_, machineCheckStoredData_next hrun (by rw [hkind]; decide) hvalid, State.poisonCopy_poisoned hvalid, ?_, ?_⟩
  · rw [State.modCore_core _ _ _ (hcores ▸ hn), hcore]
    rfl
  · rw [State.modCore_mem, State.reportCore_mem]
    exact (poisonCopy_keeps s line).mem

/-- Settles O27: what ICISEND, the end of a hold, a timer, a retry and bad stored data make of a core. -/
theorem coreEvents : Obligations.CoreEvents := ⟨coreEventsActed, instructionRetried, storedDataChecked⟩

end Sys2Proof.Machine
end

section
/-! SUPPORT. Sparing of CPs, and the commands RESCUE, DUMP and RETIRE (R154, R320, R425, R426, R432, R453), which settle O46. -/

namespace Sys2Proof.Machine

section
variable {s t w : State} {n : Nat} {tgt : Byte}

/-- A command of CTCMD whose port acts, outside safe state (R10, R453). -/
theorem ctRow_some {i : Instr} {run : State → Option State} (hi : exec i s = ctRow run s) (hl : s.portLives .ctcmd = true) (hs : s.weir.safe = false)
    (h : run s = some t) : exec i s = .next t := by
  simp only [hi, ctRow, portRow, hl, if_true, hs, Bool.false_eq_true, if_false, h, orSame]

/-! Sparing of a CP (R320, R426). -/

theorem cmdSpareCp_unknown (h : 32 ≤ tgt.toNat ∨ s.lcpPresent tgt.toNat = false) : s.cmdSpareCp tgt = some (s.ctResult tgt 2) := by
  rw [State.cmdSpareCp, if_pos h]

/-- A present CP that runs, with a spare of its group ready: the spare is claimed for it. -/
theorem cmdSpareCp_claims (hn : tgt.toNat < 32) (hp : s.lcpPresent tgt.toNat = true) (hr : s.cpRuns tgt.toNat = true)
    (hready : (s.slot (4 + tgt.toNat / 8)).st = .ready) :
    s.cmdSpareCp tgt = some (((s.modSlot (4 + tgt.toNat / 8) fun x => { x with st := .claimed }).modCt fun c =>
      { c with cpSpar := c.cpSpar ++ [{ unit := tgt.toNat, slot := 4 + tgt.toNat / 8, since := s.beatc, src := none }] }).ctResult tgt 0) := by
  have hknown : ¬(32 ≤ tgt.toNat ∨ s.lcpPresent tgt.toNat = false) := by
    rw [hp]
    exact not_or.mpr ⟨by omega, by decide⟩
  rw [State.cmdSpareCp, if_neg hknown]
  simp only [State.startSpareCp, hp, hr, hready, Bool.not_true, Bool.or_self, Bool.false_eq_true, if_false, if_true, Option.map_some]

/-- A slot that is not empty stands in the table. -/
theorem State.slot_lt {i : Nat} (h : (s.slot i).st ≠ .empty) : i < s.ct.slots.length := by
  by_contra hi
  simp [State.slot, List.getD, hi] at h

theorem spareDone_keeps (s : State) (src : Option Nat) : (s.spareDone src).mem = s.mem ∧ (s.spareDone src).css = s.css ∧ (s.spareDone src).ct = s.ct := by
  cases src <;> exact ⟨rfl, rfl, rfl⟩

/-- The subchannels of a CP are read from the table in memory. -/
theorem State.schsOfCp_congr (h : t.mem = s.mem) (k : Nat) : t.schsOfCp k = s.schsOfCp k := by
  simp only [State.schsOfCp, State.establishedSchs, State.sch, State.tableWord, h]

/-- Subchannels without an operation have nothing to resume (R319). -/
theorem State.restartSchs_idle {ks : List Nat} (h : ∀ o ∈ s.css.ops, o.sch ∉ ks) : s.restartSchs ks = some s := by
  have hnone : s.css.ops.filter (fun o => ks.contains o.sch) = [] := by
    rw [List.filter_eq_nil_iff]
    intro o ho
    simpa using h o ho
  rw [State.restartSchs, hnone, List.foldl_nil]

/-- The spare of sparing x has taken the number of its CP, before its operations resume (R426). -/
def State.cpTaken (s : State) (x : Sparing) : State :=
  let u := match s.ct.lcp.getD x.unit none with
    | some p => s.spend (spentCp p)
    | none => s
  (u.spareDone x.src).modCt fun c => { c with lcp := c.lcp.set x.unit (some (u.slot x.slot).phys), cpSpar := c.cpSpar.filter (fun y => y.unit != x.unit) }

theorem cpTaken_keeps (s : State) (x : Sparing) : (s.cpTaken x).mem = s.mem ∧ (s.cpTaken x).css = s.css ∧
    (s.cpTaken x).ct.lcp = s.ct.lcp.set x.unit (some (s.slot x.slot).phys) ∧ (s.cpTaken x).ct.cpSpar = s.ct.cpSpar.filter (fun y => y.unit != x.unit) := by
  have hkeeps := fun u : State => spareDone_keeps u x.src
  unfold State.cpTaken
  dsimp only
  split
  · rename_i p _
    obtain ⟨hmem, hcss, hct⟩ := hkeeps (s.spend (spentCp p))
    refine ⟨hmem, hcss, ?_, ?_⟩ <;> rw [State.modCt_ct, hct] <;> rfl
  · obtain ⟨hmem, hcss, hct⟩ := hkeeps s
    refine ⟨hmem, hcss, ?_, ?_⟩ <;> rw [State.modCt_ct, hct]

/-- The one sparing in progress ends after its confirmation when no operation of its CP has to resume. -/
theorem cpSparing_ends {x : Sparing} (hs : s.weir.safe = false) (hx : s.ct.cpSpar = [x]) (hdue : 256 ≤ s.since x.since)
    (hidle : ∀ o ∈ s.css.ops, o.sch ∉ s.schsOfCp x.unit) :
    exec (.cpSparing x.unit) s = .next ((s.cpTaken x).modSlot x.slot fun y => { y with st := .empty }) := by
  obtain ⟨hmem, hcss, -⟩ := cpTaken_keeps s x
  have hnot : (s.weir.safe || decide (s.since x.since < 256)) = false := by simp [hs, hdue]
  have hfind : s.ct.cpSpar.find? (fun y => y.unit == x.unit) = some x := by simp [hx]
  rw [exec_cpSparing, execCpSparing]
  dsimp only
  rw [hfind]
  dsimp only
  rw [hnot, if_neg Bool.false_ne_true]
  change orSame s (((s.cpTaken x).modSlot x.slot fun y => { y with st := .empty }).restartSchs ((s.cpTaken x).schsOfCp x.unit)) = _
  rw [State.schsOfCp_congr hmem, State.restartSchs_idle (by rw [State.modSlot_css, hcss]; exact hidle), orSame]

end

theorem cpSpares : Claim.CpSpares := by
  intro s hl hs
  refine ⟨fun tgt h => ?_, fun tgt hn hp hr hready => ?_, fun x hx hdue hlen hidle => ?_⟩
  · exact ⟨_, ctRow_some (exec_spareCp s tgt) hl hs (cmdSpareCp_unknown h), ⟨rfl, rfl⟩, rfl, rfl⟩
  · refine ⟨_, ctRow_some (exec_spareCp s tgt) hl hs (cmdSpareCp_claims hn hp hr hready), ⟨rfl, rfl⟩, ?_, rfl⟩
    exact congrArg Slot.st (modSlot_slot s (fun y => { y with st := .claimed }) (State.slot_lt (by rw [hready]; decide)) :)
  · obtain ⟨-, -, hlcp, hspar⟩ := cpTaken_keeps s x
    refine ⟨_, cpSparing_ends hs hx hdue hidle, ?_, fun m hm => ?_, ?_⟩
    · refine (congrArg (fun l => List.getD l x.unit none) hlcp).trans ?_
      simp [List.getD, hlen]
    · refine (congrArg (fun l => List.getD l m none) hlcp).trans ?_
      simp [List.getD, hm.symm]
    · refine hspar.trans ?_
      simp [hx]

/-! RESCUE, DUMP and RETIRE (R154, R425, R432, R453). -/

section
variable {s w : State} {tgt : Byte}

theorem cmdRescue_unknown (h : 48 ≤ tgt.toNat) : s.cmdRescue tgt = some (s.ctResult tgt 2) := by
  rw [State.cmdRescue, State.tgtCore, if_neg fun hlt => absurd hlt.1 (Nat.not_lt.mpr h)]

theorem cmdRescue_unusable {e : Exc} (hn : s.tgtCore tgt = some tgt.toNat) (he : (s.core tgt.toNat).stalled = some e) (hu : s.tsbUsable s.ct.arg = false) :
    s.cmdRescue tgt = some (s.ctResult tgt 3) := by
  simp only [State.cmdRescue, hn, he, hu, Bool.not_false, if_true]

theorem State.modCore_tsbUsable (s : State) (n : Nat) (f : Core → Core) (a : Word) : (s.modCore n f).tsbUsable a = s.tsbUsable a := by
  unfold State.tsbUsable
  rfl

/-- The rescued core is in the handler of its exception, its TSB written at CTARG. -/
theorem cmdRescue_enters {e : Exc} (hn : s.tgtCore tgt = some tgt.toNat) (hlt : tgt.toNat < s.cores.length) (he : (s.core tgt.toNat).stalled = some e)
    (hu : s.tsbUsable s.ct.arg = true) (hlen : tgt.toNat < w.cores.length)
    (hw : (s.modCore tgt.toNat fun c => { c with tsbr := s.ct.arg }).writeTsb tgt.toNat e e.vec e.orig e.level = some w) :
    ∃ t : State, s.cmdRescue tgt = some (t.ctResult tgt 0) ∧ Entered (w.core tgt.toNat) (t.core tgt.toNat) e.vec e.level ∧ t.mem = w.mem := by
  have hblock : (s.modCore tgt.toNat fun c => { c with tsbr := s.ct.arg }).tsbUsable
      ((s.modCore tgt.toNat fun c => { c with tsbr := s.ct.arg }).core tgt.toNat).tsbr = true := by
    rw [State.modCore_tsbUsable, State.modCore_core _ _ _ hlt]
    exact hu
  obtain ⟨t, ht, hent, hmem⟩ := State.enterFrom3_entered hlen hblock hw
  refine ⟨t, ?_, hent, hmem⟩
  simp only [State.cmdRescue, hn, he, hu, Bool.not_true, Bool.false_eq_true, if_false, ht, Option.map_some]

theorem cmdDump_unknown (h : 48 ≤ tgt.toNat) : s.cmdDump tgt = some (s.ctResult tgt 2) := by rw [State.cmdDump, if_pos h]

theorem cmdDump_none (hn : tgt.toNat < 48) (h : s.ct.kept = []) : s.cmdDump tgt = some (s.ctResult tgt 1) := by
  rw [State.cmdDump, if_neg (Nat.not_le.mpr hn), h, List.find?_nil]

theorem find?_kept {k : Core} (h : s.ct.kept = [(tgt.toNat, k)]) : s.ct.kept.find? (fun p => p.1 == tgt.toNat) = some (tgt.toNat, k) := by simp [h]

theorem cmdDump_unusable {k : Core} (hn : tgt.toNat < 48) (h : s.ct.kept = [(tgt.toNat, k)]) (hu : s.tsbUsable s.ct.arg = false) :
    s.cmdDump tgt = some (s.ctResult tgt 3) := by
  simp only [State.cmdDump, Nat.not_le.mpr hn, find?_kept h, hu, Bool.not_false, if_false, if_true]

/-- DUMP writes the one kept checkpoint into the block at CTARG (R425). -/
theorem cmdDump_written {k : Core} (hn : tgt.toNat < 48) (h : s.ct.kept = [(tgt.toNat, k)]) (hu : s.tsbUsable s.ct.arg = true)
    (hw : s.devWrite 0xA00 s.ct.arg.toNat (s.dumpImage k) = some w) : s.cmdDump tgt = some (w.ctResult tgt 0) := by
  simp only [State.cmdDump, Nat.not_le.mpr hn, find?_kept h, hu, Bool.not_true, Bool.false_eq_true, if_false, hw, Option.map_some]

/-- Retiring marks the records chosen, whatever becomes of the space that they took (R432). -/
theorem retireRecs_recs (s : State) (f : JRec → Bool) :
    (s.retireRecs f).ct.recs = s.ct.recs.map fun r => if !r.retired && f r then { r with retired := true } else r := by
  have hretail : ∀ c : Ct, c.retail.recs = c.recs := fun c => by
    unfold Ct.retail
    split <;> rfl
  exact hretail _

theorem ctResult_recs (s : State) (r : Byte) : (s.ctResult tgt r).ct.recs = s.ct.recs := rfl

/-- RETIRE acts on the released records of CTARG's subchannel up to its generation (R432). -/
theorem cmdRetire_recs (s : State) (tgt : Byte) : (s.cmdRetire tgt).ct.recs = s.ct.recs.map (fun r =>
    if r.retired = false ∧ r.released = true ∧ r.sch = (fld s.ct.arg 32 20).toNat ∧ notAfter r.gen (fld s.ct.arg 0 32) = true then { r with retired := true }
    else r) := by
  rw [State.cmdRetire, ctResult_recs, retireRecs_recs]
  refine List.map_congr_left fun r _ => ?_
  simp [and_assoc]

end

theorem rescueDumpRetire : Claim.RescueDumpRetire := by
  intro s tgt hl hs n
  refine ⟨fun h => ⟨?_, ?_⟩, fun hn hrun e he => ?_, fun hn hk => ?_, fun hn k w hk => ⟨fun hu => ?_, fun hu hw => ?_⟩, ?_⟩
  · exact ⟨_, ctRow_some (exec_rescue s tgt) hl hs (cmdRescue_unknown h), ⟨rfl, rfl⟩, rfl⟩
  · exact ⟨_, ctRow_some (exec_dump s tgt) hl hs (cmdDump_unknown h), ⟨rfl, rfl⟩, rfl⟩
  · have hpresent : (s.core n).run ≠ .absent := by rw [hrun]; decide
    have htgt : s.tgtCore tgt = some n := if_pos ⟨hn, hpresent⟩
    refine ⟨fun hu => ⟨_, ctRow_some (exec_rescue s tgt) hl hs (cmdRescue_unusable htgt he hu), ⟨rfl, rfl⟩, rfl⟩, fun w hu hlen hw => ?_⟩
    obtain ⟨t, ht, hent, hmem⟩ := cmdRescue_enters htgt (State.core_lt hpresent) he hu hlen hw
    exact ⟨_, ctRow_some (exec_rescue s tgt) hl hs ht, ⟨rfl, rfl⟩, hent, hmem⟩
  · exact ⟨_, ctRow_some (exec_dump s tgt) hl hs (cmdDump_none hn hk), ⟨rfl, rfl⟩, rfl⟩
  · exact ⟨_, ctRow_some (exec_dump s tgt) hl hs (cmdDump_unusable hn hk hu), ⟨rfl, rfl⟩, rfl⟩
  · exact ⟨_, ctRow_some (exec_dump s tgt) hl hs (cmdDump_written hn hk hu hw), ⟨rfl, rfl⟩, rfl⟩
  · exact ⟨s.cmdRetire tgt, ctRow_some (exec_retire s tgt) hl hs rfl, ⟨rfl, rfl⟩, cmdRetire_recs s tgt⟩

/-- Settles O46: a spare takes over a CP, and each of the commands has its refusals and its effect. -/
theorem cpSparesAndRescue : Obligations.CpSparesAndRescue := ⟨cpSpares, rescueDumpRetire⟩

end Sys2Proof.Machine
end

section
/-! SUPPORT. The canonical form of memory, kept by what every operation is made of: choices, optional results, and computations of a core. -/

namespace Sys2Proof.Machine

/-- Memory has its canonical form (R272). -/
def State.Canon (s : State) : Prop := s.mem.wf = true

/-- The memory of the state that an optional result carries, and an empty one where it carries none. -/
def optMem {α : Type} (st : α → State) : Option α → Mem
  | some x => (st x).mem
  | none => []

/-- The memory that an answer carries, and an empty one where it carries none. -/
def outMem : Out → Mem
  | .next t => t.mem
  | _ => []

/-- Where an optional result carries a state, memory is canonical in it. -/
def OptOf {α : Type} (st : α → State) (o : Option α) : Prop := (optMem st o).wf = true

/-- Where there is a next state, memory is canonical in it. -/
abbrev OptCanon (o : Option State) : Prop := OptOf (fun t => t) o

/-- Where the block answers with a state, memory is canonical in it. -/
def OutCanon (o : Out) : Prop := (outMem o).wf = true

/-- Memory is canonical in the state that a computation leaves, whether it stops or not. -/
def ResCanon {α : Type} : EStateM.Result Stop State α → Prop
  | .ok _ t => t.Canon
  | .error _ t => t.Canon

/-- A computation of a core keeps the canonical form. -/
def RunCanon {α : Type} (m : Run α) : Prop := ∀ s : State, s.Canon → ResCanon (m s)

section
variable {s t : State} {α β : Type}

namespace State.Canon

theorem of_mem_eq (h : s.Canon) (e : t.mem = s.mem) : t.Canon := by
  unfold State.Canon
  rw [e]
  exact h

section
variable {cores : List Core} {pool : Pool} {mc : MemCtl} {weir : Weir} {ct : Ct} {css : Css} {eth : Eth} {cz : Cz} {cx : Cx} {slices : Slices}
  {plant : Plant} {life : Life} {free : Nat} {pending : List Instr}

/-- An update of other fields. -/
theorem upd (h : s.Canon) : State.Canon ⟨cores, s.mem, pool, mc, weir, ct, css, eth, cz, cx, slices, plant, life, free, pending⟩ := h

end

theorem ite {c : Prop} [Decidable c] (hs : s.Canon) (ht : t.Canon) : (if c then s else t).Canon := by
  split
  · exact hs
  · exact ht

/-- A choice between two results that carry a state each. -/
theorem ite_snd {c : Prop} [Decidable c] {p q : α × State} (hp : p.2.Canon) (hq : q.2.Canon) : (if c then p else q).2.Canon := by
  split
  · exact hp
  · exact hq

theorem foldl {f : State → α → State} {l : List α} (h : s.Canon) (hf : ∀ (t : State) (a : α), t.Canon → (f t a).Canon) : (l.foldl f s).Canon := by
  induction l generalizing s with
  | nil => exact h
  | cons a l ih => exact ih (hf s a h)

/-- The state of a pair that is known. -/
theorem of_pair {p : α × State} {a : α} (h : p.2.Canon) (e : p = (a, t)) : t.Canon := by
  subst e
  exact h

theorem orSame {o : Option State} (h : s.Canon) (ho : OptCanon o) : OutCanon (orSame s o) := by
  cases o with
  | none => exact h
  | some t => exact ho

end State.Canon

namespace OptOf
variable {st : α → State} {su : β → State} {o : Option α}

theorem of_eq {x : α} (h : OptOf st o) (e : o = some x) : (st x).Canon := by
  subst e
  exact h

theorem ite {c : Prop} [Decidable c] {o o' : Option α} (h : OptOf st o) (h' : OptOf st o') : OptOf st (if c then o else o') := by
  split
  · exact h
  · exact h'

theorem map {f : α → β} (h : OptOf st o) (hf : ∀ x, (st x).Canon → (su (f x)).Canon) : OptOf su (o.map f) := by
  cases o with
  | none => rfl
  | some x => exact hf x h

theorem bind {f : α → Option β} (h : OptOf st o) (hf : ∀ x, (st x).Canon → OptOf su (f x)) : OptOf su (o.bind f) := by
  cases o with
  | none => rfl
  | some x => exact hf x h

theorem getD {o : Option State} (h : OptCanon o) (hs : s.Canon) : (o.getD s).Canon := by
  cases o with
  | none => exact hs
  | some t => exact h

end OptOf

theorem OutCanon.next (h : t.Canon) : OutCanon (.next t) := h

theorem OutCanon.ite {c : Prop} [Decidable c] {a b : Out} (ha : OutCanon a) (hb : OutCanon b) : OutCanon (if c then a else b) := by
  split
  · exact ha
  · exact hb

namespace RunCanon
variable {m : Run α}

theorem pure {a : α} : RunCanon (Pure.pure a) := fun _ h => h

theorem throw {e : Stop} : RunCanon (MonadExcept.throw e : Run α) := fun _ h => h

theorem set (h : t.Canon) : RunCanon (MonadStateOf.set t : Run PUnit) := fun _ _ => h

theorem modify {f : State → State} (hf : ∀ s, s.Canon → (f s).Canon) : RunCanon (modify f : Run PUnit) := fun s h => hf s h

theorem bind {k : α → Run β} (hm : RunCanon m) (hk : ∀ a, RunCanon (k a)) : RunCanon (m >>= k) := by
  intro s h
  have := hm s h
  change ResCanon (EStateM.bind m k s)
  unfold EStateM.bind
  split
  · next a t e => exact hk a t (by rw [e] at this; exact this)
  · next a t e => rw [e] at this; exact this

theorem throw_bind {e : Stop} {k : α → Run β} : RunCanon ((MonadExcept.throw e : Run α) >>= k) := fun _ h => h

theorem guard {c : Prop} [Decidable c] {k : Run β} (hm : RunCanon m) (hk : RunCanon k) : RunCanon (if c then m >>= fun _ => k else k) := by
  split
  · exact hm.bind fun _ => hk
  · exact hk

theorem guardNot {c : Prop} [Decidable c] {k : Run β} (hm : RunCanon m) (hk : RunCanon k) : RunCanon (if c then k else m >>= fun _ => k) := by
  split
  · exact hk
  · exact hm.bind fun _ => hk

/-- What follows a look at the state may use that its memory is canonical. -/
theorem get_bind {k : State → Run β} (hk : ∀ s, s.Canon → RunCanon (k s)) : RunCanon (get >>= k) := fun s h => hk s h s h

theorem ite {c : Prop} [Decidable c] {m m' : Run α} (h : RunCanon m) (h' : RunCanon m') : RunCanon (if c then m else m') := by
  split
  · exact h
  · exact h'

end RunCanon

end

end Sys2Proof.Machine
end

section
/-! SUPPORT. Reports, messages, copies of lines, stores, translations and operands keep the canonical form of memory (R272), which settles O58. -/

namespace Sys2Proof.Machine
variable {s : State}

/-! The operations of Machine/Report.lean. -/

theorem State.Canon.takeFree (h : s.Canon) : s.takeFree.2.Canon := h.upd

theorem State.Canon.reportAt {src station : Nat} {cls : FaultClass} {pcn lcn : Byte} {detail : Option Word32} {addr : Word} (h : s.Canon) :
    (s.reportAt src cls station pcn lcn detail addr).Canon := by
  cases detail with
  | none => exact h.takeFree.upd
  | some d => exact h.upd

theorem State.Canon.modCore {n : Nat} {f : Core → Core} (h : s.Canon) : (s.modCore n f).Canon := h.upd

theorem State.Canon.report {src : Nat} {cls : FaultClass} {detail : Option Word32} {addr : Word} (h : s.Canon) : (s.report src cls detail addr).Canon :=
  h.reportAt

theorem State.Canon.reportCore {n k : Nat} {cls : FaultClass} {detail : Option Word32} {addr : Word} (h : s.Canon) : (s.reportCore n k cls detail addr).Canon :=
  h.reportAt

/-! The operations of Machine/Millrace.lean. -/

theorem State.Canon.modPool {f : Pool → Pool} (h : s.Canon) : (s.modPool f).Canon := h.upd

theorem State.Canon.send {src dst : Nat} {m : PoolMsg} (h : s.Canon) : (s.send src dst m).Canon := h.modPool

theorem State.Canon.carry {src dst : Nat} {m : PoolMsg} (h : s.Canon) : (s.carry src dst m).Canon := h.modPool

theorem State.Canon.broadcast {src : Nat} {answering : List Nat} {m : PoolMsg} (h : s.Canon) : (s.broadcast src answering m).Canon := h.modPool

theorem State.Canon.takeMsg {st : Nat} {f : PoolMsg → Bool} (h : s.Canon) : OptOf Prod.snd (s.takeMsg st f) := by
  unfold State.takeMsg
  cases takeFlight f st [] s.pool.flights with
  | none => rfl
  | some q => exact h.modPool

theorem State.Canon.withdrawRing {station : Nat} {r : Ring} (h : s.Canon) : (s.withdrawRing station r).Canon := h.ite (h.modPool.ite h.modPool.reportAt)

/-! The operations of Machine/Coherence.lean. -/

theorem State.Canon.modDir {line : Nat} {f : DirEntry → DirEntry} (h : s.Canon) : (s.modDir line f).Canon := h.modPool

theorem State.Canon.loseResvs {line : Nat} {f : Core → Bool} (h : s.Canon) : (s.loseResvs line f).Canon := h.upd

/-- The newer bytes of a copy that is lost go back to what the Pool copy keeps (R249). -/
theorem State.Canon.restorePool {line : Nat} (h : s.Canon) :
    ({ s with mem := restoreLine s.mem s.pool.poolOld line, pool := { s.pool with poolOld := dropLine s.pool.poolOld line } } : State).Canon :=
  restoreLine_wf h _ line

theorem State.Canon.dropCopy {agent line : Nat} {back : Bool} (h : s.Canon) : (s.dropCopy agent line back).Canon :=
  ((h.modPool.modDir.modPool.ite h.modPool.modDir.restorePool).ite h.modPool.modDir).upd

theorem State.Canon.evictCopy {agent line : Nat} (h : s.Canon) : (s.evictCopy agent line).Canon := h.dropCopy.loseResvs

theorem State.Canon.dropOthers {line : Nat} {keep : Option Nat} (h : s.Canon) : (s.dropOthers line keep).Canon := h.foldl (fun _ _ ht => ht.ite ht.dropCopy)

theorem State.Canon.writeBack {line : Nat} (h : s.Canon) : (s.writeBack line).Canon := by
  unfold State.writeBack
  split
  · exact h
  · exact h.upd.ite h

theorem State.Canon.forgetLine {line : Nat} (h : s.Canon) : (s.forgetLine line).Canon := h.modPool

theorem State.Canon.evictLine {line : Nat} (h : s.Canon) : (s.evictLine line).Canon := h.dropOthers.loseResvs.writeBack.forgetLine

theorem State.Canon.install {line w : Nat} (h : s.Canon) : (s.install line w).Canon := h.upd

theorem State.Canon.drawWay {line : Nat} (h : s.Canon) : (s.drawWay line).2.Canon := h.upd.modPool

/-- The choice of a way stands as a variable here: applied, it would let the kernel evaluate the address map, which counts memory in bytes. -/
theorem State.Canon.allocate {line : Nat} (h : s.Canon) : OptCanon (s.allocate line) := by
  unfold State.allocate
  obtain ⟨choose, hc⟩ : ∃ f, State.chooseWay = f := ⟨_, rfl⟩
  rw [hc]
  split
  · exact h
  · split
    next v t e =>
      have ht := h.drawWay.of_pair e
      split
      · rfl
      · split
        · exact ht.install
        · exact .ite rfl ht.evictLine.install

theorem State.Canon.placeCopy {agent line : Nat} (h : s.Canon) : OptOf Prod.snd (s.placeCopy agent line) := by
  unfold State.placeCopy
  split
  · exact h
  · split
    · exact h
    · split
      next x _ t e =>
        dsimp only
        split
        · exact (h.takeFree.of_pair e).evictCopy
        · exact rfl

theorem State.Canon.putCopy {agent line way : Nat} {st : AgentState} (h : s.Canon) : (s.putCopy agent line way st).Canon := h.modPool

theorem State.Canon.ownLine {agent line way : Nat} (h : s.Canon) : (s.ownLine agent line way).Canon := h.modDir

theorem State.Canon.acquire {agent line : Nat} (h : s.Canon) : OptCanon (s.acquire agent line) := by
  unfold State.acquire
  split
  · exact h
  · split
    · exact rfl
    · split
      · exact rfl
      next t e =>
        split
        · exact rfl
        next u e₂ => exact ((h.allocate.of_eq e).dropOthers.placeCopy.of_eq e₂).putCopy.ownLine

theorem State.Canon.freeClass (h : s.Canon) : s.freeClass.2.Canon := h.upd

theorem State.Canon.poisonCopy {line : Nat} (h : s.Canon) : (s.poisonCopy line).Canon := h.upd.report

theorem State.Canon.poisonLine {line : Nat} (h : s.Canon) : OptCanon (s.poisonLine line) := h.allocate.map (fun _ ht => ht.poisonCopy)

theorem State.Canon.putByte {a : Nat} {b : Byte} {own : Bool} (h : s.Canon) : (s.putByte a b own).Canon := Mem.write_wf h a b

theorem State.Canon.putBytes {a : Nat} {own : Bool} {bs : List Byte} (h : s.Canon) : (s.putBytes a own bs).Canon := by
  induction bs generalizing s a with
  | nil => exact h
  | cons b bs ih => exact ih h.putByte

theorem State.Canon.gatherBytes {a n : Nat} (h : s.Canon) : (s.gatherBytes a n).Canon := h.upd.ite h

theorem State.Canon.dropRead {line : Nat} {whole : Bool} (h : s.Canon) : (s.dropRead line whole).Canon := h.upd.ite h

theorem State.Canon.wrNa {a : Nat} {bs : List Byte} (h : s.Canon) : OptCanon (s.wrNa a bs) := by
  unfold State.wrNa
  dsimp only
  split
  · exact rfl
  · split
    · exact rfl
    next t e => exact (h.allocate.of_eq e).dropOthers.putBytes.modDir.dropRead.loseResvs

theorem State.Canon.guardedStore {a : Nat} {bs : List Byte} (h : s.Canon) : OptCanon (s.guardedStore a bs) :=
  .ite h.report (.ite rfl (h.wrNa.map (fun _ ht => ht.gatherBytes)))

theorem State.Canon.performStore {n : Nat} {a : Nat} {bs : List Byte} (h : s.Canon) : OptCanon (s.performStore n a bs) := by
  unfold State.performStore
  split
  · exact rfl
  · split
    · exact h.reportCore
    · split
      · exact h.guardedStore
      · dsimp only
        split
        · exact rfl
        next t e => exact (h.acquire.of_eq e).putBytes.modPool.modDir.dropRead.loseResvs

/-! The operations of Machine/ControlStore.lean. -/

theorem State.Canon.modLife {f : Life → Life} (h : s.Canon) : (s.modLife f).Canon := h.upd

theorem State.Canon.mclSettle (h : s.Canon) : s.mclSettle.Canon := h.modLife.ite h

theorem State.Canon.takeMaster {n : Nat} (h : s.Canon) : (s.takeMaster n).Canon := h.modCore.modLife.mclSettle

theorem State.Canon.mclGone {n : Nat} (h : s.Canon) : (s.mclGone n).Canon := h.modLife.mclSettle

theorem State.Canon.switchDue {n : Nat} (h : s.Canon) : (s.switchDue n).Canon := h.takeMaster.ite h

theorem State.Canon.microStop {n : Nat} {r : MicroRun} (h : s.Canon) : (s.microStop n r).Canon := h.reportCore.modCore.mclGone

theorem State.Canon.microRun {n entry : Nat} (h : s.Canon) : (s.microRun n entry).2.Canon := State.Canon.ite_snd h h.takeFree

/-! The operations of Machine/Ops.lean. -/

theorem RunCanon.coreOf {n : Nat} : RunCanon (coreOf n) := .get_bind fun _ _ => .pure

theorem RunCanon.onCore {n : Nat} {f : Core → Core} : RunCanon (onCore n f) := .modify (fun _ ht => ht.modCore)

theorem RunCanon.freeWord : RunCanon freeWord := fun _ h => h.takeFree

theorem RunCanon.orWait {f : State → Option State} (hf : ∀ t : State, t.Canon → OptCanon (f t)) : RunCanon (orWait f) := by
  intro t ht
  unfold Machine.orWait
  split
  next u e => exact (hf t ht).of_eq e
  · exact ht

theorem State.Canon.performAll {n : Nat} {es : List StoreEntry} (h : s.Canon) : OptCanon (s.performAll n es) := by
  induction es generalizing s with
  | nil => exact h
  | cons x es ih =>
    unfold State.performAll
    split
    · rfl
    next t e => exact ih (h.performStore.of_eq e)

theorem State.Canon.drain {n : Nat} (h : s.Canon) : OptCanon (s.drain n) := h.performAll.map (fun _ ht => ht.modCore)

theorem State.Canon.withSequence {n entry : Nat} {f : State → Option State} (h : s.Canon) (hf : ∀ (t : State), t.Canon → OptCanon (f t)) :
    OptCanon (s.withSequence n entry f) := by
  unfold State.withSequence
  split
  next x _ t e => exact (h.microRun.of_pair e).microStop
  next x _ t e => exact .ite ((h.microRun.of_pair e).drain.bind (fun _ hu => hf _ hu)) (hf _ (h.microRun.of_pair e))
  next x _ t e => exact hf _ (h.microRun.of_pair e)

theorem State.Canon.drainFirst {n k : Nat} (h : s.Canon) : OptCanon (s.drainFirst n k) := h.performAll.map (fun _ ht => ht.modCore)

theorem State.Canon.pushStores {n : Nat} {es : List StoreEntry} (h : s.Canon) : OptCanon (s.pushStores n es) := h.drainFirst.map (fun _ ht => ht.modCore)

theorem State.Canon.dropInval {n : Nat} (h : s.Canon) : (s.dropInval n).Canon := h.modPool.modCore

theorem State.Canon.endHold {n : Nat} (h : s.Canon) : (s.endHold n).Canon := h.modCore

theorem State.Canon.writeTsb {n : Nat} {e : Exc} {vec orig level : Nat} (h : s.Canon) : OptCanon (s.writeTsb n e vec orig level) := by
  unfold State.writeTsb
  dsimp only
  split
  · exact rfl
  next t e =>
    split
    · exact rfl
    next u e₂ => exact ((h.performStore.of_eq e).performStore.of_eq e₂).performStore

theorem State.Canon.enterFrom3 {n : Nat} {e : Exc} {vec orig level : Nat} (h : s.Canon) : OptCanon (s.enterFrom3 n e vec orig level) :=
  .ite (h.writeTsb.map (fun _ ht => ht.endHold.modCore.switchDue)) h.reportCore.modCore

theorem State.Canon.enter {n : Nat} {e : Exc} {vec orig level : Nat} (h : s.Canon) : OptCanon (s.enter n e vec orig level) :=
  h.withSequence (fun _ ht => ht.drain.bind (fun _ hu => hu.enterFrom3))

theorem State.Canon.checkstop {n : Nat} {e : Exc} (h : s.Canon) : OptCanon (s.checkstop n e) := by
  unfold State.checkstop
  split
  · rfl
  next t hd =>
    have ht : t.Canon := h.drain.of_eq hd
    exact .ite (ht.writeTsb.map fun _ hu => hu.reportCore.endHold.modCore.mclGone) ht.reportCore.endHold.modCore.mclGone

theorem State.Canon.raiseSync {n : Nat} {e : Exc} (h : s.Canon) : OptCanon (s.raiseSync n e) := .ite h.checkstop (.ite h.enter h.enter)

theorem State.Canon.portRow {p : Port} {run : State → Out} (h : s.Canon) (hrun : ∀ (t : State), t.Canon → OutCanon (run t)) : OutCanon (portRow p run s) :=
  .ite (hrun _ h) h

theorem State.Canon.takeEvent {n : Nat} (h : s.Canon) : OptCanon (s.takeEvent n) := by
  unfold State.takeEvent
  split
  · exact h
  · exact h.modCore.enter

/-! The operations of Machine/Perf.lean. -/

theorem State.Canon.perfTimed {n : Nat} {sup : Bool} {i : Nat} (h : s.Canon) : (s.perfTimed n sup i).Canon := by
  unfold State.perfTimed
  split
  · exact h.upd.modCore.ite h
  · exact h

theorem State.Canon.perfTick {n : Nat} {sup : Bool} (h : s.Canon) : (s.perfTick n sup).Canon := h.foldl (fun _ _ ht => ht.perfTimed)

/-! The operations of Machine/Translate.lean. -/

theorem State.Canon.setMark {n : Nat} {ea v : Nat} (h : s.Canon) : OptCanon (s.setMark n ea v) := h.performStore.map (fun _ ht => ht.loseResvs)

theorem RunCanon.walkPoison {n line : Nat} : RunCanon (walkPoison n line) := .bind .coreOf fun _ => .bind (.modify (fun _ ht => ht.reportCore)) fun _ => .pure

theorem RunCanon.walkAndFill {n : Nat} {va : Nat} {acc : Acc} : RunCanon (walkAndFill n va acc) := by
  unfold Machine.walkAndFill
  refine .get_bind fun _ ht => ?_
  refine .bind .onCore fun _ => ?_
  split
  · exact .ite (.bind .walkPoison fun _ => .pure) .pure
  · exact .guard (.orWait (fun _ hu => hu.setMark)) (.bind .onCore fun _ => .pure)

theorem RunCanon.translate {n : Nat} {va : Word} {acc : Acc} : RunCanon (translate n va acc) := by
  unfold Machine.translate
  refine .bind .coreOf fun _ => ?_
  split
  · exact .guardNot .onCore (.ite (.bind .onCore fun _ => .pure) (.bind .onCore fun _ => .walkAndFill))
  · exact .bind .onCore fun _ => .walkAndFill

theorem RunCanon.translateSpan {n : Nat} {va : Word} {k : Nat} {acc : Acc} : RunCanon (translateSpan n va k acc) := by
  unfold Machine.translateSpan
  refine .bind .translate fun _ => ?_
  split
  · exact .pure
  · refine .ite ?_ ?_
    · exact .pure
    · refine .bind .translate fun _ => ?_
      split <;> exact .pure

theorem RunCanon.compareMarks {n : Nat} {ps : List Piece} : RunCanon (compareMarks n ps) := by
  induction ps with
  | nil => exact .pure
  | cons p ps ih =>
    unfold Machine.compareMarks
    refine .get_bind fun _ _ => .ite (.bind .walkPoison fun _ => .pure) (.guardNot .onCore (.bind ih fun _ => ?_))
    split <;> exact .pure

theorem RunCanon.storeSpan {n : Nat} {va : Word} {k : Nat} {acc : Acc} : RunCanon (storeSpan n va k acc) := by
  unfold Machine.storeSpan
  refine .bind .translateSpan fun _ => ?_
  split
  · exact .pure
  · refine .bind .compareMarks fun _ => ?_
    split
    · exact .pure
    · exact .pure
    · exact .translateSpan

theorem State.Canon.markPieces {n : Nat} {ps : List Piece} (h : s.Canon) : OptCanon (s.markPieces n ps) := by
  induction ps generalizing s with
  | nil => exact h
  | cons p ps ih =>
    unfold State.markPieces
    refine .ite (ih h) ?_
    split
    · rfl
    next t e => exact ih (h.setMark.of_eq e).modCore

theorem State.Canon.commitStore {n : Nat} {ps : List Piece} {es : List StoreEntry} (h : s.Canon) : OptCanon (s.commitStore n ps es) :=
  h.markPieces.bind (fun _ ht => ht.pushStores)

/-! The operations of Machine/Operands.lean. -/

theorem RunCanon.throwExc {α : Type} {e : Exc} : RunCanon (throwExc e : Run α) := .throw

theorem RunCanon.machineCheck {α : Type} {n line srcNo : Nat} : RunCanon (machineCheck n line srcNo : Run α) :=
  .bind .coreOf fun _ => .bind (.modify (fun _ ht => ht.reportCore)) fun _ => .throwExc

theorem RunCanon.stackFault {α : Type} {n : Nat} {ret spill : Bool} {cause : Nat} {addr info : Word} :
    RunCanon (stackFault n ret spill cause addr info : Run α) :=
  .bind .coreOf fun _ => .throwExc

theorem RunCanon.stackXlat {α : Type} {n : Nat} {ret spill : Bool} {addr : Word} {e : XErr} : RunCanon (stackXlat n ret spill addr e : Run α) :=
  .ite (.bind .coreOf fun _ => .throwExc) (.ite .stackFault .stackFault)

theorem State.Canon.touchLines {n : Nat} {as : List Nat} (h : s.Canon) : (s.touchLines n as).Canon := h.foldl (fun _ _ ht => ht.modCore)

theorem RunCanon.readBytes {n : Nat} {as : List Nat} : RunCanon (readBytes n as) := by
  unfold Machine.readBytes
  refine .get_bind fun _ ht => ?_
  refine .guard .throw ?_
  split
  · exact .machineCheck
  · split
    · exact .bind (.modify (fun _ hu => hu.reportCore)) fun _ => .pure
    · exact .bind (.modify (fun _ hu => hu.touchLines)) fun _ => .pure

theorem RunCanon.fillRead {n : Nat} {ret : Bool} {at' : Nat} : RunCanon (fillRead n ret at') := by
  unfold Machine.fillRead
  refine .bind .coreOf fun _ => ?_
  refine .guard .stackFault ?_
  refine .guard .stackFault ?_
  refine .bind (.modify (fun _ ht => ht.endHold)) fun _ => ?_
  refine .bind .translateSpan fun _ => ?_
  split
  · exact .stackXlat
  · exact .get_bind fun _ ht => .guard .stackFault (.bind .readBytes fun _ => .pure)

theorem RunCanon.fillOne {n : Nat} {ret : Bool} : RunCanon (fillOne n ret) := .bind .coreOf fun _ => .bind .fillRead fun _ => .onCore

theorem RunCanon.spillOne {n : Nat} {ret : Bool} : RunCanon (spillOne n ret) := by
  unfold Machine.spillOne
  refine .bind .coreOf fun _ => ?_
  refine .guard .stackFault ?_
  refine .guard .stackFault ?_
  refine .bind (.modify (fun _ ht => ht.endHold)) fun _ => ?_
  refine .bind .storeSpan fun _ => ?_
  split
  · exact .stackXlat
  · exact .get_bind fun _ ht => .guard .stackFault (.bind (.orWait (fun _ hu => hu.commitStore)) fun _ => .onCore)

theorem RunCanon.times {k : Nat} {m : Run Unit} (hm : RunCanon m) : RunCanon (times k m) := by
  induction k with
  | zero => exact .pure
  | succ k ih => exact .bind hm fun _ => ih

theorem RunCanon.makeRoom {n : Nat} {ret : Bool} {i o : Nat} : RunCanon (makeRoom n ret i o) :=
  .bind .coreOf fun _ => .bind (.times .fillOne) fun _ => .times .spillOne

theorem State.Canon.countHold {n : Nat} {taken : Bool} (h : s.Canon) : (s.countHold n taken).Canon := by
  unfold State.countHold
  split
  · exact h
  · exact h.endHold.ite h.modCore

theorem State.Canon.retire {n len : Nat} {sup : Bool} {r : Retire} (h : s.Canon) : (s.retire n len sup r).Canon :=
  h.modCore.switchDue.ite h.countHold.modCore.perfTick.modCore.switchDue

theorem State.Canon.settleRun {n len : Nat} {sup : Bool} {r : EStateM.Result Stop State Retire} (h : s.Canon) (hr : ResCanon r) :
    OutCanon (Machine.settle s n len sup r) := by
  unfold Machine.settle
  split
  · exact State.Canon.retire hr
  · exact h.orSame (State.Canon.modCore hr).raiseSync
  · exact hr

theorem RunCanon.precheck {k : Insn} {o : Op} : RunCanon (precheck k o) := by
  unfold Machine.precheck
  refine .bind .coreOf fun _ => ?_
  split
  · split
    · exact .bind .throwExc fun _ => .throwExc
    · exact .throwExc
  · split
    · exact .bind .throwExc fun _ => .pure
    · exact .pure

theorem RunCanon.runSequence {n : Nat} {o : Option Nat} : RunCanon (runSequence n o) := by
  cases o with
  | none => exact .pure
  | some entry =>
    intro t ht
    unfold Machine.runSequence
    dsimp only
    split
    next r u e => exact (ht.microRun.of_pair e).microStop
    next r u e =>
      split
      · exact RunCanon.orWait (fun _ hv => hv.drain) u (ht.microRun.of_pair e)
      · exact ht.microRun.of_pair e
    next x u e => exact ht.microRun.of_pair e

theorem State.Canon.instr {k : Insn} {o : Op} {i j ri ro : Nat} {body : Run Retire} (h : s.Canon) (hbody : RunCanon body) :
    OutCanon (instr k o i j ri ro body s) := by
  unfold Machine.instr
  split
  · exact h
  · exact h.orSame h.takeEvent
  · refine h.settleRun (RunCanon.bind ?_ (fun _ => ?_) s h)
    · exact .precheck
    · exact .bind .makeRoom fun _ => .bind .makeRoom fun _ => .bind .runSequence fun _ => hbody

theorem State.Canon.trapInstr {k : Insn} {o : Op} {f : Core → Exc} (h : s.Canon) : OutCanon (trapInstr k o f s) := by
  unfold Machine.trapInstr
  split
  · exact h
  · exact h.orSame h.takeEvent
  · exact h.orSame h.raiseSync

theorem State.Canon.stackOp {k : Insn} {o : Op} {i j : Nat} {f : List Word → Word → List Word × Word} (h : s.Canon) : OutCanon (stackOp k o i j f s) :=
  h.instr (.bind .coreOf fun _ => .bind .onCore fun _ => .pure)

theorem RunCanon.xlatThrow {α : Type} {n : Nat} {a : Acc} {e : XErr} : RunCanon (xlatThrow n a e : Run α) := .bind .coreOf fun _ => .ite .throwExc .throwExc

theorem RunCanon.addresses {n : Nat} {va : Word} {w : Nat} {a : Acc} : RunCanon (addresses n va w a) := by
  unfold Machine.addresses
  refine .bind .translateSpan fun _ => ?_
  split
  · exact .xlatThrow
  · exact .pure

theorem RunCanon.storePieces {n : Nat} {va : Word} {w : Nat} {a : Acc} : RunCanon (storePieces n va w a) := by
  unfold Machine.storePieces
  refine .bind .storeSpan fun _ => ?_
  split
  · exact .xlatThrow
  · exact .pure

theorem RunCanon.acquireDrain {n : Nat} : RunCanon (acquireDrain n) := .bind .coreOf fun _ => .orWait (fun _ ht => ht.drainFirst)

theorem RunCanon.loadBytes {k : Insn} {va : Word} {w : Nat} : RunCanon (loadBytes k va w) :=
  .bind .coreOf fun _ => .bind .addresses fun _ => .bind (.modify (fun _ ht => ht.endHold)) fun _ => .guard .acquireDrain .readBytes

theorem RunCanon.storeBytes {k : Insn} {va : Word} {bs : List Byte} : RunCanon (storeBytes k va bs) :=
  .bind .coreOf fun _ => .bind .storePieces fun _ => .bind (.modify (fun _ ht => ht.endHold)) fun _ => .orWait (fun _ ht => ht.commitStore)

end Sys2Proof.Machine
end

section
/-! SUPPORT. Invalidations, special registers, core events, the Pool and memory control keep the canonical form of memory (R249, R267, R272, R274), which settles O58. -/

namespace Sys2Proof.Machine
variable {s : State}

/-! The operations of Machine/Invalidate.lean. -/

theorem State.Canon.endInval {n : Nat} {v : InvKind} (h : s.Canon) : (s.endInval n v).Canon := h.modCore.retire

theorem State.Canon.invalidate {k : Insn} {b : Byte} {entry : Nat} {kind : List Word → InvKind} {i : Nat} (h : s.Canon) :
    OutCanon (invalidate k b entry kind i s) := by
  refine h.instr (.bind .coreOf fun _ => .get_bind fun _ _ => .bind .onCore fun _ => .ite (.bind .onCore fun _ => .pure) ?_)
  exact .bind .onCore fun _ => .bind (.modify fun _ ht => ht.foldl fun _ _ hu => hu.send) fun _ => .pure

theorem State.Canon.execInvpg {k : Insn} (h : s.Canon) : OutCanon (execInvpg k s) := h.invalidate

theorem State.Canon.execInvtag {k : Insn} (h : s.Canon) : OutCanon (execInvtag k s) := h.invalidate

theorem State.Canon.execInvall {k : Insn} (h : s.Canon) : OutCanon (execInvall k s) := h.invalidate

theorem State.Canon.execTlbi {target issuer : Nat} (h : s.Canon) : OutCanon (execTlbi target issuer s) := by
  unfold Machine.execTlbi
  split
  next t _ e => exact (h.takeMsg.of_eq e).modCore.modCore.send
  · exact h

theorem State.Canon.ackInval {issuer sender : Nat} (h : s.Canon) : (s.ackInval issuer sender).Canon := by
  unfold State.ackInval
  split
  · exact h
  · exact h.endInval.ite h.modCore

theorem State.Canon.execTlba {sender issuer : Nat} (h : s.Canon) : OutCanon (execTlba sender issuer s) := by
  unfold Machine.execTlba
  split
  · exact h
  next t e => exact (h.takeMsg.of_eq e).ackInval

theorem State.Canon.forgetInvals {n : Nat} (h : s.Canon) : (s.forgetInvals n).Canon := h.dropInval.foldl (fun _ _ ht => ht.ackInval)

theorem State.Canon.spillAll {k : Insn} {b : Byte} {ret : Bool} (h : s.Canon) : OutCanon (spillAll k b ret s) :=
  h.instr (.bind .coreOf fun _ => .bind (.times .spillOne) fun _ => .pure)

theorem State.Canon.execSpilld {k : Insn} (h : s.Canon) : OutCanon (execSpilld k s) := h.spillAll

theorem State.Canon.execSpillr {k : Insn} (h : s.Canon) : OutCanon (execSpillr k s) := h.spillAll

/-! The operations of Machine/Special.lean. -/

theorem RunCanon.passTime : RunCanon passTime := .bind .freeWord fun _ => .modify (fun _ ht => ht.upd)

theorem RunCanon.passCycles {n : Nat} : RunCanon (passCycles n) := .bind .freeWord fun _ => .onCore

theorem State.Canon.reservedReg {k : Insn} {o : Op} {num : Nat} (h : s.Canon) : OutCanon (reservedReg k o num s) := h.trapInstr

theorem State.Canon.readReg {k : Insn} {o : Op} {r : Sr} (h : s.Canon) : OutCanon (readReg k o r s) := by
  unfold Machine.readReg
  split
  · exact h.instr (.bind .passCycles fun _ => .get_bind fun _ ht => .bind .onCore fun _ => .pure)
  · exact h.instr (.bind .passTime fun _ => .get_bind fun _ ht => .bind .onCore fun _ => .pure)
  · exact h.instr (.bind .passTime fun _ => .get_bind fun _ ht => .bind .onCore fun _ => .pure)
  · exact h.instr (.get_bind fun _ ht => .bind .onCore fun _ => .pure)

theorem State.Canon.execRdsr {k : Insn} {n : BitVec 8} (h : s.Canon) : OutCanon (execRdsr k n s) := by
  unfold Machine.execRdsr
  split
  · exact h.reservedReg
  · exact h.readReg

theorem State.Canon.execWrsr {k : Insn} {n : BitVec 8} (h : s.Canon) : OutCanon (execWrsr k n s) := by
  unfold Machine.execWrsr
  split
  · exact h.reservedReg
  · exact h.instr (.bind .onCore fun _ => .pure)

theorem State.Canon.execRdtod {k : Insn} (h : s.Canon) : OutCanon (execRdtod k s) :=
  h.instr (.bind .passTime fun _ => .get_bind fun _ _ => .bind .onCore fun _ => .pure)

theorem State.Canon.execWrkrr {k : Insn} (h : s.Canon) : OutCanon (execWrkrr k s) := h.instr (.bind .onCore fun _ => .pure)

/-! The operations of Machine/CoreEvents.lean. -/

theorem State.Canon.execReservedInstruction {k : Insn} {r : Sys2Proof.ReservedOp} (h : s.Canon) : OutCanon (execReservedInstruction k r s) := by
  unfold Machine.execReservedInstruction
  split
  · exact rfl
  · exact h.trapInstr

theorem State.Canon.execTakeInterrupt {lcn : Nat} (h : s.Canon) : OutCanon (execTakeInterrupt lcn s) := .ite (h.orSame h.takeEvent) h

theorem State.Canon.sendIci {n target : Nat} (h : s.Canon) : (s.sendIci n target).Canon := h.modCore.ite h

theorem State.Canon.execStorePerformed {lcn idx : Nat} (h : s.Canon) : OutCanon (execStorePerformed lcn idx s) := by
  unfold Machine.execStorePerformed
  dsimp only
  split
  · exact h
  · split
    · exact h
    · split
      · exact h
      next t e => exact (h.performStore.of_eq e).modCore

theorem State.Canon.disposeError {n : Nat} {x : Sys2Proof.RetryError} (h : s.Canon) : (s.disposeError n x).Canon := by
  unfold State.disposeError
  split
  · exact h.modCore
  · exact h.modCore
  · exact h.modCore
  · exact h.ite h.dropCopy
  · exact h
  · exact h
  · exact h
  · exact h

theorem State.Canon.pauseCore {n : Nat} (h : s.Canon) : (s.pauseCore n).Canon := h.reportCore.endHold.dropInval.modCore

theorem State.Canon.ioCheck {n : Nat} {code : Byte} {srcNo : Nat} (h : s.Canon) : OptCanon (s.ioCheck n code srcNo) := h.reportCore.modCore.raiseSync

theorem State.Canon.lineCheck {n k line : Nat} (h : s.Canon) : OptCanon (s.lineCheck n k line) := h.poisonLine.bind (fun _ ht => ht.reportCore.raiseSync)

theorem State.Canon.cancelSparing {n : Nat} (h : s.Canon) : (s.cancelSparing n).Canon := h.upd

theorem State.Canon.loseCheckpoint {n : Nat} (h : s.Canon) : (s.loseCheckpoint n).Canon := h.reportCore.endHold.dropInval.cancelSparing.modCore.mclGone

theorem State.Canon.restart {n : Nat} (h : s.Canon) : OptCanon (s.restart n) := h.endHold.dropInval.modCore.withSequence (fun _ ht => ht)

theorem State.Canon.tryAgain {n : Nat} {e : Sys2Proof.RetryError} (h : s.Canon) : OptCanon (s.tryAgain n e) := by
  unfold State.tryAgain
  split
  · exact .ite h.reportCore.restart h.dropInval.modCore.lineCheck
  · exact .ite h.reportCore.disposeError.restart h.reportCore.disposeError.pauseCore

theorem State.Canon.execInstructionRetry {lcn : Nat} {e : Sys2Proof.RetryError} {issued : Option (BitVec 8)} (h : s.Canon) :
    OutCanon (execInstructionRetry lcn e issued s) := by
  unfold Machine.execInstructionRetry
  dsimp only
  split
  · exact h.loseCheckpoint.ite h.reportCore
  · exact h.loseCheckpoint
  · exact h.loseCheckpoint
  · split
    · exact h.orSame h.ioCheck
    · exact .ite (h.orSame h.dropCopy.lineCheck) h
    · exact h.orSame h.tryAgain
  · split
    · exact h
    · exact h.orSame h.tryAgain
  · exact h

theorem State.Canon.execMachineCheckStoredData {lcn line : Nat} (h : s.Canon) : OutCanon (execMachineCheckStoredData lcn line s) := by
  unfold Machine.execMachineCheckStoredData
  split
  · exact .ite h rfl
  · split
    · exact .ite h h
    next t e => exact .ite h (h.poisonLine.of_eq e).reportCore.modCore

theorem State.Canon.execTimerMatch {lcn : Nat} {i : Fin 2} (h : s.Canon) : OutCanon (execTimerMatch lcn i s) := by
  unfold Machine.execTimerMatch
  dsimp only
  split
  · exact h
  · exact .ite h.modCore h

/-! The operations of Machine/Pool.lean. -/

theorem State.Canon.holeAccess {src a : Nat} (h : s.Canon) : (s.holeAccess src a).Canon := by
  unfold State.holeAccess
  split
  next x _ t e => exact ((State.Canon.ite_snd h h.freeClass).of_pair e).report

theorem State.Canon.putWrNa {line : Nat} {bs : List (Nat × Byte)} (h : s.Canon) : (s.putWrNa line bs).Canon :=
  (h.foldl (fun _ _ ht => ht.putByte)).modDir.dropRead.loseResvs

theorem State.Canon.performWrNa {line : Nat} {bs : List (Nat × Byte)} (h : s.Canon) : (s.performWrNa line bs).Canon :=
  h.putWrNa.ite (h.report.ite (h.putWrNa.foldl (fun _ _ ht => ht.gatherBytes)))

theorem State.Canon.readCopy {r : PoolReq} (h : s.Canon) : (s.readCopy r).Canon := by
  unfold State.readCopy
  split
  · exact h.poisonCopy.ite h
  · exact h

theorem State.Canon.grantCopy {r : PoolReq} {excl : Bool} (h : s.Canon) : (s.grantCopy r excl).Canon := by
  unfold State.grantCopy
  split
  · exact h.modPool
  next t e => exact ((h.placeCopy.of_eq e).ownLine.ite (h.placeCopy.of_eq e).modDir).send

theorem State.Canon.grantUpg {r : PoolReq} (h : s.Canon) : (s.grantUpg r).Canon := by
  unfold State.grantUpg
  split
  · exact h.modPool
  next t e => exact (h.placeCopy.of_eq e).ownLine.send

theorem State.Canon.grant {r : PoolReq} (h : s.Canon) : (s.grant r).Canon := by
  unfold State.grant
  split
  · exact h.readCopy.grantCopy
  · exact h.readCopy.grantCopy
  · exact h.grantUpg.ite h.readCopy.grantCopy
  · exact (h.readCopy.upd.ite h.readCopy).send
  · exact h.performWrNa.send

theorem State.Canon.openTxn {line : Nat} {req : Option PoolReq} {k : SnoopKind} {await : List Nat} (h : s.Canon) : (s.openTxn line req k await).Canon :=
  (h.modPool.foldl (fun _ _ ht => ht.send)).ite h.modPool.broadcast

theorem State.Canon.serveValid {r : PoolReq} (h : s.Canon) : (s.serveValid r).Canon := by
  unfold State.serveValid
  split
  · exact h.grant
  · extract_lets others q
    refine h.grant.ite ?_
    split
    · exact h.openTxn.ite h.grant
    · exact h.openTxn.ite h.grant
    · exact h.openTxn
    · exact h.openTxn
    · exact h.openTxn

theorem State.Canon.serveHole {r : PoolReq} (h : s.Canon) : (s.serveHole r).Canon := by
  unfold State.serveHole
  split <;> exact h.upd.holeAccess.send

/-- The choice of a way stands as a variable here too. -/
theorem State.Canon.serve {r : PoolReq} (h : s.Canon) : (s.serve r).Canon := by
  unfold State.serve
  obtain ⟨choose, hc⟩ : ∃ f, State.chooseWay = f := ⟨_, rfl⟩
  rw [hc]
  refine .ite h.serveHole (.ite h.serveValid ?_)
  split
  next v t e =>
    have ht := h.drawWay.of_pair e
    split
    · exact ht.modPool
    · split
      · exact ht.install.serveValid
      · exact ht.evictLine.install.serveValid.ite ht.openTxn

theorem State.Canon.arrive {r : PoolReq} (h : s.Canon) : (s.arrive r).Canon := (h.modPool.ite h.send).ite h.serve

theorem State.Canon.request {r : PoolReq} (h : s.Canon) : (s.request r).Canon := h.carry.arrive

theorem State.Canon.serveQueue (h : s.Canon) : s.serveQueue.Canon := h.modPool.foldl (fun _ _ ht => ht.arrive)

theorem State.Canon.endMark {e : SliceHold} (h : s.Canon) : (s.endMark e).Canon := h.upd.serveQueue

theorem State.Canon.execHoldEnd {lcn : Nat} (h : s.Canon) : OutCanon (execHoldEnd lcn s) := by
  unfold Machine.execHoldEnd
  split
  · exact h.endMark
  · exact h.endHold

theorem State.Canon.expireHolds (h : s.Canon) : s.expireHolds.Canon := h.foldl (fun _ _ ht => ht.endMark)

theorem State.Canon.execRds {agent line : Nat} {bad : Bool} (h : s.Canon) : OutCanon (execRds agent line bad s) := .ite rfl (.ite h h.request)

theorem State.Canon.execRdx {agent line : Nat} {bad : Bool} (h : s.Canon) : OutCanon (execRdx agent line bad s) := .ite rfl (.ite h h.request)

theorem State.Canon.execUpg {agent line : Nat} {bad : Bool} (h : s.Canon) : OutCanon (execUpg agent line bad s) := .ite rfl (.ite h h.request)

theorem State.Canon.execHold {agent line : Nat} (h : s.Canon) : OutCanon (execHold agent line s) := .ite h (.ite h h.carry.modPool)

theorem State.Canon.execRdna {agent line : Nat} {bad : Bool} (h : s.Canon) : OutCanon (execRdna agent line bad s) := .ite rfl (.ite h h.request)

theorem State.Canon.execWrna {agent line : Nat} {bytes : List (Nat × Byte)} (h : s.Canon) : OutCanon (execWrna agent line bytes s) :=
  .ite rfl (.ite h h.request)

theorem State.Canon.toBuffer {agent line : Nat} {dirty : Bool} (h : s.Canon) : (s.toBuffer agent line dirty).Canon := h.upd.loseResvs

theorem State.Canon.notice {agent line : Nat} {dirty bad : Bool} (h : s.Canon) : (s.notice agent line dirty bad).Canon :=
  h.carry.toBuffer.send.ite (h.carry.evictCopy.poisonCopy.ite h.carry.evictCopy).modPool.send

theorem State.Canon.execWb {agent line : Nat} {bad : Bool} (h : s.Canon) : OutCanon (execWb agent line bad s) := .ite h.notice.serveQueue h

theorem State.Canon.execEvn {agent line : Nat} (h : s.Canon) : OutCanon (execEvn agent line s) := .ite h.notice.serveQueue h

theorem State.Canon.emptyBuffer {agent line : Nat} (h : s.Canon) : (s.emptyBuffer agent line).Canon := h.modPool.modDir.ite h

theorem State.Canon.snoopEffect {k : SnoopKind} {agent line : Nat} (h : s.Canon) : (s.snoopEffect k agent line).Canon := by
  unfold State.snoopEffect
  split
  · exact h.emptyBuffer
  · exact h.emptyBuffer.dropCopy
  · exact h.emptyBuffer.dropCopy
  · exact h.emptyBuffer.modPool.modDir.ite h.emptyBuffer

theorem State.Canon.snoopArrives {k : SnoopKind} {agent line : Nat} (h : s.Canon) : OutCanon (snoopArrives k agent line s) := by
  unfold Machine.snoopArrives
  split
  · exact h
  next t e => exact .ite h (h.takeMsg.of_eq e).snoopEffect.send

theorem State.Canon.execSnps {agent line : Nat} (h : s.Canon) : OutCanon (execSnps agent line s) := h.snoopArrives

theorem State.Canon.execSnpi {agent line : Nat} (h : s.Canon) : OutCanon (execSnpi agent line s) := h.snoopArrives

theorem State.Canon.execSnpr {agent line : Nat} (h : s.Canon) : OutCanon (execSnpr agent line s) := h.snoopArrives

theorem State.Canon.execBinv {agent line : Nat} (h : s.Canon) : OutCanon (execBinv agent line s) := h.snoopArrives

theorem State.Canon.fill {agent line way : Nat} {excl : Bool} (h : s.Canon) : (s.fill agent line way excl).Canon := by
  unfold State.fill
  split
  · exact h
  · exact h.dropCopy.ite (h.putCopy.ite h)

theorem State.Canon.execLineData {agent line : Nat} (h : s.Canon) : OutCanon (execLineData agent line s) := by
  unfold Machine.execLineData
  split
  next t e => exact h.takeMsg.of_eq e
  · split
    next t e => exact (h.takeMsg.of_eq e).fill
    next t _ e => exact h.takeMsg.of_eq e
    · exact h

theorem State.Canon.execLineDataE {agent line : Nat} (h : s.Canon) : OutCanon (execLineDataE agent line s) := by
  unfold Machine.execLineDataE
  split
  next t e => exact (h.takeMsg.of_eq e).fill
  next t _ e => exact h.takeMsg.of_eq e
  · exact h

theorem State.Canon.rebuildHedge {line : Nat} (h : s.Canon) : (s.rebuildHedge line).Canon := h.foldl (fun _ _ ht => ht.modDir)

theorem State.Canon.completeTxn {t : PoolTxn} (h : s.Canon) : (s.completeTxn t).Canon := by
  unfold State.completeTxn
  refine State.Canon.serveQueue ?_
  split
  · exact h.modPool.evictLine.serve
  · exact h.modPool.evictLine
  · exact h.modPool.grant
  · exact h.modPool.rebuildHedge

theorem State.Canon.answerArrives {agent line : Nat} {data : Bool} (h : s.Canon) : OutCanon (answerArrives agent line data s) := by
  unfold Machine.answerArrives
  split
  · exact h
  next t e =>
    split
    · exact h.takeMsg.of_eq e
    · exact .ite (h.takeMsg.of_eq e).completeTxn (h.takeMsg.of_eq e).modPool

theorem State.Canon.execSnpAck {agent line : Nat} (h : s.Canon) : OutCanon (execSnpAck agent line s) := h.answerArrives

theorem State.Canon.execSnpData {agent line : Nat} (h : s.Canon) : OutCanon (execSnpData agent line s) := h.answerArrives

theorem State.Canon.releaseBuffer {agent line : Nat} (h : s.Canon) : (s.releaseBuffer agent line).Canon := h.modPool

theorem State.Canon.upgrade {agent line : Nat} (h : s.Canon) : (s.upgrade agent line).Canon := by
  unfold State.upgrade
  split
  · exact h.fill
  · exact h

theorem State.Canon.takeFor {agent : Nat} {f : PoolMsg → Bool} (h : s.Canon) : OptOf Prod.snd (s.takeFor agent f) := by
  unfold State.takeFor
  split
  next x e => exact h.takeMsg.of_eq e
  · exact h.takeMsg

theorem State.Canon.execSliceAck {agent line : Nat} (h : s.Canon) : OutCanon (execSliceAck agent line s) := by
  unfold Machine.execSliceAck
  split
  · exact h
  next t e => exact (h.takeFor.of_eq e).upgrade
  next t _ e => exact (h.takeFor.of_eq e).releaseBuffer

theorem State.Canon.execAckStale {agent line : Nat} (h : s.Canon) : OutCanon (execAckStale agent line s) := by
  unfold Machine.execAckStale
  split
  · exact h
  next t e => exact (h.takeMsg.of_eq e).releaseBuffer

theorem State.Canon.execSliceRetry {agent line : Nat} (h : s.Canon) : OutCanon (execSliceRetry agent line s) := by
  unfold Machine.execSliceRetry
  split
  next t e => exact (h.takeFor.of_eq e).modPool
  · exact h

theorem State.Canon.execRetryResend {agent line : Nat} (h : s.Canon) : OutCanon (execRetryResend agent line s) := by
  unfold Machine.execRetryResend
  split
  · exact h
  · exact .ite h.modPool.request h

theorem State.Canon.execVictimRetry {agent line : Nat} (h : s.Canon) : OutCanon (execVictimRetry agent line s) := by
  unfold Machine.execVictimRetry
  split
  · exact h
  · exact .ite (.next h.modPool.serve.serveQueue) h

theorem State.Canon.execLinkAck {station : Nat} {ring : Ring} (h : s.Canon) : OutCanon (execLinkAck station ring s) := .ite rfl (.ite h.modPool h)

theorem State.Canon.execLinkCrcError {station : Nat} {ring : Ring} (h : s.Canon) : OutCanon (execLinkCrcError station ring s) := .ite rfl (.ite h.report h)

theorem State.Canon.drainCopy {core : Nat} {bad : List Nat} {line : Nat} (h : s.Canon) : (s.drainCopy core bad line).Canon :=
  h.evictCopy.poisonCopy.ite h.evictCopy

theorem State.Canon.drainTested {bad : List Nat} (h : s.Canon) : (s.drainTested bad).Canon := by
  unfold State.drainTested
  split
  · exact h
  · exact h.foldl (fun _ _ ht => ht.drainCopy)

theorem State.Canon.beginTest {core way : Nat} {bad : List Nat} (h : s.Canon) : (s.beginTest core way bad).Canon := h.ite h.modPool.drainTested

theorem State.Canon.endTest {bad : List Nat} (h : s.Canon) : (s.endTest bad).Canon := by
  unfold State.endTest
  dsimp only
  split
  · exact h.drainTested
  · exact h.drainTested.modPool.ite h.drainTested

theorem State.Canon.execFilteredModeChange {e : Sys2Proof.FilterEvent} (h : s.Canon) : OutCanon (execFilteredModeChange e s) := by
  unfold Machine.execFilteredModeChange
  split
  · exact h.modPool
  · exact h.beginTest
  · exact h.endTest

theorem State.Canon.execHedgerowError {core line : Nat} (h : s.Canon) : OutCanon (execHedgerowError core line s) := by
  unfold Machine.execHedgerowError
  split
  · exact h
  · exact .ite h.modDir.report.openTxn h

theorem State.Canon.modWays {slice : Nat} {f : WayState → WayState} (h : s.Canon) : (s.modWays slice f).Canon := h.modPool

theorem State.Canon.execWayDrainComplete {slice way : Nat} (h : s.Canon) : OutCanon (execWayDrainComplete slice way s) := by
  unfold Machine.execWayDrainComplete
  split
  · exact rfl
  · exact .ite h (.ite h (h.foldl (fun _ _ ht => ht.evictLine)).upd)

theorem State.Canon.disableWay {slice way : Nat} (h : s.Canon) : (s.disableWay slice way).Canon := by
  unfold State.disableWay
  split
  · exact h
  · exact h.report.ite (h.ite (h.report.ite h.modWays))

theorem State.Canon.lockWindow (h : s.Canon) : s.lockWindow.Canon := h.modPool

theorem State.Canon.execPoolwinLock (h : s.Canon) : OutCanon (execPoolwinLock s) := h.lockWindow

/-- The bytes of the window go where its set is formed (R274). -/
theorem State.Canon.belowWindow {p : Pool} (h : s.Canon) : ({ s with mem := s.mem.filter (fun c => decide (c.1 < windowBase)), pool := p } : State).Canon :=
  Mem.filter_wf h _

theorem State.Canon.execWindowLockComplete (h : s.Canon) : OutCanon (execWindowLockComplete s) := by
  unfold Machine.execWindowLockComplete
  refine .ite h ?_
  split
  · exact (h.modPool.foldl fun _ _ ht => ht.report).serveQueue
  · exact .ite h (h.foldl fun _ _ ht => ht.evictLine).belowWindow.serveQueue

theorem State.Canon.startRange {purge : Bool} (h : s.Canon) : (s.startRange purge).Canon := h.modPool

theorem State.Canon.execRangeFlush (h : s.Canon) : OutCanon (execRangeFlush s) := h.portRow (fun _ ht => ht.startRange)

theorem State.Canon.execRangePurge (h : s.Canon) : OutCanon (execRangePurge s) := h.portRow (fun _ ht => ht.startRange)

theorem State.Canon.flushLine {line : Nat} (h : s.Canon) : (s.flushLine line).Canon := h.dropOthers.ite h.dropOthers.writeBack.forgetLine

/-- What lies in DRAM is the coherent value again (R267). -/
theorem State.Canon.restoreDram {line : Nat} (h : s.Canon) :
    ({ s with mem := restoreLine s.mem s.pool.dramOld line, pool := { s.pool with dramOld := dropLine s.pool.dramOld line } } : State).Canon :=
  restoreLine_wf h _ line

theorem State.Canon.purgeLine {line : Nat} (h : s.Canon) : (s.purgeLine line).Canon := by
  have hs : ((((s.dirEntry line).map DirEntry.pv).getD []).foldl (fun s a => s.dropCopy a line false) s).Canon := h.foldl fun _ _ ht => ht.dropCopy
  exact hs.ite hs.restoreDram.forgetLine

theorem State.Canon.execRangeDone (h : s.Canon) : OutCanon (execRangeDone s) := .ite h (.ite h (h.foldl (fun _ _ ht => ht.purgeLine.ite ht.flushLine)).modPool)

/-! The operations of Machine/MemoryControl.lean. -/

theorem State.Canon.modGroup {g : Nat} {f : MemGroup → MemGroup} (h : s.Canon) : (s.modGroup g f).Canon := h.upd

theorem State.Canon.failChannel {n : Nat} {cause : ChannelCause} (h : s.Canon) : (s.failChannel n cause).Canon :=
  h.ite ((h.upd.ite h.upd.report).modGroup.report.ite (h.upd.ite h.upd.report).modGroup)

theorem State.Canon.linkRetries {g : Nat} {rs : List (Fin 5 × Nat)} (h : s.Canon) : (s.linkRetries g rs).Canon :=
  h.foldl (fun _ _ ht => ht.ite ((ht.foldl (fun _ _ hu => hu.report)).failChannel.ite (ht.foldl (fun _ _ hu => hu.report))))

theorem State.Canon.reportCorrected {g : Nat} {bs : List (Fin 5)} {a : Nat} (h : s.Canon) : (s.reportCorrected g bs a).Canon :=
  h.foldl (fun _ _ ht => ht.report)

theorem State.Canon.markPoison {line : Nat} (h : s.Canon) : (s.markPoison line).Canon := h.upd

theorem State.Canon.clearPoison {line : Nat} (h : s.Canon) : (s.clearPoison line).Canon := h.upd

theorem State.Canon.loseLine {g line : Nat} (h : s.Canon) : (s.loseLine g line).Canon := h.markPoison.report

theorem State.Canon.returnPoison {line : Nat} (h : s.Canon) : (s.returnPoison line).Canon := h.modDir.modPool

theorem State.Canon.execDramLineRead {line : Nat} {e : BurstErrors} (h : s.Canon) : OutCanon (execDramLineRead line e s) := by
  unfold Machine.execDramLineRead
  split
  · exact rfl
  · split
    · exact h
    · dsimp only
      split
      · exact h.upd.linkRetries.reportCorrected
      · exact h.upd.linkRetries.reportCorrected.report
      · exact h.upd.linkRetries.reportCorrected.loseLine.returnPoison

theorem State.Canon.execDramLineWrite {line : Nat} {e : BurstErrors} (h : s.Canon) : OutCanon (execDramLineWrite line e s) :=
  .ite rfl (.ite h.upd.linkRetries h)

theorem State.Canon.scrubOn {g : Nat} (h : s.Canon) : (s.scrubOn g).Canon := h.modGroup

theorem State.Canon.scrubLost {g line : Nat} (h : s.Canon) : (s.scrubLost g line).Canon := by
  unfold State.scrubLost
  split
  · exact h.loseLine.ite (h.ite h.clearPoison.modPool)
  · exact h.loseLine

theorem State.Canon.execScrubLine {group : Nat} {e : BurstErrors} (h : s.Canon) : OutCanon (execScrubLine group e s) := by
  unfold Machine.execScrubLine
  split
  · exact rfl
  · split
    · exact h
    · dsimp only
      split
      · exact (h.linkRetries.reportCorrected.report.ite h.linkRetries.reportCorrected).scrubOn
      · exact h.linkRetries.reportCorrected.report.scrubOn
      · exact h.linkRetries.reportCorrected.scrubLost.scrubOn

theorem State.Canon.execChannelFail {channel : Nat} {cause : ChannelCause} (h : s.Canon) : OutCanon (execChannelFail channel cause s) :=
  .ite rfl (.ite h h.failChannel)

theorem State.Canon.startFailed {n : Nat} {cause : ChannelCause} (h : s.Canon) : (s.startFailed n cause).Canon := h.upd.report.modGroup

theorem State.Canon.train {r : StartTest} (h : s.Canon) : (s.train r).Canon := by
  refine State.Canon.foldl (State.Canon.foldl h.upd fun t n ht => ?_) fun _ _ ht => ht.upd.report.ite ht
  split
  · exact ht.startFailed
  · exact ht

theorem State.Canon.memoryUp (h : s.Canon) : s.memoryUp.Canon := h.upd.ite h

end Sys2Proof.Machine
end

section
/-! SUPPORT. Device accesses, the journal, subchannels, keys, ciphers and compression keep the canonical form of memory (R272), which settles O58. -/

namespace Sys2Proof.Machine
variable {s : State}

/-! The operations of Machine/Device.lean. -/

theorem State.Canon.freeBytes {n : Nat} (h : s.Canon) : (s.freeBytes n).2.Canon := h.upd

theorem State.Canon.devRead {src a n : Nat} (h : s.Canon) : (s.devRead src a n).2.Canon := h.foldl (fun _ _ ht => ht.holeAccess.ite ht)

theorem State.Canon.devWriteLine {src a : Nat} {bs : List Byte} (h : s.Canon) : OptCanon (s.devWriteLine src a bs) :=
  .ite rfl (.ite h.holeAccess (.ite rfl (.ite h.guardedStore h.wrNa)))

theorem State.Canon.devWriteLines {src a k : Nat} {bs : List Byte} (h : s.Canon) : OptCanon (s.devWriteLines src a bs k) := by
  induction k generalizing s a bs with
  | zero => exact h
  | succ k ih =>
    unfold State.devWriteLines
    refine .ite h ?_
    dsimp only
    split
    · rfl
    next t e => exact ih (h.devWriteLine.of_eq e)

theorem State.Canon.devWrite {src a : Nat} {bs : List Byte} (h : s.Canon) : OptCanon (s.devWrite src a bs) := h.devWriteLines

theorem State.Canon.tableStore {a : Nat} {v : Word} (h : s.Canon) : (s.tableStore a v).Canon := h.dropOthers.putBytes.loseResvs

theorem State.Canon.modPort {p : Nat} {f : EthPort → EthPort} (h : s.Canon) : (s.modPort p f).Canon := h.upd

theorem State.Canon.count {p i n : Nat} (h : s.Canon) : (s.count p i n).Canon := h.modPort

theorem State.Canon.emit {f : OutFrame} (h : s.Canon) : (s.emit f).Canon := h.upd.count.count

/-! The operations of Machine/Journal.lean. -/

theorem State.Canon.modCt {f : Ct → Ct} (h : s.Canon) : (s.modCt f).Canon := h.upd

theorem State.Canon.modRec {g : Word32} {f : JRec → JRec} (h : s.Canon) : (s.modRec g f).Canon := h.modCt

theorem State.Canon.placeRec {r : JRec} (h : s.Canon) : (s.placeRec r).Canon := (h.modCt.report.ite h.modCt).modCt

theorem State.Canon.newRec {k sch : Nat} {guarded : Bool} {key pos parm : Word} {total : Nat} {data : List Byte} (h : s.Canon) :
    (s.newRec k sch guarded key pos parm total data).2.Canon :=
  h.modCt.placeRec

theorem State.Canon.writeProgress (h : s.Canon) : s.writeProgress.Canon := h.modCt.ite h

theorem State.Canon.rewriteRecs (h : s.Canon) : s.rewriteRecs.Canon := h.modCt

theorem State.Canon.retireRecs {f : JRec → Bool} (h : s.Canon) : (s.retireRecs f).Canon := h.modCt.modCt.modCt

theorem State.Canon.writeControl (h : s.Canon) : s.writeControl.Canon := h.modCt.ite h.modCt

theorem State.Canon.execControlAreaWrite (h : s.Canon) : OutCanon (execControlAreaWrite s) := by
  unfold Machine.execControlAreaWrite
  split
  · exact h
  · exact .ite h h.writeControl.modCt

theorem State.Canon.execRecordDurable {gen : BitVec 32} (h : s.Canon) : OutCanon (execRecordDurable gen s) := by
  unfold Machine.execRecordDurable
  split
  · exact h
  · exact .ite h h.modRec

theorem State.Canon.chooseControl (h : s.Canon) : s.chooseControl.2.Canon :=
  State.Canon.ite_snd (State.Canon.ite_snd h.modCt h.modCt) (State.Canon.ite_snd h.modCt.report (State.Canon.ite_snd h.modCt.report h.modCt.report))

theorem State.Canon.tornRec {spoilt : Bool} {r : JRec} (h : s.Canon) : (s.tornRec spoilt r).2.Canon := h.upd

theorem State.Canon.tornRecs {spoilt : List Word32} {rs : List JRec} (h : s.Canon) : (s.tornRecs spoilt rs).2.Canon := by
  induction rs generalizing s with
  | nil => exact h
  | cons r rs ih => exact ih (h.tornRec (spoilt := spoilt.contains r.gen) (r := r))

theorem State.Canon.replay {ctl : CtlCopy} {spoilt : List Word32} (h : s.Canon) : (s.replay ctl spoilt).Canon :=
  (h.foldl (fun _ _ ht => ht.report)).tornRecs.modCt

/-! The operations of Machine/Subchannel.lean. -/

theorem State.Canon.setStatus {n : Nat} {f : Word → Word} (h : s.Canon) : (s.setStatus n f).Canon := h.tableStore

theorem State.Canon.setSchState {n st : Nat} (h : s.Canon) : (s.setSchState n st).Canon := h.setStatus

/-! The operations of Machine/Grant.lean. -/

theorem State.Canon.modSlices {f : Slices → Slices} (h : s.Canon) : (s.modSlices f).Canon := h.upd

theorem State.Canon.modSlice {k : Nat} {f : Slice → Slice} (h : s.Canon) : (s.modSlice k f).Canon := h.modSlices

/-! The operations of Machine/Rings.lean. -/

theorem State.Canon.readDesc {r : RingPair} (h : s.Canon) : (s.readDesc r).2.Canon := State.Canon.ite_snd h.freeBytes h

theorem State.Canon.scramble {src a n : Nat} (h : s.Canon) : OptCanon (s.scramble src a n) := h.upd.devWrite

/-! The operations of Machine/Keys.lean. -/

theorem State.Canon.modCx {f : Cx → Cx} (h : s.Canon) : (s.modCx f).Canon := h.upd

theorem State.Canon.modKeyPorts {k : Nat} {f : KeyPorts → KeyPorts} (h : s.Canon) : (s.modKeyPorts k f).Canon := h.modCx

theorem State.Canon.loadKey {k slot : Nat} (h : s.Canon) : (s.loadKey k slot).Canon := h.modKeyPorts.modCx.ite h.modKeyPorts

theorem State.Canon.endLatched {k slot : Nat} (h : s.Canon) : (s.endLatched k slot).Canon := h.modCx

theorem State.Canon.emptySlot {k slot : Nat} (h : s.Canon) : (s.emptySlot k slot).Canon := h.modCx

theorem State.Canon.eraseKey {k slot : Nat} (h : s.Canon) : (s.eraseKey k slot).Canon := h.endLatched.emptySlot.modKeyPorts

theorem State.Canon.eraseAll {k slot : Nat} (h : s.Canon) : (s.eraseAll k slot).Canon := h.modCx.modKeyPorts

theorem State.Canon.keyRow {run : State → State} {slice : Nat} (h : s.Canon) (hrun : ∀ (t : State), t.Canon → (run t).Canon) : OutCanon (keyRow run slice s) :=
  .ite rfl (h.portRow (fun _ ht => hrun _ ht))

theorem State.Canon.execKeyLoad {slice : Nat} {slot : Fin 64} (h : s.Canon) : OutCanon (execKeyLoad slice slot s) := h.keyRow (fun _ ht => ht.loadKey)

theorem State.Canon.execKeyErase {slice : Nat} {slot : Fin 64} (h : s.Canon) : OutCanon (execKeyErase slice slot s) := h.keyRow (fun _ ht => ht.eraseKey)

theorem State.Canon.execKeyEraseAll {slice : Nat} {slot : Fin 64} (h : s.Canon) : OutCanon (execKeyEraseAll slice slot s) := h.keyRow (fun _ ht => ht.eraseAll)

theorem State.Canon.execKeySlotEccError {slice : Nat} {slot : Fin 64} (h : s.Canon) : OutCanon (execKeySlotEccError slice slot s) := .ite rfl h.emptySlot.report

theorem State.Canon.modLeat {p : Nat} {f : LeatSec → LeatSec} (h : s.Canon) : (s.modLeat p f).Canon := h.modCx

theorem State.Canon.setLk {sa : SaName} (h : s.Canon) : (s.setLk sa).Canon := h.modCx

theorem State.Canon.lkDone {r : Byte} (h : s.Canon) : (s.lkDone r).Canon := h.modCx

theorem State.Canon.setSa {sa : SaName} {v : Option Sa} (h : s.Canon) : (s.setSa sa v).Canon := h.modLeat

theorem State.Canon.installSa {sa : SaName} (h : s.Canon) : (s.installSa sa).Canon := h.setLk.modCx.lkDone.ite h.setLk.modCx.setSa.lkDone

theorem State.Canon.execSaInstall {sa : SaName} (h : s.Canon) : OutCanon (execSaInstall sa s) := h.portRow (fun _ ht => ht.installSa)

theorem State.Canon.activateSa {sa : SaName} (h : s.Canon) : (s.activateSa sa).Canon := h.setLk.ite (h.setLk.lkDone.ite h.setLk.modLeat.lkDone)

theorem State.Canon.execSaActivate {sa : SaName} (h : s.Canon) : OutCanon (execSaActivate sa s) := h.portRow (fun _ ht => ht.activateSa)

theorem State.Canon.execTxAnSwitch {p : Fin 2} (h : s.Canon) : OutCanon (execTxAnSwitch p s) := by
  unfold Machine.execTxAnSwitch
  split
  · exact h
  · exact .ite h h.modLeat

theorem State.Canon.retireSa {sa : SaName} (h : s.Canon) : (s.retireSa sa).Canon := h.setLk.lkDone.ite (h.setLk.lkDone.ite h.setLk.setSa.lkDone)

theorem State.Canon.execSaRetire {sa : SaName} (h : s.Canon) : OutCanon (execSaRetire sa s) := h.portRow (fun _ ht => ht.retireSa)

theorem State.Canon.leatAccepts {p an : Nat} {pn : Word} {icvOk : Bool} (h : s.Canon) : (s.leatAccepts p an pn icvOk).2.Canon := by
  unfold State.leatAccepts
  split
  · exact State.Canon.ite_snd h.modLeat h.modLeat.report
  · exact h.modLeat.report

theorem State.Canon.leatSends {p : Nat} (h : s.Canon) : OptCanon (s.leatSends p) := by
  unfold State.leatSends
  dsimp only
  split
  · exact .ite rfl (h.modLeat.report.ite h.modLeat)
  · exact rfl

/-! The operations of Machine/Cipher.lean. -/

theorem State.Canon.setCxRing {k : Nat} {r : RingPair} (h : s.Canon) : (s.setCxRing k r).Canon := h.modCx

theorem State.Canon.setCxJob {i : Nat} {j : Option CxJob} (h : s.Canon) : (s.setCxJob i j).Canon := h.modCx

theorem State.Canon.writeCxTail {k : Nat} {tail : Half} (h : s.Canon) : (s.writeCxTail k tail).Canon := h.setCxRing

theorem State.Canon.execCxSubmit {slice : Nat} {tail : BitVec 16} (h : s.Canon) : OutCanon (execCxSubmit slice tail s) :=
  .ite rfl (h.portRow (fun _ ht => ht.writeCxTail))

theorem State.Canon.writeCxCtl {k : Nat} {v : Word} (h : s.Canon) : (s.writeCxCtl k v).Canon := h.setCxRing.ite h.setCxRing.modCx

theorem State.Canon.execCxEnable {slice : Nat} {v : Word} (h : s.Canon) : OutCanon (execCxEnable slice v s) := .ite rfl (h.portRow (fun _ ht => ht.writeCxCtl))

theorem State.Canon.execCxDisable {slice : Nat} {v : Word} (h : s.Canon) : OutCanon (execCxDisable slice v s) :=
  .ite rfl (h.portRow (fun _ ht => ht.writeCxCtl))

theorem State.Canon.latch {k : Nat} {d : CxDesc} (h : s.Canon) : (s.latch k d).2.2.2.Canon := by
  unfold State.latch
  split
  · exact h
  · split
    · exact h
    · split_ifs
      · exact h
      · exact h
      · exact h
      · exact h.modCx
      · exact h

theorem State.Canon.cxTake {i k : Nat} {waits : List Nat} (h : s.Canon) : (s.cxTake i k waits).Canon := by
  unfold State.cxTake
  dsimp only
  split
  · exact h.readDesc
  · refine State.Canon.modCx (State.Canon.setCxJob (State.Canon.setCxRing ?_))
    split
    · exact h.readDesc.takeFree
    · exact h.readDesc.takeFree.latch

theorem State.Canon.execCxDescriptorFetch {engine : Fin 8} (h : s.Canon) : OutCanon (execCxDescriptorFetch engine s) := by
  unfold Machine.execCxDescriptorFetch
  split
  · exact h
  · split
    · exact h.setCxJob.modCx
    · split
      · exact h.modCx
      · exact h.cxTake

theorem State.Canon.cxWrite {i : Nat} {d : CxDesc} {out : List Byte} {tail : Option (Nat × List Byte)} (h : s.Canon) :
    OptOf Prod.snd (s.cxWrite i d out tail) :=
  h.devWrite.map (fun _ ht => ht)

theorem State.Canon.encryptDesc {i : Nat} {d : CxDesc} {key : KeySlot} {invoc : Word} (h : s.Canon) : OptOf Prod.snd (s.encryptDesc i d key invoc) := by
  unfold State.encryptDesc
  split <;> exact h.cxWrite

theorem State.Canon.finishPadded {i : Nat} {d : CxDesc} {pt : List Byte} {tail : Option (Nat × List Byte)} (h : s.Canon) :
    OptOf Prod.snd (s.finishPadded i d pt tail) := by
  unfold State.finishPadded
  split
  · split
    · exact h.cxWrite
    · exact h
  · exact h.cxWrite

theorem State.Canon.stage {i : Nat} {cs : List Nat} {bs : List Byte} (h : s.Canon) : OptCanon (s.stage i cs bs) := by
  induction cs generalizing s bs with
  | nil => exact h
  | cons c cs ih => exact h.devWrite.bind fun _ ht => ih ht

theorem State.Canon.releaseStaged {i : Nat} {d : CxDesc} {cs : List Nat} {pt : List Byte} {ok : Bool} (h : s.Canon) :
    OptOf Prod.snd (s.releaseStaged i d cs pt ok) :=
  h.stage.bind (fun _ ht => .ite ht.cxWrite ht)

theorem State.Canon.decryptDesc {i : Nat} {d : CxDesc} {cs : List Nat} {key : KeySlot} (h : s.Canon) : OptOf Prod.snd (s.decryptDesc i d cs key) := by
  unfold State.decryptDesc
  split
  · exact h.finishPadded
  · exact h.finishPadded
  · exact h.cxWrite
  · exact h.releaseStaged
  · exact h.releaseStaged
  · exact h.cxWrite

theorem State.Canon.macDesc {i : Nat} {d : CxDesc} {key : KeySlot} (h : s.Canon) : OptOf Prod.snd (s.macDesc i d key) := h.cxWrite

theorem State.Canon.verifyDesc {d : CxDesc} {key : KeySlot} (h : s.Canon) : OptOf Prod.snd (s.verifyDesc d key) := h

theorem State.Canon.hashDesc {i : Nat} {d : CxDesc} (h : s.Canon) : OptOf Prod.snd (s.hashDesc i d) := by
  unfold State.hashDesc
  split
  · exact h.cxWrite
  · split
    · split
      · dsimp only
        split
        · exact h
        · exact h.cxWrite
      · dsimp only
        split
        · exact h
        · exact h.cxWrite
    · split
      · dsimp only
        split
        · exact h
        · exact h.cxWrite
      · dsimp only
        split
        · exact h
        · exact h.cxWrite

theorem State.Canon.cxRow {op i : Nat} {run : CxJob → CxDesc → State → Option (CxResult × State)} (h : s.Canon)
    (hrun : ∀ (a : CxJob) (b : CxDesc) (t : State), t.Canon → OptOf Prod.snd (run a b t)) : OutCanon (cxRow op run i s) := by
  unfold Machine.cxRow
  split
  · exact h
  · refine .ite h (h.orSame (OptOf.map (st := Prod.snd) ?_ fun _ ht => ht.setCxJob))
    split
    · exact h
    · exact hrun _ _ _ h

theorem OptOf.withKey {j : CxJob} {f : KeySlot → Option (CxResult × State)} (hf : ∀ k : KeySlot, OptOf Prod.snd (f k)) : OptOf Prod.snd (withKey j f) := by
  unfold Machine.withKey
  cases j.key with
  | none => rfl
  | some k => exact hf k

theorem State.Canon.execEncrypt {engine : Fin 8} (h : s.Canon) : OutCanon (execEncrypt engine s) :=
  h.cxRow (fun _ _ _ ht => .withKey (fun _ => ht.encryptDesc))

theorem State.Canon.execDecrypt {engine : Fin 8} (h : s.Canon) : OutCanon (execDecrypt engine s) :=
  h.cxRow (fun _ _ _ ht => .withKey (fun _ => ht.decryptDesc))

theorem State.Canon.execMacTag {engine : Fin 8} (h : s.Canon) : OutCanon (execMacTag engine s) := h.cxRow (fun _ _ _ ht => .withKey (fun _ => ht.macDesc))

theorem State.Canon.execMacVerify {engine : Fin 8} (h : s.Canon) : OutCanon (execMacVerify engine s) :=
  h.cxRow (fun _ _ _ ht => .withKey (fun _ => ht.verifyDesc))

theorem State.Canon.execHashSha {engine : Fin 8} (h : s.Canon) : OutCanon (execHashSha engine s) := h.cxRow (fun _ _ _ ht => ht.hashDesc)

theorem State.Canon.zeroChunks {i : Nat} {cs : List Nat} (h : s.Canon) : OptCanon (s.zeroChunks i cs) := by
  induction cs generalizing s with
  | nil => exact h
  | cons c cs ih =>
    unfold State.zeroChunks
    exact h.devWrite.bind fun _ => ih

theorem State.Canon.cxRecord {i : Nat} {j : CxJob} {r : CxResult} (h : s.Canon) : OptCanon (s.cxRecord i j r) :=
  h.zeroChunks.bind (fun _ ht => .ite ht.setCxJob (ht.devWrite.map (fun _ hu => hu.setCxRing.setCxJob)))

theorem State.Canon.cxLeave {i k : Nat} {d : CxDesc} {r : CxResult} (h : s.Canon) : OptCanon (s.cxLeave i k d r) := .ite h.scramble h

theorem State.Canon.cxEnd {i : Nat} {j : CxJob} {status : Byte} (h : s.Canon) : OptCanon (s.cxEnd i j status) := h.devWrite.bind (fun _ ht => ht.cxRecord)

theorem State.Canon.cxAgain {i : Nat} {j : CxJob} (h : s.Canon) : (s.cxAgain i j).Canon := h.setCxJob.ite h.setCxJob.modCx

theorem State.Canon.execCxComplete {engine : Fin 8} {check : Bool} (h : s.Canon) : OutCanon (execCxComplete engine check s) := by
  unfold Machine.execCxComplete
  split
  · exact h
  · refine .ite h (.ite (h.orSame h.cxEnd) (.ite (h.orSame h.cxEnd) (.ite (.ite (h.orSame h.report.cxEnd) h.report.cxAgain) ?_)))
    split
    · exact h
    · refine h.orSame (OptOf.bind (h.cxLeave.bind fun t ht => ?_) fun _ ht => ht.cxRecord)
      split
      · exact ht.devWrite
      · exact ht

theorem State.Canon.cxWithdraw {i : Nat} (h : s.Canon) : (s.cxWithdraw i).Canon := h.modCx

/-! The operations of Machine/Compress.lean. -/

theorem State.Canon.modCz {f : Cz → Cz} (h : s.Canon) : (s.modCz f).Canon := h.upd

theorem State.Canon.setCzRing {k : Nat} {r : RingPair} (h : s.Canon) : (s.setCzRing k r).Canon := h.modCz

theorem State.Canon.setCzJob {i : Nat} {j : Option CzJob} (h : s.Canon) : (s.setCzJob i j).Canon := h.modCz

theorem State.Canon.writeCzTail {k : Nat} {tail : Half} (h : s.Canon) : (s.writeCzTail k tail).Canon := h.setCzRing

theorem State.Canon.execCzSubmit {slice : Nat} {tail : BitVec 16} (h : s.Canon) : OutCanon (execCzSubmit slice tail s) :=
  .ite rfl (h.portRow (fun _ ht => ht.writeCzTail))

theorem State.Canon.writeCzCtl {k : Nat} {v : Word} (h : s.Canon) : (s.writeCzCtl k v).Canon := h.setCzRing.ite h.setCzRing.modCz

theorem State.Canon.execCzEnable {slice : Nat} {v : Word} (h : s.Canon) : OutCanon (execCzEnable slice v s) := .ite rfl (h.portRow (fun _ ht => ht.writeCzCtl))

theorem State.Canon.execCzDisable {slice : Nat} {v : Word} (h : s.Canon) : OutCanon (execCzDisable slice v s) :=
  .ite rfl (h.portRow (fun _ ht => ht.writeCzCtl))

theorem State.Canon.czTake {i k : Nat} (h : s.Canon) : (s.czTake i k).Canon := by
  unfold State.czTake
  dsimp only
  split
  · exact h.readDesc
  · exact h.readDesc.setCzRing.setCzJob.modCz

theorem State.Canon.execCzDescriptorFetch {engine : Fin 4} (h : s.Canon) : OutCanon (execCzDescriptorFetch engine s) := by
  unfold Machine.execCzDescriptorFetch
  split
  · exact h
  · split
    · exact h.setCzJob.modCz
    · split
      · exact h
      · exact h.czTake

theorem State.Canon.compress {i : Nat} {d : CzDesc} (h : s.Canon) : OptOf (fun x => x.2.2) (s.compress i d) := by
  unfold State.compress
  split
  · exact h
  · exact .ite h (.ite h (h.devWrite.map (fun _ ht => ht)))

theorem State.Canon.streamInput {b : List Byte} (h : s.Canon) : (s.streamInput b).2.Canon := by
  unfold State.streamInput
  split
  · exact h
  · exact h.freeBytes

theorem State.Canon.decompress {i : Nat} {d : CzDesc} (h : s.Canon) : OptOf (fun x => x.2.2) (s.decompress i d) := by
  unfold State.decompress
  split
  · exact h
  · split
    · dsimp only
      split
      · exact .ite h.takeFree (h.takeFree.takeFree.takeFree.freeBytes.devWrite.map (fun _ ht => ht))
      · exact .ite h.streamInput.takeFree (h.streamInput.takeFree.takeFree.takeFree.freeBytes.devWrite.map (fun _ ht => ht))
    · dsimp only
      split
      · exact .ite h.takeFree (h.takeFree.takeFree.takeFree.freeBytes.devWrite.map (fun _ ht => ht))
      · exact .ite h.streamInput.takeFree (h.streamInput.takeFree.takeFree.takeFree.freeBytes.devWrite.map (fun _ ht => ht))

theorem State.Canon.czRow {op : Nat} {run : CzDesc → State → Option (CzResult × List Byte × List LzSym × State)} {i : Nat}
    (h : s.Canon) (hrun : ∀ (a : CzDesc) (t : State), t.Canon → OptOf (fun x => x.2.2.2) (run a t)) :
    OutCanon (czRow op run i s) := by
  unfold Machine.czRow
  split
  · exact h
  · exact .ite h (h.orSame ((hrun _ _ h).map (fun _ ht => ht.setCzJob)))

theorem State.Canon.execCompress {engine : Fin 4} (h : s.Canon) : OutCanon (execCompress engine s) := h.czRow (fun _ _ ht => ht.compress.map (fun _ hu => hu))

theorem State.Canon.execDecompress {engine : Fin 4} (h : s.Canon) : OutCanon (execDecompress engine s) :=
  h.czRow (fun _ _ ht => ht.decompress.map (fun _ hu => hu))

theorem State.Canon.writeContext {i : Nat} {j : CzJob} {r : CzResult} (h : s.Canon) : OptCanon (s.writeContext i j r) := by
  unfold State.writeContext
  split
  · exact h
  · exact h.devWrite.map (fun _ ht => ht.modCz)

theorem State.Canon.czRecord {i : Nat} {j : CzJob} {r : CzResult} (h : s.Canon) : OptCanon (s.czRecord i j r) :=
  .ite h.setCzJob (h.devWrite.map (fun _ ht => ht.setCzRing.setCzJob))

theorem State.Canon.czLeave {i k : Nat} {d : CzDesc} {r : CzResult} (h : s.Canon) : OptCanon (s.czLeave i k d r) := .ite h.scramble h

theorem State.Canon.czEnd {i : Nat} {j : CzJob} {status : Byte} (h : s.Canon) : OptCanon (s.czEnd i j status) :=
  OptOf.bind (st := fun t => t) (.ite h h.scramble) (fun _ ht => ht.czRecord)

theorem State.Canon.czAgain {i : Nat} {j : CzJob} (h : s.Canon) : (s.czAgain i j).Canon := h.setCzJob.ite h.setCzJob.modCz

theorem State.Canon.execCzComplete {engine : Fin 4} {check : Bool} (h : s.Canon) : OutCanon (execCzComplete engine check s) := by
  unfold Machine.execCzComplete
  split
  · exact h
  · split
    · exact h
    · split
      · exact .ite (h.orSame h.report.czEnd) h.report.czAgain
      · split
        · exact h.orSame h.czEnd
        · split
          · exact h
          · exact h.orSame ((h.czLeave.bind (fun _ ht => ht.writeContext)).bind (fun _ ht => ht.czRecord))

theorem State.Canon.czWithdraw {i : Nat} (h : s.Canon) : (s.czWithdraw i).Canon := h.modCz

end Sys2Proof.Machine
end

section
/-! SUPPORT. Links, paths and channel commands keep the canonical form of memory (R272), which settles O58. -/

namespace Sys2Proof.Machine
variable {s : State}

/-! The operations of Machine/Link.lean. -/

theorem State.Canon.modCss {f : Css → Css} (h : s.Canon) : (s.modCss f).Canon := h.upd

theorem State.Canon.statePartFull {k : Nat} (h : s.Canon) : (s.statePartFull k).2.Canon := State.Canon.ite_snd h.upd.modCss h

theorem State.Canon.writeBlock {k : Nat} (h : s.Canon) : (s.writeBlock k).Canon := by
  unfold State.writeBlock
  split
  next x _ t e =>
    dsimp only
    split
    · exact (h.freeBytes.of_pair e).modCss
    · split
      next u e₂ => exact ((h.freeBytes.of_pair e).devWrite.of_eq e₂).modCss
      · exact (h.freeBytes.of_pair e).modCss

theorem State.Canon.setConn {k : Nat} {c : Conn} (h : s.Canon) : (s.setConn k c).Canon := by
  have ht {f : Css → Css} : (s.modCss f).Canon := h.modCss
  unfold State.setConn
  exact .ite ht (.ite ht.writeBlock.modCt ht.writeBlock)

theorem State.Canon.modConn {k : Nat} {f : Conn → Conn} (h : s.Canon) : (s.modConn k f).Canon := h.setConn

theorem State.Canon.sendFrame {k : Nat} {f : ScpFrame} (h : s.Canon) : (s.sendFrame k f).Canon := h.emit.setConn.ite h

theorem State.Canon.sendCtl {k typ : Nat} {payload : List Byte} (h : s.Canon) : (s.sendCtl k typ payload).Canon := h.sendFrame

theorem State.Canon.sendAck {k : Nat} (h : s.Canon) : (s.sendAck k).Canon := h.sendCtl

theorem State.Canon.passHalt {id : Nat} (h : s.Canon) : (s.passHalt id).Canon := h.modCss

theorem State.Canon.passHaltOf {x : Option Nat} (h : s.Canon) : (s.passHaltOf x).Canon := by
  unfold State.passHaltOf
  split
  · exact h.passHalt
  · exact h

theorem State.Canon.sendNext {k : Nat} (h : s.Canon) : (s.sendNext k).Canon := by
  unfold State.sendNext
  split
  · exact h
  · exact h.sendFrame.passHaltOf.modConn

theorem State.Canon.iterate {f : State → State} {n : Nat} (h : s.Canon) (hf : ∀ t : State, t.Canon → (f t).Canon) : (iterate f n s).Canon := by
  induction n generalizing s with
  | zero => exact h
  | succ n ih => exact ih (hf s h)

theorem State.Canon.pumpScp {k : Nat} (h : s.Canon) : (s.pumpScp k).Canon := h.iterate fun _ ht => ht.sendNext

theorem State.Canon.startExchangeAs {k : Nat} {x : OutExchange} (h : s.Canon) : (s.startExchangeAs k x).Canon := h.setConn.pumpScp

theorem State.Canon.startExchange {k xop total : Nat} {aux tag : Word} {data : List Byte} {use : ExchangeUse} (h : s.Canon) :
    (s.startExchange k xop total aux tag data use).2.Canon := by
  unfold State.startExchange
  dsimp only
  refine State.Canon.startExchangeAs ?_
  exact h.modConn

theorem State.Canon.commitScp {k : Nat} {xid : Word32} (h : s.Canon) : (s.commitScp k xid).Canon := h.setConn.sendAck.ite h.setConn

/-! The operations of Machine/TcpLink.lean. -/

theorem State.Canon.sendSegment {k : Nat} {g : TcpSegment} (h : s.Canon) : (s.sendSegment k g).Canon := h.emit.setConn.ite h

theorem State.Canon.tcpAck {k : Nat} (h : s.Canon) : (s.tcpAck k).Canon := h.sendSegment

theorem State.Canon.tcpSyn {k : Nat} {ack : Bool} (h : s.Canon) : (s.tcpSyn k ack).Canon := h.sendSegment

theorem State.Canon.tcpRst {k : Nat} (h : s.Canon) : (s.tcpRst k).Canon := h.sendSegment

theorem State.Canon.sendChunk {k : Nat} {x : TcpChunk} (h : s.Canon) : (s.sendChunk k x).Canon := by
  unfold State.sendChunk
  exact h.sendSegment.passHaltOf.modConn

theorem State.Canon.sendNextChunk {k : Nat} (h : s.Canon) : (s.sendNextChunk k).Canon := by
  unfold State.sendNextChunk
  split
  · exact h.sendChunk
  · exact h

theorem State.Canon.pumpFin {k : Nat} (h : s.Canon) : (s.pumpFin k).Canon := h.sendSegment.modConn.ite h

theorem State.Canon.pumpTcp {k : Nat} (h : s.Canon) : (s.pumpTcp k).Canon := (h.iterate fun _ ht => ht.sendNextChunk).pumpFin

theorem State.Canon.queueMessage {k : Nat} {data : List Byte} {op : Option Nat} {gen : Option Word32} (h : s.Canon) : (s.queueMessage k data op gen).Canon :=
  h.setConn.pumpTcp

theorem State.Canon.reachFin {k : Nat} (h : s.Canon) : (s.reachFin k).Canon := h.setConn.tcpAck.pumpTcp.ite h

theorem State.Canon.commitTcp {k : Nat} {xid : Word32} (h : s.Canon) : (s.commitTcp k xid).Canon := h.setConn.tcpAck.reachFin.ite h.setConn

theorem State.Canon.commitInbound {k : Nat} {xid : Word32} (h : s.Canon) : (s.commitInbound k xid).Canon := h.commitTcp.ite h.commitScp

/-! The operations of Machine/Completion.lean. -/

theorem State.Canon.modOp {id : Nat} {f : Operation → Operation} (h : s.Canon) : (s.modOp id f).Canon := h.modCss

theorem State.Canon.returnBlock {id : Nat} (h : s.Canon) : (s.returnBlock id).Canon := h.modCss

theorem State.Canon.endBackground {id : Nat} {gen : Word32} (h : s.Canon) : (s.endBackground id gen).Canon := h.modOp.returnBlock

theorem State.Canon.modCq {q : Nat} {f : Cq → Cq} (h : s.Canon) : (s.modCq q f).Canon := h.modCss

theorem State.Canon.settle {sch : Nat} (h : s.Canon) : (s.settle sch).Canon := h.setSchState.ite h

theorem State.Canon.advanceJgen {sch : Nat} {g : Word32} (h : s.Canon) : (s.advanceJgen sch g).Canon := h.tableStore.ite h

theorem State.Canon.noteEntry {e : HeldEntry} (h : s.Canon) : (s.noteEntry e).Canon := h.setStatus

theorem State.Canon.writeEntry {e : HeldEntry} {late : Bool} (h : s.Canon) : OptCanon (s.writeEntry e late) :=
  h.devWrite.map fun t ht => by
    extract_lets n u v
    have hv : v.Canon := ht.modCq.noteEntry
    have hw : (e.gens.foldl (fun s g => s.advanceJgen e.sch g) v).Canon := hv.foldl fun _ _ hx => hx.advanceJgen
    exact (hw.foldl fun _ _ hx => hx.commitInbound).modOp.returnBlock.ite hv

theorem State.Canon.holdEntry {e : HeldEntry} (h : s.Canon) : (s.holdEntry e).Canon := h.modCss.setStatus.modOp.settle.ite h.modCss.setStatus

theorem State.Canon.addEntry {e : HeldEntry} (h : s.Canon) : OptCanon (s.addEntry e) := .ite (h.writeEntry.map (fun _ ht => ht.settle.ite ht)) h.holdEntry

theorem State.Canon.tryFinish {id : Nat} (h : s.Canon) : OptCanon (s.tryFinish id) := by
  unfold State.tryFinish
  split
  · exact h
  · exact .ite h.addEntry h

theorem State.Canon.endOp {id : Nat} {code : Byte} {detail : Half} {resid : Word32} {ccwpa : Nat} (h : s.Canon) :
    OptCanon (s.endOp id code detail resid ccwpa) := by
  unfold State.endOp
  split
  · exact h
  · exact h.setSchState.modOp.tryFinish

theorem State.Canon.endHalted {id ccwpa : Nat} (h : s.Canon) : OptCanon (s.endHalted id ccwpa) := h.upd.endOp

theorem State.Canon.endCommand {id : Nat} {resid : Nat} (h : s.Canon) : OptCanon (s.endCommand id resid) := by
  unfold State.endCommand
  split
  · exact h
  · split
    · exact h
    · exact .ite h.endHalted (.ite h.endOp (.ite h.modOp h.endOp))

theorem State.Canon.failCommand {id : Nat} {code : Byte} {detail : Half} (h : s.Canon) : OptCanon (s.failCommand id code detail) := by
  unfold State.failCommand
  split
  · exact h
  · exact h.endOp

theorem State.Canon.setSense {sch : Nat} {partner : Bool} {reason : Half} {xid : Word32} {pdetail : Word} (h : s.Canon) :
    (s.setSense sch partner reason xid pdetail).Canon :=
  h.modCss

theorem State.Canon.execHeldCompletionWrite {q : Nat} (h : s.Canon) : OutCanon (execHeldCompletionWrite q s) := by
  unfold Machine.execHeldCompletionWrite
  split
  · exact h
  · split
    · exact h
    · exact .ite h (h.orSame (h.writeEntry.map (fun _ ht => ht.modCss.ite ht.modCss.setStatus)))

theorem State.Canon.writeCqCtl {q : Nat} {v : Word} (h : s.Canon) : (s.writeCqCtl q v).Canon := h.modCq

theorem State.Canon.execCqEnable {q : Nat} {v : Word} (h : s.Canon) : OutCanon (execCqEnable q v s) := .ite rfl (h.portRow (fun _ ht => ht.writeCqCtl))

theorem State.Canon.execCqDisable {q : Nat} {v : Word} (h : s.Canon) : OutCanon (execCqDisable q v s) := .ite rfl (h.portRow (fun _ ht => ht.writeCqCtl))

theorem State.Canon.releaseMessage {o : Operation} {c : Command} {r : JRec} (h : s.Canon) : (s.releaseMessage o c r).Canon :=
  h.queueMessage.ite h.startExchangeAs

/-- Steps of which each may have to wait, one for each element of a list. -/
theorem OptOf.foldl {α : Type} {f : Option State → α → Option State} {l : List α} {o : Option State} (ho : OptCanon o)
    (hf : ∀ (o : Option State) (a : α), OptCanon o → OptCanon (f o a)) : OptCanon (l.foldl f o) := by
  induction l generalizing o with
  | nil => exact ho
  | cons a l ih => exact ih (hf o a ho)

theorem State.Canon.endSent (h : s.Canon) : OptCanon s.endSent := by
  refine OptOf.foldl (o := some s) h fun o x ho => ?_
  cases o with
  | none => rfl
  | some t =>
    have ht : t.Canon := ho
    dsimp only
    split
    · exact .ite ht.endCommand ht
    · exact ht

theorem State.Canon.releaseFor {o : Operation} {r : JRec} (h : s.Canon) : OptCanon (s.releaseFor o r) := by
  unfold State.releaseFor
  split
  · split
    · split
      · exact .ite h.modOp.tryFinish (.ite h.modOp.releaseMessage.endSent (.ite h.modOp.endCommand h.modOp.endCommand))
      · exact h.modOp.tryFinish
    · split
      · exact .ite h.modOp.tryFinish (.ite h.modOp.releaseMessage.endSent (.ite h.modOp.endCommand h.modOp.endCommand))
      · exact h.modOp.tryFinish
  · split
    · split
      · exact .ite h.modOp.tryFinish (.ite h.modOp.releaseMessage.endSent (.ite h.modOp.endCommand h.modOp.endCommand))
      · exact h.modOp.tryFinish
    · split
      · exact .ite h.modOp.tryFinish (.ite h.modOp.releaseMessage.endSent (.ite h.modOp.endCommand h.modOp.endCommand))
      · exact h.modOp.tryFinish

theorem State.Canon.releaseInbound {r : JRec} (h : s.Canon) : (s.releaseInbound r).Canon := by
  unfold State.releaseInbound
  split
  · exact h
  · exact h.modConn.ite h.modConn.advanceJgen.commitInbound

theorem State.Canon.releaseRec {r : JRec} (h : s.Canon) : OptCanon (s.releaseRec r) := by
  have ht : (s.modRec r.gen fun r => { r with released := true }).Canon := h.modRec
  have hs : (if r.kind = 3 then (s.modRec r.gen fun r => { r with released := true }).releaseInbound r
      else s.modRec r.gen fun r => { r with released := true }).Canon := ht.releaseInbound.ite ht
  refine OptOf.map (st := fun t => t) ?_ fun _ ht => ht.retireRecs.ite ht
  split
  · exact hs.releaseFor
  · exact hs

theorem State.Canon.execRecordRelease {gen : BitVec 32} (h : s.Canon) : OutCanon (execRecordRelease gen s) := by
  unfold Machine.execRecordRelease
  split
  · exact h
  · exact .ite h (h.orSame h.releaseRec)

/-! The operations of Machine/Reserve.lean. -/

theorem State.Canon.positionOf {w : JWait} (h : s.Canon) : (s.positionOf w).2.Canon := by
  unfold State.positionOf
  refine .ite_snd h (.ite_snd h ?_)
  dsimp only
  exact h.setConn

theorem State.Canon.startWrite {w : JWait} {gen : Option Word32} (h : s.Canon) : (s.startWrite w gen).Canon := h.startExchange

theorem State.Canon.addWait {w : JWait} (h : s.Canon) : (s.addWait w).Canon := h.modCt.startWrite.ite h.modCt

theorem State.Canon.nameWrite {w : JWait} {g : Word32} (h : s.Canon) : (s.nameWrite w g).Canon := h.modConn

theorem State.Canon.acceptWait {w : JWait} (h : s.Canon) : (s.acceptWait w).Canon := by
  unfold State.acceptWait
  split
  next p t e =>
    split
    next g u e₂ =>
      extract_lets v x
      have hu : u.Canon := (h.positionOf.of_pair e).newRec.of_pair e₂
      have hv : v.Canon := hu.modOp
      have hx : x.Canon := hv.modOp
      exact hv.ite (hx.nameWrite.ite hx.startWrite)

theorem State.Canon.serveWait (h : s.Canon) : OptCanon s.serveWait := by
  unfold State.serveWait
  split
  · exact h
  · exact .ite h.modCt (.ite h.modCt.acceptWait h.modCt.failCommand)

theorem State.Canon.execJournalReserve (h : s.Canon) : OutCanon (execJournalReserve s) := .ite h (h.orSame h.serveWait)

theorem State.Canon.serveWaits {n : Nat} (h : s.Canon) : OptCanon (s.serveWaits n) := by
  induction n generalizing s with
  | zero => exact h
  | succ n ih =>
    unfold State.serveWaits
    split
    · rfl
    next t e => exact ih (h.serveWait.of_eq e)

theorem State.Canon.reserveInbound {k : Nat} {key pos : Word} {total : Nat} (h : s.Canon) : OptOf Prod.snd (s.reserveInbound k key pos total) := by
  unfold State.reserveInbound
  split
  · exact rfl
  · split
    · exact rfl
    next t e => exact .ite (h.serveWaits.of_eq e).modCt.placeRec.modCss rfl

/-! The operations of Machine/Path.lean. -/

theorem State.Canon.readConfig {k : Nat} {c : Conn} (h : s.Canon) : (s.readConfig k c).2.Canon := State.Canon.ite_snd h.devRead h

theorem State.Canon.sendOpen {k : Nat} (h : s.Canon) : (s.sendOpen k).Canon := h.sendCtl.modConn

theorem State.Canon.startOpening {k : Nat} {c : Conn} (h : s.Canon) : (s.startOpening k c).Canon :=
  (h.upd.setConn.ite h.upd.setConn.tcpSyn).ite (h.upd.setConn.ite h.upd.setConn.sendOpen)

theorem State.Canon.refuseOpening {k : Nat} {c : Conn} (h : s.Canon) : (s.refuseOpening k c).Canon := h.setConn

theorem State.Canon.openWith {k : Nat} {c : Conn} (h : s.Canon) : (s.openWith k c).Canon := by
  unfold State.openWith
  split
  next x _ t e => exact (h.readConfig.of_pair e).startOpening.ite (h.readConfig.of_pair e).refuseOpening
  next x t e => exact (h.readConfig.of_pair e).refuseOpening

theorem State.Canon.beginOpening {k : Nat} (h : s.Canon) : (s.beginOpening k).Canon := h.ite h.openWith

theorem State.Canon.openWitness (h : s.Canon) : s.openWitness.Canon := h.ite h.upd.openWith

theorem State.Canon.openKey {k : Nat} (h : s.Canon) : (s.openKey k).Canon := h.openWitness.ite h.beginOpening

theorem State.Canon.requeue {k : Nat} {xs : List OutExchange} (h : s.Canon) : (s.requeue k xs).Canon := by
  induction xs generalizing s with
  | nil => exact h
  | cons x xs ih =>
    unfold State.requeue
    exact ih h.startExchange

theorem State.Canon.pathUp {k : Nat} (h : s.Canon) : (s.pathUp k).Canon := by
  have hs {c : Conn} {p : Prop} [Decidable p] : (if p then (s.setConn k c).setSchState k stIdle else s.setConn k c).Canon := h.setConn.setSchState.ite h.setConn
  refine State.Canon.ite (hs.foldl fun t x ht => ?_) hs.requeue
  split
  · exact ht.queueMessage
  · exact ht

theorem State.Canon.dropReservations {xs : List InExchange} (h : s.Canon) : (s.dropReservations xs).Canon := by
  refine State.Canon.foldl h fun t x ht => ?_
  split
  · exact ht.ite ht.retireRecs
  · exact ht

theorem State.Canon.schDown {k : Nat} (h : s.Canon) : (s.schDown k).Canon := h.setSchState.ite h

theorem State.Canon.backgroundEvents {k : Nat} (h : s.Canon) : (s.backgroundEvents k).Canon := by
  refine State.Canon.foldl h fun t x ht => ?_
  split
  · exact ht.report
  · exact ht

theorem State.Canon.closePath {k : Nat} {reason : Half} {again : Bool} (h : s.Canon) : (s.closePath k reason again).Canon := h.dropReservations.setConn.schDown

theorem State.Canon.failOp {k : Nat} {code : Byte} {partner : Bool} {reason : Half} {xid : Word32} {pdetail : Word} (h : s.Canon) :
    OptCanon (s.failOp k code partner reason xid pdetail) := by
  unfold State.failOp
  split
  · exact h
  · exact .ite h h.setSense.failCommand

theorem State.Canon.pathFail {k : Nat} {reason : Half} (h : s.Canon) : OptCanon (s.pathFail k reason) := h.backgroundEvents.closePath.failOp

theorem State.Canon.closedByControl {k : Nat} {reason : Half} (h : s.Canon) : (s.closedByControl k reason).Canon := h.modConn.closePath

theorem State.Canon.storeList {src : Nat} {xs : List (Nat × Nat)} {bs : List Byte} (h : s.Canon) : OptCanon (s.storeList src xs bs) := by
  induction xs generalizing s bs with
  | nil => exact h
  | cons x xs ih =>
    unfold State.storeList
    refine .ite h ?_
    split
    · rfl
    next t e => exact ih (h.devWrite.of_eq e)

theorem State.Canon.accountReleased {id : Nat} {g : Word32} (h : s.Canon) : (s.accountReleased id g).Canon := h.modOp

theorem State.Canon.takeMessage {o : Operation} {c : Command} {x : InExchange} (h : s.Canon) : OptCanon (s.takeMessage o c x) := by
  refine h.storeList.bind fun t ht => ?_
  extract_lets u
  have hu : u.Canon := ht.modConn
  split
  · exact hu.endCommand
  · exact .ite hu.accountReleased.endCommand hu.modOp

theorem State.Canon.refuseMessage {o : Operation} {c : Command} {x : InExchange} (h : s.Canon) : OptCanon (s.refuseMessage o c x) := by
  unfold State.refuseMessage
  split
  · exact (h.ite h.modOp).endOp
  · exact h.endOp

theorem State.Canon.deliver {k : Nat} (h : s.Canon) : OptCanon (s.deliver k) := by
  unfold State.deliver
  split
  · split
    · exact .ite h.refuseMessage h.takeMessage
    · exact h
  · exact h

/-! The operations of Machine/Scp.lean. -/

theorem State.Canon.answerClass {p : Nat} {cls : BitVec 2} (h : s.Canon) : (s.answerClass p cls).2.Canon := State.Canon.ite_snd h h.upd

theorem State.Canon.answer {v : Via} {k : Nat} {f : ScpFrame} {typ : Nat} {payload : List Byte} (h : s.Canon) : (s.answer v k f typ payload).Canon := by
  unfold State.answer
  split
  · split
    next x _ t e => exact (h.answerClass.of_pair e).emit.ite h
  · split
    next x _ t e => exact (h.answerClass.of_pair e).emit.ite h

theorem State.Canon.answerConn {k : Nat} {f : ScpFrame} {typ : Nat} {payload : List Byte} (h : s.Canon) : (s.answerConn k f typ payload).Canon := h.sendFrame

theorem State.Canon.exchangeDone {x : OutExchange} (h : s.Canon) : OptCanon (s.exchangeDone x) := by
  unfold State.exchangeDone
  split
  · split
    · exact .ite h.endCommand h
    · exact h
  · exact h.retireRecs.endBackground
  · exact h.modCt
  · exact h.retireRecs
  · exact h
  · exact h

theorem State.Canon.exchangesDone {xs : List OutExchange} (h : s.Canon) : OptCanon (s.exchangesDone xs) := by
  induction xs generalizing s with
  | nil => exact h
  | cons x xs ih => exact h.exchangeDone.bind fun _ ht => ih ht

theorem State.Canon.applyCxid {k : Nat} {cxid : Word32} (h : s.Canon) : OptCanon (s.applyCxid k cxid) := .ite h.setConn.exchangesDone h

theorem State.Canon.applyAck {k : Nat} {f : ScpFrame} (h : s.Canon) : (s.applyAck k f).Canon := h.setConn.ite h.setConn

theorem State.Canon.closeWhenDone {k : Nat} (h : s.Canon) : (s.closeWhenDone k).Canon := h.sendCtl.modConn.ite h

theorem State.Canon.acknowledged {k : Nat} {f : ScpFrame} (h : s.Canon) : OptCanon (s.acknowledged k f) :=
  h.applyAck.applyCxid.bind (fun _ ht => ht.pumpScp.closeWhenDone.endSent)

theorem State.Canon.storeArea {k : Nat} {bs : List Byte} (h : s.Canon) : OptCanon (s.storeArea k bs) :=
  (h.devWrite.bind (fun _ ht => ht.devWrite)).map (fun _ ht => ht.modConn)

theorem State.Canon.refuseInbound {k : Nat} {x : InExchange} {reason : Half} (h : s.Canon) : (s.refuseInbound k x reason).Canon :=
  h.dropReservations.modConn.sendCtl

theorem State.Canon.cutShort {k : Nat} (h : s.Canon) : (s.cutShort k).Canon := by
  unfold State.cutShort
  split
  · exact h.refuseInbound
  · exact h

theorem State.Canon.beginInbound {k : Nat} {f : ScpFrame} (h : s.Canon) : OptCanon (s.beginInbound k f) :=
  .ite h.cutShort.modConn (.ite h.cutShort.modConn (h.cutShort.reserveInbound.map (fun _ ht => ht.modConn)))

theorem State.Canon.addInbound {k : Nat} {bs : List Byte} {area : Nat} (h : s.Canon) : (s.addInbound k bs area).Canon := by
  unfold State.addInbound
  split
  · exact h
  · split
    · exact h.modConn.modRec
    · exact h.modConn

theorem State.Canon.readReply {k : Nat} {x : InExchange} (h : s.Canon) : OptCanon (s.readReply k x) := by
  unfold State.readReply
  split
  · exact h
  · split
    · exact .ite h (OptOf.bind (st := fun t => t) (.ite h h.storeList) (fun _ ht => ht.endCommand))
    · exact h

theorem State.Canon.completeInbound {k : Nat} (h : s.Canon) : OptCanon (s.completeInbound k) := by
  unfold State.completeInbound
  split
  · exact h
  · refine .ite h.refuseInbound (.ite h.refuseInbound ?_)
    extract_lets t
    have ht : t.Canon := h.modConn
    exact .ite (ht.readReply.map fun u hu => hu.commitScp)
      (.ite ht.commitScp (.ite ht.deliver (ht.deliver.map fun u hu => hu.commitScp)))

theorem State.Canon.takeData {k : Nat} {f : ScpFrame} (h : s.Canon) : OptCanon (s.takeData k f) := by
  unfold State.takeData
  refine .ite h.modConn (.ite h.modConn.cutShort.sendCtl (OptOf.bind (st := fun t => t) (.ite h.beginInbound h) fun t ht => ?_))
  split
  · exact ht.modConn
  · refine .ite ht.modConn (ht.storeArea.bind fun u hu => ?_)
    extract_lets v
    have hv : v.Canon := hu.modConn.addInbound
    exact .ite hv.completeInbound hv

theorem State.Canon.takeKept {k n : Nat} (h : s.Canon) : (s.takeKept k n).Canon := by
  induction n generalizing s with
  | zero => exact h
  | succ n ih =>
    unfold State.takeKept
    dsimp only
    split
    · exact h
    · refine State.Canon.ite h.modConn.count ?_
      split
      · exact h.modConn
      next t e => exact ih (h.modConn.takeData.of_eq e)

theorem State.Canon.sendNak {k : Nat} {p : Word32 × Word32} (h : s.Canon) : (s.sendNak k p).Canon := h.ite h.modConn.sendCtl

theorem State.Canon.receiveData {k : Nat} {f : ScpFrame} (h : s.Canon) : OptCanon (s.receiveData k f) :=
  .ite (.ite h.count (h.takeData.map (fun _ ht => ht.takeKept))) (.ite (h.ite h.modConn).sendNak (h.ite h.sendAck))

theorem State.Canon.adopt {k : Nat} {f : ScpFrame} (h : s.Canon) : (s.adopt k f).Canon := h.modConn

theorem State.Canon.acceptOpen {k : Nat} {f : ScpFrame} (h : s.Canon) : (s.acceptOpen k f).Canon := by
  unfold State.acceptOpen
  exact h.adopt.sendFrame.modConn.pathUp

theorem State.Canon.receiveOpen {k : Nat} {f : ScpFrame} (h : s.Canon) : (s.receiveOpen k f).Canon := by
  unfold State.receiveOpen
  split
  next x _ t e =>
    dsimp only
    split
    · split
      · exact h.acceptOpen
      · split
        · exact (h.takeFree.of_pair e).modConn
        · exact h.acceptOpen.ite h
    · split
      · exact h.sendFrame.ite h
      · exact h

theorem State.Canon.receiveOpenAck {k : Nat} {f : ScpFrame} (h : s.Canon) : (s.receiveOpenAck k f).Canon := h.adopt.pathUp.ite h

theorem State.Canon.resendRange {k : Nat} {lo hi : Word32} {xs : List TxFrame} (h : s.Canon) : (s.resendRange k lo hi xs).Canon := by
  induction xs generalizing s with
  | nil => exact h
  | cons x xs ih => exact ih (h.sendFrame.ite h)

theorem State.Canon.receiveNak {k : Nat} {f : ScpFrame} (h : s.Canon) : (s.receiveNak k f).Canon := h.resendRange

theorem State.Canon.receiveClose {k : Nat} {f : ScpFrame} (h : s.Canon) : OptCanon (s.receiveClose k f) := h.sendCtl.pathFail

theorem State.Canon.endPhase {k : Nat} {p : OpPhase} (h : s.Canon) : OptCanon (s.endPhase k p) := by
  unfold State.endPhase
  split
  · exact .ite h.endCommand h
  · exact h

theorem State.Canon.receiveCloseAck {k : Nat} (h : s.Canon) : OptCanon (s.receiveCloseAck k) := .ite h.closedByControl.endPhase h

theorem State.Canon.resendExchanges {k : Nat} (h : s.Canon) : (s.resendExchanges k).Canon := h.setConn.pumpScp

theorem State.Canon.discardInbound {k : Nat} (h : s.Canon) : (s.discardInbound k).Canon := by
  unfold State.discardInbound
  extract_lets gone t
  have ht : t.Canon := h.foldl fun t x ht => by
    split
    · exact ht.retireRecs
    · exact ht
  clear_value t
  exact ht.modConn

theorem State.Canon.receiveFence {k : Nat} {f : ScpFrame} (h : s.Canon) : OptCanon (s.receiveFence k f) := by
  unfold State.receiveFence
  extract_lets t u c v
  have ht : t.Canon := State.Canon.discardInbound (by exact h.modConn)
  have hu : u.Canon := ht.modConn
  have hv : v.Canon := hu.answerConn
  exact .ite (hv.applyCxid.map fun w hw => hw.resendExchanges) hv

theorem State.Canon.receiveFenceAck {k : Nat} {f : ScpFrame} (h : s.Canon) : OptCanon (s.receiveFenceAck k f) := by
  unfold State.receiveFenceAck
  refine .ite h ?_
  extract_lets t u
  have ht : t.Canon := h.setConn
  have hu : u.Canon := ht.setSchState.ite ht
  exact hu.applyCxid.bind fun v hv => hv.resendExchanges.endSent

theorem State.Canon.partnerError {k : Nat} {f : ScpFrame} {xid : Word32} (h : s.Canon) : OptCanon (s.partnerError k f xid) := h.failOp

theorem State.Canon.receiveError {k : Nat} {f : ScpFrame} (h : s.Canon) : OptCanon (s.receiveError k f) := by
  unfold State.receiveError
  dsimp only
  split
  · exact .ite h.partnerError h
  · split
    · exact h.report.setConn.pumpScp
    · exact .ite h.partnerError h
    · exact h
    · exact .ite h.modConn.partnerError h

theorem State.Canon.byType {k : Nat} {f : ScpFrame} (h : s.Canon) : OptCanon (s.byType k f) := by
  have live {t : Option State} (ht : OptCanon t) : OptCanon (if (s.conn k).isUp then t else some s) := .ite ht h
  unfold State.byType
  dsimp only
  split
  · exact h.receiveOpen
  · exact h.receiveOpenAck
  · exact live (h.receiveData.bind fun _ ht => ht.acknowledged)
  · exact live (h.acknowledged.bind fun _ ht => ht.endPhase)
  · exact live (h.acknowledged.map fun _ ht => ht.receiveNak)
  · exact h.receiveClose
  · exact h.receiveCloseAck
  · exact live h.acknowledged
  · exact h.receiveFence
  · exact h.receiveFenceAck
  · exact live (h.acknowledged.bind fun _ ht => ht.receiveError)
  · exact h

theorem State.Canon.ackNow {k : Nat} {f : ScpFrame} (h : s.Canon) : (s.ackNow k f).Canon := h.sendAck.ite h

theorem State.Canon.receiveScp {v : Via} {k : Nat} {f : ScpFrame} (h : s.Canon) : OptCanon (s.receiveScp v k f) :=
  .ite h.modCss (.ite h.modCss (.ite h.modCss.answer (.ite h.answerConn (.ite h.answerConn (.ite h (h.modConn.byType.map (fun _ ht => ht.ackNow)))))))

theorem State.Canon.scpRow {typ sch : Nat} {f : ScpFrame} (h : s.Canon) : OutCanon (scpRow typ sch f s) := .ite rfl (.ite h (.ite h (h.orSame h.receiveScp)))

theorem State.Canon.execScpOpen {sch : Nat} {f : ScpFrame} (h : s.Canon) : OutCanon (execScpOpen sch f s) := h.scpRow

theorem State.Canon.execScpOpenAck {sch : Nat} {f : ScpFrame} (h : s.Canon) : OutCanon (execScpOpenAck sch f s) := h.scpRow

theorem State.Canon.execScpData {sch : Nat} {f : ScpFrame} (h : s.Canon) : OutCanon (execScpData sch f s) := h.scpRow

theorem State.Canon.execScpAck {sch : Nat} {f : ScpFrame} (h : s.Canon) : OutCanon (execScpAck sch f s) := h.scpRow

theorem State.Canon.execScpNak {sch : Nat} {f : ScpFrame} (h : s.Canon) : OutCanon (execScpNak sch f s) := h.scpRow

theorem State.Canon.execScpClose {sch : Nat} {f : ScpFrame} (h : s.Canon) : OutCanon (execScpClose sch f s) := h.scpRow

theorem State.Canon.execScpCloseAck {sch : Nat} {f : ScpFrame} (h : s.Canon) : OutCanon (execScpCloseAck sch f s) := h.scpRow

theorem State.Canon.execScpKeepalive {sch : Nat} {f : ScpFrame} (h : s.Canon) : OutCanon (execScpKeepalive sch f s) := h.scpRow

theorem State.Canon.execScpFence {sch : Nat} {f : ScpFrame} (h : s.Canon) : OutCanon (execScpFence sch f s) := h.scpRow

theorem State.Canon.execScpFenceAck {sch : Nat} {f : ScpFrame} (h : s.Canon) : OutCanon (execScpFenceAck sch f s) := h.scpRow

theorem State.Canon.execScpError {sch : Nat} {f : ScpFrame} (h : s.Canon) : OutCanon (execScpError sch f s) := h.scpRow

theorem State.Canon.execOpenResend {sch : Nat} (h : s.Canon) : OutCanon (execOpenResend sch s) := .ite h.sendOpen h

theorem State.Canon.execKeepaliveTimer {sch : Nat} (h : s.Canon) : OutCanon (execKeepaliveTimer sch s) := .ite h.sendCtl h

theorem State.Canon.execPathDead {sch : Nat} (h : s.Canon) : OutCanon (execPathDead sch s) := .ite (h.orSame h.pathFail) h

theorem State.Canon.execReopen {sch : Nat} (h : s.Canon) : OutCanon (execReopen sch s) := by
  unfold Machine.execReopen
  split
  · exact .ite h.openKey h
  · exact h

theorem State.Canon.retransmitScp {sch : Nat} (h : s.Canon) : (s.retransmitScp sch).Canon := by
  unfold State.retransmitScp
  dsimp only
  split
  · exact h
  · exact h.sendFrame.modConn.ite h

theorem State.Canon.delayedAck {sch : Nat} (h : s.Canon) : (s.delayedAck sch).Canon := by
  unfold State.delayedAck
  dsimp only
  split
  · exact (h.tcpAck.ite h.sendAck).ite h
  · exact h

theorem State.Canon.sendFence {k : Nat} (h : s.Canon) : (s.sendFence k).Canon := by
  unfold State.sendFence
  exact h.sendCtl.modConn

theorem State.Canon.execFenceResend {sch : Nat} (h : s.Canon) : OutCanon (execFenceResend sch s) := .ite h.sendFence h

/-! The operations of Machine/Tcp.lean. -/

theorem State.Canon.modTcp {k : Nat} {f : Tcp → Tcp} (h : s.Canon) : (s.modTcp k f).Canon := h.modConn

theorem State.Canon.synOptions {k : Nat} {g : TcpSegment} (h : s.Canon) : (s.synOptions k g).Canon := by
  unfold State.synOptions
  exact h.setConn

theorem State.Canon.tcpEstablished {k : Nat} (h : s.Canon) : (s.tcpEstablished k).Canon := by
  unfold State.tcpEstablished
  exact (h.ite h.modConn).modTcp.pathUp

theorem State.Canon.tcpReject {k : Nat} {g : TcpSegment} (h : s.Canon) : (s.tcpReject k g).Canon := h.sendSegment

theorem State.Canon.tcpListen {k : Nat} {g : TcpSegment} (h : s.Canon) : (s.tcpListen k g).Canon :=
  h.ite (h.tcpReject.ite (h.synOptions.modConn.modTcp.tcpSyn.ite h))

theorem State.Canon.tcpSynSent {k : Nat} {g : TcpSegment} (h : s.Canon) : OptCanon (s.tcpSynSent k g) :=
  .ite (h.ite h.tcpReject) (.ite (.ite h.pathFail h) (.ite (.ite h.synOptions.modConn.tcpEstablished.tcpAck h.synOptions.modTcp.tcpSyn) h))

theorem State.Canon.messagesAcked {k : Nat} {xs : List TcpChunk} (h : s.Canon) : OptCanon (s.messagesAcked k xs) := by
  induction xs generalizing s with
  | nil => exact h
  | cons x xs ih =>
    refine OptOf.bind (st := fun t => t) (.ite h ?_) fun _ ht => ih ht
    split
    · exact h.retireRecs
    · split
      · exact .ite h.endCommand h
      · exact h
    · exact h

theorem State.Canon.newAck {k : Nat} {ack : Word32} (h : s.Canon) : OptCanon (s.newAck k ack) := h.setConn.messagesAcked

theorem State.Canon.resendOldest {k : Nat} (h : s.Canon) : (s.resendOldest k).Canon := by
  unfold State.resendOldest
  dsimp only
  split
  · split
    · exact h.sendChunk
    · exact h
  · exact h

theorem State.Canon.dupAck {k : Nat} (h : s.Canon) : (s.dupAck k).Canon := (h.ite h.modTcp).ite (h.modTcp.resendOldest.ite h.modTcp)

theorem State.Canon.markSack {k : Nat} {bs : List (Word32 × Word32)} (h : s.Canon) : (s.markSack k bs).Canon := h.ite h.modTcp

theorem State.Canon.finAcked {k : Nat} (h : s.Canon) : OptCanon (s.finAcked k) := by
  have hc {p : TcpPhase} :
      OptCanon (((s.closedByControl k rsnClosed).modConn k fun c => { c with tcp := some { (s.conn k).tcpState with phase := p } }).endPhase k .close) := by
    refine State.Canon.endPhase ?_
    exact h.closedByControl.modConn
  unfold State.finAcked
  dsimp only
  split
  · exact h
  · refine .ite h ?_
    split
    · exact hc
    · exact hc
    · exact h.pathFail
    · exact h

theorem State.Canon.takeWindow {k : Nat} {g : TcpSegment} {win : Nat} (h : s.Canon) : (s.takeWindow k g win).Canon := h.modConn

theorem State.Canon.tcpAcked {k : Nat} {g : TcpSegment} (h : s.Canon) : OptCanon (s.tcpAcked k g) := by
  unfold State.tcpAcked
  extract_lets c win dup t o
  have ht : t.Canon := h.markSack
  have ho : OptCanon o := .ite ht.newAck (.ite ht.dupAck ht)
  exact ho.bind fun u hu => hu.takeWindow.finAcked.bind fun v hv => hv.pumpTcp.endSent

theorem State.Canon.discardMessage {k : Nat} {n : Nat} (h : s.Canon) : (s.discardMessage k n).Canon := h.modConn

theorem State.Canon.tcpMessage {k p l : Nat} {seq : Word32} (h : s.Canon) : OptCanon (s.tcpMessage k p l seq) := by
  have hput {t : State} (ht : t.Canon) (x : InExchange) : OptCanon ((t.modConn k fun c =>
      { c with inEx := c.inEx ++ [x], tcp := some { c.tcpState with inbound := c.tcpState.inbound.drop (p + l) } }).deliver k) := by
    refine State.Canon.deliver ?_
    exact ht.modConn
  unfold State.tcpMessage
  refine .ite ?_ (hput h _)
  split
  · exact h.discardMessage
  next g t e => exact hput (h.reserveInbound.of_eq e).modRec _

theorem State.Canon.framingError {k : Nat} (h : s.Canon) : OptCanon (s.framingError k) := h.tcpRst.pathFail

theorem State.Canon.parse {k n : Nat} (h : s.Canon) : OptCanon (s.parse k n) := by
  induction n generalizing s with
  | zero => exact h
  | succ n ih => exact .ite h (.ite h.framingError (.ite h (h.tcpMessage.bind fun _ ht => ih ht)))

theorem State.Canon.takeBytes {k : Nat} {bs : List Byte} (h : s.Canon) : OptCanon (s.takeBytes k bs) := h.storeArea.bind (fun _ ht => ht.modConn.parse)

theorem State.Canon.takeAhead {k n : Nat} (h : s.Canon) : OptCanon (s.takeAhead k n) := by
  induction n generalizing s with
  | zero => exact h
  | succ n ih =>
    unfold State.takeAhead
    dsimp only
    split
    · exact h.modTcp
    · exact .ite h (h.modTcp.takeBytes.bind fun _ ht => ih ht)

theorem State.Canon.ackLater {k : Nat} (h : s.Canon) : (s.ackLater k).Canon := by
  unfold State.ackLater
  dsimp only
  split
  · exact h
  · split
    · exact h.tcpAck
    · exact h.modConn

theorem State.Canon.tcpData {k : Nat} {g : TcpSegment} (h : s.Canon) : OptCanon (s.tcpData k g) :=
  .ite h (.ite h.tcpAck (.ite h.count.tcpAck (.ite (h.takeBytes.bind (fun _ ht => ht.takeAhead.map (fun _ hu => hu.ackLater))) h.modTcp.tcpAck)))

theorem State.Canon.tcpFin {k : Nat} {g : TcpSegment} (h : s.Canon) : OptCanon (s.tcpFin k g) := .ite h (.ite (.ite h.framingError h.modTcp.reachFin) h)

theorem State.Canon.tcpSynchronised {k : Nat} {g : TcpSegment} (h : s.Canon) : OptCanon (s.tcpSynchronised k g) := by
  unfold State.tcpSynchronised
  extract_lets c t u o
  have hu : u.Canon := by
    unfold u
    split
    · exact h.modTcp.ite h
    · exact h
  have ho : OptCanon o := .ite (.ite hu.modConn.tcpEstablished hu.tcpReject) (.ite hu.tcpAck hu)
  have hrst : OptCanon (if c.pstate = psClosed then some (s.modConn k fun c => { c with tcp := none }) else s.pathFail k rsnReset) := .ite h.modConn h.pathFail
  have hack : OptCanon (some (s.tcpAck k)) := h.tcpAck
  refine .ite (h.ite h.tcpAck) (.ite (.ite hrst hack) (.ite hack (.ite h ?_)))
  exact ho.bind fun v hv => hv.tcpAcked.bind fun v hv => hv.tcpData.bind fun v hv => hv.tcpFin.bind fun v hv => hv.endPhase

theorem State.Canon.receiveTcp {k : Nat} {g : TcpSegment} (h : s.Canon) : OptCanon (s.receiveTcp k g) := by
  unfold State.receiveTcp
  split
  · exact h
  · dsimp only
    split
    · exact h.modConn
    · exact h.modConn.tcpListen
    · exact h.modConn.tcpSynSent
    · exact h.modConn.tcpSynchronised

theorem State.Canon.execTcpSegment {sch : Nat} {g : TcpSegment} (h : s.Canon) : OutCanon (execTcpSegment sch g s) :=
  .ite rfl (.ite h (.ite h (h.orSame h.receiveTcp)))

theorem State.Canon.windowProbe {k : Nat} (h : s.Canon) : (s.windowProbe k).Canon := by
  unfold State.windowProbe
  split
  · exact h.sendChunk.ite h
  · exact h

theorem State.Canon.execTcpRetransmitTimeout {sch : Nat} (h : s.Canon) : OutCanon (execTcpRetransmitTimeout sch s) := by
  unfold Machine.execTcpRetransmitTimeout
  dsimp only
  split
  · exact h
  · split
    · exact h.orSame h.pathFail
    · split
      · exact h.modConn.tcpSyn
      · exact h.modConn.tcpSyn
      · exact h.modConn.sendSegment
      · exact h.modConn.windowProbe.ite h.modConn.sendNextChunk

/-! The operations of Machine/Ccw.lean. -/

theorem State.Canon.countCheck {sch : Nat} (h : s.Canon) : (s.countCheck sch).Canon := h.tableStore

theorem State.Canon.stopProgram {o : Operation} {e : CcwStop} (h : s.Canon) : OptCanon (s.stopProgram o e) := (h.countCheck.ite h).endOp

theorem State.Canon.startCommand {o : Operation} {c : Command} {n : Nat} (h : s.Canon) : OptCanon (s.startCommand o c n) := .ite h.modOp.addEntry h.modOp

theorem State.Canon.ccwRow {cmd : Nat} {func : Option Nat} {waits : Bool} {run : Operation → Command → State → Option State} {sch : Nat}
    (h : s.Canon) (hrun : ∀ (a : Operation) (b : Command) (t : State), t.Canon → OptCanon (run a b t)) :
    OutCanon (ccwRow cmd func waits run sch s) := by
  unfold Machine.ccwRow
  split
  · exact h
  · split
    · exact h
    · split
      · exact h.orSame h.endHalted
      · split
        · exact h
        · split
          · exact .ite h (h.orSame h.modOp.stopProgram)
          · exact .ite h (h.orSame (h.startCommand.bind (fun _ ht => hrun _ _ _ ht)))

theorem State.Canon.needPath {run : Operation → Command → State → Option State} {o : Operation} {c : Command}
    (h : s.Canon) (hrun : ∀ (a : Operation) (b : Command) (t : State), t.Canon → OptCanon (run a b t)) :
    OptCanon (needPath run o c s) :=
  .ite (hrun _ _ _ h) h.failOp

theorem State.Canon.setPhase {id : Nat} {p : OpPhase} (h : s.Canon) : (s.setPhase id p).Canon := h.modOp

theorem State.Canon.sendCleanScp {o : Operation} {c : Command} {xop : Nat} (h : s.Canon) : (s.sendCleanScp o c xop).Canon := h.ite h.setConn.pumpScp

theorem State.Canon.sendCleanTcp {o : Operation} {c : Command} (h : s.Canon) : (s.sendCleanTcp o c).Canon := h.setConn.pumpTcp

theorem State.Canon.poisonEnd {o : Operation} {c : Command} {at_ : Nat} (h : s.Canon) : OptCanon (s.poisonEnd o c at_) := h.endOp

theorem State.Canon.sendExchange {xop : Nat} {o : Operation} {c : Command} (h : s.Canon) : OptCanon (sendExchange xop o c s) := by
  unfold Machine.sendExchange
  split
  next x _ t e =>
    dsimp only
    split
    · exact ((State.Canon.ite_snd h.takeFree h).of_pair e).sendCleanScp.poisonEnd
    · exact ((State.Canon.ite_snd h.takeFree h).of_pair e).startExchange.setPhase

theorem State.Canon.journalData {kind : Nat} {o : Operation} {c : Command} (h : s.Canon) : OptCanon (journalData kind o c s) := by
  unfold Machine.journalData
  split
  · exact h.stopProgram
  · exact h.setPhase.addWait

theorem State.Canon.execCcwWrite {sch : Nat} (h : s.Canon) : OutCanon (execCcwWrite sch s) :=
  h.ccwRow (fun _ _ _ ht => ht.needPath (fun _ _ _ hu => hu.sendExchange))

theorem State.Canon.execCcwWriteCommitted {sch : Nat} (h : s.Canon) : OutCanon (execCcwWriteCommitted sch s) :=
  h.ccwRow (fun _ _ _ ht => ht.needPath (fun _ _ _ hu => hu.journalData))

theorem State.Canon.execCcwRead {sch : Nat} (h : s.Canon) : OutCanon (execCcwRead sch s) :=
  h.ccwRow (fun _ _ _ ht => ht.needPath (fun _ _ _ hu => hu.modConn.startExchangeAs.setPhase))

theorem State.Canon.storeAndEnd {o : Operation} {c : Command} {bs : List Byte} (h : s.Canon) : OptCanon (s.storeAndEnd o c bs) :=
  h.storeList.bind (fun _ ht => ht.endCommand)

theorem State.Canon.execCcwReadJournaled {sch : Nat} (h : s.Canon) : OutCanon (execCcwReadJournaled sch s) := h.ccwRow (fun _ _ _ ht => ht.modOp.storeAndEnd)

theorem State.Canon.execCcwSendMessage {sch : Nat} (h : s.Canon) : OutCanon (execCcwSendMessage sch s) := by
  refine h.ccwRow fun o c t ht => ht.needPath fun o c u hu => .ite hu.journalData (.ite ?_ hu.sendExchange)
  split
  · exact hu.sendCleanTcp.poisonEnd
  · refine State.Canon.queueMessage ?_
    exact hu.setPhase

theorem State.Canon.execCcwReceiveMessage {sch : Nat} (h : s.Canon) : OutCanon (execCcwReceiveMessage sch s) :=
  h.ccwRow (fun _ _ _ ht => ht.needPath (fun _ _ _ hu => hu.modOp.deliver))

theorem State.Canon.execControlClose {sch : Nat} (h : s.Canon) : OutCanon (execControlClose sch s) := by
  refine h.ccwRow fun o c t ht => ht.needPath fun o c u hu => ?_
  extract_lets v w
  have hv : v.Canon := hu.setPhase
  have hw : w.Canon := hv.modConn
  exact .ite hw.modTcp.pumpTcp hw.closeWhenDone

theorem State.Canon.execControlAbort {sch : Nat} (h : s.Canon) : OutCanon (execControlAbort sch s) :=
  h.ccwRow (fun _ _ _ ht => ht.needPath (fun _ _ _ hu => (hu.tcpRst.ite hu.sendCtl).backgroundEvents.closedByControl.endCommand))

theorem State.Canon.execControlQuery {sch : Nat} (h : s.Canon) : OutCanon (execControlQuery sch s) :=
  h.ccwRow fun _ _ _ ht => ht.statePartFull.storeAndEnd

theorem State.Canon.tcpProbe {k : Nat} (h : s.Canon) : (s.tcpProbe k).Canon := h.sendSegment

theorem State.Canon.sendPing {k : Nat} (h : s.Canon) : (s.sendPing k).Canon := h.tcpProbe.ite h.sendFrame

theorem State.Canon.execControlPing {sch : Nat} (h : s.Canon) : OutCanon (execControlPing sch s) :=
  h.ccwRow (fun _ _ _ ht => ht.needPath (fun _ _ _ hu => hu.setPhase.sendPing))

theorem State.Canon.execControlPartner {sch : Nat} (h : s.Canon) : OutCanon (execControlPartner sch s) :=
  h.ccwRow (fun _ _ _ ht => ht.needPath (fun _ _ _ hu => .ite hu.failOp hu.sendExchange))

theorem State.Canon.execCcwSense {sch : Nat} (h : s.Canon) : OutCanon (execCcwSense sch s) := h.ccwRow (fun _ _ _ ht => ht.storeAndEnd)

theorem State.Canon.execCcwBranch {sch : Nat} (h : s.Canon) : OutCanon (execCcwBranch sch s) := h.ccwRow (fun _ _ _ ht => ht.modOp)

theorem State.Canon.execCcwNop {sch : Nat} (h : s.Canon) : OutCanon (execCcwNop sch s) := h.ccwRow (fun _ _ _ ht => ht.endCommand)

theorem State.Canon.setResult {r : BitVec 3} (h : s.Canon) : (s.setResult r).Canon := h.modCss

theorem State.Canon.writeConfig {k : Nat} (h : s.Canon) : (s.writeConfig k).Canon := h.tableStore.tableStore

theorem State.Canon.establish {typ : BitVec 2} {g : Bool} (h : s.Canon) : (s.establish typ g).Canon :=
  h.setResult.ite (h.setResult.ite (h.setResult.ite (h.setResult.ite h.tableStore.writeConfig.tableStore.modCss.beginOpening.setResult)))

theorem State.Canon.rebind {k : Nat} (h : s.Canon) : (s.rebind k).Canon := h.modCss

theorem State.Canon.recheck {k : Nat} (h : s.Canon) : (s.recheck k).Canon := by
  unfold State.recheck
  dsimp only
  split
  · exact h.readConfig.beginOpening.ite h.readConfig
  · split
    · exact h.readConfig.modConn.ite h.readConfig
    · exact h.readConfig

theorem State.Canon.modify (h : s.Canon) : s.modify.Canon := h.setResult.ite (h.setResult.ite (h.setResult.ite h.writeConfig.rebind.recheck.setResult))

theorem State.Canon.endBackgrounds {k : Nat} (h : s.Canon) : (s.endBackgrounds k).Canon := h.foldl (fun _ _ ht => ht.modOp.returnBlock)

theorem State.Canon.remove (h : s.Canon) : s.remove.Canon :=
  h.setResult.ite (h.setResult.ite h.backgroundEvents.endBackgrounds.dropReservations.modCss.setStatus.setResult)

theorem State.Canon.setCmdFields {typ : BitVec 2} {g : Bool} (h : s.Canon) : (s.setCmdFields typ g).Canon := h.modCss

theorem State.Canon.mschRow {run : State → State} {typ : BitVec 2} {g : Bool} (h : s.Canon) (hrun : ∀ (t : State), t.Canon → (run t).Canon) :
    OutCanon (mschRow run typ g s) :=
  h.portRow (fun _ ht => hrun _ ht.setCmdFields)

theorem State.Canon.execEstablish {typ : BitVec 2} {g : Bool} (h : s.Canon) : OutCanon (execEstablish typ g s) := h.mschRow (fun _ ht => ht.establish)

theorem State.Canon.execModify {typ : BitVec 2} {g : Bool} (h : s.Canon) : OutCanon (execModify typ g s) := h.mschRow (fun _ ht => ht.modify)

theorem State.Canon.execRemove {typ : BitVec 2} {g : Bool} (h : s.Canon) : OutCanon (execRemove typ g s) := h.mschRow (fun _ ht => ht.remove)

end Sys2Proof.Machine
end

section
/-! SUPPORT. Ethernet, spares, the Weir, the mirror, the plant and the pair keep the canonical form of memory (R272), which settles O58. -/

namespace Sys2Proof.Machine
variable {s : State}

/-! The operations of Machine/Leat.lean. -/

theorem State.Canon.modLink {f : LeatLink → LeatLink} (h : s.Canon) : (s.modLink f).Canon := h.upd

theorem State.Canon.leatEmit {p : Nat} {seq : Word32} {b : MirrorBody} (h : s.Canon) : OptCanon (s.leatEmit p seq b) :=
  .ite (h.leatSends.map (fun _ ht => ht.emit.modLink)) rfl

theorem State.Canon.leatEither {i : Nat} {seq : Word32} {b : MirrorBody} (h : s.Canon) : OptCanon (s.leatEither i seq b) := by
  unfold State.leatEither
  split
  next t e => exact h.leatEmit.of_eq e
  · exact h.leatEmit

theorem State.Canon.leatSend {seq : Word32} {b : MirrorBody} (h : s.Canon) : (s.leatSend seq b).Canon := by
  unfold State.leatSend
  split
  next t e => exact (h.leatEither.of_eq e).modLink
  · exact h

theorem State.Canon.leatOnce {m : MirrorMsg} (h : s.Canon) : OptCanon (s.leatOnce m) := h.leatEither

theorem State.Canon.leatBoth {m : MirrorMsg} (h : s.Canon) : (s.leatBoth m).Canon := h.foldl (fun _ _ ht => OptOf.getD ht.leatEmit ht)

theorem State.Canon.leatNext (h : s.Canon) : s.leatNext.Canon := by
  unfold State.leatNext
  split
  · exact h
  · split
    · exact h
    next t e => exact (h.leatEither.of_eq e).modLink

theorem State.Canon.pumpLeat (h : s.Canon) : s.pumpLeat.Canon := h.iterate fun _ ht => ht.leatNext

theorem State.Canon.queueMirror {m : MirrorMsg} (h : s.Canon) : (s.queueMirror m).Canon := h.modLink

theorem State.Canon.leatAck (h : s.Canon) : s.leatAck.Canon := h.leatSend

theorem State.Canon.leatAcked {ack : Word32} {win : BitVec 16} (h : s.Canon) : (s.leatAcked ack win).Canon := h.modLink.pumpLeat

theorem State.Canon.leatTake {take : MirrorMsg → State → State} {m : MirrorMsg}
    (h : s.Canon) (htake : ∀ (a : MirrorMsg) (t : State), t.Canon → (take a t).Canon) :
    (s.leatTake take m).Canon :=
  htake _ _ h.modLink

theorem State.Canon.leatKept {take : MirrorMsg → State → State} {n : Nat} (h : s.Canon) (htake : ∀ (a : MirrorMsg) (t : State), t.Canon → (take a t).Canon) :
    (s.leatKept take n).Canon := by
  induction n generalizing s with
  | zero => exact h
  | succ n ih =>
    unfold State.leatKept
    split
    · exact h
    · exact ih (h.modLink.leatTake htake)

theorem State.Canon.leatNak {p : Word32 × Word32} (h : s.Canon) : (s.leatNak p).Canon := h.ite h.modLink.leatSend

theorem State.Canon.leatReceive {take : MirrorMsg → State → State} {e : MirrorHead} {m : MirrorMsg} (h : s.Canon)
    (htake : ∀ (a : MirrorMsg) (t : State), t.Canon → (take a t).Canon) : (s.leatReceive take e m).Canon := by
  unfold State.leatReceive
  extract_lets t d u range v
  have ht : t.Canon := h.leatAcked
  have hv : v.Canon := .ite ((ht.leatTake htake).leatKept htake) (.ite ht.modLink.leatNak (ht.ite ht.leatAck))
  exact hv.leatAck.ite hv

theorem State.Canon.leatResend {lo hi : Word32} (h : s.Canon) : (s.leatResend lo hi).Canon := h.foldl (fun _ _ ht => ht.leatSend)

theorem State.Canon.leatArrives {f : ScpFrame} (h : s.Canon) : (s.leatArrives f).Canon :=
  h.modCss.ite (h.modCss.ite (h.modCss.ite (h.leatAcked.ite (h.leatAcked.leatResend.ite h))))

theorem State.Canon.leatRetransmit (h : s.Canon) : s.leatRetransmit.Canon := by
  unfold State.leatRetransmit
  split
  · exact h.leatSend.ite h.pumpLeat
  · exact h

theorem State.Canon.execScpRetransmit {sch : Nat} (h : s.Canon) : OutCanon (execScpRetransmit sch s) := .ite (h.ite h.leatRetransmit) h.retransmitScp

theorem State.Canon.execDelayedAck {sch : Nat} (h : s.Canon) : OutCanon (execDelayedAck sch s) := by
  unfold Machine.execDelayedAck
  split
  · split
    · exact h.leatAck.ite h
    · exact h
  · exact h.delayedAck

/-! The operations of Machine/Eth.lean. -/

theorem State.Canon.pumpConn {k : Nat} (h : s.Canon) : OptCanon (s.pumpConn k) := .ite h (.ite h.pumpTcp.endSent h.pumpScp.closeWhenDone.endSent)

theorem State.Canon.sendOne {k : Nat} (h : s.Canon) : (s.sendOne k).Canon := (h.sendNextChunk.ite h.pumpFin).ite h.sendNext

theorem State.Canon.serveTurn {p : Nat} (h : s.Canon) : (s.serveTurn p).Canon := by
  unfold State.serveTurn
  split
  · exact h
  · exact h.sendOne.modPort

theorem State.Canon.pumpPort {p : Nat} (h : s.Canon) : OptCanon (s.pumpPort p) :=
  ((h.iterate fun _ ht => ht.serveTurn).foldl fun _ _ ht => ht.closeWhenDone).endSent

theorem State.Canon.dropLink {p : Nat} (h : s.Canon) : (s.dropLink p).Canon := h.modPort.report.ite h

theorem State.Canon.execLinkDown {port : Nat} {sub : Fin 4} (h : s.Canon) : OutCanon (execLinkDown port sub s) :=
  .ite rfl (.ite h (.ite (.ite (h.dropLink.ite h.modPort) h) h.dropLink))

theorem State.Canon.execLinkUp {port : Nat} {sub : Fin 4} {fec : Bool} (h : s.Canon) : OutCanon (execLinkUp port sub fec s) :=
  .ite rfl (.ite h (.ite (.ite h (h.orSame h.modPort.pumpPort)) (.ite h (h.orSame h.modPort.pumpPort))))

theorem State.Canon.writeEthcfg {p : Nat} {v : Word} (h : s.Canon) : (s.writeEthcfg p v).Canon := h.modPort.ite h.modPort.dropLink

theorem State.Canon.execEthcfgWrite {port : Nat} {v : Word} (h : s.Canon) : OutCanon (execEthcfgWrite port v s) :=
  .ite rfl (h.portRow (fun _ ht => ht.writeEthcfg))

theorem State.Canon.setLeat {on : Bool} (h : s.Canon) : (s.setLeat on).Canon := (h.ite h.modLink).foldl (fun _ _ ht => ht.modPort.ite ht.modPort.dropLink)

theorem State.Canon.execPfcFrame {port : Nat} {prio : Fin 8} {quanta : BitVec 16} (h : s.Canon) : OutCanon (execPfcFrame port prio quanta s) := by
  have ht : (((s.count port 0 1).count port 1 (wireBytes 46)).count port 9 1).Canon := h.count.count.count
  refine .ite rfl (.ite h (.ite h.count.count (.ite h.count.count.count (.ite ht ?_))))
  exact .ite (ht.orSame ht.modPort.pumpPort) ht.modPort

theorem State.Canon.execPfcPauseExpiry {port : Nat} {prio : Fin 8} (h : s.Canon) : OutCanon (execPfcPauseExpiry port prio s) :=
  .ite rfl (.ite (h.orSame h.modPort.pumpPort) h)

theorem State.Canon.sendPfc {p prio : Nat} {quanta : BitVec 16} (h : s.Canon) : (s.sendPfc p prio quanta).Canon := h.emit.count

theorem State.Canon.watchBuffer {p prio backlog : Nat} (h : s.Canon) : (s.watchBuffer p prio backlog).Canon :=
  h.ite (h.upd.sendPfc.modPort.ite (h.sendPfc.modPort.ite h))

theorem State.Canon.announce {p : Nat} (h : s.Canon) : (s.announce p).Canon := (h.foldl (fun _ _ ht => ht.emit)).ite h

theorem State.Canon.announceAll (h : s.Canon) : s.announceAll.Canon := h.foldl (fun _ _ ht => ht.announce.modPort.ite ht)

theorem State.Canon.execAnnounceRepeat {port : Nat} (h : s.Canon) : OutCanon (execAnnounceRepeat port s) := by
  unfold Machine.execAnnounceRepeat
  split
  · exact .ite h.announce.modPort h
  · exact h

theorem State.Canon.strayScp {v : Via} {k : Nat} {f : ScpFrame} (h : s.Canon) : (s.strayScp v k f).Canon := h.modCss.ite (h.modCss.ite h.modCss.answer)

theorem State.Canon.classifyScp {v : Via} {f : ScpFrame} (h : s.Canon) : OptCanon (s.classifyScp v f) := .ite h.receiveScp h.strayScp

theorem State.Canon.classifyTcp {p : Nat} {vid : BitVec 12} {v6 : Bool} {sip dip : Pair} {sport dport : BitVec 16} {g : TcpSegment} (h : s.Canon) :
    OptCanon (s.classifyTcp p vid v6 sip dip sport dport g) := by
  unfold State.classifyTcp
  split
  · exact h.count
  · exact (h.modTcp.ite h).receiveTcp

theorem State.Canon.malformed (h : s.Canon) : s.malformed.Canon := h.modCss

theorem State.Canon.classify {p : Nat} {f : EthFrame} (h : s.Canon) : OptCanon (s.classify p f) := by
  unfold State.classify
  split
  · split
    · split
      next x t e => exact (h.leatAccepts.of_pair e).leatArrives
      next x t e => exact h.leatAccepts.of_pair e
    · exact h
  · split
    · exact h.count
    · split
      · exact h
      · exact h.classifyScp
      · split
        · exact h.count
        · split
          · exact h.malformed
          · split
            · exact h.count
            · split
              · exact .ite h.malformed h.classifyScp
              · exact h.classifyScp
              · exact h
      · exact .ite h.malformed (.ite h.count h.classifyTcp)
      · exact .ite h.count (.ite h.emit h)
      · exact h.count
      · exact h.count

theorem State.Canon.countFec {p : Nat} {f : EthFrame} (h : s.Canon) : (s.countFec p f).Canon :=
  h.ite (h.count.count.iterate fun _ ht => ht.report)

theorem State.Canon.execFrameReceive {port : Nat} {f : EthFrame} (h : s.Canon) : OutCanon (execFrameReceive port f s) := by
  have ht : (s.countFec port f).Canon := h.countFec
  have hu : ((((s.countFec port f).count port 0 1).count port 1 (wireBytes f.len)).watchBuffer port f.prio f.backlog).Canon := ht.count.count.watchBuffer
  exact .ite rfl (.ite h (.ite ht.count.report (.ite ht.count (.ite hu (hu.orSame hu.classify)))))

/-! The operations of Machine/Spare.lean. -/

theorem State.Canon.modSlot {i : Nat} {f : Slot → Slot} (h : s.Canon) : (s.modSlot i f).Canon := h.modCt

theorem State.Canon.spend {u : Nat} (h : s.Canon) : (s.spend u).Canon := h.modCt

theorem State.Canon.slotFails {i : Nat} (h : s.Canon) : (s.slotFails i).Canon := h.spend.modSlot

theorem State.Canon.spareDone {x : Option Nat} (h : s.Canon) : (s.spareDone x).Canon := by
  unfold State.spareDone
  split
  · exact h.upd
  · exact h

theorem State.Canon.loseCore {lcn : Nat} (h : s.Canon) : (s.loseCore lcn).Canon := h.reportAt.spend.modCt.modCore.mclGone.forgetInvals

theorem State.Canon.claimFor {lcn : Nat} {src : Option Nat} (h : s.Canon) : (s.claimFor lcn src).Canon := by
  unfold State.claimFor
  split
  · exact h.loseCore
  · exact h.modSlot.modCt

theorem State.Canon.startSpareCore {lcn : Nat} {src : Option Nat} (h : s.Canon) : (s.startSpareCore lcn src).Canon :=
  h.reportAt.ite h.endHold.dropInval.modCore.claimFor

theorem State.Canon.drainL2 {p : Nat} {bad : List Nat} (h : s.Canon) : (s.drainL2 p bad).Canon := h.foldl (fun _ _ ht => ht.drainCopy)

theorem State.Canon.sparedIo {lcn : Nat} {src : Option Nat} {a : PortAccess} (h : s.Canon) : OptCanon (s.sparedIo lcn src a) := by
  cases src with
  | none => exact h.takeFree.modCore.raiseSync
  | some n => exact h.modCore.raiseSync

theorem State.Canon.resumeOn {x : Sparing} {bad : List Nat} (h : s.Canon) : OptCanon (s.resumeOn x bad) := by
  have hs := h.drainL2 (p := (s.core x.unit).pcn) (bad := bad)
  refine .ite hs.spend.spareDone.modCt.modCore.modSlot.takeMaster.modCore (hs.spend.spareDone.modCt.modCore.modSlot.takeMaster.withSequence fun t ht => ?_)
  split
  · exact ht.sparedIo
  · exact ht

theorem State.Canon.execCoreSparing {lcn : Nat} {bad : List Nat} (h : s.Canon) : OutCanon (execCoreSparing lcn bad s) := by
  unfold Machine.execCoreSparing
  split
  · exact h
  · exact .ite h (h.orSame (h.drain.bind (fun _ ht => ht.resumeOn)))

theorem State.Canon.resendExchange {k : Nat} {x : OutExchange} (h : s.Canon) : (s.resendExchange k x).Canon :=
  (h.setConn.foldl (fun _ _ ht => ht.sendFrame)).ite h.setConn

theorem State.Canon.resendMessage {k id : Nat} {data : List Byte} (h : s.Canon) : (s.resendMessage k id data).Canon :=
  (h.modTcp.foldl (fun _ _ ht => ht.sendSegment)).ite h.modTcp

theorem State.Canon.rereadExchange {o : Operation} {c : Command} {xid : Word32} (h : s.Canon) : OptCanon (s.rereadExchange o c xid) := by
  unfold State.rereadExchange
  split
  · exact h.modConn.poisonEnd
  · split
    · exact h.resendMessage
    · split
      · exact h.resendExchange
      · exact h

theorem State.Canon.resendWrite {o : Operation} (h : s.Canon) : (s.resendWrite o).Canon := by
  unfold State.resendWrite
  split
  · exact h.resendExchange
  · exact h

theorem State.Canon.restoreMessage {o : Operation} {c : Command} {g : Word32} (h : s.Canon) : OptCanon (s.restoreMessage o c g) := by
  unfold State.restoreMessage
  split
  · exact h.storeList
  · exact h

theorem State.Canon.restartOp {o : Operation} (h : s.Canon) : OptCanon (s.restartOp o) := by
  unfold State.restartOp
  split
  · exact h.rereadExchange
  · split
    · exact h.resendExchange
    · exact h
  · exact h.modCt.resendWrite
  · exact .ite h.restoreMessage h.resendWrite
  · exact h.sendPing
  · exact h.sendCtl.ite h
  · exact h

theorem State.Canon.restartSchs {ks : List Nat} (h : s.Canon) : OptCanon (s.restartSchs ks) :=
  OptOf.foldl (o := some s) h fun _ _ ho => ho.bind fun _ ht => ht.restartOp

theorem State.Canon.setLcp {k n : Nat} (h : s.Canon) : (s.setLcp k n).Canon := h.tableStore

theorem State.Canon.downSchs {ks : List Nat} (h : s.Canon) : OptCanon (s.downSchs ks) := by
  induction ks generalizing s with
  | nil => exact h
  | cons k ks ih => exact h.schDown.failOp.bind fun _ ht => ih ht

theorem State.Canon.loseCp {n : Nat} (h : s.Canon) : OptCanon (s.loseCp n) := by
  unfold State.loseCp
  split
  · dsimp only
    split
    · exact (h.spend.reportAt.modCt.foldl (fun _ _ ht => ht.setLcp)).restartSchs
    · exact h.spend.reportAt.modCt.downSchs
  · dsimp only
    split
    · exact (h.reportAt.modCt.foldl (fun _ _ ht => ht.setLcp)).restartSchs
    · exact h.reportAt.modCt.downSchs

theorem State.Canon.startSpareCp {n : Nat} {src : Option Nat} (h : s.Canon) : OptCanon (s.startSpareCp n src) := .ite h (.ite h.modSlot.modCt h.loseCp)

theorem State.Canon.execCpSparing {lcp : Nat} (h : s.Canon) : OutCanon (execCpSparing lcp s) := by
  unfold Machine.execCpSparing
  split
  · exact h
  · split
    · exact h
    · split
      · exact h.orSame h.spend.spareDone.modCt.modSlot.restartSchs
      · exact h.orSame h.spareDone.modCt.modSlot.restartSchs

theorem State.Canon.failSlot {i : Nat} (h : s.Canon) : OptCanon (s.failSlot i) := by
  unfold State.failSlot
  dsimp only
  split
  · exact h.slotFails.modCt.claimFor
  · split
    · exact h.slotFails.loseCp
    · exact h.slotFails

theorem State.Canon.execSpareConfirmationFail {slot : Fin 8} (h : s.Canon) : OutCanon (execSpareConfirmationFail slot s) := .ite (h.orSame h.failSlot) h

theorem State.Canon.execSelfTestPass {slot : Fin 8} {r : SelfTest} (h : s.Canon) : OutCanon (execSelfTestPass slot r s) := by
  unfold Machine.execSelfTestPass
  split
  · exact .ite h h.slotFails.modSlot.report
  · exact .ite h (.ite h h.modSlot)
  · exact .ite h (.ite h h.modSlot.report)

/-! The operations of Machine/Weir.lean. -/

theorem State.Canon.rollNow {n : Nat} (h : s.Canon) : (s.rollNow n).Canon := h.upd.ite h

theorem State.Canon.execWindowRoll {src : Nat} (h : s.Canon) : OutCanon (execWindowRoll src s) := .ite rfl h.rollNow

theorem State.Canon.rollsAtBoundary (h : s.Canon) : s.rollsAtBoundary.Canon := (h.foldl (fun _ _ ht => ht.rollNow)).upd

theorem State.Canon.logRecord {r : WeirRecord} (h : s.Canon) : (s.logRecord r).Canon := h.upd

theorem State.Canon.dropRecord (h : s.Canon) : s.dropRecord.Canon := h.upd

theorem State.Canon.selectLog {v : Word} (h : s.Canon) : (s.selectLog v).Canon := h.upd

theorem State.Canon.execLogSelect {v : Word} (h : s.Canon) : OutCanon (execLogSelect v s) := h.selectLog

theorem State.Canon.outOfUse {n : Nat} (h : s.Canon) : (s.outOfUse n).Canon := h.upd.spareDone

theorem State.Canon.withdraw {n : Nat} (h : s.Canon) : OptCanon (s.withdraw n) := by
  unfold State.withdraw
  refine .ite ?_ (.ite ?_ (.ite h.drainL2.outOfUse (.ite h.disableWay (.ite h.withdrawRing.spareDone (.ite h.failChannel.spareDone
    (.ite h.dropLink.outOfUse (.ite (h.dropLink.ite h).outOfUse (.ite h.czWithdraw.spareDone (.ite h.cxWithdraw.spareDone
    (.ite (h.failSlot.map fun _ ht => ht.spareDone) h.spareDone))))))))))
  · show State.Canon _
    split
    · exact h.startSpareCore
    · exact h.report
  · split
    · exact h.startSpareCp
    · exact h

theorem State.Canon.decideSafe (h : s.Canon) : s.decideSafe.Canon := h.ite h.upd

theorem State.Canon.requestTakeover {reason : Half} (h : s.Canon) : (s.requestTakeover reason).Canon := h.upd.decideSafe

theorem State.Canon.weirProcess {e : WeirReport} {full : Bool} (h : s.Canon) : OptCanon (s.weirProcess e full) := by
  unfold State.weirProcess
  extract_lets t late
  split
  next x promoted _ =>
    extract_lets _ y a z u v
    have ht : t.Canon := h.rollNow
    have hu : u.Canon := ht.upd
    have hv : v.Canon := hu.ite (hu.dropRecord.ite hu.logRecord)
    have ho : OptCanon (if a.spare then v.withdraw e.src else some v) := .ite hv.withdraw hv
    refine ho.map fun w hw => ?_
    have hx : (if a.safe then w.decideSafe else w).Canon := hw.decideSafe.ite hw
    exact hx.requestTakeover.ite hx

theorem State.Canon.checkerActs {e : WeirReport} (h : s.Canon) : (s.checkerActs e).Canon := by
  unfold State.checkerActs
  split
  · split
    · exact h.endHold.dropInval.modCore
    · exact h
  · exact h.modLife.ite h

theorem State.Canon.execWeirEvent {r : Option WeirReport} (h : s.Canon) : OutCanon (execWeirEvent r s) := by
  unfold Machine.execWeirEvent
  split
  · split
    · exact h
    · exact h.orSame h.upd.weirProcess
  · exact .ite (h.orSame h.checkerActs.weirProcess) rfl

theorem State.Canon.setAgain {n : Nat} {cls : FaultClass} (h : s.Canon) : (s.setAgain n cls).Canon := h.upd.logRecord

theorem State.Canon.clearStatus {n : Nat} {v : Word} (h : s.Canon) : (s.clearStatus n v).Canon :=
  (h.rollNow.upd.setAgain.ite h.rollNow.upd).setAgain.ite (h.rollNow.upd.setAgain.ite h.rollNow.upd)

theorem State.Canon.execStatusClear {src : Nat} {v : Word} (h : s.Canon) : OutCanon (execStatusClear src v s) := .ite h.clearStatus rfl

theorem State.Canon.execWeirParityError {logIntact : Bool} (h : s.Canon) : OutCanon (execWeirParityError logIntact s) := by
  have hs (w : Weir) : ({ s with weir := w } : State).decideSafe.takeFree.2.Canon := State.Canon.takeFree (State.Canon.decideSafe h.upd)
  exact (hs _).logRecord.ite (hs _).dropRecord

theorem State.Canon.recordOverrun {u : Sys2Proof.OverrunUnit} {stage : Byte} {n : Word} (h : s.Canon) : (s.recordOverrun u stage n).Canon :=
  h.takeFree.reportAt.ite h.reportAt

theorem State.Canon.execBeatOverrun {u : Sys2Proof.OverrunUnit} {stage : BitVec 8} {n : Word} (h : s.Canon) : OutCanon (execBeatOverrun u stage n s) :=
  .ite rfl (.ite h.upd.recordOverrun (.ite h h.recordOverrun))

/-! The operations of Machine/Mirror.lean. -/

theorem State.Canon.overrunBoundary (h : s.Canon) : s.overrunBoundary.Canon := (h.foldl (fun _ _ ht => ht.recordOverrun)).upd

theorem State.Canon.baseline {beat : Word} {n q : Nat} {cur : BaseCursor} {out : List DeltaEntry} (h : s.Canon) : (s.baseline beat n q cur out).2.2.Canon := by
  induction n generalizing s q cur out with
  | zero => exact h
  | succ n ih =>
    unfold State.baseline
    split
    · exact h
    · split
      · exact ih h
      · split
        · exact ih h
        · split
          · exact h
          · exact ih h
    · exact ih h
    · split
      · exact ih h
      · dsimp only
        split
        · exact ih h.modRec.modCt
        · exact h.modRec
    · exact ih h
    · split
      · exact h
      · exact ih h

theorem State.Canon.formDelta {beat : Word} (h : s.Canon) : (s.formDelta beat).Canon := by
  unfold State.formDelta
  refine h.ite ?_
  extract_lets es t cur
  have ht : t.Canon := h.modCt
  split
  next base cur' u e =>
    have hu : u.Canon := by
      have := ht.baseline (beat := beat) (n := 4096) (q := deltaQuota - entriesLength es) (cur := cur) (out := [])
      rw [e] at this
      exact this
    exact hu.modCt

theorem State.Canon.startGathering (h : s.Canon) : s.startGathering.Canon := h.modCt.ite h

theorem State.Canon.stopGathering (h : s.Canon) : s.stopGathering.Canon := h.modCt

theorem State.Canon.sendMirror {ms : List MirrorMsg} (h : s.Canon) : (s.sendMirror ms).Canon := (h.foldl (fun _ _ ht => ht.queueMirror)).pumpLeat

theorem State.Canon.shipDelta (h : s.Canon) : OptCanon s.shipDelta := by
  unfold State.shipDelta
  split
  · exact rfl
  · exact .ite h.sendMirror.modCt rfl

theorem State.Canon.execDeltaShip (h : s.Canon) : OutCanon (execDeltaShip s) := by
  unfold Machine.execDeltaShip
  split
  · exact h
  · split
    next t e => exact h.shipDelta.of_eq e
    · exact h

theorem State.Canon.shipAll {n : Nat} (h : s.Canon) : (s.shipAll n).Canon := by
  induction n generalizing s with
  | zero => exact h
  | succ n ih =>
    unfold State.shipAll
    split
    next t e => exact ih (h.shipDelta.of_eq e)
    · exact h

theorem State.Canon.deltaAcked {beat : Word} (h : s.Canon) : (s.deltaAcked beat).Canon := h.ite h.modCt

theorem State.Canon.setPstate {p : PState} (h : s.Canon) : (s.setPstate p).Canon := h.ite h.modCt.writeControl

theorem State.Canon.execPairedEntry (h : s.Canon) : OutCanon (execPairedEntry s) := by
  unfold Machine.execPairedEntry
  split
  · exact .ite h.modCt.setPstate h
  · exact h

theorem State.Canon.applyMem {line : Nat} {bs : List (Nat × Byte)} (h : s.Canon) : OptCanon (s.applyMem line bs) :=
  .ite (.ite rfl h) (h.allocate.map (fun _ ht => ht.dropOthers.putWrNa))

theorem State.Canon.applyJrec {gen off : Word32} {bs : List Byte} (h : s.Canon) : (s.applyJrec gen off bs).2.Canon :=
  State.Canon.ite_snd h.modCt (State.Canon.ite_snd h.modCt (State.Canon.ite_snd (h.ite h.modCt.report) (h.modRec.ite h.placeRec).modCt))

theorem State.Canon.applyEntry {e : DeltaEntry} (h : s.Canon) : (s.applyEntry e).2.Canon := by
  unfold State.applyEntry
  split
  · exact h.applyJrec
  · dsimp only
    split
    next t e => exact h.applyMem.of_eq e
    · exact h
  · dsimp only
    split
    next t e => exact h.applyMem.of_eq e
    · exact h
  · exact h.retireRecs
  · exact h

theorem State.Canon.applyDeltas {n : Nat} (h : s.Canon) : (s.applyDeltas n).Canon := by
  induction n generalizing s with
  | zero => exact h
  | succ n ih =>
    unfold State.applyDeltas
    split
    · exact h
    · refine h.ite ?_
      split
      · exact ih h.modCt
      · exact (ih h.applyEntry.modCt).ite h.applyEntry

theorem State.Canon.applyAll (h : s.Canon) : s.applyAll.Canon := h.applyDeltas

theorem State.Canon.deltaTaken {beat : Word} {entries : List DeltaEntry} (h : s.Canon) : (s.deltaTaken beat entries).Canon := h.modCt.ite h

theorem State.Canon.deltaEnded {beat : Word} {e : DeltaEndMsg} (h : s.Canon) : (s.deltaEnded beat e).Canon := h.ite (h.modCt.modCt.applyAll.ite h.modCt)

theorem State.Canon.takeMirror {m : MirrorMsg} (h : s.Canon) : (takeMirror m s).Canon := by
  unfold Machine.takeMirror
  split
  · exact h.deltaTaken
  · exact h.deltaEnded
  · exact h.deltaAcked
  · exact h

theorem State.Canon.mirrorRow {e : MirrorHead} {m : MirrorMsg} (h : s.Canon) : OutCanon (mirrorRow e m s) :=
  .ite h (h.leatReceive (fun _ _ ht => ht.takeMirror))

theorem State.Canon.execDelta {e : MirrorHead} {beat : Word} {entries : List DeltaEntry} (h : s.Canon) : OutCanon (execDelta e beat entries s) := h.mirrorRow

theorem State.Canon.execDeltaEnd {x : MirrorHead} {beat : Word} {e : DeltaEndMsg} (h : s.Canon) : OutCanon (execDeltaEnd x beat e s) := h.mirrorRow

theorem State.Canon.execDeltaAck {e : MirrorHead} {beat : Word} (h : s.Canon) : OutCanon (execDeltaAck e beat s) := h.mirrorRow

theorem State.Canon.execDeltaAckSend {s0 : State} (h : s0.Canon) : OutCanon (execDeltaAckSend s0) := by
  unfold Machine.execDeltaAckSend
  split
  · dsimp only
    split
    · exact h
    · exact .ite (.ite h.applyAll.sendMirror.modCt h) h
  · dsimp only
    split
    · exact h
    · exact .ite (.ite h.sendMirror.modCt h) h

theorem State.Canon.writeRegion {r : Nat} {v : Word} (h : s.Canon) : (s.writeRegion r v).Canon := h.ite h.modCt

theorem State.Canon.execGuardedRegionWrite {r : Fin 16} {v : Word} (h : s.Canon) : OutCanon (execGuardedRegionWrite r v s) :=
  h.portRow (fun _ ht => ht.writeRegion)

/-! The operations of Machine/Plant.lean. -/

theorem State.Canon.modPlant {f : Plant → Plant} (h : s.Canon) : (s.modPlant f).Canon := h.upd

theorem State.Canon.plantEvent {src : Nat} {cls : FaultClass} (h : s.Canon) : (s.plantEvent src cls).Canon := h.report.ite h

theorem State.Canon.setPresent {src : Nat} {fatal there : Bool} (h : s.Canon) : (s.setPresent src fatal there).Canon := h.upd

theorem State.Canon.todSet (h : s.Canon) : s.todSet.Canon := h.ite h.modPlant

theorem State.Canon.execTodSet (h : s.Canon) : OutCanon (execTodSet s) := h.portRow (fun _ ht => .ite ht.todSet ht)

theorem State.Canon.execTodLoad (h : s.Canon) : OutCanon (execTodLoad s) := h.modPlant

theorem State.Canon.execReferenceLoss (h : s.Canon) : OutCanon (execReferenceLoss s) := .ite h.modPlant.plantEvent h

theorem State.Canon.execReferenceReturn (h : s.Canon) : OutCanon (execReferenceReturn s) := .ite h.modPlant.plantEvent h

theorem State.Canon.passCycle (h : s.Canon) : s.passCycle.Canon := h.upd.modPlant

theorem State.Canon.execPpsEdge (h : s.Canon) : OutCanon (execPpsEdge s) := .ite h h.passCycle.modPlant

theorem State.Canon.execPpsLoss (h : s.Canon) : OutCanon (execPpsLoss s) := .ite h.modPlant.plantEvent h

theorem State.Canon.railBack {n : Nat} {v : BitVec 16} (h : s.Canon) : (s.railBack n v).Canon := (h.modPlant.setPresent.ite h.modPlant).ite h

theorem State.Canon.execSensorSample {n : Fin 512} {v : BitVec 16} (h : s.Canon) : OutCanon (execSensorSample n v s) :=
  .ite rfl (.ite h (h.modPlant.railBack.plantEvent.ite h.modPlant.railBack))

theorem State.Canon.pumpStage {i : LoopInput} (h : s.Canon) : (s.pumpStage i).Canon := by
  unfold State.pumpStage
  extract_lets p a b newA newB t u v lowFlow bad before w
  have ht : t.Canon := h.modPlant
  have hu : u.Canon := ht.plantEvent.ite ht
  have hv : v.Canon := hu.plantEvent.ite hu
  have hw : w.Canon := hv.setPresent
  exact hw.plantEvent.ite hw

theorem State.Canon.hottest {ts : List Int} (h : s.Canon) : (s.hottest ts).2.Canon := by
  unfold State.hottest
  split
  · exact h.takeFree
  · exact h

theorem State.Canon.thermal {i : LoopInput} (h : s.Canon) : (s.thermal i).Canon := by
  unfold State.thermal
  split
  · dsimp only
    split
    · exact h.pumpStage.hottest.modPlant.setPresent.setPresent.plantEvent
    · exact h.pumpStage.hottest.modPlant.setPresent.setPresent.plantEvent.ite h.pumpStage.hottest.modPlant.setPresent.setPresent
  · dsimp only
    split
    · exact h.pumpStage.hottest.modPlant.setPresent.setPresent.plantEvent
    · exact h.pumpStage.hottest.modPlant.setPresent.setPresent.plantEvent.ite h.pumpStage.hottest.modPlant.setPresent.setPresent

theorem State.Canon.execThermalLoop (h : s.Canon) : OutCanon (execThermalLoop s) := by
  unfold Machine.execThermalLoop
  split
  · exact h.modPlant.thermal
  · exact h

theorem State.Canon.powerDown (h : s.Canon) : s.powerDown.Canon := h.modPlant.ite h

theorem State.Canon.bmuStage {x : Option BmuAnswer} (h : s.Canon) : (s.bmuStage x).Canon := by
  unfold State.bmuStage
  split
  · exact h.modPlant.plantEvent.ite h.modPlant
  · exact h.modPlant.plantEvent

theorem State.Canon.holdup {i : HoldInput} {a : Option BmuAnswer} (h : s.Canon) : (s.holdup i a).Canon := by
  unfold State.holdup
  extract_lets t blind u ok v bat stop low w
  have ht : t.Canon := h.bmuStage
  have hu : u.Canon := ht.plantEvent.ite ht
  have hw : w.Canon := hu.modPlant.setPresent.setPresent
  exact hw.plantEvent.powerDown.ite (hw.plantEvent.ite hw)

theorem State.Canon.execHoldup {a : Option BmuAnswer} (h : s.Canon) : OutCanon (execHoldup a s) := by
  unfold Machine.execHoldup
  split
  · exact h.modPlant.holdup
  · exact h

theorem State.Canon.setStable {v : Bool} (h : s.Canon) : (s.setStable v).Canon := h.modPlant.rewriteRecs.ite h.modPlant

theorem State.Canon.stableBoundary (h : s.Canon) : s.stableBoundary.Canon := by
  unfold State.stableBoundary
  split
  · exact h.setStable.ite h
  · exact h

theorem State.Canon.execPowerStableChange (h : s.Canon) : OutCanon (execPowerStableChange s) := by
  unfold Machine.execPowerStableChange
  split
  · exact .ite h.setStable h
  · exact h

theorem State.Canon.zeroedRecs {rs : List JRec} (h : s.Canon) : (s.zeroedRecs rs).2.Canon := by
  induction rs generalizing s with
  | nil => exact h
  | cons r rs ih => exact ih h.takeFree

theorem State.Canon.cutChange (h : s.Canon) : s.cutChange.Canon := h.zeroedRecs.upd.modCt.modLife.ite h.modLife

/-- Memory without power holds nothing that the model lists (R286). -/
theorem State.Canon.of_empty {t : State} (e : t.mem = []) : t.Canon := by
  unfold State.Canon
  rw [e]
  rfl

theorem State.Canon.unpowered (_ : s.Canon) : s.unpowered.Canon := .of_empty rfl

theorem State.Canon.regulatorsOff (h : s.Canon) : s.regulatorsOff.Canon := h.unpowered.modPlant

theorem State.Canon.standbyOff (h : s.Canon) : s.standbyOff.Canon := h.unpowered.upd

theorem State.Canon.execRailWindowExit {rail : Fin 32} (h : s.Canon) : OutCanon (execRailWindowExit rail s) :=
  .ite h (.ite h.standbyOff (.ite h h.modPlant.setPresent.plantEvent))

theorem State.Canon.execPowerDownAccept {lcn : Nat} (h : s.Canon) : OutCanon (execPowerDownAccept lcn s) :=
  .ite h (h.orSame (h.drain.map (fun _ ht => ht.modPlant)))

theorem State.Canon.execRegulatorsOff (h : s.Canon) : OutCanon (execRegulatorsOff s) := by
  unfold Machine.execRegulatorsOff
  split
  · exact h
  · exact .ite h.regulatorsOff h

theorem State.Canon.execPowerSequence (h : s.Canon) : OutCanon (execPowerSequence s) := .ite h.modPlant h

theorem State.Canon.execSequenceFail {rail : Fin 32} (h : s.Canon) : OutCanon (execSequenceFail rail s) := .ite h.modPlant h

theorem State.Canon.execSequenceRetry (h : s.Canon) : OutCanon (execSequenceRetry s) := .ite h.modPlant h

theorem State.Canon.groupsOn (h : s.Canon) : s.groupsOn.2.Canon := State.Canon.ite_snd h.takeFree h

theorem State.Canon.execPwronFall (h : s.Canon) : OutCanon (execPwronFall s) := by
  unfold Machine.execPwronFall
  split
  · exact h
  · split
    next x _ t e => exact (h.groupsOn.of_pair e).modPlant.powerDown

theorem State.Canon.execStandbySupplyLoss {_rail : Fin 2} (h : s.Canon) : OutCanon (execStandbySupplyLoss _rail s) := .ite h h.standbyOff

theorem State.Canon.execStandbySupplyOn (h : s.Canon) : OutCanon (execStandbySupplyOn s) := .ite h.modPlant h

/-! The operations of Machine/Witness.lean. -/

theorem State.Canon.sendWitness {kind : Nat} {nonce : Word} {body : List Byte} (h : s.Canon) : (s.sendWitness kind nonce body).Canon := by
  unfold State.sendWitness
  exact h.startExchange.modCt

theorem State.Canon.sendRequest {r : WitReq} (h : s.Canon) : (s.sendRequest r).Canon := h.sendWitness.modCt

theorem State.Canon.startRequest {kind : Nat} (h : s.Canon) : (s.startRequest kind).Canon := h.ite (h.upd.modCt.sendRequest.ite h.upd.modCt)

theorem State.Canon.execWitnessResend (h : s.Canon) : OutCanon (execWitnessResend s) := by
  unfold Machine.execWitnessResend
  split
  · exact .ite h.sendRequest h
  · exact h

theorem State.Canon.healthBoundary (h : s.Canon) : s.healthBoundary.Canon := h.modCt.ite h

theorem State.Canon.execHealthSend (h : s.Canon) : OutCanon (execHealthSend s) := by
  unfold Machine.execHealthSend
  split
  · exact h
  · exact ((h.ite (OptOf.getD h.leatOnce h)).upd.sendWitness.ite (h.ite (OptOf.getD h.leatOnce h)).upd).modCt

theorem State.Canon.witness {kind : Nat} {m : WitnessMsg} {f : State → State} (h : s.Canon) (hf : ∀ (t : State), t.Canon → (f t).Canon) :
    OutCanon (s.witness kind m f) :=
  .ite h (.ite h.report (hf _ h.modCt))

theorem State.Canon.triggerTakeover (h : s.Canon) : s.triggerTakeover.Canon := h.ite h.applyAll.modCt

theorem State.Canon.execTakeoverConfirm {m : WitnessMsg} (h : s.Canon) : OutCanon (execTakeoverConfirm m s) := h.witness (fun _ ht => ht.triggerTakeover)

theorem State.Canon.execTakeoverDeny {m : WitnessMsg} (h : s.Canon) : OutCanon (execTakeoverDeny m s) := h.witness (fun _ ht => ht.modCt.setPstate)

theorem State.Canon.brokenToSolo (h : s.Canon) : s.brokenToSolo.Canon := h.setPstate.modCt.ite h

theorem State.Canon.execSoloGrant {m : WitnessMsg} (h : s.Canon) : OutCanon (execSoloGrant m s) := h.witness (fun _ ht => ht.brokenToSolo)

theorem State.Canon.execSoloDeny {m : WitnessMsg} (h : s.Canon) : OutCanon (execSoloDeny m s) := h.witness (fun _ ht => ht.decideSafe)

theorem State.Canon.execSafeReq {m : WitnessMsg} (h : s.Canon) : OutCanon (execSafeReq m s) := h.witness (fun _ ht => ht.modCt.decideSafe)

/-! The operations of Machine/Pair.lean. -/

theorem State.Canon.execHeartbeatSend (h : s.Canon) : OutCanon (execHeartbeatSend s) := by
  unfold Machine.execHeartbeatSend
  split
  · exact h
  · exact .ite h h.leatBoth.modCt

theorem State.Canon.yieldTo {role : Role} {fgen : Word32} (h : s.Canon) : (s.yieldTo role fgen).Canon := h.decideSafe.ite h

theorem State.Canon.hear {fgen nextgen : Word32} {role : Role} {p : PState} (h : s.Canon) : (s.hear fgen nextgen role p).Canon := h.modCt.yieldTo

theorem State.Canon.followPeer {e : HeartbeatMsg} (h : s.Canon) : (s.followPeer e).Canon := h.setPstate.modCt.ite h

theorem State.Canon.execHeartbeat {port : Fin 2} {e : HeartbeatMsg} (h : s.Canon) : OutCanon (execHeartbeat port e s) :=
  .ite h (.ite h.modCt.modCt.hear.followPeer h.modCt.modCt)

theorem State.Canon.execHealth {e : HealthMsg} (h : s.Canon) : OutCanon (execHealth e s) := .ite h.hear h

theorem State.Canon.execHeartbeatLoss (h : s.Canon) : OutCanon (execHeartbeatLoss s) := .ite h.startRequest h

theorem State.Canon.execDyingGasp {g : GaspMsg} (h : s.Canon) : OutCanon (execDyingGasp g s) := .ite h (.ite h.modCt.triggerTakeover h)

theorem State.Canon.actOnSolo (h : s.Canon) : s.actOnSolo.Canon := h.brokenToSolo.ite h.startRequest

theorem State.Canon.execMirrorHorizonMiss {beat : Word} (h : s.Canon) : OutCanon (execMirrorHorizonMiss beat s) :=
  .ite h.report.stopGathering.setPstate.actOnSolo h

theorem State.Canon.writeSoloAct {v : Bool} (h : s.Canon) : (s.writeSoloAct v).Canon := h.modCt.brokenToSolo.ite h.modCt

theorem State.Canon.sendGasp {reason : Half} (h : s.Canon) : (s.sendGasp reason).Canon := h.shipAll.leatBoth.leatBoth.leatBoth

theorem State.Canon.enterSafe (h : s.Canon) : s.enterSafe.Canon := by
  unfold State.enterSafe
  refine State.Canon.upd (s := match s.weir.gaspDue with | some r => s.sendGasp r | none => s) ?_
  split
  · exact h.sendGasp
  · exact h

theorem State.Canon.execSafeState (h : s.Canon) : OutCanon (execSafeState s) := by
  unfold Machine.execSafeState
  split
  · exact .ite h.enterSafe h
  · exact h

theorem State.Canon.ctResult {tgt r : Byte} (h : s.Canon) : (s.ctResult tgt r).Canon := h.modCt

theorem State.Canon.cmdSpareCore {tgt : Byte} (h : s.Canon) : (s.cmdSpareCore tgt).Canon := h.ctResult.ite h.startSpareCore.ctResult

theorem State.Canon.cmdSpareCp {tgt : Byte} (h : s.Canon) : OptCanon (s.cmdSpareCp tgt) :=
  .ite h.ctResult (.ite h.ctResult (h.startSpareCp.map (fun _ ht => ht.ctResult)))

theorem State.Canon.cmdRescue {tgt : Byte} (h : s.Canon) : OptCanon (s.cmdRescue tgt) := by
  unfold State.cmdRescue
  split
  · exact h.ctResult
  · split
    · exact h.ctResult
    · exact .ite h.ctResult (h.modCore.enterFrom3.map (fun _ ht => ht.ctResult))

theorem State.Canon.cmdDump {tgt : Byte} (h : s.Canon) : OptCanon (s.cmdDump tgt) := by
  unfold State.cmdDump
  split
  · exact h.ctResult
  · split
    · exact h.ctResult
    · exact .ite h.ctResult (h.devWrite.map (fun _ ht => ht.ctResult))

theorem State.Canon.cmdRetire {tgt : Byte} (h : s.Canon) : (s.cmdRetire tgt).Canon := h.retireRecs.ctResult

theorem State.Canon.cmdPairActive {tgt : Byte} (h : s.Canon) : (s.cmdPairActive tgt).Canon := h.stopGathering.modCt.setPstate.setLeat.ctResult.ite h.ctResult

theorem State.Canon.closeGuarded {ks : List Nat} (h : s.Canon) : OptCanon (s.closeGuarded ks) := by
  induction ks generalizing s with
  | nil => exact h
  | cons k ks ih => exact .ite (ih h) (h.takeFree.pathFail.bind fun _ ht => ih ht)

theorem State.Canon.clearRx (h : s.Canon) : s.clearRx.Canon := h.modCt

theorem State.Canon.cmdPairStandby {tgt : Byte} (h : s.Canon) : OptCanon (s.cmdPairStandby tgt) :=
  .ite (h.clearRx.closeGuarded.map (fun _ ht => ht.modCt.setPstate.setLeat.ctResult)) h.ctResult

theorem State.Canon.cmdLeave {tgt : Byte} (h : s.Canon) : (s.cmdLeave tgt).Canon := h.ctResult.ite h.stopGathering.clearRx.setPstate.ctResult

theorem State.Canon.cmdPromote {tgt : Byte} (h : s.Canon) : (s.cmdPromote tgt).Canon := h.startRequest.ctResult.ite h.ctResult

theorem State.Canon.cmdHandover {tgt : Byte} (h : s.Canon) : (s.cmdHandover tgt).Canon := h.upd.decideSafe.ctResult.ite h.ctResult

theorem State.Canon.ctRow {run : State → Option State} (h : s.Canon) (hrun : ∀ (t : State), t.Canon → OptCanon (run t)) : OutCanon (ctRow run s) :=
  h.portRow (fun _ ht => .ite ht (ht.orSame (hrun _ ht)))

theorem State.Canon.execSpareCore {tgt : BitVec 8} (h : s.Canon) : OutCanon (execSpareCore tgt s) := h.ctRow (fun _ ht => ht.cmdSpareCore)

theorem State.Canon.execSpareCp {tgt : BitVec 8} (h : s.Canon) : OutCanon (execSpareCp tgt s) := h.ctRow (fun _ ht => ht.cmdSpareCp)

theorem State.Canon.execRescue {tgt : BitVec 8} (h : s.Canon) : OutCanon (execRescue tgt s) := h.ctRow (fun _ ht => ht.cmdRescue)

theorem State.Canon.execDump {tgt : BitVec 8} (h : s.Canon) : OutCanon (execDump tgt s) := h.ctRow (fun _ ht => ht.cmdDump)

theorem State.Canon.execRetire {tgt : BitVec 8} (h : s.Canon) : OutCanon (execRetire tgt s) := h.ctRow (fun _ ht => ht.cmdRetire)

theorem State.Canon.execPairActive {tgt : BitVec 8} (h : s.Canon) : OutCanon (execPairActive tgt s) := h.ctRow (fun _ ht => ht.cmdPairActive)

theorem State.Canon.execPairStandby {tgt : BitVec 8} (h : s.Canon) : OutCanon (execPairStandby tgt s) := h.ctRow (fun _ ht => ht.cmdPairStandby)

theorem State.Canon.execLeave {tgt : BitVec 8} (h : s.Canon) : OutCanon (execLeave tgt s) := h.ctRow (fun _ ht => ht.cmdLeave)

theorem State.Canon.execPromote {tgt : BitVec 8} (h : s.Canon) : OutCanon (execPromote tgt s) := h.ctRow (fun _ ht => ht.cmdPromote)

theorem State.Canon.execHandover {tgt : BitVec 8} (h : s.Canon) : OutCanon (execHandover tgt s) := h.ctRow (fun _ ht => ht.cmdHandover)

theorem State.Canon.ctCommand {op : Nat} {tgt : Byte} (h : s.Canon) : OptCanon (s.ctCommand op tgt) := by
  unfold State.ctCommand
  split
  · exact h.cmdSpareCore
  · exact h.cmdSpareCp
  · exact h.cmdRescue
  · exact h.cmdDump
  · exact h.cmdRetire
  · exact h.cmdPairActive
  · exact h.cmdPairStandby
  · exact h.cmdLeave
  · exact h.cmdPromote
  · exact h.cmdHandover
  · exact h.modCt

/-! The operations of Machine/Takeover.lean. -/

theorem State.Canon.resumedExchanges {id : Nat} {next : Word32} {rs : List JRec} (h : s.Canon) : (s.resumedExchanges id next rs).2.Canon := by
  induction rs generalizing s next with
  | nil => exact h
  | cons r rs ih => exact ih h.takeFree

theorem State.Canon.resumeScp {k id : Nat} {c : Conn} (h : s.Canon) : OptCanon (s.resumeScp k id c) := h.upd.resumedExchanges.setConn.exchangesDone

theorem State.Canon.resumeTcp {k id : Nat} {c : Conn} (h : s.Canon) : (s.resumeTcp k id c).Canon := by
  unfold State.resumeTcp
  dsimp only
  refine State.Canon.setConn ?_
  exact h.takeFree.retireRecs

theorem State.Canon.resumePath {k id : Nat} {c : Conn} (h : s.Canon) : OptCanon (s.resumePath k id c) :=
  .ite h.refuseOpening (.ite (h.setConn.beginOpening.ite h.setConn) (.ite h.beginOpening (.ite h.resumeTcp h.resumeScp)))

theorem State.Canon.resumeSch {id k : Nat} (h : s.Canon) : OptCanon (s.resumeSch id k) := by
  unfold State.resumeSch
  dsimp only
  split
  next x t e => exact (h.readConfig.of_pair e).refuseOpening
  next x _ t e =>
    split
    next x u e₂ => exact ((h.readConfig.of_pair e).devRead.of_pair e₂).refuseOpening
    next x _ u e₂ => exact ((h.readConfig.of_pair e).devRead.of_pair e₂).modCss.resumePath

theorem State.Canon.resumeAll (h : s.Canon) : s.resumeAll.Canon := h.retireRecs.modCt.modCss.foldl (fun _ _ ht => OptOf.getD ht.resumeSch ht)

theorem State.Canon.changeRole (h : s.Canon) : s.changeRole.Canon := h.modCt.writeControl.clearRx.resumeAll.announceAll

theorem State.Canon.takeoverBoundary (h : s.Canon) : s.takeoverBoundary.Canon := by
  unfold State.takeoverBoundary
  split
  · exact h.ite (h.applyAll.changeRole.ite h.applyAll)
  · exact h

theorem State.Canon.goOn {k : Nat} (h : s.Canon) : OptCanon (s.goOn k) := .ite (h.setSchState.ite h).sendFence (h.setSchState.ite h).pumpConn

theorem State.Canon.reopenUnguarded (h : s.Canon) : s.reopenUnguarded.Canon := by
  refine State.Canon.foldl h fun t k ht => ht.ite ?_
  split
  next cfg u e => exact (ht.readConfig.of_pair e).beginOpening.ite (ht.readConfig.of_pair e)
  next u e => exact ht.readConfig.of_pair e

theorem State.Canon.execTakeover (h : s.Canon) : OutCanon (execTakeover s) := by
  unfold Machine.execTakeover
  split
  · exact .ite h (h.orSame (OptOf.map (OptOf.foldl (o := some s) h fun _ _ ho => ho.bind fun _ ht => ht.goOn) fun _ ht => ht.reopenUnguarded.modCt.report))
  · exact h

/-! The operations of Machine/Beat.lean. -/

theorem State.Canon.filterBoundary (h : s.Canon) : s.filterBoundary.Canon := h.modPool

theorem State.Canon.writeStale (h : s.Canon) : s.writeStale.Canon := h.foldl (fun _ _ ht => ht.writeBlock)

theorem State.Canon.journalBoundary {ended : Word} (h : s.Canon) : (s.journalBoundary ended).Canon :=
  (h.writeProgress.ite h.writeProgress.formDelta).startGathering

theorem State.Canon.heartBoundary (h : s.Canon) : s.heartBoundary.Canon := h.modCt.modCt

theorem State.Canon.leatBoundary (h : s.Canon) : s.leatBoundary.Canon := h.modCt.setLeat.ite h

theorem State.Canon.safeBoundary (h : s.Canon) : s.safeBoundary.Canon := by
  unfold State.safeBoundary
  split
  · exact h.enterSafe.ite h
  · exact h

theorem State.Canon.loopBoundary {i : LoopInput} {e : HoldInput} (h : s.Canon) : (s.loopBoundary i e).Canon := h.modPlant.ite h

theorem State.Canon.unitsBoundary {ended : Word} (h : s.Canon) : (s.unitsBoundary ended).Canon := by
  unfold State.unitsBoundary
  extract_lets _ t u v
  have ht : t.Canon := h.overrunBoundary.upd
  have hu : u.Canon := ht.expireHolds.filterBoundary.rollsAtBoundary
  have hv : v.Canon := hu.heartBoundary.healthBoundary.journalBoundary
  exact hv.leatBoundary.takeoverBoundary.writeStale.safeBoundary

theorem State.Canon.boundary (h : s.Canon) : s.boundary.Canon := h.modPlant.loopBoundary.stableBoundary.unitsBoundary.ite h.modPlant.loopBoundary.stableBoundary

theorem State.Canon.execBeatBoundary (h : s.Canon) : OutCanon (execBeatBoundary s) := .ite h h.boundary

end Sys2Proof.Machine
end

section
/-! SUPPORT. Loads, stores, control transfers, arithmetic and microcode keep the canonical form of memory (R272), which settles O58. -/

namespace Sys2Proof.Machine
variable {s : State}

/-! The operations of Machine/LoadStore.lean. -/

theorem State.Canon.load {k : Insn} {b : Byte} {d : Option (BitVec 16)} {w : Nat} {f : Nat → Word} (h : s.Canon) : OutCanon (load k b d w f s) :=
  h.instr (.bind .coreOf fun _ => .bind .loadBytes fun _ => .bind .onCore fun _ => .pure)

theorem State.Canon.execLdb {k : Insn} {d : Option (BitVec 16)} (h : s.Canon) : OutCanon (execLdb k d s) := h.load

theorem State.Canon.execLdbs {k : Insn} {d : Option (BitVec 16)} (h : s.Canon) : OutCanon (execLdbs k d s) := h.load

theorem State.Canon.execLdh {k : Insn} {d : Option (BitVec 16)} (h : s.Canon) : OutCanon (execLdh k d s) := h.load

theorem State.Canon.execLdhs {k : Insn} {d : Option (BitVec 16)} (h : s.Canon) : OutCanon (execLdhs k d s) := h.load

theorem State.Canon.execLdw {k : Insn} {d : Option (BitVec 16)} (h : s.Canon) : OutCanon (execLdw k d s) := h.load

theorem State.Canon.execLdws {k : Insn} {d : Option (BitVec 16)} (h : s.Canon) : OutCanon (execLdws k d s) := h.load

theorem State.Canon.execLdd {k : Insn} {d : Option (BitVec 16)} (h : s.Canon) : OutCanon (execLdd k d s) := h.load

theorem State.Canon.execLdp {k : Insn} (h : s.Canon) : OutCanon (execLdp k s) :=
  h.instr (.bind .coreOf fun _ => .bind .loadBytes fun _ => .bind .onCore fun _ => .pure)

theorem State.Canon.store {k : Insn} {b : Byte} {d : Option (BitVec 16)} {w : Nat} (h : s.Canon) : OutCanon (Machine.store k b d w s) :=
  h.instr (.bind .coreOf fun _ => .bind .storeBytes fun _ => .bind .onCore fun _ => .pure)

theorem State.Canon.execStb {k : Insn} {d : Option (BitVec 16)} (h : s.Canon) : OutCanon (execStb k d s) := h.store

theorem State.Canon.execSth {k : Insn} {d : Option (BitVec 16)} (h : s.Canon) : OutCanon (execSth k d s) := h.store

theorem State.Canon.execStw {k : Insn} {d : Option (BitVec 16)} (h : s.Canon) : OutCanon (execStw k d s) := h.store

theorem State.Canon.execStd {k : Insn} {d : Option (BitVec 16)} (h : s.Canon) : OutCanon (execStd k d s) := h.store

theorem State.Canon.execStp {k : Insn} (h : s.Canon) : OutCanon (execStp k s) :=
  h.instr (.bind .coreOf fun _ => .bind .storePieces fun _ => .bind (.modify fun _ ht => ht.endHold) fun _ =>
    .bind (.orWait fun _ ht => ht.commitStore) fun _ => .bind .onCore fun _ => .pure)

theorem RunCanon.reserve {n : Nat} {va : Word} {a : Nat} : RunCanon (reserve n va a) := by
  refine .get_bind fun _ _ => .ite ?_ .onCore
  refine .bind (.orWait fun _ ht => ht.drainFirst) fun _ => .bind (.orWait fun _ ht => ht.acquire) fun _ => ?_
  exact .guardNot (.modify fun _ ht => ht.modPool) .onCore

theorem State.Canon.execLdr {k : Insn} (h : s.Canon) : OutCanon (execLdr k s) := by
  refine h.instr (.bind .coreOf fun _ => .bind .addresses fun _ => .bind (.modify fun _ ht => ht.endHold) fun _ => .guard .acquireDrain ?_)
  exact .bind .readBytes fun _ => .bind .reserve fun _ => .bind .onCore fun _ => .pure

theorem RunCanon.dropReservation {n : Nat} : RunCanon (dropReservation n) := .bind (.modify (fun _ ht => ht.endHold)) fun _ => .onCore

theorem State.Canon.storeConditional {n : Nat} {va : Word} {ps : List Piece} {bs : List Byte} (h : s.Canon) : OptCanon (s.storeConditional n va ps bs) :=
  .ite (h.markPieces.bind (fun _ ht => .ite ht.endHold.performStore ht.modCore)) h.modCore

theorem State.Canon.execStc {k : Insn} (h : s.Canon) : OutCanon (execStc k s) := by
  have hfail : RunCanon (do dropReservation k.lcn; onCore k.lcn (fun c => (c.pushes 2 [0]).note 15); return Retire.next : Run Retire) :=
    .bind .dropReservation fun _ => .bind .onCore fun _ => .pure
  refine h.instr (.bind .coreOf fun c => .bind .translateSpan fun r => ?_)
  split
  · exact .bind .dropReservation fun _ => .xlatThrow
  next ps =>
    have hstore : RunCanon (do
        if (← coreOf k.lcn).mayStore (t0 c.ds.cache) (stcAddr ps) then
          match ← storeSpan k.lcn (t0 c.ds.cache) 8 (dataAcc c (k.pfx.contains .usr) true) with
          | .error e => dropReservation k.lcn; xlatThrow k.lcn (dataAcc c (k.pfx.contains .usr) true) e
          | .ok ps =>
            orWait (fun s => s.storeConditional k.lcn (t0 c.ds.cache) ps (wordBytes (t1 c.ds.cache)))
            let f := (← coreOf k.lcn).resv.isSome
            dropReservation k.lcn
            onCore k.lcn (fun c => if f then c.pushes 2 [1] else (c.pushes 2 [0]).note 15)
        else
          dropReservation k.lcn
          onCore k.lcn (fun c => (c.pushes 2 [0]).note 15)
        return .next : Run Retire) := by
      refine .bind .coreOf fun c => ?_
      split
      · refine .bind .storeSpan fun q => ?_
        split
        · exact .bind .dropReservation fun _ => .bind .xlatThrow fun _ => .pure
        · exact .bind (.orWait fun _ ht => ht.storeConditional) fun _ => .bind .coreOf fun _ => .bind .dropReservation fun _ => .bind .onCore fun _ => .pure
      · exact hfail
    split
    · exact .bind (.orWait fun _ ht => ht.drain) fun _ => hstore
    · exact hstore

theorem State.Canon.execIsync {k : Insn} (h : s.Canon) : OutCanon (execIsync k s) := h.stackOp

theorem State.Canon.execLdi {k : Insn} (h : s.Canon) : OutCanon (execLdi k s) := by
  refine h.instr (.bind .coreOf fun c => .bind .addresses fun as => .bind (.modify fun _ ht => ht.endHold) fun _ =>
    .get_bind fun t ht => .bind .readBytes fun bs => ?_)
  dsimp only
  split
  · exact .bind (.modify fun _ ht => ht.reportCore) fun _ => .bind .onCore fun _ => .pure
  · exact .bind .onCore fun _ => .pure

theorem State.Canon.execSti {k : Insn} (h : s.Canon) : OutCanon (execSti k s) := by
  refine h.instr (.bind .coreOf fun c => .bind .storePieces fun ps => .bind (.modify fun _ ht => ht.endHold) fun _ =>
    .get_bind fun t ht => .bind (.orWait fun _ hu => hu.commitStore) fun _ => ?_)
  dsimp only
  split
  · exact .bind (.modify fun _ ht => ht.reportCore) fun _ => .bind .onCore fun _ => .pure
  · exact .bind .onCore fun _ => .pure

/-! The operations of Machine/Control.lean. -/

theorem State.Canon.condBranch {k : Insn} {i : Nat} {b : Branch16} (h : s.Canon) : OutCanon (condBranch k i b s) := h.instr (.bind .coreOf fun _ => .pure)

theorem State.Canon.execBr {k : Insn} {b : Branch16} (h : s.Canon) : OutCanon (execBr k b s) := h.instr (.bind .coreOf fun _ => .pure)

theorem State.Canon.popBranch {k : Insn} {code : Byte} {onZero : Bool} {b : Branch16} (h : s.Canon) : OutCanon (popBranch k code onZero b s) :=
  h.instr (.bind .coreOf fun _ => .bind .onCore fun _ => .pure)

theorem State.Canon.execBz {k : Insn} {b : Branch16} (h : s.Canon) : OutCanon (execBz k b s) := h.popBranch

theorem State.Canon.execBnz {k : Insn} {b : Branch16} (h : s.Canon) : OutCanon (execBnz k b s) := h.popBranch

theorem State.Canon.execBeq {k : Insn} {b : Branch16} (h : s.Canon) : OutCanon (execBeq k b s) := h.condBranch

theorem State.Canon.execBne {k : Insn} {b : Branch16} (h : s.Canon) : OutCanon (execBne k b s) := h.condBranch

theorem State.Canon.execBlt {k : Insn} {b : Branch16} (h : s.Canon) : OutCanon (execBlt k b s) := h.condBranch

theorem State.Canon.execBge {k : Insn} {b : Branch16} (h : s.Canon) : OutCanon (execBge k b s) := h.condBranch

theorem State.Canon.execBgt {k : Insn} {b : Branch16} (h : s.Canon) : OutCanon (execBgt k b s) := h.condBranch

theorem State.Canon.execBle {k : Insn} {b : Branch16} (h : s.Canon) : OutCanon (execBle k b s) := h.condBranch

theorem State.Canon.execBltu {k : Insn} {b : Branch16} (h : s.Canon) : OutCanon (execBltu k b s) := h.condBranch

theorem State.Canon.execBgeu {k : Insn} {b : Branch16} (h : s.Canon) : OutCanon (execBgeu k b s) := h.condBranch

theorem State.Canon.execBgtu {k : Insn} {b : Branch16} (h : s.Canon) : OutCanon (execBgtu k b s) := h.condBranch

theorem State.Canon.execBleu {k : Insn} {b : Branch16} (h : s.Canon) : OutCanon (execBleu k b s) := h.condBranch

theorem State.Canon.execBvs {k : Insn} {b : Branch16} (h : s.Canon) : OutCanon (execBvs k b s) := h.condBranch

theorem State.Canon.execBvc {k : Insn} {b : Branch16} (h : s.Canon) : OutCanon (execBvc k b s) := h.condBranch

theorem State.Canon.execCall {k : Insn} {b : Branch16} (h : s.Canon) : OutCanon (execCall k b s) :=
  h.instr (.bind .coreOf fun _ => .bind .onCore fun _ => .pure)

theorem State.Canon.execJmpl {k : Insn} {b : Branch32} (h : s.Canon) : OutCanon (execJmpl k b s) := h.instr (.bind .coreOf fun _ => .pure)

theorem State.Canon.execCalll {k : Insn} {b : Branch32} (h : s.Canon) : OutCanon (execCalll k b s) :=
  h.instr (.bind .coreOf fun _ => .bind .onCore fun _ => .pure)

theorem State.Canon.execJmpi {k : Insn} {b : BranchInd} (h : s.Canon) : OutCanon (execJmpi k b s) :=
  h.instr (.bind .coreOf fun _ => .bind .onCore fun _ => .pure)

theorem State.Canon.execCalli {k : Insn} {b : BranchInd} (h : s.Canon) : OutCanon (execCalli k b s) :=
  h.instr (.bind .coreOf fun _ => .bind .onCore fun _ => .pure)

theorem State.Canon.execRet {k : Insn} {b : BranchInd} (h : s.Canon) : OutCanon (execRet k b s) := h.instr (.bind .coreOf fun _ => .bind .onCore fun _ => .pure)

theorem State.Canon.execSvc {k : Insn} {imm : BitVec 8} (h : s.Canon) : OutCanon (execSvc k imm s) := h.instr (.bind .coreOf fun _ => .throwExc)

theorem RunCanon.tsbFormat {α : Type} {n cause : Nat} : RunCanon (tsbFormat n cause : Run α) := .bind .coreOf fun _ => .throwExc

theorem RunCanon.readEntries {n a i : Nat} : RunCanon (readEntries n a i) := .bind .readBytes fun _ => .pure

theorem State.Canon.execRett {k : Insn} (h : s.Canon) : OutCanon (execRett k s) := by
  refine h.instr (.bind (.orWait fun _ ht => ht.drain) fun _ => .bind .coreOf fun _ => .get_bind fun _ _ => .guard .tsbFormat ?_)
  refine .bind .readBytes fun _ => .guard .tsbFormat (.guard .tsbFormat (.guard .tsbFormat ?_))
  exact .bind .readEntries fun _ => .bind .readEntries fun _ => .bind (.modify fun _ ht => ht.endHold) fun _ => .bind .onCore fun _ => .pure

/-! The operations of Machine/Decimal.lean. -/

theorem RunCanon.decimalData {α : Type} {n operand nib : Nat} : RunCanon (decimalData n operand nib : Run α) := .bind .coreOf fun _ => .throwExc

theorem RunCanon.checkDec {n : Nat} {a : Nat} {b : Option Nat} : RunCanon (checkDec n a b) := by
  unfold Machine.checkDec
  split
  · exact .decimalData
  · split
    · exact .decimalData
    · exact .pure

theorem State.Canon.decOp {k : Insn} {b : Byte} {i j : Nat} {two : Bool} {below : Nat} {f : List Word → Word → List Word × Word} (h : s.Canon) :
    OutCanon (decOp k b i j two below f s) :=
  h.instr (.bind .coreOf fun _ => .ite (.bind .checkDec fun _ => .bind .onCore fun _ => .pure) (.bind .checkDec fun _ => .bind .onCore fun _ => .pure))

theorem State.Canon.execDadd {k : Insn} (h : s.Canon) : OutCanon (execDadd k s) := h.decOp

theorem State.Canon.execDsub {k : Insn} (h : s.Canon) : OutCanon (execDsub k s) := h.decOp

theorem State.Canon.execDcmp {k : Insn} (h : s.Canon) : OutCanon (execDcmp k s) := h.decOp

theorem State.Canon.execDchk {k : Insn} (h : s.Canon) : OutCanon (execDchk k s) := h.stackOp

theorem State.Canon.execDneg {k : Insn} (h : s.Canon) : OutCanon (execDneg k s) := h.decOp

theorem State.Canon.execCvbd {k : Insn} (h : s.Canon) : OutCanon (execCvbd k s) := h.stackOp

theorem State.Canon.execCvdb {k : Insn} (h : s.Canon) : OutCanon (execCvdb k s) := h.decOp

theorem State.Canon.execDshl {k : Insn} (h : s.Canon) : OutCanon (execDshl k s) := h.decOp

theorem State.Canon.execDshr {k : Insn} (h : s.Canon) : OutCanon (execDshr k s) := h.decOp

/-! The operations of Machine/Float.lean. -/

theorem RunCanon.fpOperands {n : Nat} {xs : List Fp} : RunCanon (fpOperands n xs) := by
  unfold Machine.fpOperands
  refine .bind .coreOf fun _ => ?_
  refine .ite ?_ ?_
  · exact .pure
  · split
    · exact .throwExc
    · exact .pure

theorem RunCanon.fpConclude {n : Nat} {r : FpRes} : RunCanon (fpConclude n r) := by
  unfold Machine.fpConclude
  refine .bind .coreOf fun _ => ?_
  split
  · exact .throwExc
  · exact .throwExc
  · exact .onCore

theorem State.Canon.fpOp {k : Insn} {o : Op} {fi : Fmt} {i : Nat} {f : Rm → List Nat → List Fp → FpRes} (h : s.Canon) : OutCanon (fpOp k o fi i f s) :=
  h.instr (.bind .coreOf fun _ => .bind .fpOperands fun _ => .bind .fpConclude fun _ => .bind .onCore fun _ => .pure)

theorem State.Canon.execFadd {k : Insn} {w : FpWidth} (h : s.Canon) : OutCanon (execFadd k w s) := h.fpOp

theorem State.Canon.execFsub {k : Insn} {w : FpWidth} (h : s.Canon) : OutCanon (execFsub k w s) := h.fpOp

theorem State.Canon.execFmul {k : Insn} {w : FpWidth} (h : s.Canon) : OutCanon (execFmul k w s) := h.fpOp

theorem State.Canon.execFdiv {k : Insn} {w : FpWidth} (h : s.Canon) : OutCanon (execFdiv k w s) := h.fpOp

theorem State.Canon.execFsqrt {k : Insn} {w : FpWidth} (h : s.Canon) : OutCanon (execFsqrt k w s) := h.fpOp

theorem State.Canon.execFma {k : Insn} {w : FpWidth} (h : s.Canon) : OutCanon (execFma k w s) := h.fpOp

theorem State.Canon.execFneg {k : Insn} {w : FpWidth} (h : s.Canon) : OutCanon (execFneg k w s) := h.stackOp

theorem State.Canon.execFabs {k : Insn} {w : FpWidth} (h : s.Canon) : OutCanon (execFabs k w s) := h.stackOp

theorem State.Canon.execFcmp {k : Insn} {w : FpWidth} (h : s.Canon) : OutCanon (execFcmp k w s) :=
  h.instr (.bind .coreOf fun _ => .bind .fpOperands fun _ => .bind .fpConclude fun _ => .bind .onCore fun _ => .pure)

theorem State.Canon.execFmin {k : Insn} {w : FpWidth} (h : s.Canon) : OutCanon (execFmin k w s) := h.fpOp

theorem State.Canon.execFmax {k : Insn} {w : FpWidth} (h : s.Canon) : OutCanon (execFmax k w s) := h.fpOp

theorem State.Canon.execFclass {k : Insn} {w : FpWidth} (h : s.Canon) : OutCanon (execFclass k w s) := h.stackOp

theorem State.Canon.execFcvtDS {k : Insn} (h : s.Canon) : OutCanon (execFcvtDS k s) := h.fpOp

theorem State.Canon.execFcvtSD {k : Insn} (h : s.Canon) : OutCanon (execFcvtSD k s) := h.fpOp

theorem State.Canon.fromInt {k : Insn} {b : Byte} {f : Fmt} {g : Word → Int} (h : s.Canon) : OutCanon (fromInt k b f g s) :=
  h.instr (.bind .coreOf fun _ => .bind .fpConclude fun _ => .bind .onCore fun _ => .pure)

theorem State.Canon.execFcvtDL {k : Insn} (h : s.Canon) : OutCanon (execFcvtDL k s) := h.fromInt

theorem State.Canon.execFcvtDLU {k : Insn} (h : s.Canon) : OutCanon (execFcvtDLU k s) := h.fromInt

theorem State.Canon.execFcvtLD {k : Insn} (h : s.Canon) : OutCanon (execFcvtLD k s) := h.fpOp

theorem State.Canon.execFcvtLUD {k : Insn} (h : s.Canon) : OutCanon (execFcvtLUD k s) := h.fpOp

theorem State.Canon.execFcvtSL {k : Insn} (h : s.Canon) : OutCanon (execFcvtSL k s) := h.fromInt

theorem State.Canon.execFcvtSLU {k : Insn} (h : s.Canon) : OutCanon (execFcvtSLU k s) := h.fromInt

theorem State.Canon.execFcvtLS {k : Insn} (h : s.Canon) : OutCanon (execFcvtLS k s) := h.fpOp

theorem State.Canon.execFcvtLUS {k : Insn} (h : s.Canon) : OutCanon (execFcvtLUS k s) := h.fpOp

/-! The operations of Machine/Microcode.lean. -/

theorem State.Canon.mclVerify (h : s.Canon) : s.mclVerify.Canon := h.ite h.modLife

theorem State.Canon.execMclVerify (h : s.Canon) : OutCanon (execMclVerify s) := h.portRow (fun _ ht => ht.mclVerify)

theorem State.Canon.execVerifyComplete (h : s.Canon) : OutCanon (execVerifyComplete s) := .ite h h.modLife

theorem State.Canon.mclActivate (h : s.Canon) : s.mclActivate.Canon := h.ite h.modLife

theorem State.Canon.execMclActivate (h : s.Canon) : OutCanon (execMclActivate s) := h.portRow (fun _ ht => ht.mclActivate)

theorem State.Canon.execMicrocodeActivation (h : s.Canon) : OutCanon (execMicrocodeActivation s) := by
  unfold Machine.execMicrocodeActivation
  split
  · exact h
  · exact .ite h (.ite h.modLife (h.modLife.modLife.foldl (fun _ _ ht => ht.switchDue)).mclSettle)

end Sys2Proof.Machine
end

section
/-! SUPPORT. Resets, the life cycle, slices, ports and the rest of the instructions keep the canonical form of memory (R179, R272, R286), which settles O58. -/

namespace Sys2Proof.Machine
variable {s : State}

/-! The operations of Machine/Reset.lean. -/

theorem State.Canon.reportMissing (h : s.Canon) : s.reportMissing.Canon := (h.foldl (fun _ _ ht => ht.reportAt)).foldl (fun _ _ ht => ht.reportAt)

theorem State.Canon.bootWay {slice way : Nat} (h : s.Canon) : (s.bootWay slice way).Canon := by
  unfold State.bootWay
  split
  · exact h
  · exact h.ite (h.report.ite h.modWays)

theorem State.Canon.wipePool {cold : Bool} {bad : List (Nat × Nat)} (h : s.Canon) : (s.wipePool cold bad).Canon :=
  (h.upd.foldl (fun _ _ ht => ht.upd.modPool)).foldl (fun _ _ ht => ht.bootWay)

theorem State.Canon.warmBeats (h : s.Canon) : s.warmBeats.2.Canon := h.takeFree

theorem State.Canon.roleAfterReset {ctl : CtlCopy} (h : s.Canon) : (s.roleAfterReset ctl).Canon := by
  unfold State.roleAfterReset
  split
  · exact h.modCt
  · exact h.modCt.setPstate.modCt
  · exact (h.modCt.setPstate.modLink.foldl (fun _ _ ht => ht.modPort)).startRequest

theorem State.Canon.replayAll {spoilt : List Word32} (h : s.Canon) : (s.replayAll spoilt).Canon := by
  unfold State.replayAll
  split
  next x _ t e => exact (h.chooseControl.of_pair e).replay.roleAfterReset

theorem State.Canon.reportFlash (h : s.Canon) : s.reportFlash.Canon := by
  unfold State.reportFlash
  split
  · exact (h.ite h.report).report.ite (h.ite h.report)
  · exact h.report.ite h

theorem State.Canon.resetUnits {cold : Bool} {r : StartTest} (h : s.Canon) : (s.resetUnits cold r).Canon := h.upd

theorem State.Canon.formWindow (h : s.Canon) : s.formWindow.Canon := (h.modPool.foldl (fun _ _ ht => ht.report)).ite h.modPool

/-- The boot image and tree stand in memory (R488, R493). -/
theorem bootMemory_wf {m : Mem} {payload : List Byte} (h : m.wf = true) : (bootMemory m payload).wf = true := Mem.writeN_wf (Mem.fold_wf (Mem.filter_wf h _))

theorem State.Canon.handOver (h : s.Canon) : s.handOver.Canon := by
  refine h.ite ?_
  dsimp only
  split
  · exact h.formWindow
  · exact h.formWindow.ite (bootMemory_wf h.formWindow)

theorem State.Canon.coldReset {r : StartTest} (_ : s.Canon) : (s.coldReset r).Canon := by
  have hu {t : State} {p : Plant} :
      ((((({ t with plant := p, mem := [] } : State).resetUnits true r).wipePool true r.ways).train r).reportMissing.reportFlash.replayAll r.spoilt).Canon :=
    (State.Canon.of_empty rfl).resetUnits.wipePool.train.reportMissing.reportFlash.replayAll
  exact hu.memoryUp.handOver.ite hu

theorem State.Canon.warmReset {r : StartTest} (h : s.Canon) : (s.warmReset r).Canon := by
  unfold State.warmReset
  split
  next n t e =>
    extract_lets p u _ v
    have hu : u.Canon := (h.cutChange.warmBeats.of_pair e).foldl fun _ _ ht => ht.writeBack
    have hv : v.Canon := Mem.filter_wf hu _
    exact hv.resetUnits.wipePool.reportMissing.reportFlash.replayAll.handOver

theorem State.Canon.execMemoryReady (h : s.Canon) : OutCanon (execMemoryReady s) := .ite h.memoryUp.handOver h

theorem State.Canon.completeChange {target : Nat} {r : StartTest} (h : s.Canon) : (s.completeChange target r).Canon := h.modCt.modLife.coldReset

theorem State.Canon.boardReset {f : State → State} (h : s.Canon) (hf : ∀ (t : State), t.Canon → (f t).Canon) : OutCanon (boardReset s f) := .ite (hf _ h) h

theorem State.Canon.sequenceDone (h : s.Canon) : s.sequenceDone.Canon := h.modPlant

theorem State.Canon.execColdReset {c : ResetCause} {r : StartTest} (h : s.Canon) : OutCanon (execColdReset c r s) := by
  unfold Machine.execColdReset
  split
  · exact h.boardReset (fun _ ht => ht.coldReset)
  · exact .ite h.coldReset h
  · exact .ite h.sequenceDone.coldReset h
  · split
    · exact .ite h.completeChange h
    · exact h

theorem State.Canon.execWarmReset {c : ResetCause} {r : StartTest} (h : s.Canon) : OutCanon (execWarmReset c r s) := by
  unfold Machine.execWarmReset
  split
  · exact h.boardReset (fun _ ht => ht.warmReset)
  · exact .ite h.warmReset h
  · exact rfl
  · exact rfl

/-! The operations of Machine/Lifecycle.lean. -/

theorem State.Canon.rstAnswer {tgt r : Byte} (h : s.Canon) : (s.rstAnswer tgt r).Canon := h.modCt

theorem State.Canon.startCoreReset {issuer : Nat} {tgt : Byte} (h : s.Canon) : (s.startCoreReset issuer tgt).Canon :=
  h.rstAnswer.ite (h.rstAnswer.ite h.endHold.dropInval.rstAnswer.modLife.modCore)

theorem State.Canon.resetCore {n p : Nat} (h : s.Canon) : (s.resetCore n p).Canon :=
  OptOf.getD (h.modCore.takeMaster.withSequence (fun _ ht => ht)) h.modCore.takeMaster

theorem State.Canon.endCoreReset {n : Nat} {pass : Bool} {bad : List Nat} (h : s.Canon) : (s.endCoreReset n pass bad).Canon := by
  unfold State.endCoreReset
  split
  · exact h.drainL2.modLife.modCore.resetCore
  · dsimp only
    split
    · exact h.drainL2.modLife.modCore.spend.resetCore.modSlot
    · exact h.drainL2.modLife.modCore.loseCore

theorem State.Canon.execCoreReset {issuer : Nat} {tgt : BitVec 8} {pass : Bool} {bad : List Nat} (h : s.Canon) :
    OutCanon (execCoreReset issuer tgt pass bad s) :=
  .ite h ((h.ite h.startCoreReset).endCoreReset.ite (h.ite h.startCoreReset))

theorem State.Canon.rstCommand {issuer op : Nat} {tgt : Byte} (h : s.Canon) : (s.rstCommand issuer op tgt).Canon := by
  unfold State.rstCommand
  split
  · exact h.startCoreReset
  · exact h.rstAnswer.modLife
  · exact h.rstAnswer.modLife
  · exact h.modCt

theorem State.Canon.lcAnswer {target : BitVec 3} {r : Byte} (h : s.Canon) : (s.lcAnswer target r).Canon := h.modLife

theorem State.Canon.lcChange {confirm : Word32} {target : BitVec 3} (h : s.Canon) : (s.lcChange confirm target).Canon :=
  h.lcAnswer.modLife.decideSafe.ite h.lcAnswer

theorem State.Canon.lcRaise {confirm : Word32} {target : BitVec 3} {microcode : Bool} (h : s.Canon) : (s.lcRaise confirm target microcode).Canon :=
  h.lcAnswer.ite (h.lcAnswer.ite h.lcAnswer.modLife)

theorem State.Canon.lcCommand {op : Nat} {confirm : Word32} {target : BitVec 3} (h : s.Canon) : (s.lcCommand op confirm target).Canon := by
  unfold State.lcCommand
  split
  · exact h.lcChange
  · exact h.lcRaise
  · exact h.lcRaise
  · exact h.modLife

theorem State.Canon.execLcChange {confirm : BitVec 32} {target : BitVec 3} (h : s.Canon) : OutCanon (execLcChange confirm target s) := .ite h h.lcChange

theorem State.Canon.execRaiseBsvn {confirm : BitVec 32} {target : BitVec 3} (h : s.Canon) : OutCanon (execRaiseBsvn confirm target s) := .ite h h.lcRaise

theorem State.Canon.execRaiseMsvn {confirm : BitVec 32} {target : BitVec 3} (h : s.Canon) : OutCanon (execRaiseMsvn confirm target s) := .ite h h.lcRaise

/-! The operations of Machine/Slices.lean. -/

theorem State.Canon.stopTransfers {o : Operation} (h : s.Canon) : (s.stopTransfers o).Canon := by
  unfold State.stopTransfers
  cases o.phase with
  | exchange xid => exact h.modConn
  | reply xid => exact h.modConn
  | reserve =>
    dsimp only
    split
    · exact h.modCt.modConn
    · exact h.modCt
  | _ => exact h

theorem State.Canon.haltOp {o : Operation} (h : s.Canon) : OptCanon (s.haltOp o) := .ite h.stopTransfers.modOp.setSchState h.stopTransfers.endHalted

theorem State.Canon.slResult {r : Byte} (h : s.Canon) : (s.slResult r).Canon := h.modSlices

theorem State.Canon.setSliceState {k : Nat} {st : SliceState} (h : s.Canon) : (s.setSliceState k st).Canon := h.modSlice

theorem State.Canon.slEnable {k : Nat} (h : s.Canon) : (s.slEnable k).Canon := h.slResult.ite (h.slResult.ite h.setSliceState.slResult)

theorem State.Canon.abortJobs {k : Nat} (h : s.Canon) : (s.abortJobs k).Canon := h.upd

theorem State.Canon.haltAll {os : List Operation} (h : s.Canon) : OptCanon (s.haltAll os) := by
  induction os generalizing s with
  | nil => exact h
  | cons o os ih => exact OptOf.bind (st := fun t => t) (.ite h h.haltOp) fun _ ht => ih ht

theorem State.Canon.slFreeze {k : Nat} (h : s.Canon) : OptCanon (s.slFreeze k) := .ite h.slResult (h.modSlice.abortJobs.haltAll.map (fun _ ht => ht.slResult))

theorem State.Canon.slThaw {k : Nat} (h : s.Canon) : (s.slThaw k).Canon := h.modSlice.slResult.ite h.slResult

theorem State.Canon.slRelease {k : Nat} (h : s.Canon) : (s.slRelease k).Canon := h.slResult.ite (h.slResult.ite h.upd.modSlices.slResult)

theorem State.Canon.endSave {k : Nat} {beat : Word} (h : s.Canon) : OptCanon (s.endSave k beat) :=
  .ite h.slResult (h.devWrite.map (fun _ ht => ht.setSliceState.modSlices.slResult))

theorem State.Canon.restoreSch {k : Nat} {img : List Byte} {i : Nat} (h : s.Canon) : (s.restoreSch k img i).Canon :=
  h.tableStore.tableStore.tableStore.tableStore.modCss.beginOpening.ite h.tableStore.tableStore.tableStore.tableStore.modCss

theorem State.Canon.endRestore {k : Nat} (h : s.Canon) : (s.endRestore k).Canon := by
  rcases hi : s.readImage with ⟨len, img, u⟩
  have hu : u.Canon := h.of_mem_eq (readImage_same hi).2
  have ht : (u.restoreTables k img).Canon := hu.upd
  rw [endRestore_of_readImage hi]
  exact hu.slResult.ite (ht.setSliceState.foldl fun _ _ ht => ht.restoreSch).slResult

theorem State.Canon.sliceCommand {op k : Nat} (h : s.Canon) : OptCanon (s.sliceCommand op k) := by
  unfold State.sliceCommand
  split
  · exact h
  · split
    · exact h.modSlices.slEnable
    · exact h.modSlices.slFreeze
    · exact h.modSlices.slThaw
    · exact h.modSlices.modSlices
    · exact h.modSlices.modSlices
    · exact h.modSlices.slRelease
    · exact h.modSlices

theorem State.Canon.sliceRow {op k : Nat} (h : s.Canon) : OutCanon (sliceRow op k s) := .ite rfl (h.portRow (fun _ ht => ht.orSame ht.sliceCommand))

theorem State.Canon.execSliceEnable {slice : Nat} (h : s.Canon) : OutCanon (execSliceEnable slice s) := h.sliceRow

theorem State.Canon.execSliceFreeze {slice : Nat} (h : s.Canon) : OutCanon (execSliceFreeze slice s) := h.sliceRow

theorem State.Canon.execSliceThaw {slice : Nat} (h : s.Canon) : OutCanon (execSliceThaw slice s) := h.sliceRow

theorem State.Canon.execSliceSave {slice : Nat} (h : s.Canon) : OutCanon (execSliceSave slice s) := h.sliceRow

theorem State.Canon.execSliceRestore {slice : Nat} (h : s.Canon) : OutCanon (execSliceRestore slice s) := h.sliceRow

theorem State.Canon.execSliceRelease {slice : Nat} (h : s.Canon) : OutCanon (execSliceRelease slice s) := h.sliceRow

theorem State.Canon.execFreezeComplete {slice : Nat} (h : s.Canon) : OutCanon (execFreezeComplete slice s) := .ite h.setSliceState h

theorem State.Canon.execSliceBusyEnd (h : s.Canon) : OutCanon (execSliceBusyEnd s) := by
  unfold Machine.execSliceBusyEnd
  refine .ite h ?_
  split
  · exact h
  · exact h.orSame (h.endSave.map fun _ ht => ht.modSlices)
  · exact .next h.endRestore.modSlices

/-! The operations of Machine/PortRead.lean. -/

theorem State.Canon.mapWord {n : Nat} (h : s.Canon) : (s.mapWord n).2.Canon := State.Canon.ite_snd h.takeFree h

theorem State.Canon.cpMapWord {i : Nat} (h : s.Canon) : (s.cpMapWord i).2.Canon := by
  unfold State.cpMapWord
  split
  · exact h.takeFree
  · exact h

theorem State.Canon.portValue {n : Nat} {x : Port} (h : s.Canon) : (s.portValue n x).2.Canon := by
  unfold State.portValue
  split
  · exact h
  · exact h
  · exact h
  · exact h
  · exact h
  · exact h
  · exact h
  · exact h
  · exact h
  · exact h
  · exact h
  · exact h
  · exact h
  · exact h
  · exact h
  · exact h
  · exact h
  · exact h
  · exact h
  · exact h
  · exact h
  · exact h
  · exact h
  · exact h
  · exact h
  · exact h
  · exact h
  · exact h
  · exact h
  · exact h
  · exact h
  · exact h
  · exact h
  · exact h
  · exact h
  · exact h
  · exact h
  · exact h
  · exact h
  · exact h
  · exact h
  · exact h
  · exact h
  · exact h
  · exact h
  · exact h
  · exact h
  · exact h
  · exact h
  · exact h
  · exact h
  · exact h
  · exact h
  · exact h
  · exact h
  · exact h
  · exact h
  · exact h
  · exact h
  · exact h.mapWord
  · exact h.cpMapWord
  · exact h
  · exact h
  · exact h
  · exact h
  · exact h
  · exact h
  · exact h
  · exact h
  · exact h
  · exact h
  · exact h
  · exact h
  · exact h
  · exact h
  · exact h
  · exact h
  · exact h
  · exact h
  · exact h
  · exact h
  · exact h
  · exact h
  · exact h
  · exact h
  · exact h
  · exact h
  · exact h
  · exact h
  · exact h
  · exact h
  · exact h

theorem State.Canon.afterRead {n : Nat} {x : Port} (h : s.Canon) : (s.afterRead n x).Canon := by
  unfold State.afterRead
  split
  · exact h.modCore
  · exact h.modCore
  · exact h.modCss
  · exact h.modCss
  · exact h.modLeat
  · exact h.upd
  · exact h.modCt
  · exact h

theorem State.Canon.settlePort {x : Port} (h : s.Canon) : (s.settlePort x).Canon := by
  unfold State.settlePort
  split
  · exact h.rollNow
  · exact h.rollNow
  · exact h.rollNow
  · exact h.rollNow
  · exact h

theorem State.Canon.portRead {n : Nat} {p : Port} (h : s.Canon) : (s.portRead n p).2.Canon := by
  unfold State.portRead
  split
  · split
    next x _ t e => exact (h.settlePort.portValue.of_pair e).afterRead
  · exact h

/-! The operations of Machine/PortWrite.lean. -/

theorem State.Canon.modTimer {n i : Nat} {f : Timer → Timer} (h : s.Canon) : (s.modTimer n i f).Canon := h.modCore

theorem State.Canon.writePoolric {v : Word} (h : s.Canon) : (s.writePoolric v).Canon := h.modPool.startRange.ite h.modPool

theorem State.Canon.writeMschcmd {v : Word} (h : s.Canon) : (s.writeMschcmd v).Canon := by
  unfold State.writeMschcmd
  split
  · exact h.setCmdFields.establish
  · exact h.setCmdFields.modify
  · exact h.setCmdFields.remove
  · exact h.setCmdFields

theorem State.Canon.modGrant {k g : Nat} {f : Grant → Grant} (h : s.Canon) : (s.modGrant k g f).Canon := h.modSlice

theorem State.Canon.writeCq {q r : Nat} {v : Word} (h : s.Canon) : (s.writeCq q r v).Canon := by
  unfold State.writeCq
  split
  · exact h.modCq
  · exact h.modCq
  · exact h.modCq
  · exact h.writeCqCtl
  · exact h

theorem State.Canon.writeCz {k r : Nat} {v : Word} (h : s.Canon) : (s.writeCz k r v).Canon := by
  unfold State.writeCz
  split
  · exact h.setCzRing
  · exact h.writeCzTail
  · exact h.setCzRing
  · exact h.setCzRing
  · exact h.writeCzCtl

theorem State.Canon.writeCx {k r : Nat} {v : Word} (h : s.Canon) : (s.writeCx k r v).Canon := by
  unfold State.writeCx
  split
  · exact h.setCxRing
  · exact h.writeCxTail
  · exact h.setCxRing
  · exact h.setCxRing
  · exact h.writeCxCtl

theorem State.Canon.writeKcmd {k : Nat} {v : Word} (h : s.Canon) : (s.writeKcmd k v).Canon := by
  unfold State.writeKcmd
  split
  · exact h.loadKey
  · exact h.eraseKey
  · exact h.eraseAll
  · exact h.modKeyPorts

theorem State.Canon.writeLkcmd {v : Word} (h : s.Canon) : (s.writeLkcmd v).Canon := by
  unfold State.writeLkcmd
  split
  · exact h.installSa
  · exact h.activateSa
  · exact h.retireSa
  · exact h.setLk

theorem State.Canon.writePairId {v : Word} (h : s.Canon) : (s.writePairId v).Canon := h.modCt.writeControl.ite h

theorem State.Canon.modWeir {f : Weir → Weir} (h : s.Canon) : (s.modWeir f).Canon := h.upd

theorem State.Canon.closeWitness (h : s.Canon) : s.closeWitness.Canon := by
  unfold State.closeWitness
  extract_lets t
  have ht : t.Canon := h.sendCtl.ite h
  clear_value t
  exact ht.closePath.modCt

theorem State.Canon.writeCtwit {v : Word} (h : s.Canon) : (s.writeCtwit v).Canon := (h.ite h.closeWitness).ite (h.modCt.openWitness.ite h.modCt)

theorem State.Canon.writePltod {v : Word} (h : s.Canon) : (s.writePltod v).Canon := h.modPlant.todSet.ite h.modPlant

theorem State.Canon.writeMcl {f : Life → Life} (h : s.Canon) : (s.writeMcl f).Canon := h.ite h.modLife

theorem State.Canon.writeMclctl {v : Word} (h : s.Canon) : (s.writeMclctl v).Canon := (h.mclVerify.ite h).mclActivate.ite (h.mclVerify.ite h)

theorem State.Canon.portStore {n : Nat} {p : Port} {v : Word} (h : s.Canon) : OptCanon (s.portStore n p v) := by
  unfold State.portStore
  split
  · exact h.modCore
  · exact h.sendIci
  · exact h.modTimer
  · exact h.modTimer
  · exact h.modPool
  · exact h.lockWindow.ite h
  · exact h.modPool
  · exact h.modPool
  · exact h.writePoolric
  · exact h.upd
  · exact h.modCss
  · exact h.modCss
  · exact h.modCss
  · exact h.writeMschcmd
  · exact h.modCss
  · exact h.sliceCommand
  · exact h.modSlices
  · exact h.modSlice
  · exact h.modGrant
  · exact h.modGrant
  · exact h.writeEthcfg
  · exact h.modPort
  · exact h.modPort
  · exact h.writeLkcmd
  · exact h.modCx
  · exact h.modWeir
  · exact h.selectLog
  · exact h.modWeir
  · exact h.modWeir
  · exact h.clearStatus
  · exact h.ctCommand
  · exact h.modCt
  · exact h.writeSoloAct
  · exact h.writePairId
  · exact h.writeCtwit
  · exact h.writeRegion
  · exact h.modCt
  · exact h.rstCommand
  · exact h.modCt
  · exact h.lcCommand
  · exact h.modLife
  · exact h.writePltod
  · exact h.modPlant
  · exact h.modPlant
  · exact h.modPlant
  · exact h.modPlant
  · exact h.modPlant
  · exact h.modPlant
  · exact h.modPlant
  · exact h.writeCq
  · exact h.writeCz
  · exact h.writeCx
  · exact h.writeKcmd
  · exact h.modKeyPorts
  · exact h.modKeyPorts
  · exact h.writeMcl
  · exact h.writeMcl
  · exact h.writeMclctl
  · exact h
  · exact h
  · exact h
  · exact h
  · exact h
  · exact h
  · exact h
  · exact h
  · exact h
  · exact h
  · exact h
  · exact h
  · exact h
  · exact h
  · exact h
  · exact h
  · exact h
  · exact h
  · exact h
  · exact h
  · exact h
  · exact h
  · exact h
  · exact h
  · exact h
  · exact h
  · exact h
  · exact h
  · exact h
  · exact h
  · exact h
  · exact h
  · exact h
  · exact h

theorem State.Canon.portWrite {n : Nat} {p : Port} {v : Word} (h : s.Canon) : OptCanon (s.portWrite n p v) := .ite h.settlePort.portStore h

/-! The operations of Machine/InOut.lean. -/

theorem State.Canon.writeAt {n : Nat} {a : BitVec 32} {v : Word} (h : s.Canon) : OptCanon (s.writeAt n a v) := by
  unfold State.writeAt
  split
  · exact h.portWrite
  · exact h

theorem State.Canon.answerStore {n : Nat} {d : PortAccess} (h : s.Canon) : OptCanon (s.answerStore n d) := h.writeAt.map (fun _ ht => ht.modCore)

theorem State.Canon.settleStore {n : Nat} (h : s.Canon) : OptCanon (s.settleStore n) := by
  unfold State.settleStore
  split
  · exact h
  · exact .ite h.answerStore rfl

theorem RunCanon.ioDrain {n : Nat} {code : List Byte} : RunCanon (ioDrain n code) := by
  unfold Machine.ioDrain
  refine .bind (.orWait (fun _ ht => ht.drain)) fun _ => ?_
  refine .get_bind fun _ ht => ?_
  split
  next u e₂ => exact .set (ht.settleStore.of_eq e₂)
  · exact .bind .onCore fun _ => .throw

theorem State.Canon.execFence {k : Insn} (h : s.Canon) : OutCanon (execFence k s) := h.instr (.bind .ioDrain fun _ => .pure)

theorem State.Canon.execWait {k : Insn} (h : s.Canon) : OutCanon (execWait k s) := h.instr (.bind .ioDrain fun _ => .get_bind fun _ _ => .guard .onCore .pure)

theorem RunCanon.ioProtection {α : Type} {n cause : Nat} {info : Word} : RunCanon (ioProtection n cause info : Run α) := .bind .coreOf fun _ => .throwExc

theorem RunCanon.openPort {n : Nat} {b : Byte} {p : Word} {wide : Bool} : RunCanon (openPort n b p wide) := by
  unfold Machine.openPort
  refine .get_bind fun _ ht => ?_
  refine .bind .coreOf fun _ => ?_
  split
  · exact .ioProtection
  · exact .bind (.modify (fun _ hu => hu.endHold)) fun _ => .bind .ioDrain fun _ => .pure

theorem State.Canon.portIn {k : Insn} {b : Byte} {wide : Bool} (h : s.Canon) : OutCanon (portIn k b wide s) := by
  refine h.instr (.bind .coreOf fun _ => .bind .openPort fun _ => .get_bind fun _ ht => ?_)
  exact .ite (.bind (.set ht.portRead) fun _ => .bind .onCore fun _ => .pure) (.bind .onCore fun _ => .pure)

theorem State.Canon.execInw {k : Insn} (h : s.Canon) : OutCanon (execInw k s) := h.portIn

theorem State.Canon.execInd {k : Insn} (h : s.Canon) : OutCanon (execInd k s) := h.portIn

theorem State.Canon.portOut {k : Insn} {b : Byte} {wide : Bool} (h : s.Canon) : OutCanon (Machine.portOut k b wide s) :=
  h.instr (.bind .coreOf fun _ => .bind .openPort fun _ => .get_bind fun _ _ => .bind .onCore fun _ => .pure)

theorem State.Canon.execOutw {k : Insn} (h : s.Canon) : OutCanon (execOutw k s) := h.portOut

theorem State.Canon.execOutd {k : Insn} (h : s.Canon) : OutCanon (execOutd k s) := h.portOut

theorem State.Canon.finishRead {n : Nat} {v : Word} (h : s.Canon) : (s.finishRead n v).Canon := h.modCore.retire

theorem State.Canon.readAt {n : Nat} {a : BitVec 32} (h : s.Canon) : (s.readAt n a).2.Canon := by
  unfold State.readAt
  split
  · exact h.portRead
  · exact h

theorem State.Canon.execDeviceResponse {lcn : Nat} (h : s.Canon) : OutCanon (execDeviceResponse lcn s) := by
  unfold Machine.execDeviceResponse
  split
  · exact .ite h.readAt.finishRead h
  · exact h.orSame h.settleStore

theorem State.Canon.expire {a : PortAccess} (h : s.Canon) : OptCanon (s.expire a) := .ite h (.ite h.upd rfl)

theorem State.Canon.loseStore {n : Nat} {a : PortAccess} (h : s.Canon) : (s.loseStore n a).Canon := h.reportCore.modCore

theorem State.Canon.execDeviceStoreLost {lcn : Nat} (h : s.Canon) : OutCanon (execDeviceStoreLost lcn s) := by
  unfold Machine.execDeviceStoreLost
  split
  · exact h
  · split
    · exact h
    next t e => exact ((OptOf.getD (h.expire.of_eq e).upd.writeAt (h.expire.of_eq e).upd).ite (h.expire.of_eq e).upd).loseStore

theorem State.Canon.execLostRead {lcn : Nat} (h : s.Canon) : OutCanon (execLostRead lcn s) := by
  unfold Machine.execLostRead
  split
  · exact h
  · split
    · exact h
    next t e => exact (h.expire.of_eq e).reportCore.finishRead

theorem State.Canon.execIciSend {lcn : Nat} {v : Word} (h : s.Canon) : OutCanon (execIciSend lcn v s) :=
  .ite h (h.orSame ((h.drain.bind (fun _ ht => ht.settleStore)).map (fun _ ht => ht.sendIci)))

theorem State.Canon.startOp {sch : Nat} {parm : Word} {ccw : Nat} (h : s.Canon) : (s.startOp sch parm ccw).Canon := h.modCss.setSchState

theorem State.Canon.startio {sch : Nat} {parm : Word} {ccw : Nat} (h : s.Canon) : (s.startio sch parm ccw).2.Canon :=
  State.Canon.ite_snd h (State.Canon.ite_snd h (State.Canon.ite_snd h (State.Canon.ite_snd h h.startOp)))

theorem State.Canon.haltio {sch : Nat} (h : s.Canon) : OptOf Prod.snd (s.haltio sch) := by
  unfold State.haltio
  split
  · exact .ite h (.ite h (.ite h (.ite h (h.haltOp.map (fun _ ht => ht)))))
  · exact .ite h (.ite h (.ite h h))

theorem RunCanon.ccwAddress {n : Nat} {va : Word} : RunCanon (ccwAddress n va) := .bind .coreOf fun _ => .bind .addresses fun _ => .guard .ioProtection .pure

theorem State.Canon.execStartio {k : Insn} (h : s.Canon) : OutCanon (execStartio k s) := by
  refine h.instr (.bind .coreOf fun c => .get_bind fun t ht => ?_)
  split
  · exact .bind .onCore fun _ => .pure
  · exact .bind .ioProtection fun _ => .pure
  · exact .bind .ccwAddress fun _ => .bind (.modify fun _ hu => hu.endHold) fun _ => .bind .ioDrain fun _ =>
      .get_bind fun u hu => .bind (.set hu.startio) fun _ => .bind .onCore fun _ => .pure

theorem State.Canon.execHaltio {k : Insn} (h : s.Canon) : OutCanon (execHaltio k s) := by
  refine h.instr (.bind .coreOf fun c => .get_bind fun t ht => ?_)
  split
  · exact .bind .onCore fun _ => .pure
  · exact .bind .ioProtection fun _ => .pure
  · refine .bind (.modify fun _ hu => hu.endHold) fun _ => .bind .ioDrain fun _ => .get_bind fun u hu => ?_
    split
    · exact .throw_bind
    next cc v e => exact .bind (.set (hu.haltio.of_eq e)) fun _ => .bind .onCore fun _ => .pure

theorem State.Canon.execTestio {k : Insn} (h : s.Canon) : OutCanon (execTestio k s) := by
  refine h.instr (.bind .coreOf fun c => .get_bind fun t ht => ?_)
  split
  · exact .bind .onCore fun _ => .pure
  · exact .bind .ioProtection fun _ => .pure
  · exact .bind (.modify fun _ hu => hu.endHold) fun _ => .bind .ioDrain fun _ => .get_bind fun u hu => .bind .onCore fun _ => .pure

theorem State.Canon.execReadClear {lcn : Nat} {port : BitVec 32} (h : s.Canon) : OutCanon (execReadClear lcn port s) := by
  unfold Machine.execReadClear
  split
  · exact h
  · split
    · exact h
    · exact h.portRead

theorem State.Canon.execRegisterWrite {lcn : Nat} {port : BitVec 32} {v : Word} (h : s.Canon) : OutCanon (execRegisterWrite lcn port v s) := by
  unfold Machine.execRegisterWrite
  split
  · exact h
  · split
    · exact h
    · exact h.orSame h.portWrite

/-! The operations of Machine/Integer.lean. -/

theorem State.Canon.binary {k : Insn} {b : Byte} {f : Word → Word → Word → Word × Word} (h : s.Canon) : OutCanon (binary k b f s) := h.stackOp

theorem State.Canon.unary {k : Insn} {o : Op} {f : Word → Word → Word × Word} (h : s.Canon) : OutCanon (unary k o f s) := h.stackOp

theorem State.Canon.compare {k : Insn} {b : Byte} {f : Word → Word → Word → Word} (h : s.Canon) : OutCanon (compare k b f s) := h.stackOp

theorem State.Canon.execAdd {k : Insn} (h : s.Canon) : OutCanon (execAdd k s) := h.binary

theorem State.Canon.execSub {k : Insn} (h : s.Canon) : OutCanon (execSub k s) := h.binary

theorem State.Canon.execMul {k : Insn} (h : s.Canon) : OutCanon (execMul k s) := h.binary

theorem State.Canon.execMulh {k : Insn} (h : s.Canon) : OutCanon (execMulh k s) := h.binary

theorem State.Canon.execMulhu {k : Insn} (h : s.Canon) : OutCanon (execMulhu k s) := h.binary

theorem State.Canon.division {k : Insn} {b : Byte} {f : Word → Word → Word} {v : Word → Word → Bool} (h : s.Canon) : OutCanon (division k b f v s) :=
  h.instr (.bind .coreOf fun _ => .ite .throwExc (.bind .onCore fun _ => .pure))

theorem State.Canon.execDiv {k : Insn} (h : s.Canon) : OutCanon (execDiv k s) := h.division

theorem State.Canon.execDivu {k : Insn} (h : s.Canon) : OutCanon (execDivu k s) := h.division

theorem State.Canon.execRem {k : Insn} (h : s.Canon) : OutCanon (execRem k s) := h.division

theorem State.Canon.execRemu {k : Insn} (h : s.Canon) : OutCanon (execRemu k s) := h.division

theorem State.Canon.execNeg {k : Insn} (h : s.Canon) : OutCanon (execNeg k s) := h.unary

theorem State.Canon.execAdc {k : Insn} (h : s.Canon) : OutCanon (execAdc k s) := h.binary

theorem State.Canon.execSbc {k : Insn} (h : s.Canon) : OutCanon (execSbc k s) := h.binary

theorem State.Canon.execCmp {k : Insn} (h : s.Canon) : OutCanon (execCmp k s) := h.compare

theorem State.Canon.execTst {k : Insn} (h : s.Canon) : OutCanon (execTst k s) := h.compare

theorem State.Canon.execInc {k : Insn} (h : s.Canon) : OutCanon (execInc k s) := h.unary

theorem State.Canon.execDec {k : Insn} (h : s.Canon) : OutCanon (execDec k s) := h.unary

theorem State.Canon.execAddi {k : Insn} {imm : AddImm} (h : s.Canon) : OutCanon (execAddi k imm s) := by
  unfold Machine.execAddi
  split <;> exact h.unary

theorem State.Canon.execCmpi {k : Insn} {imm : BitVec 16} (h : s.Canon) : OutCanon (execCmpi k imm s) := h.stackOp

theorem State.Canon.logic2 {k : Insn} {b : Byte} {f : Word → Word → Word} (h : s.Canon) : OutCanon (logic2 k b f s) := h.binary

theorem State.Canon.execAndB {k : Insn} (h : s.Canon) : OutCanon (execAndB k s) := h.logic2

theorem State.Canon.execOrB {k : Insn} (h : s.Canon) : OutCanon (execOrB k s) := h.logic2

theorem State.Canon.execXorB {k : Insn} (h : s.Canon) : OutCanon (execXorB k s) := h.logic2

theorem State.Canon.execNotB {k : Insn} (h : s.Canon) : OutCanon (execNotB k s) := h.unary

theorem State.Canon.execAndn {k : Insn} (h : s.Canon) : OutCanon (execAndn k s) := h.logic2

theorem State.Canon.execShl {k : Insn} (h : s.Canon) : OutCanon (execShl k s) := h.binary

theorem State.Canon.execShr {k : Insn} (h : s.Canon) : OutCanon (execShr k s) := h.binary

theorem State.Canon.execSar {k : Insn} (h : s.Canon) : OutCanon (execSar k s) := h.binary

theorem State.Canon.execRol {k : Insn} (h : s.Canon) : OutCanon (execRol k s) := h.logic2

theorem State.Canon.execRor {k : Insn} (h : s.Canon) : OutCanon (execRor k s) := h.logic2

theorem State.Canon.execClz {k : Insn} (h : s.Canon) : OutCanon (execClz k s) := h.unary

theorem State.Canon.execCtz {k : Insn} (h : s.Canon) : OutCanon (execCtz k s) := h.unary

theorem State.Canon.execPopc {k : Insn} (h : s.Canon) : OutCanon (execPopc k s) := h.unary

theorem State.Canon.execBswap {k : Insn} (h : s.Canon) : OutCanon (execBswap k s) := h.unary

theorem State.Canon.execSxw {k : Insn} (h : s.Canon) : OutCanon (execSxw k s) := h.unary

theorem State.Canon.execZxw {k : Insn} (h : s.Canon) : OutCanon (execZxw k s) := h.unary

theorem State.Canon.execShli {k : Insn} {imm : BitVec 8} (h : s.Canon) : OutCanon (execShli k imm s) := h.unary

theorem State.Canon.execShri {k : Insn} {imm : BitVec 8} (h : s.Canon) : OutCanon (execShri k imm s) := h.unary

theorem State.Canon.execSari {k : Insn} {imm : BitVec 8} (h : s.Canon) : OutCanon (execSari k imm s) := h.unary

/-! The operations of Machine/Stack.lean. -/

theorem State.Canon.execNop {k : Insn} (h : s.Canon) : OutCanon (execNop k s) := h.stackOp

theorem State.Canon.execDup {k : Insn} (h : s.Canon) : OutCanon (execDup k s) := h.stackOp

theorem State.Canon.execDrop {k : Insn} (h : s.Canon) : OutCanon (execDrop k s) := h.stackOp

theorem State.Canon.execSwap {k : Insn} (h : s.Canon) : OutCanon (execSwap k s) := h.stackOp

theorem State.Canon.execOver {k : Insn} (h : s.Canon) : OutCanon (execOver k s) := h.stackOp

theorem State.Canon.execRot {k : Insn} (h : s.Canon) : OutCanon (execRot k s) := h.stackOp

theorem State.Canon.execNip {k : Insn} (h : s.Canon) : OutCanon (execNip k s) := h.stackOp

theorem State.Canon.execTuck {k : Insn} (h : s.Canon) : OutCanon (execTuck k s) := h.stackOp

theorem State.Canon.execDup2 {k : Insn} (h : s.Canon) : OutCanon (execDup2 k s) := h.stackOp

theorem State.Canon.execDrop2 {k : Insn} (h : s.Canon) : OutCanon (execDrop2 k s) := h.stackOp

theorem State.Canon.execSwap2 {k : Insn} (h : s.Canon) : OutCanon (execSwap2 k s) := h.stackOp

theorem State.Canon.execOver2 {k : Insn} (h : s.Canon) : OutCanon (execOver2 k s) := h.stackOp

theorem State.Canon.execToR {k : Insn} (h : s.Canon) : OutCanon (execToR k s) := h.instr (.bind .onCore fun _ => .pure)

theorem State.Canon.execRFrom {k : Insn} (h : s.Canon) : OutCanon (execRFrom k s) := h.instr (.bind .onCore fun _ => .pure)

theorem State.Canon.execRFetch {k : Insn} (h : s.Canon) : OutCanon (execRFetch k s) := h.instr (.bind .onCore fun _ => .pure)

theorem State.Canon.execRdrop {k : Insn} (h : s.Canon) : OutCanon (execRdrop k s) := h.instr (.bind .onCore fun _ => .pure)

theorem State.Canon.execLit8 {k : Insn} {imm : BitVec 8} (h : s.Canon) : OutCanon (execLit8 k imm s) := h.stackOp

theorem State.Canon.execLit16 {k : Insn} {imm : BitVec 16} (h : s.Canon) : OutCanon (execLit16 k imm s) := h.stackOp

theorem State.Canon.execLit32 {k : Insn} {imm : BitVec 32} (h : s.Canon) : OutCanon (execLit32 k imm s) := h.stackOp

theorem State.Canon.execLit64 {k : Insn} {imm : BitVec 64} (h : s.Canon) : OutCanon (execLit64 k imm s) := h.stackOp

theorem State.Canon.execPick {k : Insn} {n : BitVec 8} (h : s.Canon) : OutCanon (execPick k n s) :=
  h.instr (.bind .coreOf fun _ => .ite (.bind .pure fun _ => .bind .onCore fun _ => .pure) (.bind .fillRead fun _ => .bind .onCore fun _ => .pure))

theorem State.Canon.execDepth {k : Insn} (h : s.Canon) : OutCanon (execDepth k s) := h.instr (.bind .coreOf fun _ => .bind .onCore fun _ => .pure)

/-! The operations of Machine/Strings.lean. -/

theorem RunCanon.stringStep {n ds dd : Nat} : RunCanon (stringStep n ds dd) := .onCore

theorem RunCanon.checkElement {k : Insn} {xs : List (Word × Nat × Bool)} : RunCanon (checkElement k xs) := by
  induction xs with
  | nil => exact .pure
  | cons x xs ih => exact .bind .coreOf fun _ => .bind .addresses fun _ => ih

theorem RunCanon.repeated {k : Insn} {test : Bool} {element : Run Unit} (helement : RunCanon element) : RunCanon (repeated k test element) := by
  unfold Machine.repeated
  split
  · exact .bind helement fun _ => .pure
  · exact .bind .coreOf fun _ => .ite .pure (.bind helement fun _ => .bind .onCore fun _ => .bind .coreOf fun _ => .ite .pure (.ite .pure .pure))

theorem State.Canon.stringOp {k : Insn} {b : Byte} {i : Nat} {test : Bool} {element : Run Unit} (h : s.Canon) (helement : RunCanon element) :
    OutCanon (stringOp k b i test element s) :=
  h.instr (.repeated helement)

theorem State.Canon.execMovs {k : Insn} (h : s.Canon) : OutCanon (execMovs k s) :=
  h.stringOp (.bind .coreOf fun _ => .bind .checkElement fun _ => .bind .loadBytes fun _ => .bind .storeBytes fun _ => .stringStep)

theorem State.Canon.execCmps {k : Insn} (h : s.Canon) : OutCanon (execCmps k s) :=
  h.stringOp (.bind .coreOf fun _ => .bind .checkElement fun _ => .bind .loadBytes fun _ => .bind .loadBytes fun _ => .bind .onCore fun _ => .stringStep)

theorem State.Canon.execFills {k : Insn} (h : s.Canon) : OutCanon (execFills k s) := h.stringOp (.bind .coreOf fun _ => .bind .storeBytes fun _ => .stringStep)

theorem State.Canon.execScans {k : Insn} (h : s.Canon) : OutCanon (execScans k s) :=
  h.stringOp (.bind .coreOf fun _ => .bind .loadBytes fun _ => .bind .onCore fun _ => .stringStep)

theorem State.Canon.execXlats {k : Insn} (h : s.Canon) : OutCanon (execXlats k s) :=
  h.stringOp (.bind .coreOf fun _ => .bind .loadBytes fun _ => .bind .checkElement fun _ => .bind .loadBytes fun _ => .bind .storeBytes fun _ => .stringStep)

theorem State.Canon.execDmovs {k : Insn} (h : s.Canon) : OutCanon (execDmovs k s) :=
  h.stringOp (.bind .coreOf fun _ => .bind .checkElement fun _ => .bind .loadBytes fun _ => .bind .storeBytes fun _ => .stringStep)

end Sys2Proof.Machine
end

section
/-! The commands one by one, and the step. -/

namespace Sys2Proof.Machine

/-- Every command, from whichever state, keeps the canonical form. -/
theorem exec_canon {i : Instr} {s : State} (h : s.Canon) : OutCanon (exec i s) :=
  match i with
  -- Stack and literal instructions (R72-R76)
  | .nop _ => h.execNop
  | .dup _ => h.execDup
  | .drop _ => h.execDrop
  | .swap _ => h.execSwap
  | .over _ => h.execOver
  | .rot _ => h.execRot
  | .nip _ => h.execNip
  | .tuck _ => h.execTuck
  | .dup2 _ => h.execDup2
  | .drop2 _ => h.execDrop2
  | .swap2 _ => h.execSwap2
  | .over2 _ => h.execOver2
  | .toR _ => h.execToR
  | .rFrom _ => h.execRFrom
  | .rFetch _ => h.execRFetch
  | .rdrop _ => h.execRdrop
  | .lit8 _ _ => h.execLit8
  | .lit16 _ _ => h.execLit16
  | .lit32 _ _ => h.execLit32
  | .lit64 _ _ => h.execLit64
  | .pick _ _ => h.execPick
  | .depth _ => h.execDepth
  -- Integer arithmetic, logic and bit instructions (R77-R80)
  | .add _ => h.execAdd
  | .sub _ => h.execSub
  | .mul _ => h.execMul
  | .mulh _ => h.execMulh
  | .mulhu _ => h.execMulhu
  | .div _ => h.execDiv
  | .divu _ => h.execDivu
  | .rem _ => h.execRem
  | .remu _ => h.execRemu
  | .neg _ => h.execNeg
  | .adc _ => h.execAdc
  | .sbc _ => h.execSbc
  | .cmp _ => h.execCmp
  | .tst _ => h.execTst
  | .inc _ => h.execInc
  | .dec _ => h.execDec
  | .addi _ _ => h.execAddi
  | .cmpi _ _ => h.execCmpi
  | .andB _ => h.execAndB
  | .orB _ => h.execOrB
  | .xorB _ => h.execXorB
  | .notB _ => h.execNotB
  | .andn _ => h.execAndn
  | .shl _ => h.execShl
  | .shr _ => h.execShr
  | .sar _ => h.execSar
  | .rol _ => h.execRol
  | .ror _ => h.execRor
  | .clz _ => h.execClz
  | .ctz _ => h.execCtz
  | .popc _ => h.execPopc
  | .bswap _ => h.execBswap
  | .sxw _ => h.execSxw
  | .zxw _ => h.execZxw
  | .shli _ _ => h.execShli
  | .shri _ _ => h.execShri
  | .sari _ _ => h.execSari
  -- Special registers and time (R81-R84)
  | .rdsr _ _ => h.execRdsr
  | .wrsr _ _ => h.execWrsr
  | .rdtod _ => h.execRdtod
  | .wrkrr _ => h.execWrkrr
  -- Memory instructions (R85-R92)
  | .ldb _ _ => h.execLdb
  | .ldbs _ _ => h.execLdbs
  | .ldh _ _ => h.execLdh
  | .ldhs _ _ => h.execLdhs
  | .ldw _ _ => h.execLdw
  | .ldws _ _ => h.execLdws
  | .ldd _ _ => h.execLdd
  | .ldp _ => h.execLdp
  | .stb _ _ => h.execStb
  | .sth _ _ => h.execSth
  | .stw _ _ => h.execStw
  | .std _ _ => h.execStd
  | .stp _ => h.execStp
  | .ldr _ => h.execLdr
  | .stc _ => h.execStc
  | .fence _ => h.execFence
  | .isync _ => h.execIsync
  | .ldi _ => h.execLdi
  | .sti _ => h.execSti
  -- Control transfer (R93-R97)
  | .br _ _ => h.execBr
  | .bz _ _ => h.execBz
  | .bnz _ _ => h.execBnz
  | .beq _ _ => h.execBeq
  | .bne _ _ => h.execBne
  | .blt _ _ => h.execBlt
  | .bge _ _ => h.execBge
  | .bgt _ _ => h.execBgt
  | .ble _ _ => h.execBle
  | .bltu _ _ => h.execBltu
  | .bgeu _ _ => h.execBgeu
  | .bgtu _ _ => h.execBgtu
  | .bleu _ _ => h.execBleu
  | .bvs _ _ => h.execBvs
  | .bvc _ _ => h.execBvc
  | .call _ _ => h.execCall
  | .jmpl _ _ => h.execJmpl
  | .calll _ _ => h.execCalll
  | .jmpi _ _ => h.execJmpi
  | .calli _ _ => h.execCalli
  | .ret _ _ => h.execRet
  | .svc _ _ => h.execSvc
  | .rett _ => h.execRett
  | .wait _ => h.execWait
  -- String instructions (R110-R117)
  | .movs _ => h.execMovs
  | .cmps _ => h.execCmps
  | .fills _ => h.execFills
  | .scans _ => h.execScans
  | .xlats _ => h.execXlats
  | .dmovs _ => h.execDmovs
  -- I/O-space and channel instructions (R98-R105)
  | .inw _ => h.execInw
  | .ind _ => h.execInd
  | .outw _ => h.execOutw
  | .outd _ => h.execOutd
  | .startio _ => h.execStartio
  | .haltio _ => h.execHaltio
  | .testio _ => h.execTestio
  -- Translation and stack control (R106-R108)
  | .invpg _ => h.execInvpg
  | .invtag _ => h.execInvtag
  | .invall _ => h.execInvall
  | .spilld _ => h.execSpilld
  | .spillr _ => h.execSpillr
  -- Floating point (R123-R135)
  | .fadd _ _ => h.execFadd
  | .fsub _ _ => h.execFsub
  | .fmul _ _ => h.execFmul
  | .fdiv _ _ => h.execFdiv
  | .fsqrt _ _ => h.execFsqrt
  | .fma _ _ => h.execFma
  | .fneg _ _ => h.execFneg
  | .fabs _ _ => h.execFabs
  | .fcmp _ _ => h.execFcmp
  | .fmin _ _ => h.execFmin
  | .fmax _ _ => h.execFmax
  | .fclass _ _ => h.execFclass
  | .fcvtDS _ => h.execFcvtDS
  | .fcvtSD _ => h.execFcvtSD
  | .fcvtDL _ => h.execFcvtDL
  | .fcvtDLU _ => h.execFcvtDLU
  | .fcvtLD _ => h.execFcvtLD
  | .fcvtLUD _ => h.execFcvtLUD
  | .fcvtSL _ => h.execFcvtSL
  | .fcvtSLU _ => h.execFcvtSLU
  | .fcvtLS _ => h.execFcvtLS
  | .fcvtLUS _ => h.execFcvtLUS
  -- Packed decimal (R118-R122)
  | .dadd _ => h.execDadd
  | .dsub _ => h.execDsub
  | .dcmp _ => h.execDcmp
  | .dchk _ => h.execDchk
  | .dneg _ => h.execDneg
  | .cvbd _ => h.execCvbd
  | .cvdb _ => h.execCvdb
  | .dshl _ => h.execDshl
  | .dshr _ => h.execDshr
  -- Events of a core
  | .reservedInstruction _ _ => h.execReservedInstruction
  | .takeInterrupt _ => h.execTakeInterrupt
  | .iciSend _ _ => h.execIciSend
  | .deviceResponse _ => h.execDeviceResponse
  | .deviceStoreLost _ => h.execDeviceStoreLost
  | .lostRead _ => h.execLostRead
  | .storePerformed _ _ => h.execStorePerformed
  | .holdEnd _ => h.execHoldEnd
  | .instructionRetry _ _ _ => h.execInstructionRetry
  | .machineCheckStoredData _ _ => h.execMachineCheckStoredData
  | .timerMatch _ _ => h.execTimerMatch
  -- Pool and Millrace (chapter 10)
  | .rds _ _ _ => h.execRds
  | .rdx _ _ _ => h.execRdx
  | .upg _ _ _ => h.execUpg
  | .hold _ _ => h.execHold
  | .rdna _ _ _ => h.execRdna
  | .wrna _ _ _ => h.execWrna
  | .wb _ _ _ => h.execWb
  | .evn _ _ => h.execEvn
  | .snps _ _ => h.execSnps
  | .snpi _ _ => h.execSnpi
  | .snpr _ _ => h.execSnpr
  | .binv _ _ => h.execBinv
  | .lineData _ _ => h.execLineData
  | .lineDataE _ _ => h.execLineDataE
  | .snpAck _ _ => h.execSnpAck
  | .snpData _ _ => h.execSnpData
  | .sliceAck _ _ => h.execSliceAck
  | .ackStale _ _ => h.execAckStale
  | .sliceRetry _ _ => h.execSliceRetry
  | .retryResend _ _ => h.execRetryResend
  | .tlbi _ _ => h.execTlbi
  | .tlba _ _ => h.execTlba
  | .linkAck _ _ => h.execLinkAck
  | .linkCrcError _ _ => h.execLinkCrcError
  | .victimRetry _ _ => h.execVictimRetry
  | .filteredModeChange _ => h.execFilteredModeChange
  | .hedgerowError _ _ => h.execHedgerowError
  | .wayDrainComplete _ _ => h.execWayDrainComplete
  | .poolwinLock => h.execPoolwinLock
  | .windowLockComplete => h.execWindowLockComplete
  | .rangeFlush => h.execRangeFlush
  | .rangePurge => h.execRangePurge
  | .rangeDone => h.execRangeDone
  -- Main memory (chapter 11)
  | .dramLineRead _ _ => h.execDramLineRead
  | .dramLineWrite _ _ => h.execDramLineWrite
  | .scrubLine _ _ => h.execScrubLine
  | .channelFail _ _ => h.execChannelFail
  | .memoryReady => h.execMemoryReady
  -- Channel subsystem (chapter 12)
  | .establish _ _ => h.execEstablish
  | .modify _ _ => h.execModify
  | .remove _ _ => h.execRemove
  | .ccwWrite _ => h.execCcwWrite
  | .ccwWriteCommitted _ => h.execCcwWriteCommitted
  | .ccwRead _ => h.execCcwRead
  | .ccwReadJournaled _ => h.execCcwReadJournaled
  | .ccwSendMessage _ => h.execCcwSendMessage
  | .ccwReceiveMessage _ => h.execCcwReceiveMessage
  | .controlClose _ => h.execControlClose
  | .controlAbort _ => h.execControlAbort
  | .controlQuery _ => h.execControlQuery
  | .controlPing _ => h.execControlPing
  | .controlPartner _ => h.execControlPartner
  | .ccwSense _ => h.execCcwSense
  | .ccwBranch _ => h.execCcwBranch
  | .ccwNop _ => h.execCcwNop
  | .heldCompletionWrite _ => h.execHeldCompletionWrite
  | .cqEnable _ _ => h.execCqEnable
  | .cqDisable _ _ => h.execCqDisable
  -- Journal records (chapters 12 and 18)
  | .journalReserve => h.execJournalReserve
  | .recordDurable _ => h.execRecordDurable
  | .recordRelease _ => h.execRecordRelease
  -- Transports and Ethernet (chapters 13 and 14)
  | .frameReceive _ _ => h.execFrameReceive
  | .scpOpen _ _ => h.execScpOpen
  | .scpOpenAck _ _ => h.execScpOpenAck
  | .scpData _ _ => h.execScpData
  | .scpAck _ _ => h.execScpAck
  | .scpNak _ _ => h.execScpNak
  | .scpClose _ _ => h.execScpClose
  | .scpCloseAck _ _ => h.execScpCloseAck
  | .scpKeepalive _ _ => h.execScpKeepalive
  | .scpFence _ _ => h.execScpFence
  | .scpFenceAck _ _ => h.execScpFenceAck
  | .scpError _ _ => h.execScpError
  | .openResend _ => h.execOpenResend
  | .keepaliveTimer _ => h.execKeepaliveTimer
  | .pathDead _ => h.execPathDead
  | .reopen _ => h.execReopen
  | .scpRetransmit _ => h.execScpRetransmit
  | .delayedAck _ => h.execDelayedAck
  | .fenceResend _ => h.execFenceResend
  | .tcpSegment _ _ => h.execTcpSegment
  | .tcpRetransmitTimeout _ => h.execTcpRetransmitTimeout
  | .linkDown _ _ => h.execLinkDown
  | .linkUp _ _ _ => h.execLinkUp
  | .pfcFrame _ _ _ => h.execPfcFrame
  | .pfcPauseExpiry _ _ => h.execPfcPauseExpiry
  | .announceRepeat _ => h.execAnnounceRepeat
  | .ethcfgWrite _ _ => h.execEthcfgWrite
  -- Compression (chapter 15)
  | .czSubmit _ _ => h.execCzSubmit
  | .czDescriptorFetch _ => h.execCzDescriptorFetch
  | .compress _ => h.execCompress
  | .decompress _ => h.execDecompress
  | .czComplete _ _ => h.execCzComplete
  | .czEnable _ _ => h.execCzEnable
  | .czDisable _ _ => h.execCzDisable
  -- Cipher, key pages and MACsec (chapter 16)
  | .keyLoad _ _ => h.execKeyLoad
  | .keyErase _ _ => h.execKeyErase
  | .keyEraseAll _ _ => h.execKeyEraseAll
  | .cxSubmit _ _ => h.execCxSubmit
  | .cxDescriptorFetch _ => h.execCxDescriptorFetch
  | .encrypt _ => h.execEncrypt
  | .decrypt _ => h.execDecrypt
  | .macTag _ => h.execMacTag
  | .macVerify _ => h.execMacVerify
  | .hashSha _ => h.execHashSha
  | .cxComplete _ _ => h.execCxComplete
  | .cxEnable _ _ => h.execCxEnable
  | .cxDisable _ _ => h.execCxDisable
  | .saInstall _ => h.execSaInstall
  | .saActivate _ => h.execSaActivate
  | .txAnSwitch _ => h.execTxAnSwitch
  | .saRetire _ => h.execSaRetire
  -- Weir (chapter 17)
  | .weirEvent _ => h.execWeirEvent
  | .windowRoll _ => h.execWindowRoll
  | .statusClear _ _ => h.execStatusClear
  | .logSelect _ => h.execLogSelect
  | .weirParityError _ => h.execWeirParityError
  | .safeState => h.execSafeState
  | .beatOverrun _ _ _ => h.execBeatOverrun
  -- Continuity: sparing, journal commands and the pair (chapter 18)
  | .spareCore _ => h.execSpareCore
  | .spareCp _ => h.execSpareCp
  | .rescue _ => h.execRescue
  | .dump _ => h.execDump
  | .retire _ => h.execRetire
  | .pairActive _ => h.execPairActive
  | .pairStandby _ => h.execPairStandby
  | .leave _ => h.execLeave
  | .promote _ => h.execPromote
  | .handover _ => h.execHandover
  | .coreSparing _ _ => h.execCoreSparing
  | .spareConfirmationFail _ => h.execSpareConfirmationFail
  | .cpSparing _ => h.execCpSparing
  | .selfTestPass _ _ => h.execSelfTestPass
  | .controlAreaWrite => h.execControlAreaWrite
  | .deltaShip => h.execDeltaShip
  | .heartbeatSend => h.execHeartbeatSend
  | .healthSend => h.execHealthSend
  | .heartbeat _ _ => h.execHeartbeat
  | .health _ => h.execHealth
  | .delta _ _ _ => h.execDelta
  | .deltaEnd _ _ _ => h.execDeltaEnd
  | .deltaAckSend => h.execDeltaAckSend
  | .deltaAck _ _ => h.execDeltaAck
  | .pairedEntry => h.execPairedEntry
  | .mirrorHorizonMiss _ => h.execMirrorHorizonMiss
  | .dyingGasp _ => h.execDyingGasp
  | .heartbeatLoss => h.execHeartbeatLoss
  | .takeoverConfirm _ => h.execTakeoverConfirm
  | .takeoverDeny _ => h.execTakeoverDeny
  | .soloGrant _ => h.execSoloGrant
  | .soloDeny _ => h.execSoloDeny
  | .safeReq _ => h.execSafeReq
  | .witnessResend => h.execWitnessResend
  | .takeover => h.execTakeover
  | .guardedRegionWrite _ _ => h.execGuardedRegionWrite
  -- Plant, time and power (chapters 19 and 22)
  | .beatBoundary => h.execBeatBoundary
  | .referenceLoss => h.execReferenceLoss
  | .referenceReturn => h.execReferenceReturn
  | .ppsEdge => h.execPpsEdge
  | .ppsLoss => h.execPpsLoss
  | .todSet => h.execTodSet
  | .todLoad => h.execTodLoad
  | .sensorSample _ _ => h.execSensorSample
  | .thermalLoop => h.execThermalLoop
  | .holdup _ => h.execHoldup
  | .powerStableChange => h.execPowerStableChange
  | .railWindowExit _ => h.execRailWindowExit
  | .powerDownAccept _ => h.execPowerDownAccept
  | .regulatorsOff => h.execRegulatorsOff
  | .powerSequence => h.execPowerSequence
  | .sequenceFail _ => h.execSequenceFail
  | .sequenceRetry => h.execSequenceRetry
  | .pwronFall => h.execPwronFall
  -- Resets, microcode and life cycle (chapters 9 and 21)
  | .coldReset _ _ => h.execColdReset
  | .warmReset _ _ => h.execWarmReset
  | .coreReset _ _ _ _ => h.execCoreReset
  | .mclVerify => h.execMclVerify
  | .verifyComplete => h.execVerifyComplete
  | .mclActivate => h.execMclActivate
  | .microcodeActivation => h.execMicrocodeActivation
  | .lcChange _ _ => h.execLcChange
  | .raiseBsvn _ _ => h.execRaiseBsvn
  | .raiseMsvn _ _ => h.execRaiseMsvn
  -- Slices (chapter 20)
  | .sliceEnable _ => h.execSliceEnable
  | .sliceFreeze _ => h.execSliceFreeze
  | .freezeComplete _ => h.execFreezeComplete
  | .sliceThaw _ => h.execSliceThaw
  | .sliceSave _ => h.execSliceSave
  | .sliceRestore _ => h.execSliceRestore
  | .sliceBusyEnd => h.execSliceBusyEnd
  | .sliceRelease _ => h.execSliceRelease
  -- Port accesses without a row of their own, supplies, keys
  | .readClear _ _ => h.execReadClear
  | .registerWrite _ _ _ => h.execRegisterWrite
  | .standbySupplyLoss rail => h.execStandbySupplyLoss (_rail := rail)
  | .standbySupplyOn => h.execStandbySupplyOn
  | .keySlotEccError _ _ => h.execKeySlotEccError

theorem step_canon {s t : State} (h : s.Canon) (ht : step s = .next t) : t.Canon := by
  have hs : OutCanon (step s) := by
    unfold step
    split
    · exact h
    next c rest _ => exact exec_canon h.upd
  rw [ht] at hs
  exact hs

/-- Settles O58: a command's operations put bytes in memory through `Mem.write` and its folds, filter it, or start it afresh, and all of these keep the form. -/
theorem memoryStaysCanonical : Obligations.MemoryStaysCanonical := fun _ _ => step_canon

end Sys2Proof.Machine
end

section
/-! SUPPORT. The microcode load, the switch of every core to an image that is activated, and the results of the life-cycle commands (R241 to R244, R500, R502, R504), which settle O56. -/

namespace Sys2Proof.Machine

section
variable {s u : State} {p : Patch} {n : Nat} {ns : List Nat}

/-! VERIFY and ACTIVATE, and the checks of an image. -/

theorem mclVerify_ignored (h : s.life.mclBusy = true ∨ s.life.mclActive = true) : s.mclVerify = s :=
  if_pos ((Bool.or_eq_true _ _).mpr h)

theorem mclVerify_starts (hb : s.life.mclBusy = false) (ha : s.life.mclActive = false) :
    s.mclVerify = { s with life := { s.life with mclBusy := true } } := by
  rw [State.mclVerify, hb, ha]
  rfl

theorem mclActivate_ignored (h : s.life.mclVerified = false ∨ s.life.mclActive = true) : s.mclActivate = s :=
  if_pos (by rcases h with h | h <;> simp [h])

theorem mclActivate_starts (hv : s.life.mclVerified = true) (ha : s.life.mclActive = false) :
    s.mclActivate = { s with life := { s.life with
      mclActive := true, mclDue := some s.beatc, mclNext := some { version := imgVersion s.life.buffer, image := s.life.buffer } } } := by
  rw [State.mclActivate, hv, ha]
  rfl

/-- Step 1 of R241 refuses an image without the magic number before any other check. -/
theorem checkImage_unmarked {f : Fuses} {bs : List Byte} (h : imgNat bs 0 4 ≠ 0x5A504D43) : checkImage f bs = 1 := by
  have hframe : imgFrame bs = 1 := by simp [imgFrame, h]
  rw [checkImage, hframe]
  rfl

/-- The checks that follow the framing, in the order of R241. -/
theorem checkImage_framed {f : Fuses} {bs : List Byte} (h : imgFrame bs = 0) : checkImage f bs =
    if imgSigned f.dkeyh bs = false then 3
    else if (imgNat bs 0x10 4).testBit Config.stepping = false then 4
    else if fld (imgVersion bs) 48 16 ≠ Config.romId then 5
    else if (fld (imgVersion bs) 8 8).toNat < f.msvn then 6
    else if imgWordsOk bs = false then 7 else 0 := by
  simp only [checkImage, h, ne_eq, not_true_eq_false, if_false, Bool.not_eq_true']

/-- VERIFY ends with the status of the buffer's checks, and VERIFIED says whether they passed (R243). -/
theorem verifyComplete_ends (hb : s.life.mclBusy = true) : execVerifyComplete s = .next { s with life := { s.life with
    mclBusy := false, mclStatus := checkImage s.life.fuses s.life.buffer, mclVerified := checkImage s.life.fuses s.life.buffer == 0 } } := by
  rw [execVerifyComplete, hb]
  rfl

/-! Activation at the boundary. -/

/-- A core that an activation does not wait for (R244, log 153). -/
def Core.gone (c : Core) : Prop := c.run = .absent ∨ c.run = .checkstopped

theorem Core.betweenInstrs_run {c : Core} (h : c.betweenInstrs = true) : c.run = .running ∨ c.run = .waiting ∨ c.run = .paused := by
  simp only [Core.betweenInstrs, Bool.and_eq_true, Bool.or_eq_true, beq_iff_eq, or_assoc] at h
  exact h.1.1.1.1

theorem Core.betweenInstrs_not_gone {c : Core} (h : c.betweenInstrs = true) : ¬c.gone := by
  rcases Core.betweenInstrs_run h with h | h | h <;> simp [Core.gone, h]

theorem Core.betweenInstrs_not_stalled {c : Core} (h : c.betweenInstrs = true) : c.run ≠ .stalled := by
  rcases Core.betweenInstrs_run h with h | h | h <;> simp [h]

theorem Core.gone_not_stalled {c : Core} (h : c.gone) : c.run ≠ .stalled := by
  rcases h with h | h <;> simp [h]

theorem State.any_stalled_iff : s.cores.any (fun c => c.run == .stalled) = true ↔ ∃ n, (s.core n).run = .stalled := by
  constructor
  · intro h
    obtain ⟨c, hc, hrun⟩ := List.any_eq_true.mp h
    obtain ⟨n, hn, rfl⟩ := List.getElem_of_mem hc
    exact ⟨n, by simpa [State.core, hn] using hrun⟩
  · rintro ⟨n, hrun⟩
    have hn : n < s.cores.length := State.core_lt (by rw [hrun]; decide)
    exact List.any_eq_true.mpr ⟨s.cores[n], List.getElem_mem hn, by simpa [State.core, hn] using hrun⟩

theorem fillCores_eq (g : Nat → Nat) (ns : List Nat) (l : Life) :
    ∃ cs : List ControlStore, ns.foldl (fun l i => l.fillCore (g i)) l = { l with coreStores := cs } ∧ cs.length = l.coreStores.length := by
  induction ns generalizing l with
  | nil => exact ⟨l.coreStores, rfl, rfl⟩
  | cons i ns ih =>
    obtain ⟨cs, hfold, hlen⟩ := ih (l.fillCore (g i))
    exact ⟨cs, hfold, hlen.trans (by simp [Life.fillCore, modAt])⟩

/-- The master copy after ACTIVATE is the image that it named, and no activation is due any more. -/
def Life.renamed (l : Life) : Life := { l with master := l.mclNext, mclNext := none, mclDue := none }

theorem activate_fills (l : Life) (slots : List Slot) : ∃ (ns : List Nat) (ps : List ControlStore),
    l.activate slots = { ns.foldl (fun l i => l.fillCore ((slots.map Slot.phys).getD i 52)) l.renamed with cpStores := ps } :=
  ⟨_, _, rfl⟩

/-- The image that ACTIVATE named becomes the master copy; beside it, only control stores change (R242). -/
theorem activate_eq (l : Life) (slots : List Slot) : ∃ cs ps : List ControlStore, cs.length = l.coreStores.length ∧
    l.activate slots = { l.renamed with coreStores := cs, cpStores := ps } := by
  obtain ⟨ns, ps, hfills⟩ := activate_fills l slots
  obtain ⟨cs, hfold, hlen⟩ := fillCores_eq (fun i => (slots.map Slot.phys).getD i 52) ns l.renamed
  exact ⟨cs, ps, hlen, by rw [hfills, hfold]⟩

/-- While the cores switch from state s on to image p: `ns` have still to switch, the others have done so or are gone, and the activation ends with the last of them (R244). -/
structure Switching (s u : State) (p : Patch) (ns : List Nat) : Prop where
  mem : u.mem = s.mem
  cores : u.cores.length = s.cores.length
  stores : u.life.coreStores.length = s.life.coreStores.length
  master : u.life.master = some p
  due : u.life.mclDue = none
  owed : u.life.toSwitch = ns
  ended : u.life.mclActive = false → ns = [] ∧ u.life.mclStatus = 0
  waiting : ∀ m, m ∈ ns ∨ (s.core m).gone → u.core m = s.core m
  switched : ∀ m, m ∉ ns → ¬(s.core m).gone →
    u.core m = { s.core m with mcver := p.version } ∧ ((s.core m).pcn < s.life.coreStores.length → u.store m = imgStore p.image)

theorem Switching.mclSettle (h : Switching s u p ns) : Switching s u.mclSettle p ns := by
  unfold State.mclSettle
  split
  case isTrue hall =>
    have hnone : ns = [] := by simpa [h.owed] using ((Bool.and_eq_true _ _).mp hall).2
    exact { h with ended := fun _ => ⟨hnone, rfl⟩ }
  case isFalse => exact h

theorem Switching.mclSettle_ended (h : Switching s u p []) : u.mclSettle.life.mclActive = false := by
  cases hactive : u.life.mclActive <;> simp [State.mclSettle, hactive, h.due, h.owed]

/-- Core n has taken the master copy (R242); whether the activation ends with it is settled afterwards. -/
def State.masterTaken (s : State) (n : Nat) : State :=
  (s.modCore n fun c => { c with mcver := s.life.masterVersion }).modLife
    fun l => { l.fillCore (s.core n).pcn with toSwitch := l.toSwitch.filter (· != n) }

theorem takeMaster_eq (s : State) (n : Nat) : s.takeMaster n = (s.masterTaken n).mclSettle := rfl

theorem masterTaken_core (hn : n < s.cores.length) : (s.masterTaken n).core n = { s.core n with mcver := s.life.masterVersion } :=
  s.modCore_core n _ hn

theorem masterTaken_other {m : Nat} (h : m ≠ n) : (s.masterTaken n).core m = s.core m := s.modCore_other n m _ h

theorem masterTaken_coreStores (s : State) (n : Nat) :
    (s.masterTaken n).life.coreStores = modAt s.life.coreStores (s.core n).pcn fun _ => s.life.masterStore := rfl

/-- The store of the core that switches holds the master copy. -/
theorem masterTaken_store (hn : n < s.cores.length) (hp : (s.core n).pcn < s.life.coreStores.length) :
    (s.masterTaken n).store n = s.life.masterStore := by
  rw [State.store, masterTaken_coreStores, masterTaken_core hn]
  simp [modAt, List.getD, hp]

/-- A core whose store holds the master copy keeps that store when another core takes the master copy, of whatever PCN. -/
theorem masterTaken_store_other {m : Nat} (h : m ≠ n) (hs : s.store m = s.life.masterStore) (hp : (s.core m).pcn < s.life.coreStores.length) :
    (s.masterTaken n).store m = s.life.masterStore := by
  rw [State.store, masterTaken_coreStores, masterTaken_other h]
  rw [State.store] at hs
  by_cases he : (s.core n).pcn = (s.core m).pcn
  · simp [modAt, List.getD, he, hp]
  · simpa [modAt, List.getD, he] using hs

theorem Switching.masterTaken (h : Switching s u p (n :: ns)) (hnodup : (n :: ns).Nodup) (hb : ¬(s.core n).gone) :
    Switching s (u.masterTaken n) p ns := by
  have hnew : n ∉ ns := (List.nodup_cons.mp hnodup).1
  have hcore : u.core n = s.core n := h.waiting n (.inl List.mem_cons_self)
  have hn : n < u.cores.length := h.cores ▸ State.core_lt fun hrun => hb (.inl hrun)
  have hversion : u.life.masterVersion = p.version := by rw [Life.masterVersion, h.master]
  have hstore : u.life.masterStore = imgStore p.image := by rw [Life.masterStore, h.master]
  refine {
    mem := h.mem, cores := ?_, stores := ?_, master := h.master, due := h.due, owed := ?_,
    ended := fun hoff => ?_, waiting := fun m hm => ?_, switched := fun m hm hgone => ?_ }
  · exact (State.modCore_length u n _).trans h.cores
  · rw [masterTaken_coreStores, modAt, List.length_modify, h.stores]
  · have hfilter : (n :: ns).filter (· != n) = ns := by
      rw [List.filter_cons_of_neg (by simp), List.filter_eq_self]
      exact fun m hm => by simpa using ne_of_mem_of_not_mem hm hnew
    exact (congrArg (List.filter (· != n)) h.owed).trans hfilter
  · exact absurd (h.ended hoff).1 (List.cons_ne_nil n ns)
  · have hne : m ≠ n := by
      rcases hm with hm | hm
      · exact ne_of_mem_of_not_mem hm hnew
      · exact fun he => hb (he ▸ hm)
    rw [masterTaken_other hne]
    exact h.waiting m (hm.imp_left (List.mem_cons_of_mem n))
  · by_cases he : m = n
    · subst he
      rw [masterTaken_core hn, hcore, hversion]
      refine ⟨rfl, fun hp => ?_⟩
      rw [masterTaken_store hn (by rwa [hcore, h.stores]), hstore]
    · obtain ⟨hmcore, hmstore⟩ := h.switched m (List.mem_cons.not.mpr (not_or.mpr ⟨he, hm⟩)) hgone
      rw [masterTaken_other he]
      refine ⟨hmcore, fun hp => ?_⟩
      rw [masterTaken_store_other he (by rw [hmstore hp, hstore]) (by rwa [hmcore, h.stores]), hstore]

theorem Switching.switchDue (h : Switching s u p (n :: ns)) (hnodup : (n :: ns).Nodup) (hb : (s.core n).betweenInstrs = true) :
    Switching s (u.switchDue n) p ns := by
  have hcore : u.core n = s.core n := h.waiting n (.inl List.mem_cons_self)
  have hdue : (u.life.toSwitch.contains n && (u.core n).betweenInstrs) = true := by simp [h.owed, hcore, hb]
  rw [State.switchDue, if_pos hdue, takeMaster_eq]
  exact (h.masterTaken hnodup (Core.betweenInstrs_not_gone hb)).mclSettle

/-- When every core that has to switch stands at a boundary, all of them switch. -/
theorem Switching.foldl_switchDue (h : Switching s u p ns) (hnodup : ns.Nodup) (hb : ∀ m ∈ ns, (s.core m).betweenInstrs = true) :
    Switching s (ns.foldl State.switchDue u) p [] := by
  induction ns generalizing u with
  | nil => exact h
  | cons n ns ih =>
    exact ih (h.switchDue hnodup (hb n List.mem_cons_self)) (List.nodup_cons.mp hnodup).2 fun m hm => hb m (List.mem_cons_of_mem n hm)

/-- The cores that an activation has to switch (R244). -/
def State.mustSwitch (s : State) : List Nat := (List.range 48).filter fun n => (s.core n).run != .absent && (s.core n).run != .checkstopped

theorem State.mem_mustSwitch (s : State) (n : Nat) : n ∈ s.mustSwitch ↔ n < 48 ∧ ¬(s.core n).gone := by
  simp [State.mustSwitch, Core.gone]

theorem State.mustSwitch_nodup (s : State) : s.mustSwitch.Nodup := List.nodup_range.filter _

/-- The master copy is the new image, and every core that is not gone has still to switch to it. -/
def State.activated (s : State) : State := s.modLife fun l => { l.activate s.ct.slots with toSwitch := s.mustSwitch }

theorem activated_switching (hp : s.life.mclNext = some p) (ha : s.life.mclActive = true) (hlen : s.cores.length = 48) :
    Switching s s.activated p s.mustSwitch := by
  obtain ⟨cs, ps, hstores, hlife⟩ := activate_eq s.life s.ct.slots
  have he : s.activated.life = { s.life.renamed with coreStores := cs, cpStores := ps, toSwitch := s.mustSwitch } := by
    rw [State.activated, State.modLife_life, hlife]
  refine {
    mem := rfl, cores := rfl, stores := he ▸ hstores, master := he ▸ hp, due := he ▸ rfl, owed := he ▸ rfl,
    ended := fun hoff => ?_, waiting := fun m _ => rfl, switched := fun m hm hgone => ?_ }
  · rw [he] at hoff
    exact absurd (ha.symm.trans hoff) (by decide)
  · refine absurd ((s.mem_mustSwitch m).mpr ⟨?_, hgone⟩) hm
    exact hlen ▸ State.core_lt fun hrun => hgone (.inl hrun)

section
variable {b : Word} (hdue : s.life.mclDue = some b) (hb : 1 ≤ s.since b) (hsafe : s.weir.safe = false)

include hb hsafe in
theorem activation_acts : (decide (s.since b < 1) || s.weir.safe) = false := by
  rw [hsafe, Bool.or_false, decide_eq_false (Nat.not_lt.mpr hb)]

include hdue hb hsafe

/-- A stalled core stops the activation (R244). -/
theorem microcodeActivation_stops (h : ∃ n, (s.core n).run = .stalled) : execMicrocodeActivation s =
    .next (s.modLife fun l => { l with mclStatus := 8, mclActive := false, mclDue := none, mclNext := none }) := by
  simp only [execMicrocodeActivation, hdue, activation_acts hb hsafe, State.any_stalled_iff.mpr h, Bool.false_eq_true, if_false, if_true]

theorem microcodeActivation_switches (h : ∀ n, (s.core n).run ≠ .stalled) :
    execMicrocodeActivation s = .next (s.mustSwitch.foldl State.switchDue s.activated).mclSettle := by
  have hnone : s.cores.any (fun c => c.run == .stalled) = false := Bool.eq_false_iff.mpr fun ht => (State.any_stalled_iff.mp ht).elim h
  simp only [execMicrocodeActivation, hdue, activation_acts hb hsafe, hnone, Bool.false_eq_true, if_false]
  rfl

end

/-! The life cycle. -/

/-- CHANGE with another result than 0 leaves the answer alone. -/
theorem lcChange_refused {confirm : Word32} {target : BitVec 3} {r : Byte} (hv : s.lcVerdict confirm (lcTargetAt target) = r) (hr : r ≠ 0) :
    s.lcChange confirm target = s.lcAnswer target r := by
  simp only [State.lcChange, hv, hr, false_and, if_false]

theorem lcVerdict_unconfirmed {confirm : Word32} (h : confirm ≠ lcConfirm) (b : Nat) : s.lcVerdict confirm b = 1 := if_pos h

/-- A confirmed CHANGE that R500 does not permit, or for which no fuse is left (R504). -/
theorem lcVerdict_forbidden {b : Nat}
    (h : lcPermitted s.life.fuses.state b = false ∨ s.life.fuses.state = 2 ∧ b = 3 ∧ 254 < s.life.fuses.svc) : s.lcVerdict lcConfirm b = 2 := by
  rw [State.lcVerdict, if_neg (not_not.mpr rfl), if_pos]
  rcases h with h | ⟨ha, hb, hsvc⟩
  · simp [h]
  · simp [ha, hb, hsvc]

/-- The verdict on SERVICE from OPERATIONAL with a fuse left depends on the pair alone (R504). -/
theorem lcVerdict_service (ha : s.life.fuses.state = 2) (hsvc : s.life.fuses.svc ≤ 254) :
    s.lcVerdict lcConfirm 3 = if s.ct.pstate ≠ .solo then 3 else 0 := by
  simp [State.lcVerdict, ha, lcPermitted, Nat.not_lt.mpr hsvc]

/-- PROVISIONED needs the digest of the operator's key (R504). -/
theorem lcVerdict_keyless (ha : s.life.fuses.state = 0) (hkey : s.life.okeyh = 0) : s.lcVerdict lcConfirm 1 = 4 := by
  simp [State.lcVerdict, ha, hkey, lcPermitted]

/-- An accepted CHANGE is noted with its beat, and safe state follows at the next boundary (R502). -/
theorem lcChange_starts {confirm : Word32} {target : BitVec 3} (hv : s.lcVerdict confirm (lcTargetAt target) = 0) (hc : s.life.change = none)
    (hsafe : s.weir.safe = false) (hnext : s.weir.safeNext = none) : s.lcChange confirm target = { s with
      life := { s.life with lcTarget := target, lcResult := 0, change := some { target := lcTargetAt target, beat := s.beatc } },
      weir := { s.weir with safeNext := some s.beatc } } := by
  have hnone : (s.lcAnswer target 0).life.change = none := hc
  simp only [State.lcChange, hv, hnone, and_self, if_true]
  exact decideSafe_decides hsafe hnext

theorem lcRaise_unconfirmed {confirm : Word32} (h : confirm ≠ lcConfirm) (target : BitVec 3) (microcode : Bool) :
    s.lcRaise confirm target microcode = s.lcAnswer target 1 := if_pos h

/-- With its 64 fuses blown a version cannot rise (R504). -/
theorem lcRaise_exhausted (target : BitVec 3) {microcode : Bool} (h : 64 ≤ if microcode then s.life.fuses.msvn else s.life.fuses.bsvn) :
    s.lcRaise lcConfirm target microcode = s.lcAnswer target 5 := by
  rw [State.lcRaise, if_neg (not_not.mpr rfl), if_pos h]

theorem lcRaise_raises (target : BitVec 3) {microcode : Bool} (h : (if microcode then s.life.fuses.msvn else s.life.fuses.bsvn) < 64) :
    s.lcRaise lcConfirm target microcode = (s.lcAnswer target 0).modLife fun l =>
      { l with fuses := if microcode then { l.fuses with msvn := l.fuses.msvn + 1 } else { l.fuses with bsvn := l.fuses.bsvn + 1 } } := by
  rw [State.lcRaise, if_neg (not_not.mpr rfl), if_neg (Nat.not_le.mpr h)]

section
variable {confirm : BitVec 32} {target : BitVec 3} (hsafe : s.weir.safe = false)
include hsafe

/-! Outside safe state the commands act (R414). -/

theorem exec_lcChange_acts : exec (.lcChange confirm target) s = .next (s.lcChange confirm target) := by
  rw [exec_lcChange, execLcChange, hsafe]
  rfl

theorem exec_raiseBsvn_acts : exec (.raiseBsvn confirm target) s = .next (s.lcRaise confirm target false) := by
  rw [exec_raiseBsvn, execRaiseBsvn, hsafe]
  rfl

theorem exec_raiseMsvn_acts : exec (.raiseMsvn confirm target) s = .next (s.lcRaise confirm target true) := by
  rw [exec_raiseMsvn, execRaiseMsvn, hsafe]
  rfl

end

end

/-- Activation of image p when every core that is not gone stands at a boundary: all of them switch, and the activation ends (R244). -/
theorem microcodeActivation_all {s : State} {p : Patch} {b : Word} (hdue : s.life.mclDue = some b) (ha : s.life.mclActive = true)
    (hb : 1 ≤ s.since b) (hsafe : s.weir.safe = false) (hp : s.life.mclNext = some p) (hlen : s.cores.length = 48)
    (hall : ∀ n, (s.core n).gone ∨ (s.core n).betweenInstrs = true) :
    ∃ t, execMicrocodeActivation s = .next t ∧ t.life.mclActive = false ∧ Switching s t p [] := by
  have hboundary : ∀ m ∈ s.mustSwitch, (s.core m).betweenInstrs = true := fun m hm => (hall m).resolve_left ((s.mem_mustSwitch m).mp hm).2
  have hnone : ∀ n, (s.core n).run ≠ .stalled := fun n => (hall n).elim Core.gone_not_stalled Core.betweenInstrs_not_stalled
  have hswitched := (activated_switching hp ha hlen).foldl_switchDue s.mustSwitch_nodup hboundary
  exact ⟨_, microcodeActivation_switches hdue hb hsafe hnone, hswitched.mclSettle_ended, hswitched.mclSettle⟩

theorem microcodeLoad : Claim.MicrocodeLoad := by
  intro s l
  refine ⟨fun hl hb ha => ?_, fun h => ?_, fun hb => ?_, fun hl hv ha => ?_, fun h => ?_, fun b hdue ha hb hsafe => ⟨fun h => ?_, fun p hp hlen hall => ?_⟩⟩
  · rw [exec_mclVerify, execMclVerify, portRow, if_pos hl, mclVerify_starts hb ha]
  · rw [exec_mclVerify, execMclVerify, portRow, mclVerify_ignored h, ite_self]
  · refine ⟨_, verifyComplete_ends hb, rfl, beq_iff_eq, rfl, rfl, fun h => ?_, fun h => ?_⟩
    · exact checkImage_unmarked h
    · exact checkImage_framed h
  · rw [exec_mclActivate, execMclActivate, portRow, if_pos hl, mclActivate_starts hv ha]
  · rw [exec_mclActivate, execMclActivate, portRow, mclActivate_ignored h, ite_self]
  · obtain ⟨n, -, hrun⟩ := h
    exact ⟨_, microcodeActivation_stops hdue hb hsafe ⟨n, hrun⟩, rfl, rfl, rfl, rfl⟩
  · obtain ⟨t, ht, hoff, hswitched⟩ := microcodeActivation_all hdue ha hb hsafe hp hlen fun n => or_assoc.mpr (hall n)
    refine ⟨t, ht, hoff, (hswitched.ended hoff).2, hswitched.master, hswitched.mem, fun n => ?_⟩
    by_cases hgone : (s.core n).gone
    · exact ⟨(hswitched.waiting n (.inr hgone)).trans (if_pos hgone).symm, fun hnot => absurd hgone hnot⟩
    · obtain ⟨hcore, hstore⟩ := hswitched.switched n List.not_mem_nil hgone
      exact ⟨hcore.trans (if_neg hgone).symm, fun _ => hstore⟩

theorem lifeCycleCommands : Claim.LifeCycleCommands := by
  intro s confirm target hsafe f yields
  have hrefused {c : BitVec 32} {r : Byte} (hv : s.lcVerdict c (lcTargetAt target) = r) (hr : r ≠ 0) : yields (.lcChange c target) r := by
    dsimp only [yields]
    rw [exec_lcChange_acts hsafe, lcChange_refused hv hr]
    rfl
  refine ⟨fun h => ⟨?_, ?_, ?_⟩, fun ha ht => ?_, fun ha hsvc ht => ?_, fun ha hsvc ht hpair => ?_, fun ha ht _ hkey => ?_,
    fun ha hsvc ht hsolo hc hnext => ?_, fun h => ?_, fun h => ?_, fun h => ?_, fun h => ?_⟩
  · exact hrefused (lcVerdict_unconfirmed h _) (by decide)
  · exact (exec_raiseBsvn_acts hsafe).trans (congrArg Host.Outcome.next (lcRaise_unconfirmed h target false))
  · exact (exec_raiseMsvn_acts hsafe).trans (congrArg Host.Outcome.next (lcRaise_unconfirmed h target true))
  · refine hrefused (lcVerdict_forbidden (.inl ?_)) (by decide)
    rw [show s.life.fuses.state = 2 from ha]
    rcases ht with rfl | rfl | rfl <;> rfl
  · exact hrefused (lcVerdict_forbidden (.inr ⟨ha, by rw [ht]; rfl, hsvc⟩)) (by decide)
  · have hv : s.lcVerdict lcConfirm (lcTargetAt target) = 3 := by
      rw [ht]
      exact (lcVerdict_service ha hsvc).trans (if_pos hpair)
    exact hrefused hv (by decide)
  · have hv : s.lcVerdict lcConfirm (lcTargetAt target) = 4 := by
      rw [ht]
      exact lcVerdict_keyless ha hkey
    exact hrefused hv (by decide)
  · have hv : s.lcVerdict lcConfirm (lcTargetAt target) = 0 := by
      rw [ht]
      exact (lcVerdict_service ha hsvc).trans (if_neg (not_not.mpr hsolo))
    refine ⟨_, (exec_lcChange_acts hsafe).trans (congrArg Host.Outcome.next (lcChange_starts hv hc hsafe hnext)), rfl, ?_, rfl, rfl⟩
    rw [ht]
    rfl
  · exact (exec_raiseBsvn_acts hsafe).trans (congrArg Host.Outcome.next (lcRaise_exhausted target h))
  · exact ⟨_, (exec_raiseBsvn_acts hsafe).trans (congrArg Host.Outcome.next (lcRaise_raises target h)), rfl, rfl⟩
  · exact (exec_raiseMsvn_acts hsafe).trans (congrArg Host.Outcome.next (lcRaise_exhausted target h))
  · exact ⟨_, (exec_raiseMsvn_acts hsafe).trans (congrArg Host.Outcome.next (lcRaise_raises target h)), rfl, rfl⟩

/-- Settles O56: each check of VERIFY decides its status, an activated image reaches every core that stands at a boundary, and each life-cycle command has its result and its effect. -/
theorem microcodeAndLifeCycle : Obligations.MicrocodeAndLifeCycle := ⟨microcodeLoad, lifeCycleCommands⟩

end Sys2Proof.Machine
end

section
/-! SUPPORT. Messages that are sent and carried, and the snoops of a transaction: what they leave of the state, and when two states put the same on the rings (R18, R253 to R255). -/

namespace Sys2Proof.Machine

/-! What the rings alone make different. -/

/-- The state with other messages on the rings and other sequence numbers on the links. -/
def State.withRings (s : State) (fs : List Flight) (ls : List Nat) : State := s.modPool fun p => { p with flights := fs, links := ls }

/-- A state that differs from another at most in what the rings carry. -/
def OnlyRings (s t : State) : Prop := ∃ fs ls, t = s.withRings fs ls

section
variable {s t u : State}

theorem OnlyRings.refl (s : State) : OnlyRings s s := ⟨s.pool.flights, s.pool.links, rfl⟩

theorem OnlyRings.trans (h : OnlyRings s t) (h' : OnlyRings t u) : OnlyRings s u := by
  obtain ⟨_, _, rfl⟩ := h
  obtain ⟨fs, ls, rfl⟩ := h'
  exact ⟨fs, ls, rfl⟩

theorem OnlyRings.mem (h : OnlyRings s t) : t.mem = s.mem := by obtain ⟨_, _, rfl⟩ := h; rfl
theorem OnlyRings.weir (h : OnlyRings s t) : t.weir = s.weir := by obtain ⟨_, _, rfl⟩ := h; rfl
theorem OnlyRings.dir (h : OnlyRings s t) : t.pool.dir = s.pool.dir := by obtain ⟨_, _, rfl⟩ := h; rfl
theorem OnlyRings.txns (h : OnlyRings s t) : t.pool.txns = s.pool.txns := by obtain ⟨_, _, rfl⟩ := h; rfl
theorem OnlyRings.queue (h : OnlyRings s t) : t.pool.queue = s.pool.queue := by obtain ⟨_, _, rfl⟩ := h; rfl
theorem OnlyRings.evict (h : OnlyRings s t) : t.pool.evict = s.pool.evict := by obtain ⟨_, _, rfl⟩ := h; rfl
theorem OnlyRings.filt (h : OnlyRings s t) : t.pool.filt = s.pool.filt := by obtain ⟨_, _, rfl⟩ := h; rfl
theorem OnlyRings.dirEntry (h : OnlyRings s t) (line : Nat) : t.dirEntry line = s.dirEntry line := by obtain ⟨_, _, rfl⟩ := h; rfl
theorem OnlyRings.agentState (h : OnlyRings s t) (a line : Nat) : t.agentState a line = s.agentState a line := by obtain ⟨_, _, rfl⟩ := h; rfl

end

section
variable (s : State) (src dst : Nat) (m : PoolMsg)

theorem State.send_onlyRings : OnlyRings s (s.send src dst m) := by
  obtain ⟨fs, ls, h⟩ := s.send_pool src dst m
  exact ⟨fs, ls, congrArg (fun p => { s with pool := p }) h⟩

theorem State.carry_onlyRings : OnlyRings s (s.carry src dst m) := by
  obtain ⟨fs, ls, h⟩ := s.pool.launch_cases src (s.pool.ringFor src dst) (ringDist (s.pool.ringFor src dst) src dst) [] m
  exact ⟨fs, ls, congrArg (fun p => { s with pool := p }) h⟩

theorem State.broadcast_onlyRings (answering : List Nat) : OnlyRings s (s.broadcast src answering m) := by
  unfold State.broadcast State.modPool
  dsimp only
  split_ifs
  · obtain ⟨fs, ls, h⟩ := s.pool.launch_cases src .cw 42 (answering.filter fun d => s.pool.ringFor src d == .cw) m
    obtain ⟨fs', ls', h'⟩ := Pool.launch_cases { s.pool with flights := fs, links := ls } src .ccw 41 (answering.filter fun d => s.pool.ringFor src d == .ccw) m
    exact ⟨fs', ls', congrArg (fun p => { s with pool := p }) ((congrArg (Pool.launch · src .ccw 41 _ m) h).trans h')⟩
  · obtain ⟨fs, ls, h⟩ := s.pool.launch_cases src (s.pool.ringFor src src) 83 answering m
    exact ⟨fs, ls, congrArg (fun p => { s with pool := p }) h⟩

/-- A carried message has arrived: no other message is under way for it. -/
theorem State.carry_flying (f : PoolMsg → Bool) : (s.carry src dst m).flying f = s.flying f := by
  unfold State.flying State.carry State.modPool Pool.launch Pool.countLinks
  dsimp only
  split_ifs
  · rfl
  · simp

end

/-! States that put the same on the rings. -/

/-- Two states whose rings carry the same and are in service alike: what one sends from now on, so does the other. -/
structure SameRings (s t : State) : Prop where
  flights : t.pool.flights = s.pool.flights
  links : t.pool.links = s.pool.links
  cw : t.pool.cw = s.pool.cw
  ccw : t.pool.ccw = s.pool.ccw

section
variable {s t : State}

theorem SameRings.refl (s : State) : SameRings s s := ⟨rfl, rfl, rfl, rfl⟩

theorem SameRings.ringFor (h : SameRings s t) (src dst : Nat) : t.pool.ringFor src dst = s.pool.ringFor src dst := by
  rw [Pool.ringFor, h.cw, h.ccw, Pool.ringFor]

/-- One message more on the same ring. -/
theorem SameRings.launch (h : SameRings s t) (src : Nat) (r : Ring) (len : Nat) (dests : List Nat) (m : PoolMsg) :
    SameRings (s.modPool fun p => p.launch src r len dests m) (t.modPool fun p => p.launch src r len dests m) := by
  have hcopies : t.pool.pathCopies r src len = s.pool.pathCopies r src len := by rw [Pool.pathCopies, h.links, Pool.pathCopies]
  have hlinks : (t.pool.countLinks r src len).links = (s.pool.countLinks r src len).links := by simp only [Pool.countLinks, h.links]
  simp only [State.modPool, Pool.launch, hcopies]
  split_ifs
  · exact ⟨h.flights, hlinks, h.cw, h.ccw⟩
  · exact ⟨congrArg (· ++ _) h.flights, hlinks, h.cw, h.ccw⟩

theorem SameRings.send (h : SameRings s t) (src dst : Nat) (m : PoolMsg) : SameRings (s.send src dst m) (t.send src dst m) := by
  have hsend : t.send src dst m = t.modPool fun p => p.launch src (s.pool.ringFor src dst) (ringDist (s.pool.ringFor src dst) src dst) [dst] m := by
    rw [← h.ringFor]
    rfl
  rw [hsend]
  exact h.launch ..

theorem SameRings.sendAll (h : SameRings s t) (src : Nat) (m : PoolMsg) (agents : List Nat) :
    SameRings (agents.foldl (fun s a => s.send src (agentStation a) m) s) (agents.foldl (fun s a => s.send src (agentStation a) m) t) := by
  induction agents generalizing s t with
  | nil => exact h
  | cons a agents ih => exact ih (h.send src (agentStation a) m)

theorem SameRings.broadcast (h : SameRings s t) (src : Nat) (answering : List Nat) (m : PoolMsg) :
    SameRings (s.broadcast src answering m) (t.broadcast src answering m) := by
  simp only [State.broadcast, State.modPool, h.cw, h.ccw, h.ringFor]
  split_ifs
  · exact (h.launch src .cw 42 _ m).launch src .ccw 41 _ m
  · exact h.launch src _ 83 answering m

/-- A state that has sent one message more than u put on the rings what u would have. -/
theorem SameRings.sent (h : SameRings s t) (src dst : Nat) (m : PoolMsg) : Sent s (t.send src dst m) src dst m :=
  have hsend := h.send src dst m
  ⟨hsend.flights, hsend.links⟩

end

/-! The snoops of a transaction (R254, R255). -/

/-- A snoop of a line that some agents are to answer: one broadcast in normal service, a message to each of them in filtered mode. -/
def State.snoopAll (s : State) (line : Nat) (k : SnoopKind) (await : List Nat) : State :=
  if s.pool.filt then await.foldl (fun s a => s.send (homeStation line) (agentStation a) (.snoop k line)) s
  else s.broadcast (homeStation line) (await.map agentStation) (.snoop k line)

/-- The state with one transaction more at the slice of a line. -/
def State.withTxn (s : State) (line : Nat) (req : Option PoolReq) (k : SnoopKind) (await : List Nat) : State :=
  s.modPool fun p => { p with txns := { line := line, req := req, snoop := k, await := await, filtered := p.filt } :: p.txns }

section
variable (s : State) (line : Nat) (req : Option PoolReq) (k : SnoopKind) (await : List Nat)

theorem State.openTxn_eq : s.openTxn line req k await = (s.withTxn line req k await).snoopAll line k await := rfl

theorem State.sendAll_onlyRings (src : Nat) (m : PoolMsg) : ∀ (s : State) (agents : List Nat), OnlyRings s (agents.foldl (fun s a => s.send src (agentStation a) m) s)
  | s, [] => .refl s
  | s, a :: agents => (s.send_onlyRings src (agentStation a) m).trans (State.sendAll_onlyRings src m _ agents)

theorem State.snoopAll_onlyRings : OnlyRings s (s.snoopAll line k await) := by
  unfold State.snoopAll
  split_ifs
  · exact State.sendAll_onlyRings ..
  · exact s.broadcast_onlyRings ..

theorem State.openTxn_mem : (s.openTxn line req k await).mem = s.mem := (State.snoopAll_onlyRings (s.withTxn line req k await) ..).mem

theorem State.openTxn_weir : (s.openTxn line req k await).weir = s.weir := (State.snoopAll_onlyRings (s.withTxn line req k await) ..).weir

theorem SameRings.snoopAll {s t : State} (h : SameRings s t) (hfilt : t.pool.filt = s.pool.filt) : SameRings (s.snoopAll line k await) (t.snoopAll line k await) := by
  rw [State.snoopAll, State.snoopAll, hfilt]
  split_ifs
  · exact h.sendAll ..
  · exact h.broadcast ..

/-- An opened transaction snoops the agents that it awaits. -/
theorem SameRings.snooped {s t : State} (h : SameRings s t) (hfilt : t.pool.filt = s.pool.filt) : Snooped s (t.openTxn line req k await) line k await :=
  have htxn : SameRings s (t.withTxn line req k await) := ⟨h.flights, h.links, h.cw, h.ccw⟩
  have hsnoop := htxn.snoopAll line k await hfilt
  ⟨hsnoop.flights, hsnoop.links⟩

end

end Sys2Proof.Machine
end

section
/-! SUPPORT. Requests at the home slice of a line that is valid in the Pool (R249 to R251, R254, R257, R259, R264, R435), which settle O28. -/

namespace Sys2Proof.Machine

/-! The directory entry of a line (R246, R255). -/

section
variable {s t : State} {line a w : Nat} {e : DirEntry} {f : DirEntry → DirEntry} {pv : List Nat} {x : Bool} {st : AgentState}

theorem State.dirEntry_line (h : s.dirEntry line = some e) : e.line = line := by simpa using List.find?_some h

/-- The entry of a line after a change of it. -/
theorem State.modDir_some (hf : ∀ e, (f e).line = e.line) (h : s.dirEntry line = some e) : (s.modDir line f).dirEntry line = some (f e).write := by
  rw [State.modDir_dirEntry _ _ _ hf, h, Option.map_some]

theorem DirEntry.tag_fields (e : DirEntry) (a w : Nat) (st : AgentState) :
    ∃ hedge, e.tag a w st = { e with hedge := hedge } := by
  unfold DirEntry.tag
  split_ifs
  · exact ⟨_, rfl⟩
  · exact ⟨e.hedge, rfl⟩

theorem EntryIs.congr (h : EntryIs s e pv x) (hdir : t.pool.dir = s.pool.dir) : EntryIs t e pv x := by
  rw [EntryIs, State.dirEntry_congr hdir]
  exact h

/-- PV, X and the Hedgerow entry of an agent written for its grant (R251, R255). -/
theorem State.modDir_entryIs (h : s.dirEntry line = some e) (pvOf : DirEntry → List Nat) :
    EntryIs (s.modDir line fun e => (e.setPv (pvOf e) x).tag a w st) e (pvOf e) x := by
  have hline : ∀ e : DirEntry, ((e.setPv (pvOf e) x).tag a w st).line = e.line := fun e => by
    obtain ⟨_, hh⟩ := (e.setPv (pvOf e) x).tag_fields a w st
    rw [hh]
    rfl
  have hentry := State.modDir_some hline h
  obtain ⟨_, hh⟩ := (e.setPv (pvOf e) x).tag_fields a w st
  rw [hh] at hentry
  rw [EntryIs, State.dirEntry_line h]
  exact ⟨_, hentry, rfl, rfl, rfl, rfl, rfl, rfl⟩

end

/-! The way of an agent's cache (R249). -/

section
variable {s t : State} {a line w : Nat} {st : AgentState}

theorem State.find?_held (h : s.agentState a line = some st) : ∃ x, s.pool.agents.find? (fun x => x.agent == a && x.line == line) = some x ∧ x.st = st :=
  Option.map_eq_some_iff.mp h

/-- An agent that lacks the line gets it in the lowest free way. -/
theorem State.placeCopy_free (hs : s.agentState a line = none) (hw : s.freeWay a line = some w) : s.placeCopy a line = some (w, s) := by
  have hnone : s.pool.agents.find? (fun x => x.agent == a && x.line == line) = none := Option.map_eq_none_iff.mp hs
  have hfree : (List.range 16).find? (fun w => !s.wayTaken a line w) = some w := hw
  simp only [State.placeCopy, hnone, hfree]

/-- An agent that has the line keeps it where it is. -/
theorem State.placeCopy_held (h : s.agentState a line = some st) : ∃ w, s.placeCopy a line = some (w, s) := by
  obtain ⟨x, hx, -⟩ := State.find?_held h
  exact ⟨x.way, by simp only [State.placeCopy, hx]⟩

/-- A way is free as the copies, the array test and the grants under way leave it. -/
theorem State.freeWay_congr (hagents : t.pool.agents = s.pool.agents) (htest : t.pool.atest = s.pool.atest) (hflying : ∀ f, t.flying f = s.flying f) :
    t.freeWay a line = s.freeWay a line := by
  simp only [State.freeWay, State.wayTaken, State.wayTested, State.setCopies, hagents, htest, hflying]

theorem State.carry_freeWay (src dst : Nat) (m : PoolMsg) : (s.carry src dst m).freeWay a line = s.freeWay a line := by
  have hflying := s.carry_flying src dst m
  obtain ⟨fs, ls, h⟩ := s.carry_onlyRings src dst m
  exact State.freeWay_congr (by rw [h]; rfl) (by rw [h]; rfl) hflying

end

/-! The grants (R251, R264). -/

/-- The answer m to a request r, with what the directory says of its line from then on. -/
structure Granted (u t : State) (r : PoolReq) (m : PoolMsg) (e : DirEntry) (pv : List Nat) (excl : Bool) : Prop where
  sent : Sent u t (homeStation r.line) (agentStation r.agent) m
  entry : EntryIs t e pv excl
  mem : t.mem = u.mem
  txns : t.pool.txns = u.pool.txns
  queue : t.pool.queue = u.pool.queue

section
variable {s : State} {r : PoolReq} {e : DirEntry} {w : Nat}

/-- The directory written for a grant, and the answer sent. -/
theorem State.modDir_granted (he : s.dirEntry r.line = some e) (pvOf : DirEntry → List Nat) (excl : Bool) (st : AgentState) (m : PoolMsg) :
    Granted s ((s.modDir r.line fun e => (e.setPv (pvOf e) excl).tag r.agent w st).send (homeStation r.line) (agentStation r.agent) m) r m e (pvOf e) excl :=
  have hrings : SameRings s (s.modDir r.line fun e => (e.setPv (pvOf e) excl).tag r.agent w st) := ⟨rfl, rfl, rfl, rfl⟩
  ⟨hrings.sent _ _ m, (State.modDir_entryIs he pvOf).congr (State.send_dir ..), rfl, State.send_txns .., State.send_queue ..⟩

/-- An agent that lacks the line gets it in its free way: alone after an exclusive grant, beside the other holders after a shared one. -/
theorem State.grantCopy_granted (hs : s.agentState r.agent r.line = none) (hw : s.freeWay r.agent r.line = some w) (he : s.dirEntry r.line = some e) (excl : Bool) :
    Granted s (s.grantCopy r excl) r (.data r.agent r.line excl w) e (if excl then [r.agent] else r.agent :: e.pv.filter (· != r.agent)) excl := by
  simp only [State.grantCopy, State.placeCopy_free hs hw]
  cases excl with
  | true => exact State.modDir_granted he (fun _ => [r.agent]) true .e _
  | false => exact State.modDir_granted he (fun e => r.agent :: e.pv.filter (· != r.agent)) false .s _

/-- The only holder gets write permission without data. -/
theorem State.grantUpg_granted {st : AgentState} (hs : s.agentState r.agent r.line = some st) (he : s.dirEntry r.line = some e) :
    Granted s (s.grantUpg r) r (.ackUpg r.agent r.line) e [r.agent] true := by
  obtain ⟨w, hw⟩ := State.placeCopy_held hs
  simp only [State.grantUpg, hw]
  exact State.modDir_granted he (fun _ => [r.agent]) true .e _

theorem State.readCopy_good (h : r.bad = false) : s.readCopy r = s := by
  unfold State.readCopy
  split
  · rw [if_neg (by simp [h])]
  · rfl

/-- The only good copy of a line cannot be read: it is poisoned, or was before (R264). -/
theorem State.readCopy_bad (hbad : r.bad = true) (he : s.dirEntry r.line = some e) (hd : e.d = true) :
    ∃ e', (s.readCopy r).dirEntry r.line = some e' ∧ e'.p = true ∧ (s.readCopy r).mem = s.mem ∧
      (s.readCopy r).agentState r.agent r.line = s.agentState r.agent r.line ∧ (s.readCopy r).freeWay r.agent r.line = s.freeWay r.agent r.line := by
  cases hp : e.p with
  | true =>
    have hsame : s.readCopy r = s := by simp [State.readCopy, he, hp]
    rw [hsame]
    exact ⟨e, he, hp, rfl, rfl, rfl⟩
  | false =>
    have hpoison : s.readCopy r = s.poisonCopy r.line := by simp [State.readCopy, he, hp, hbad, hd]
    have hentry : (s.poisonCopy r.line).dirEntry r.line = some { e with p := true }.write :=
      (State.dirEntry_congr rfl _).trans (State.modDir_some (f := fun e => { e with p := true }) (fun _ => rfl) he)
    rw [hpoison]
    exact ⟨_, hentry, rfl, rfl, rfl, rfl⟩

end

/-! A request that nothing holds back (R250, R254). -/

/-- The snoop that a request needs where other agents hold the line (R250, R251, R257). -/
def ReqKind.snoop : ReqKind → SnoopKind
  | .rds => .snps
  | .rdna => .snpr
  | .rdx | .upg | .wrna _ => .snpi

section
variable {s u : State} {line a b : Nat} {r : PoolReq} {e : DirEntry}

theorem LineFree.onlyRings (h : LineFree s line) (hu : OnlyRings s u) : LineFree u line := by
  obtain ⟨_, _, rfl⟩ := hu
  exact ⟨h.isOpen, h.idle, h.alone, h.room, h.formed, h.there, h.plain, h.range⟩

theorem LineFree.mustQueue (h : LineFree s r.line) : s.mustQueue r = false := by
  have hroom : ¬512 ≤ (s.pool.txns.filter (fun t => sliceOf t.line == sliceOf r.line)).length := Nat.not_le.mpr h.room
  unfold State.mustQueue
  rw [h.idle, h.formed, h.plain, decide_eq_false hroom]
  cases r.kind <;> rfl

theorem any_line_false {q : List PoolReq} (h : ∀ x ∈ q, x.line ≠ line) : q.any (fun x => x.line == line) = false := by simpa using h

/-- A request for a valid line that does not wait is served as its slice treats it. -/
theorem State.arrive_valid (hq : s.mustQueue r = false) (ha : ∀ q ∈ s.pool.queue, q.line ≠ r.line) (hthere : s.paKind (r.line * 256) ≠ .hole)
    (he : s.dirEntry r.line = some e) : s.arrive r = s.serveValid (s.asGuarded r) := by
  have hline : (s.asGuarded r).line = r.line := by
    unfold State.asGuarded
    split_ifs <;> rfl
  have hserve : s.arrive r = s.serve r := by
    rw [State.arrive, hq, any_line_false ha]
    exact if_neg Bool.false_ne_true
  rw [hserve, State.serve]
  generalize s.asGuarded r = q at hline
  rw [if_neg (hline ▸ hthere), if_pos (by rw [hline, he]; rfl)]

/-- A request that nothing holds back comes to its slice and is served. -/
theorem LineFree.request (h : LineFree s r.line) (he : s.dirEntry r.line = some e) :
    s.request r = (s.carry r.station (homeStation r.line) (.req r)).serveValid r := by
  have hcarry := s.carry_onlyRings r.station (homeStation r.line) (.req r)
  have hfree := h.onlyRings hcarry
  rw [State.request, State.arrive_valid hfree.mustQueue hfree.alone hfree.there ((hcarry.dirEntry r.line).trans he), State.asGuarded, hfree.plain,
    Bool.false_and, if_neg Bool.false_ne_true]

theorem serveValid_unheld (he : s.dirEntry r.line = some e) (hpv : e.pv = []) : s.serveValid r = s.grant r := by simp [State.serveValid, he, hpv]

/-- A read of a line that no agent may write needs no snoop. -/
theorem serveValid_shared (he : s.dirEntry r.line = some e) (hx : e.x = false) (hk : r.kind = .rds ∨ r.kind = .rdna) : s.serveValid r = s.grant r := by
  rcases hk with hk | hk <;> simp [State.serveValid, he, hx, hk]

theorem serveValid_ownUpg (he : s.dirEntry r.line = some e) (hpv : e.pv = [r.agent]) (hk : r.kind = .upg) : s.serveValid r = s.grant r := by
  simp [State.serveValid, he, hpv, hk]

/-- Another agent holds the line: a request to write it, or one to read what that agent may have modified, snoops it first. -/
theorem serveValid_snoops (he : s.dirEntry r.line = some e) (hpv : e.pv = [b]) (hb : b ≠ r.agent ∨ r.kind = .rdna) (hbad : r.bad = false)
    (hx : e.x = true ∨ r.kind = .rdx ∨ r.kind = .upg) : s.serveValid r = s.openTxn r.line (some r) r.kind.snoop [b] := by
  obtain ⟨agent, line, kind, bad⟩ := r
  obtain rfl : bad = false := hbad
  dsimp only at he hb hx
  cases kind with
  | rds =>
    have hwritable : e.x = true := by simpa using hx
    simp [State.serveValid, ReqKind.snoop, he, hpv, hb.resolve_right nofun, hwritable]
  | rdna =>
    have hwritable : e.x = true := by simpa using hx
    simp [State.serveValid, ReqKind.snoop, he, hpv, hwritable]
  | rdx | upg | wrna bytes => simp [State.serveValid, ReqKind.snoop, he, hpv, hb.resolve_right nofun]

theorem agentLineOk_iff : agentLineOk a line = true ↔ a < 56 ∧ line < 2 ^ 44 := by rw [agentLineOk, Bool.and_eq_true, decide_eq_true_eq, decide_eq_true_eq]

theorem rds_served {bad : Bool} (ha : a < 56) (h : LineFree s line) (he : s.dirEntry line = some e) (hs : s.agentState a line = none) :
    exec (.rds a line bad) s = .next ((s.carry (agentStation a) (homeStation line) (.req ⟨a, line, .rds, bad⟩)).serveValid ⟨a, line, .rds, bad⟩) := by
  have hrequest : exec (.rds a line bad) s = .next (s.request ⟨a, line, .rds, bad⟩) := by simp [execRds, agentLineOk_iff.mpr ⟨ha, h.range⟩, h.isOpen, hs]
  exact hrequest.trans (congrArg _ (LineFree.request (r := ⟨a, line, .rds, bad⟩) h he))

theorem rdx_served {bad : Bool} (ha : a < 56) (h : LineFree s line) (he : s.dirEntry line = some e) (hs : s.agentState a line = none) :
    exec (.rdx a line bad) s = .next ((s.carry (agentStation a) (homeStation line) (.req ⟨a, line, .rdx, bad⟩)).serveValid ⟨a, line, .rdx, bad⟩) := by
  have hrequest : exec (.rdx a line bad) s = .next (s.request ⟨a, line, .rdx, bad⟩) := by simp [execRdx, agentLineOk_iff.mpr ⟨ha, h.range⟩, h.isOpen, hs]
  exact hrequest.trans (congrArg _ (LineFree.request (r := ⟨a, line, .rdx, bad⟩) h he))

theorem upg_served {bad : Bool} (ha : a < 56) (h : LineFree s line) (he : s.dirEntry line = some e) (hs : s.agentState a line = none ∨ s.agentState a line = some .s) :
    exec (.upg a line bad) s = .next ((s.carry (agentStation a) (homeStation line) (.req ⟨a, line, .upg, bad⟩)).serveValid ⟨a, line, .upg, bad⟩) := by
  have hrequest : exec (.upg a line bad) s = .next (s.request ⟨a, line, .upg, bad⟩) := by
    rcases hs with hs | hs <;> simp [execUpg, agentLineOk_iff.mpr ⟨ha, h.range⟩, h.isOpen, hs]
  exact hrequest.trans (congrArg _ (LineFree.request (r := ⟨a, line, .upg, bad⟩) h he))

end

/-! The requests of agents (R249 to R251). -/

section
variable {s u : State} {i : Instr} {line a b w : Nat} {r : PoolReq} {e : DirEntry}

theorem grant_rds (hk : r.kind = .rds) (hbad : r.bad = false) (he : s.dirEntry r.line = some e) :
    s.grant r = s.grantCopy r ((e.pv.filter (· != r.agent)).isEmpty && !s.guarded (r.line * 256)) := by
  simp only [State.grant, hk, State.readCopy_good hbad, he, Option.map_some, Option.getD_some]

theorem grant_rdx (hk : r.kind = .rdx) (hbad : r.bad = false) : s.grant r = s.grantCopy r true := by
  simp only [State.grant, hk, State.readCopy_good hbad]

/-- A command that comes to a grant: the answer, the entry, and the rest as it was. -/
theorem command_grants {excl : Bool} (hu : OnlyRings s u) (hi : exec i s = .next (u.grantCopy r excl)) (hs : s.agentState r.agent r.line = none)
    (hw : u.freeWay r.agent r.line = some w) (he : s.dirEntry r.line = some e) :
    ∃ t, exec i s = .next t ∧ Sent u t (homeStation r.line) (agentStation r.agent) (.data r.agent r.line excl w) ∧
      EntryIs t e (if excl then [r.agent] else r.agent :: e.pv.filter (· != r.agent)) excl ∧ t.mem = s.mem ∧ t.pool.txns = s.pool.txns := by
  have hgrant := State.grantCopy_granted ((hu.agentState ..).trans hs) hw ((hu.dirEntry _).trans he) excl
  exact ⟨_, hi, hgrant.sent, hgrant.entry, hgrant.mem.trans hu.mem, hgrant.txns.trans hu.txns⟩

/-- A command that opens a transaction: its snoop, and the rest as it was. -/
theorem command_snoops {req : Option PoolReq} {k : SnoopKind} {await : List Nat} (hu : OnlyRings s u) (hi : exec i s = .next (u.openTxn line req k await)) :
    ∃ t, exec i s = .next t ∧ Snooped u t line k await ∧ t.mem = s.mem ∧ (∀ l, t.dirEntry l = s.dirEntry l) ∧
      t.pool.txns = { line := line, req := req, snoop := k, await := await, filtered := s.pool.filt } :: s.pool.txns := by
  have htxn := State.snoopAll_onlyRings (u.withTxn line req k await) line k await
  refine ⟨_, hi, (SameRings.refl u).snooped line req k await rfl, htxn.mem.trans hu.mem, fun l => (htxn.dirEntry l).trans (hu.dirEntry l), ?_⟩
  rw [State.openTxn_eq, htxn.txns]
  simp only [State.withTxn, State.modPool_pool, hu.txns, hu.filt]

end

theorem poolAgentRequests : Claim.PoolAgentRequests := by
  intro s a b line w e ha _ hab hfree he hs u yields snoops
  have hu (req : ReqKind) : OnlyRings s (u req) := s.carry_onlyRings ..
  have hentry (req : ReqKind) : (u req).dirEntry line = some e := ((hu req).dirEntry line).trans he
  have hplain (req : ReqKind) : (u req).guarded (line * 256) = false := (hfree.onlyRings (hu req)).plain
  have hrds : _ = Host.Outcome.next ((u .rds).serveValid _) := rds_served ha hfree he hs
  have hrdx : _ = Host.Outcome.next ((u .rdx).serveValid _) := rdx_served ha hfree he hs
  have hupg : _ = Host.Outcome.next ((u .upg).serveValid _) := upg_served ha hfree he (.inl hs)
  have hyields {i : Instr} {req : ReqKind} {excl : Bool} (hi : exec i s = .next ((u req).grantCopy ⟨a, line, req, false⟩ excl)) (hw : s.freeWay a line = some w) :=
    command_grants (hu req) hi hs (w := w) ((State.carry_freeWay ..).trans hw) he
  have hsnoops {i : Instr} {req : ReqKind} (hi : exec i s = .next ((u req).openTxn line (some ⟨a, line, req, false⟩) req.snoop [b])) : snoops i req.snoop req := by
    obtain ⟨t, ht, hsnooped, hmem, hdir, htxns⟩ := command_snoops (hu req) hi
    exact ⟨t, ht, hsnooped, hmem, (hdir line).trans he, htxns⟩
  have hother : b ≠ a := hab.symm
  refine ⟨fun hw => ⟨fun hpv => ⟨?_, ?_⟩, fun hpv hx => ?_⟩, fun hpv hx => hsnoops (hrds.trans ?_), fun hpv => ⟨hsnoops (hrdx.trans ?_), hsnoops (hupg.trans ?_)⟩⟩
  · refine hyields (req := .rds) (excl := true) (hrds.trans (congrArg _ ?_)) hw
    rw [serveValid_unheld (hentry .rds) hpv, grant_rds rfl rfl (hentry .rds), hpv, hplain]
    rfl
  · refine hyields (req := .rdx) (excl := true) (hrdx.trans (congrArg _ ?_)) hw
    rw [serveValid_unheld (hentry .rdx) hpv, grant_rdx rfl rfl]
  · have hothers : e.pv.filter (· != a) = [b] := by simp [hpv, hother]
    have hgrant := hyields (req := .rds) (excl := false) (hrds.trans (congrArg _ ?_)) hw
    · rw [hothers] at hgrant
      exact hgrant
    · rw [serveValid_shared (hentry .rds) hx (.inl rfl), grant_rds rfl rfl (hentry .rds), hothers]
      rfl
  · exact congrArg _ (serveValid_snoops (hentry .rds) hpv (.inl hother) rfl (.inl hx))
  · exact congrArg _ (serveValid_snoops (hentry .rdx) hpv (.inl hother) rfl (.inr (.inl rfl)))
  · exact congrArg _ (serveValid_snoops (hentry .upg) hpv (.inl hother) rfl (.inr (.inr rfl)))

theorem poolUpgrade : Claim.PoolUpgrade := by
  intro s a line e ha hfree he
  refine ⟨fun hs hpv => ?_, fun hs hpv hd hw => ?_⟩
  · have hu := s.carry_onlyRings (agentStation a) (homeStation line) (.req ⟨a, line, .upg, false⟩)
    have hentry := (hu.dirEntry line).trans he
    have hgrant := State.grantUpg_granted (r := ⟨a, line, .upg, false⟩) ((hu.agentState a line).trans hs) hentry
    refine ⟨_, (upg_served ha hfree he (.inr hs)).trans (congrArg _ ?_), hgrant.entry, hgrant.mem.trans hu.mem, hgrant.sent⟩
    rw [serveValid_ownUpg hentry hpv rfl]
    simp [State.grant, hentry, hpv]
  · obtain ⟨w, hw⟩ := hw
    have hu := s.carry_onlyRings (agentStation a) (homeStation line) (.req ⟨a, line, .rds, true⟩)
    have hentry := (hu.dirEntry line).trans he
    obtain ⟨e', he', hp, hmem, hstate, hfreeWay⟩ := State.readCopy_bad (r := ⟨a, line, .rds, true⟩) rfl hentry hd
    have hgrant := State.grantCopy_granted (r := ⟨a, line, .rds, true⟩) (hstate.trans ((hu.agentState a line).trans hs))
      (hfreeWay.trans ((State.carry_freeWay ..).trans hw)) he' true
    obtain ⟨d, hdir, -, -, -, hdp, -, -⟩ := hgrant.entry
    refine ⟨_, (rds_served ha hfree he hs).trans (congrArg _ ?_), ?_, hgrant.mem.trans (hmem.trans hu.mem)⟩
    · rw [serveValid_unheld hentry hpv]
      simp [State.grant, hentry, hpv, (hfree.onlyRings hu).plain]
    · rw [State.dirEntry_line he'] at hdir
      rw [State.poisoned, hdir]
      exact hdp.trans hp

/-! The requests of masters (R251, R257). -/

section
variable {s : State} {line st o : Nat} {v : Byte} {r : PoolReq} {e : DirEntry}

theorem rdna_served (hst : st < 84) (h : LineFree s line) (he : s.dirEntry line = some e) :
    exec (.rdna st line false) s = .next ((s.carry st (homeStation line) (.req ⟨st, line, .rdna, false⟩)).serveValid ⟨st, line, .rdna, false⟩) := by
  have hok : ¬(84 ≤ st ∨ 2 ^ 44 ≤ line) := not_or.mpr ⟨Nat.not_le.mpr hst, Nat.not_le.mpr h.range⟩
  have hrequest : exec (.rdna st line false) s = .next (s.request ⟨st, line, .rdna, false⟩) := by
    rw [exec_rdna, execRdna, if_neg hok, h.isOpen]
    rfl
  exact hrequest.trans (congrArg _ (LineFree.request (r := ⟨st, line, .rdna, false⟩) h he))

theorem wrna_served (hst : st < 84) (ho : o < 256) (h : LineFree s line) (he : s.dirEntry line = some e) :
    exec (.wrna st line [(o, v)]) s =
      .next ((s.carry st (homeStation line) (.req ⟨st, line, .wrna [(o, v)], false⟩)).serveValid ⟨st, line, .wrna [(o, v)], false⟩) := by
  have hok : ¬(84 ≤ st ∨ 2 ^ 44 ≤ line ∨ ([(o, v)].any fun p => decide (256 ≤ p.1)) = true) :=
    not_or.mpr ⟨Nat.not_le.mpr hst, not_or.mpr ⟨Nat.not_le.mpr h.range, by simpa using ho⟩⟩
  have hrequest : exec (.wrna st line [(o, v)]) s = .next (s.request ⟨st, line, .wrna [(o, v)], false⟩) := by
    rw [exec_wrna, execWrna, if_neg hok, h.isOpen]
    rfl
  exact hrequest.trans (congrArg _ (LineFree.request (r := ⟨st, line, .wrna [(o, v)], false⟩) h he))

/-- The data of a line that is valid in the Pool, with its poison (R257, R264). -/
theorem grant_rdna (hk : r.kind = .rdna) (hbad : r.bad = false) (he : s.dirEntry r.line = some e) :
    s.grant r = s.send (homeStation r.line) r.agent (.dataNa r.agent r.line e.p) := by
  simp [State.grant, hk, State.readCopy_good hbad, he, State.poisoned]

theorem State.dropRead_pool (s : State) (line : Nat) (whole : Bool) : (s.dropRead line whole).pool = s.pool := by cases whole <;> rfl

/-- The state with a byte of memory and what the DRAM copies keep changed. -/
def State.withByte (s : State) (a : Nat) (b : Byte) (old : List (Nat × Byte)) : State :=
  { s with mem := s.mem.write a b, pool := { s.pool with dramOld := old } }

theorem State.putByte_slice (s : State) (a : Nat) (b : Byte) : ∃ old, s.putByte a b false = s.withByte a b old := ⟨_, rfl⟩

/-- One byte put into a line that no agent holds (R257). -/
theorem putWrNa_byte (ho : o < 256) (he : s.dirEntry line = some e) :
    SameRings s (s.putWrNa line [(o, v)]) ∧ (s.putWrNa line [(o, v)]).mem = s.mem.write (line * 256 + o) v ∧
      ∃ e', (s.putWrNa line [(o, v)]).dirEntry line = some e' ∧ e'.d = true := by
  have hcells : maskedCells line [(o, v)] = [(line * 256 + o, v)] := by simp [maskedCells, Nat.mod_eq_of_lt ho]
  obtain ⟨old, hput⟩ := s.putByte_slice (line * 256 + o) v
  unfold State.putWrNa
  rw [hcells, List.foldl_cons, List.foldl_nil, hput]
  generalize wholeMask [(o, v)] = whole
  extract_lets _ u
  have hpool : (u.dropRead line whole).pool = u.pool := u.dropRead_pool line whole
  have hentry : u.dirEntry line = some _ := State.modDir_some (e := e) (fun _ => rfl) he
  exact ⟨⟨(congrArg Pool.flights hpool :), (congrArg Pool.links hpool :), (congrArg Pool.cw hpool :), (congrArg Pool.ccw hpool :)⟩, u.dropRead_mem line whole, _,
    (State.dirEntry_congr (congrArg Pool.dir hpool) line).trans hentry, rfl⟩

end

theorem poolMasterRequests : Claim.PoolMasterRequests := by
  intro s st line b e o v hst ho hfree he hwf u
  have hu (req : ReqKind) : OnlyRings s (u req) := s.carry_onlyRings ..
  have hentry (req : ReqKind) : (u req).dirEntry line = some e := ((hu req).dirEntry line).trans he
  have hrdna : _ = Host.Outcome.next ((u .rdna).serveValid _) := rdna_served hst hfree he
  have hwrna : _ = Host.Outcome.next ((u (.wrna [(o, v)])).serveValid _) := wrna_served hst ho hfree he
  refine ⟨fun hx => ?_, fun hx hpv => ?_, fun hpv => ?_⟩
  · have hsend := (u .rdna).send_onlyRings (homeStation line) st (.dataNa st line e.p)
    refine ⟨_, hrdna.trans (congrArg _ ?_), (SameRings.refl (u .rdna)).sent (homeStation line) st (.dataNa st line e.p),
      hsend.dir.trans (hu .rdna).dir, hsend.mem.trans (hu .rdna).mem⟩
    rw [serveValid_shared (hentry .rdna) hx (.inr rfl), grant_rdna rfl rfl (hentry .rdna)]
  · obtain ⟨t, ht, hsnooped, hmem, -⟩ := command_snoops (hu .rdna) (hrdna.trans (congrArg _ (serveValid_snoops (hentry .rdna) hpv (.inr rfl) rfl (.inl hx))))
    exact ⟨t, ht, hsnooped, hmem⟩
  · obtain ⟨hrings, hmem, e', he', hd⟩ := putWrNa_byte (v := v) ho (hentry (.wrna [(o, v)]))
    have hgrant : (u (.wrna [(o, v)])).grant ⟨st, line, .wrna [(o, v)], false⟩ =
        ((u (.wrna [(o, v)])).putWrNa line [(o, v)]).send (homeStation line) st (.ack st line) := by
      simp [State.grant, State.performWrNa, (hfree.onlyRings (hu (.wrna [(o, v)]))).plain]
    refine ⟨_, hwrna.trans (congrArg _ ((serveValid_unheld (hentry _) hpv).trans hgrant)), hrings.sent _ _ _, ?_, fun x hx => ?_, e',
      (State.send_dirEntry ..).trans he', hd⟩
    · rw [State.send_mem, hmem, (hu _).mem, Mem.read_write hwf, if_pos rfl]
    · rw [State.send_mem, hmem, (hu _).mem, Mem.read_write hwf, if_neg hx]

/-! Requests that come again (R250, R259, R435). -/

theorem takeFirst_head {α : Type} {f : α → Bool} {x : α} {xs : List α} (h : f x = true) : takeFirst f (x :: xs) = some (x, xs) := if_pos h

theorem poolRequestsAgain : Claim.PoolRequestsAgain := by
  intro s r rest e w hopen
  have htake : takeFirst (fun q : PoolReq => q.agent == r.agent && q.line == r.line) (r :: rest) = some (r, rest) := takeFirst_head (by simp)
  refine ⟨fun hresend => ?_, fun hvictim => ?_, fun hk hbad hg hthere he hpv hq ha hs hw => ?_⟩
  · simp [execRetryResend, hresend, htake, hopen]
  · simp [execVictimRetry, hvictim, htake, hopen]
  · have hguarded : s.asGuarded r = { r with kind := .rds } := by simp [State.asGuarded, hg, hk]
    have hgrant := State.grantCopy_granted (r := { r with kind := .rds }) hs hw he false
    have harrive : s.arrive r = s.grantCopy { r with kind := .rds } false := by
      rw [State.arrive_valid hq ha hthere he, hguarded, serveValid_unheld (r := { r with kind := .rds }) he hpv, grant_rds (r := { r with kind := .rds }) rfl hbad he]
      exact congrArg _ (by rw [hg]; exact Bool.and_false _)
    have hentry := hgrant.entry
    rw [harrive]
    simp only [hpv, List.filter_nil] at hentry
    exact ⟨hgrant.sent, hentry⟩

/-- Settles O28: agents and masters ask for a line that is valid in the Pool, and requests come again. -/
theorem poolRequests : Obligations.PoolRequests := ⟨poolAgentRequests, poolUpgrade, poolMasterRequests, poolRequestsAgain⟩

end Sys2Proof.Machine
end

section
/-! SUPPORT. Snoops at an agent, the last answer at the slice, what a slice's answers do at the requester, and eviction notices (R202, R249 to R254, R261, R262, R264), which settle O29. -/

namespace Sys2Proof.Machine

/-! A message taken off its ring (R252, R253). -/

section
variable {s u : State} {st : Nat} {p : PoolMsg → Bool} {m : PoolMsg} {f : Flight} {fs rest : List Flight}

theorem State.takeMsg_onlyRings (h : s.takeMsg st p = some (m, u)) : OnlyRings s u := by
  obtain ⟨q, -, hq⟩ := Option.map_eq_some_iff.mp h
  exact ⟨q.2, s.pool.links, (Prod.mk.inj hq).2.symm⟩

theorem takeFlight_none (h : ∀ g ∈ fs, p g.body = false) (seen : List (Nat × Ring)) : takeFlight p st seen fs = none := by
  induction fs generalizing seen with
  | nil => rfl
  | cons g fs ih =>
    have hrest (seen) := ih (fun x hx => h x (List.mem_cons_of_mem g hx)) seen
    rw [takeFlight, h g List.mem_cons_self, Bool.false_and, if_neg Bool.false_ne_true, hrest, hrest, Option.map_none, ite_self]

/-- The oldest message under way, at the only station that it has left to reach. -/
theorem takeFlight_head (hd : f.dests = [st]) (hp : p f.body = true) : takeFlight p st [] (f :: rest) = some (f.body, landed f rest) := by
  have hreach : f.reach st = { f with dests := [] } := by simp [Flight.reach, hd]
  simp [takeFlight, hd, hp, hreach, Flight.over, landed]

theorem State.takeMsg_none (h : ∀ g ∈ s.pool.flights, p g.body = false) : s.takeMsg st p = none := by
  rw [State.takeMsg, takeFlight_none h, Option.map_none]

theorem State.takeMsg_head (hs : s.pool.flights = f :: rest) (hd : f.dests = [st]) (hp : p f.body = true) :
    s.takeMsg st p = some (f.body, s.modPool fun q => { q with flights := landed f rest }) := by
  rw [State.takeMsg, hs, takeFlight_head hd hp, Option.map_some]

end

/-! An agent's copy that goes, or is shared (R249). -/

section
variable {s : State} {a line : Nat} {st : AgentState}

/-- A directory entry without an agent, whose data the Pool copy has taken where they were modified (R247, R249). -/
def DirEntry.without (e : DirEntry) (a : Nat) (dirty : Bool) : DirEntry := { e.setPv (e.pv.filter (· != a)) false with d := e.d || dirty }

/-- What the end of a copy with its data returned changes of the Pool: the copy, the line's entry, and what the Pool copy keeps. -/
theorem State.dropCopy_pool (s : State) (a line : Nat) :
    ∃ dirty old, (s.dropCopy a line true).pool = { (s.modDir line (·.without a dirty)).pool with
      agents := s.pool.agents.filter (fun x => !(x.agent == a && x.line == line)), poolOld := old } := by
  unfold State.dropCopy
  generalize (s.agentState a line == some .m) = dirty
  cases dirty with
  | false => exact ⟨false, _, rfl⟩
  | true => exact ⟨true, _, rfl⟩

theorem agentState_gone {t : State} (h : t.pool.agents = s.pool.agents.filter (fun x => !(x.agent == a && x.line == line))) : t.agentState a line = none := by
  rw [State.agentState, h, List.find?_eq_none.mpr, Option.map_none]
  intro x hx hsel
  simpa [hsel] using (List.mem_filter.mp hx).2

theorem State.dropCopy_agentState (s : State) (a line : Nat) : (s.dropCopy a line true).agentState a line = none := by
  obtain ⟨_, _, h⟩ := s.dropCopy_pool a line
  exact agentState_gone (s := s) (by rw [h])

theorem State.dropCopy_sameRings (s : State) (a line : Nat) : SameRings s (s.dropCopy a line true) := by
  obtain ⟨_, _, h⟩ := s.dropCopy_pool a line
  exact ⟨by rw [h]; rfl, by rw [h]; rfl, by rw [h]; rfl, by rw [h]; rfl⟩

/-- A copy in S, whatever it was before. -/
def AgentLine.share (a line : Nat) (x : AgentLine) : AgentLine := if x.agent == a && x.line == line then { x with st := .s } else x

theorem agentState_shared {t : State} (hs : s.agentState a line = some st) (h : t.pool.agents = s.pool.agents.map (AgentLine.share a line)) :
    t.agentState a line = some .s := by
  obtain ⟨x, hx, -⟩ := State.find?_held hs
  have hsel : ((fun x : AgentLine => x.agent == a && x.line == line) ∘ AgentLine.share a line) = fun x => x.agent == a && x.line == line := by
    funext y
    simp only [Function.comp, AgentLine.share]
    split_ifs <;> rfl
  rw [State.agentState, h, List.find?_map, hsel, hx, Option.map_some, Option.map_some, AgentLine.share, if_pos (List.find?_some hx)]

end

/-! Snoops (R249, R251, R254). -/

/-- What a snoop leaves an agent of its copy (R251). -/
def SnoopKind.leaves (k : SnoopKind) (st : AgentState) : Option AgentState :=
  match k with
  | .snpi | .binv => none
  | .snps => some .s
  | .snpr => some st

section
variable {s u : State} {a line : Nat} {st : AgentState} {k : SnoopKind}

theorem snoopEffect_leaves (hst : u.agentState a line = some st) (hbuf : u.bufferDirty a line = false) :
    SameRings u (u.snoopEffect k a line) ∧ (u.snoopEffect k a line).agentState a line = k.leaves st ∧ (u.snoopEffect k a line).mem = u.mem := by
  have hempty : u.emptyBuffer a line = u := if_neg (by rw [hbuf]; exact Bool.false_ne_true)
  have hgone : SameRings u (u.dropCopy a line true) ∧ (u.dropCopy a line true).agentState a line = none ∧ (u.dropCopy a line true).mem = u.mem :=
    ⟨u.dropCopy_sameRings a line, u.dropCopy_agentState a line, (u.dropCopy_stacks a line).mem⟩
  unfold State.snoopEffect
  rw [hempty]
  cases k with
  | snpi => exact hgone
  | binv => exact hgone
  | snpr => exact ⟨.refl u, hst, rfl⟩
  | snps =>
    dsimp only
    split_ifs with hown
    · exact ⟨⟨rfl, rfl, rfl, rfl⟩, agentState_shared hst rfl, rfl⟩
    · cases st with
      | s => exact ⟨.refl u, hst, rfl⟩
      | e => simp [hst] at hown
      | m => simp [hst] at hown

/-- A snoop that is due does its effect and is answered, with data where the copy was modified. -/
theorem snoop_answered (hst : s.agentState a line = some st) (h : SnoopDue s u k a line) :
    ∃ t, snoopArrives k a line s = .next t ∧ Sent u t (agentStation a) (homeStation line) (.answer a line (decide (st = .m))) ∧
      t.agentState a line = k.leaves st ∧ t.mem = s.mem := by
  obtain ⟨m, hm⟩ := h.came
  have hu := State.takeMsg_onlyRings hm
  have hbuf : u.bufferDirty a line = false := by rw [State.bufferDirty, hu.evict]; exact h.buffer
  obtain ⟨hrings, hstate, hmem⟩ := snoopEffect_leaves (k := k) ((hu.agentState a line).trans hst) hbuf
  have hdata : ((s.agentState a line == some .m || s.bufferDirty a line) && !s.wantsNoData line) = decide (st = .m) := by
    rw [hst, h.buffer, h.wants]
    cases st <;> rfl
  have hexec : snoopArrives k a line s = .next ((u.snoopEffect k a line).send (agentStation a) (homeStation line) (.answer a line (decide (st = .m)))) := by
    simp only [snoopArrives, hm, h.order, h.free, hdata, Bool.or_self, Bool.false_eq_true, if_false]
  exact ⟨_, hexec, hrings.sent _ _ _, (State.send_agentState ..).trans hstate, hmem.trans hu.mem⟩

end

theorem poolSnoops : Claim.PoolSnoops := by
  intro s u a line st hst answers
  exact ⟨fun h => snoop_answered hst h, fun h => snoop_answered hst h, fun h => snoop_answered hst h, fun h => snoop_answered hst h⟩

/-! The last answer (R250, R254). -/

section
variable {s u : State} {a b line w : Nat} {t0 : PoolTxn} {e : DirEntry} {d : Bool} {m : PoolMsg} {r : PoolReq}

theorem answerArrives_last (ht : s.pool.txns = [t0]) (hline : t0.line = line) (hawait : t0.await = [b])
    (hm : s.takeMsg (homeStation line) (· == .answer b line d) = some (m, u)) :
    answerArrives b line d s = .next (u.completeTxn { t0 with await := [] }) := by
  have hu := State.takeMsg_onlyRings hm
  simp [answerArrives, hm, hu.txns, ht, hline, hawait]

/-- The request of a transaction that is complete is granted, and nothing waits behind it (R250). -/
theorem completeTxn_grants (ht : ∀ x ∈ u.pool.txns, x.line = t0.line) (hsnoop : t0.snoop = .snpi) (hreq : t0.req = some r) (hkind : r.kind = .rdx) (hbad : r.bad = false)
    (hq : u.pool.queue = []) (hs : u.agentState r.agent r.line = none) (hw : u.freeWay r.agent r.line = some w) (he : u.dirEntry r.line = some e) :
    ∃ t, u.completeTxn t0 = t ∧ Granted (u.modPool fun p => { p with txns := [] }) t r (.data r.agent r.line true w) e [r.agent] true := by
  have hgrant := State.grantCopy_granted (s := u.modPool fun p => { p with txns := [] }) hs hw he true
  have hnone : (u.modPool fun p => { p with txns := p.txns.filter (fun x => x.line != t0.line) }) = u.modPool fun p => { p with txns := [] } := by
    have hfilter : u.pool.txns.filter (fun x => x.line != t0.line) = [] := List.filter_eq_nil_iff.mpr fun x hx => by simp [ht x hx]
    simp only [State.modPool, hfilter]
  have hqueue : ((u.modPool fun p => { p with txns := [] }).grantCopy r true).pool.queue = [] := hgrant.queue.trans hq
  refine ⟨_, ?_, hgrant⟩
  simp only [State.completeTxn, hnone, hsnoop, hreq, grant_rdx hkind hbad, State.serveQueue_empty _ hqueue]

end

theorem poolAnswers : Claim.PoolAnswers := by
  intro s u a b line w t0 e d m ht hline hawait hsnoop hreq hq he hs hm hw
  have hu := State.takeMsg_onlyRings hm
  have hexec : exec (if d then .snpData b line else .snpAck b line) s = answerArrives b line d s := by cases d <;> rfl
  obtain ⟨t, htxn, hgrant⟩ := completeTxn_grants (t0 := { t0 with await := [] }) (r := ⟨a, line, .rdx, false⟩) (by simp [hu.txns, ht]) hsnoop hreq rfl rfl
    (hu.queue.trans hq) ((hu.agentState a line).trans hs) hw ((hu.dirEntry line).trans he)
  exact ⟨t, (hexec.trans (answerArrives_last ht hline hawait hm)).trans (congrArg _ htxn), hgrant.txns, hgrant.sent, hgrant.entry, hgrant.mem.trans hu.mem⟩

/-! What the answers of a slice do at the requester (R249, R251, R262). -/

section
variable {s : State} {a line w : Nat} {excl : Bool} {e : DirEntry} {st : AgentState}

theorem State.putCopy_agentState (s : State) (a line w : Nat) (st : AgentState) : (s.putCopy a line w st).agentState a line = some st := by
  simp [State.agentState, State.putCopy, State.modPool]

/-- A copy is installed while PV names its agent. -/
theorem fill_named (he : s.dirEntry line = some e) (hout : s.agentOut a = false) (ha : a ∈ e.pv) :
    (s.fill a line w excl).agentState a line = some (if excl && e.x then .e else .s) := by
  have hfill : s.fill a line w excl = s.putCopy a line w (if excl && e.x then .e else .s) := by simp [State.fill, he, hout, ha]
  rw [hfill, State.putCopy_agentState]

theorem fill_unnamed (he : s.dirEntry line = some e) (hout : s.agentOut a = false) (ha : a ∉ e.pv) : s.fill a line w excl = s := by
  simp [State.fill, he, hout, ha]

theorem upgrade_held (hs : s.agentState a line = some st) : ∃ w, s.upgrade a line = s.fill a line w true := by
  obtain ⟨x, hx, -⟩ := State.find?_held hs
  exact ⟨x.way, by simp only [State.upgrade, hx]⟩

end

theorem poolDeliveries : Claim.PoolDeliveries := by
  intro s a line w f rest r e u at_
  refine ⟨fun hs hrest => ⟨fun hd hb => ?_, fun hd hb => ?_, fun hd hb => ?_, fun hd hb => ?_, fun hd hb => ?_, fun hd hb => ?_, fun hr hl hd hb => ?_⟩,
    fun he hout => ⟨fun ha => ⟨?_, fun hx => ?_⟩, fun ha => ⟨fill_unnamed he hout ha, fill_unnamed he hout ha⟩⟩, fun he hout ha hx hs => ?_, fun x hx => ?_⟩
  · rw [exec_lineData, execLineData, State.takeMsg_none, State.takeMsg_head hs hd (by simp [hb]), hb]
    intro g hg
    rcases List.mem_cons.mp (hs ▸ hg) with rfl | hg
    · rw [hb]
    · split
      · rename_i a' l p hbody
        have hne : a' ≠ a := fun h => hrest g hg l p (h ▸ hbody)
        simp [hne]
      · rfl
  · rw [exec_lineData, execLineData, State.takeMsg_head hs hd (by simp [hb])]
  · rw [exec_lineDataE, execLineDataE, State.takeMsg_head hs hd (by simp [hb]), hb]
  · rw [exec_sliceAck, execSliceAck, State.takeFor, State.takeMsg_head hs hd (by simp [hb]), hb]
  · rw [exec_sliceAck, execSliceAck, State.takeFor, State.takeMsg_head hs hd (by simp [hb]), hb]
  · rw [exec_ackStale, execAckStale, State.takeMsg_head hs hd (by simp [hb])]
  · rw [exec_sliceRetry, execSliceRetry, State.takeFor, State.takeMsg_head hs hd (by simp [hb, hr, hl]), hb]
  · rw [fill_named he hout ha]
    rfl
  · rw [fill_named he hout ha, hx]
    rfl
  · obtain ⟨w, hw⟩ := upgrade_held hs
    rw [hw, fill_named he hout ha, hx]
    rfl
  · rintro ⟨ha, hl⟩
    simpa [ha, hl] using (List.mem_filter.mp hx).2

/-! Eviction notices and holds (R202, R261, R262). -/

section
variable {s u : State} {a line n : Nat} {bad : Bool} {st : AgentState} {h : HoldMark}

/-- An agent's copy evicted, and poisoned where its data could not be read (R262, R264). -/
def State.evicted (s : State) (a line : Nat) (bad : Bool) : State := if bad then (s.evictCopy a line).poisonCopy line else s.evictCopy a line

/-- Eviction and poisoning change the agents' copies, the line's entry and what the Pool copy keeps, and leave the rest of the Pool. -/
theorem evicted_pool (s : State) (a line : Nat) (bad : Bool) :
    SameRings s (s.evicted a line bad) ∧ (s.evicted a line bad).agentState a line = none ∧ (s.evicted a line bad).mem = s.mem ∧
      (s.evicted a line bad).pool.queue = s.pool.queue ∧ (s.evicted a line bad).pool.evict = s.pool.evict := by
  have hgone := s.dropCopy_agentState a line
  have hmem := (evictCopy_keeps s a line).1.mem
  have hdrop := s.dropCopy_sameRings a line
  have hrings : SameRings s (s.evictCopy a line) := ⟨hdrop.flights, hdrop.links, hdrop.cw, hdrop.ccw⟩
  obtain ⟨_, _, hpool⟩ := s.dropCopy_pool a line
  have hqueue : (s.dropCopy a line true).pool.queue = s.pool.queue := by rw [hpool]; rfl
  have hevict : (s.dropCopy a line true).pool.evict = s.pool.evict := by rw [hpool]; rfl
  cases bad with
  | false => exact ⟨hrings, hgone, hmem, hqueue, hevict⟩
  | true => exact ⟨⟨hrings.flights, hrings.links, hrings.cw, hrings.ccw⟩, hgone, (poisonCopy_keeps _ line).mem.trans hmem, hqueue, hevict⟩

theorem evicted_poisoned (h : (s.dirEntry line).isSome = true) : (s.evicted a line true).poisoned line = true := by
  refine State.poisonCopy_poisoned ?_
  obtain ⟨dirty, old, hpool⟩ := s.dropCopy_pool a line
  have hdir : (s.evictCopy a line).dirEntry line = (s.modDir line (·.without a dirty)).dirEntry line := State.dirEntry_congr (congrArg Pool.dir hpool :) line
  rw [hdir, State.modDir_dirEntry _ _ (·.without a dirty) fun _ => rfl, Option.isSome_map]
  exact h

/-- The state in which a slice has acted on a notice (R262): the copy is gone, and the buffer entry waits for the Ack. -/
def State.noticed (s : State) (a line : Nat) (dirty bad : Bool) : State :=
  (((s.carry (agentStation a) (homeStation line) (.notice a line dirty)).evicted a line bad).modPool fun p =>
    { p with evict := { agent := a, line := line, dirty := false } :: p.evict }).send (homeStation line) (agentStation a) (.ack a line)

theorem notice_eq (h : s.snooped a line = false) (dirty bad : Bool) : s.notice a line dirty bad = s.noticed a line dirty (dirty && bad) := by
  have hsnooped : (s.carry (agentStation a) (homeStation line) (.notice a line dirty)).snooped a line = false := by
    rw [State.snooped, (s.carry_onlyRings ..).txns]
    exact h
  unfold State.notice
  dsimp only
  rw [hsnooped, if_neg Bool.false_ne_true]
  rfl

/-- The copy goes, and the slice answers with Ack. -/
theorem noticed_acked (s : State) (a line : Nat) (dirty bad : Bool) :
    (s.noticed a line dirty bad).agentState a line = none ∧ (s.noticed a line dirty bad).mem = s.mem ∧
      Sent (s.carry (agentStation a) (homeStation line) (.notice a line dirty)) (s.noticed a line dirty bad) (homeStation line) (agentStation a) (.ack a line) ∧
      (s.noticed a line dirty bad).pool.evict = { agent := a, line := line, dirty := false } :: s.pool.evict ∧
      (s.noticed a line dirty bad).pool.queue = s.pool.queue := by
  have hu := s.carry_onlyRings (agentStation a) (homeStation line) (.notice a line dirty)
  obtain ⟨hrings, hgone, hmem, hqueue, hevict⟩ := evicted_pool (s.carry (agentStation a) (homeStation line) (.notice a line dirty)) a line bad
  have hsend : SameRings _ (((s.carry (agentStation a) (homeStation line) (.notice a line dirty)).evicted a line bad).modPool fun p =>
      { p with evict := { agent := a, line := line, dirty := false } :: p.evict }) := ⟨hrings.flights, hrings.links, hrings.cw, hrings.ccw⟩
  refine ⟨(State.send_agentState ..).trans hgone, hmem.trans hu.mem, hsend.sent _ _ _, ?_, ?_⟩
  · exact (State.send_evict ..).trans (congrArg _ (hevict.trans hu.evict))
  · exact (State.send_queue ..).trans (hqueue.trans hu.queue)

/-- Whether a line is poisoned rests on the directory and the controllers alone. -/
theorem State.poisoned_congr {s t : State} (hdir : t.pool.dir = s.pool.dir) (hmc : t.mc = s.mc) (line : Nat) : t.poisoned line = s.poisoned line := by
  unfold State.poisoned State.isDram State.capacity State.dramPoison State.groupLost
  rw [State.dirEntry_congr hdir, hmc]

theorem noticed_poisoned (h : (s.dirEntry line).isSome = true) : (s.noticed a line true true).poisoned line = true := by
  have hu := s.carry_onlyRings (agentStation a) (homeStation line) (.notice a line true)
  have hpoisoned := evicted_poisoned (a := a) (s := s.carry (agentStation a) (homeStation line) (.notice a line true)) (by rw [hu.dirEntry]; exact h)
  exact (State.poisoned_congr (State.send_dir ..) rfl line).trans hpoisoned

theorem wb_noticed (hq : s.pool.queue = []) (hsnoop : s.snooped a line = false) (hdefer : s.defers a line = false) (hs : s.agentState a line = some .m) (bad : Bool) :
    exec (.wb a line bad) s = .next (s.noticed a line true bad) := by
  have hmay : (s.agentState a line == some .m && !s.defers a line) = true := by rw [hs, hdefer]; rfl
  obtain ⟨-, -, -, -, hqueue⟩ := noticed_acked s a line true bad
  rw [exec_wb, execWb, if_pos hmay, notice_eq hsnoop, Bool.true_and, State.serveQueue_empty _ (hqueue.trans hq)]

theorem evn_noticed (hq : s.pool.queue = []) (hsnoop : s.snooped a line = false) (hdefer : s.defers a line = false)
    (hs : s.agentState a line = some .s ∨ s.agentState a line = some .e) : exec (.evn a line) s = .next (s.noticed a line false false) := by
  have hmay : ((s.agentState a line == some .s || s.agentState a line == some .e) && !s.defers a line) = true := by
    rcases hs with hs | hs <;> rw [hs, hdefer] <;> rfl
  obtain ⟨-, -, -, -, hqueue⟩ := noticed_acked s a line false false
  rw [exec_evn, execEvn, if_pos hmay, notice_eq hsnoop, Bool.false_and, State.serveQueue_empty _ (hqueue.trans hq)]

/-- The first hold mark of an LDR that hit its line (R261). -/
theorem hold_marked (hnone : ∀ x ∈ s.pool.holds, ¬(x.agent = a ∧ x.line = line)) (hn : n < s.cores.length) (hrun : (s.core n).run ≠ .absent)
    (hpcn : (s.core n).pcn = a) (hh : (s.core n).hold = some h) (hline : h.line = line) :
    exec (.hold a line) s = .next ((s.carry (agentStation a) (homeStation line) (.hold a line)).modPool fun p =>
      { p with holds := { agent := a, line := line, beat := s.beatc } :: p.holds }) := by
  have hcore : s.core n ∈ s.cores := by
    rw [State.core, List.getD_eq_getElem _ _ hn]
    exact List.getElem_mem hn
  have hholds : s.cores.any (fun c => c.run != .absent && c.pcn == a && (c.hold.map HoldMark.line) == some line) = true :=
    List.any_eq_true.mpr ⟨s.core n, hcore, by simp [hrun, hpcn, hh, hline]⟩
  have hmarks : s.pool.holds.any (fun x => x.agent == a && x.line == line) = false :=
    List.any_eq_false.mpr fun x hx => by simpa using hnone x hx
  rw [exec_hold, execHold, hholds, hmarks]
  rfl

end

theorem poolNotices : Claim.PoolNotices := by
  intro s a line n h hq hsnoop gone
  have hgone {i : Instr} {dirty bad : Bool} (hi : exec i s = .next (s.noticed a line dirty bad)) : gone i dirty := by
    obtain ⟨hstate, hmem, hsent, hevict, -⟩ := noticed_acked s a line dirty bad
    exact ⟨_, hi, hstate, hmem, hsent, hevict⟩
  refine ⟨fun hdefer hs => ?_, fun hdefer hs => hgone (evn_noticed hq hsnoop hdefer hs), fun hnone hn hrun hpcn hh hline => hold_marked hnone hn hrun hpcn hh hline⟩
  have hwb := wb_noticed hq hsnoop hdefer hs
  exact ⟨hgone (hwb false), hgone (hwb true), fun hsome => ⟨_, hwb true, noticed_poisoned hsome⟩⟩

/-- Settles O29: snoops and their answers, the answers of a slice, and what agents tell it of themselves. -/
theorem poolMessages : Obligations.PoolMessages := ⟨poolSnoops, poolAnswers, poolDeliveries, poolNotices⟩

end Sys2Proof.Machine
end

section
/-! SUPPORT. The retry buffers of Millrace, filtered mode, Hedgerow, the ways of a slice, the window and the range operations (R253, R255, R256, R263, R265, R268, R529), which settle O30. -/

namespace Sys2Proof.Machine

/-! The retry buffer of a station (R253). -/

/-- The copies of one message that a station keeps on a ring. -/
def Flight.kept (st : Nat) (r : Ring) (f : Flight) : List (PoolMsg × Nat) :=
  if f.ring == r then (f.copies.filter (fun c => c.station == st)).map (fun c => (f.body, c.seq)) else []

section
variable {st : Nat} {r : Ring} {f : Flight} {fs : List Flight} {x : PoolMsg × Nat} {rest : List (PoolMsg × Nat)}

theorem Pool.retryBuffer_eq (p : Pool) (st : Nat) (r : Ring) : p.retryBuffer st r = p.flights.flatMap (Flight.kept st r) := by
  unfold Pool.retryBuffer
  induction p.flights with
  | nil => rfl
  | cons f fs ih =>
    rw [List.flatMap_cons, ← ih, Flight.kept, List.filter_cons]
    split_ifs
    · exact List.flatMap_cons
    · rfl

/-- A message of which the station keeps no copy on the ring. -/
theorem Flight.kept_none (h : (f.ring == r && f.copies.any (fun c => c.station == st)) = false) : f.kept st r = [] := by
  unfold Flight.kept
  split_ifs with hr
  · rw [hr, Bool.true_and, List.any_eq_false] at h
    rw [List.filter_eq_nil_iff.mpr h, List.map_nil]
  · rfl

/-- A message of which the station keeps one copy on the ring. -/
theorem Flight.kept_one (h : (f.ring == r && f.copies.any (fun c => c.station == st)) = true) (hone : (f.copies.filter (fun c => c.station == st)).length ≤ 1) :
    ∃ y, f.kept st r = [y] := by
  obtain ⟨hr, hany⟩ := Bool.and_eq_true_iff.mp h
  obtain ⟨c, hc, hst⟩ := List.any_eq_true.mp hany
  have hpos : 0 < (f.copies.filter (fun c => c.station == st)).length := List.length_pos_of_mem (List.mem_filter.mpr ⟨hc, hst⟩)
  obtain ⟨d, hd⟩ := List.length_eq_one_iff.mp (Nat.le_antisymm hone hpos)
  exact ⟨(f.body, d.seq), by rw [Flight.kept, if_pos hr, hd, List.map_singleton]⟩

/-- A message whose copy at the station has been released. -/
theorem Flight.kept_released (f : Flight) : ({ f with copies := f.copies.filter (fun c => c.station != st) } : Flight).kept st r = [] := by
  refine Flight.kept_none (Bool.and_eq_false_iff.mpr (.inr (List.any_eq_false.mpr fun c hc => ?_)))
  simpa using (List.mem_filter.mp hc).2

/-- The acknowledgement releases the oldest copy of the station and no other. -/
theorem releaseCopy_kept (hone : ∀ f ∈ fs, f.ring = r → (f.copies.filter (fun c => c.station == st)).length ≤ 1)
    (hfs : fs.flatMap (Flight.kept st r) = x :: rest) : (releaseCopy st r fs).flatMap (Flight.kept st r) = rest := by
  induction fs with
  | nil => cases hfs
  | cons f fs ih =>
    rw [List.flatMap_cons] at hfs
    rw [releaseCopy]
    by_cases hkeeps : (f.ring == r && f.copies.any (fun c => c.station == st)) = true
    · obtain ⟨y, hy⟩ := Flight.kept_one hkeeps (hone f List.mem_cons_self (beq_iff_eq.mp (Bool.and_eq_true_iff.mp hkeeps).1))
      rw [hy, List.singleton_append] at hfs
      have hrest := (List.cons.inj hfs).2
      rw [if_pos hkeeps]
      dsimp only
      split_ifs
      · exact hrest
      · rw [List.flatMap_cons, Flight.kept_released, List.nil_append, hrest]
    · rw [Flight.kept_none (Bool.not_eq_true _ ▸ hkeeps), List.nil_append] at hfs
      rw [if_neg hkeeps, List.flatMap_cons, Flight.kept_none (Bool.not_eq_true _ ▸ hkeeps), List.nil_append]
      exact ih (fun g hg => hone g (List.mem_cons_of_mem f hg)) hfs

end

theorem State.report_reported (s : State) (src : Nat) (cls : FaultClass) (detail : Option Word32) (addr : Word) :
    Reported s (s.report src cls detail addr) src cls addr := reportAt_reported ..

section
variable {s : State} {st core way : Nat} {r : Ring} {x : PoolMsg × Nat} {rest : List (PoolMsg × Nat)}

theorem linkAck_releases (hst : st < 84) (hup : s.pool.ringUp r = true) (hkept : s.pool.retryBuffer st r = x :: rest)
    (hone : ∀ f ∈ s.pool.flights, f.ring = r → (f.copies.filter (fun c => c.station == st)).length ≤ 1) :
    ∃ t, exec (.linkAck st r) s = .next t ∧ t.pool.retryBuffer st r = rest ∧ t.mem = s.mem ∧ t.cores = s.cores := by
  rw [Pool.retryBuffer_eq] at hkept
  refine ⟨s.modPool fun p => { p with flights := releaseCopy st r p.flights }, ?_, ?_, rfl, rfl⟩
  · rw [exec_linkAck, execLinkAck, if_neg (Nat.not_le.mpr hst), if_pos hup]
  · rw [Pool.retryBuffer_eq]
    exact releaseCopy_kept hone hkept

/-- A message sent again is a CORRECTED event of the hop that leaves the station. -/
theorem linkCrcError_reported (hst : st < 84) (hup : s.pool.ringUp r = true) (hkept : s.pool.retryBuffer st r = x :: rest) :
    exec (.linkCrcError st r) s = .next (s.report (hopSource st r) .corrected none 0) := by
  rw [exec_linkCrcError, execLinkCrcError, if_neg (Nat.not_le.mpr hst), hup, hkept]
  rfl

/-! Filtered mode (R255). -/

theorem testBegins_empty (hnone : s.pool.atest = none) (hlcn : (s.lcnOfPcn core).isSome = true) (hway : way < 16)
    (hempty : ∀ y ∈ s.pool.agents, ¬(y.agent = core ∧ y.way = way)) :
    exec (.filteredModeChange (.testBegins core way [])) s = .next (s.modPool fun p => { p with atest := some { core := core, way := way } }) := by
  have hlines : (s.modPool fun p => { p with atest := some { core := core, way := way } }).linesOfL2Way core way = [] := by
    rw [State.linesOfL2Way, List.filter_eq_nil_iff.mpr, List.map_nil]
    intro y hy
    simpa using hempty y hy
  rw [exec_filteredModeChange, execFilteredModeChange, State.beginTest, if_neg (by simp [hnone, Option.isSome_iff_ne_none.mp hlcn, hway]), State.drainTested]
  dsimp only [State.modPool_pool]
  rw [hlines]
  rfl

end

theorem millrace : Claim.Millrace := by
  intro s st r x rest core way hst
  refine ⟨linkAck_releases hst, fun hup hkept => ?_, rfl, fun hnone hlcn hway hempty => ?_⟩
  · obtain ⟨e, hflight, hsrc, hcls, -⟩ := State.report_reported s (hopSource st r) .corrected none 0
    refine ⟨_, e, linkCrcError_reported hst hup hkept, hflight, hcls, ?_, State.report_pool ..⟩
    rw [hsrc]
    cases r <;> simp [hopSource]
  · exact ⟨_, testBegins_empty hnone hlcn hway hempty, rfl, by simp [Pool.filterReason]⟩

/-! Hedgerow and the ways (R256, R263). -/

section
variable {s : State} {core line slice way : Nat} {e : DirEntry} {v : WayState}

/-- A directory entry that has lost the Hedgerow entry of a core (R256). -/
def DirEntry.unhedge (e : DirEntry) (core : Nat) : DirEntry := { e with hedge := e.hedge.filter (fun h => h.core != core) }

/-- The entry of a core lost, with its event, as the slice sends SnpR. -/
def State.hedgeLost (s : State) (core line : Nat) : State :=
  (s.modDir line (·.unhedge core)).report (0x500 + 32 * sliceOf line + 18) .severe none (BitVec.ofNat 64 (line * 256))

theorem hedgerowError_snoops (he : s.dirEntry line = some e) (hcore : core < 52) (hpv : core ∈ e.pv) (hidle : s.txnOpen line = false) :
    exec (.hedgerowError core line) s = .next ((s.hedgeLost core line).openTxn line none .snpr [core]) := by
  rw [exec_hedgerowError, execHedgerowError, he]
  exact if_pos ⟨hcore, by simpa using hpv, hidle⟩

theorem hedgeLost_pool (s : State) (core line : Nat) :
    (s.hedgeLost core line).pool = (s.modDir line (·.unhedge core)).pool := State.report_pool ..

theorem hedgeLost_sameRings (s : State) (core line : Nat) : SameRings s (s.hedgeLost core line) := by
  have hpool := hedgeLost_pool s core line
  exact ⟨(congrArg Pool.flights hpool :), (congrArg Pool.links hpool :), (congrArg Pool.cw hpool :), (congrArg Pool.ccw hpool :)⟩

/-- A way without lines is disabled once its drain is due. -/
theorem wayDrainComplete_disables (hv : s.pool.ways[slice]? = some v) (hway : way ∈ v.drain) (hempty : ∀ x ∈ s.pool.dir, ¬(x.way = way ∧ sliceOf x.line = slice)) :
    ∃ t, exec (.wayDrainComplete slice way) s = .next t ∧
      t.pool.ways[slice]? = some { dis := v.dis ||| (1 <<< way), drain := v.drain.filter (· != way) } ∧ t.mem = s.mem := by
  have hlines : s.linesOfWay slice way = [] := by
    rw [State.linesOfWay, List.filter_eq_nil_iff.mpr, List.map_nil]
    intro x hx
    simpa using hempty x hx
  rw [exec_wayDrainComplete, execWayDrainComplete, hv]
  dsimp only
  rw [hlines, if_neg (by simpa using hway)]
  refine ⟨_, rfl, ?_, rfl⟩
  simp [State.modWays, State.modPool, modAt, hv]

end

theorem poolWays : Claim.PoolWays := by
  intro s core line slice way e v
  refine ⟨fun he hcore hpv hidle => ?_, fun hv hway hempty => ?_⟩
  · obtain ⟨r, hflight, hsrc, hcls, -⟩ := State.report_reported (s.modDir line (·.unhedge core))
      (0x500 + 32 * sliceOf line + 18) .severe none (BitVec.ofNat 64 (line * 256))
    have hfilt : (s.hedgeLost core line).pool.filt = s.pool.filt := (congrArg Pool.filt (hedgeLost_pool s core line) :)
    exact ⟨_, r, hedgerowError_snoops he hcore hpv hidle, (congrArg Weir.inFlight (State.openTxn_weir ..)).trans hflight, hsrc, hcls,
      (hedgeLost_sameRings s core line).snooped _ _ _ _ hfilt, (State.openTxn_mem ..).trans (State.report_mem ..)⟩
  · obtain ⟨t, ht, hways, hmem⟩ := wayDrainComplete_disables hv hway hempty
    exact ⟨t, _, ht, hways, rfl, by simp, hmem⟩

/-! The window (R265). -/

section
variable {s : State}

theorem noWindow_none (h : ∀ v ∈ s.pool.ways, v.dis.getLsbD 15 = false) : s.noWindow = [] := by
  refine List.filter_eq_nil_iff.mpr fun k _ => ?_
  cases hk : s.pool.ways[k]? with
  | none => simp
  | some v => simp only [bitAt, h v (List.mem_of_getElem? hk), Bool.false_eq_true, not_false_eq_true]

/-- Way 15 holds no line: the window stands, and holds zeros. -/
theorem windowLockComplete_forms (hlock : s.pool.lock = true) (hlocked : s.pool.locked = false) (hfail : s.pool.lockFail = false) (hq : s.pool.queue = [])
    (hways : ∀ v ∈ s.pool.ways, v.dis.getLsbD 15 = false) (hdir : ∀ e ∈ s.pool.dir, e.way ≠ 15) :
    exec .windowLockComplete s = .next { s with mem := s.mem.filter (fun c => decide (c.1 < windowBase)), pool := { s.pool with locked := true } } := by
  have hlines : s.pool.dir.filter (fun e => e.way == 15) = [] := List.filter_eq_nil_iff.mpr fun e he => by simpa using hdir e he
  rw [exec_windowLockComplete, execWindowLockComplete, hlock, hlocked, hfail, if_neg (by decide), noWindow_none hways]
  dsimp only
  rw [hlines]
  exact congrArg Host.Outcome.next
    (State.serveQueue_empty { s with mem := s.mem.filter (fun c => decide (c.1 < windowBase)), pool := { s.pool with locked := true } } hq)

/-! The range operations (R268, R529). -/

theorem rangeLines_none (h : ∀ e ∈ s.pool.dir, e.line < s.pool.ribBase.toNat ∨ s.pool.ribBase.toNat + s.pool.ribLines.toNat ≤ e.line) : s.rangeLines = [] := by
  have hnone : (s.pool.dir.map DirEntry.line).filter (fun l => decide (s.pool.ribBase.toNat ≤ l) && decide (l < s.pool.ribBase.toNat + s.pool.ribLines.toNat)) = [] := by
    refine List.filter_eq_nil_iff.mpr fun l hl => ?_
    obtain ⟨e, he, rfl⟩ := List.mem_map.mp hl
    have := h e he
    simp only [Bool.and_eq_true, decide_eq_true_eq]
    omega
  rw [State.rangeLines, hnone, List.mergeSort_nil]

theorem rangeDone_empty (hbusy : s.pool.ricBusy = true) (hlines : s.rangeLines = []) :
    exec .rangeDone s = .next (s.modPool fun p => { p with ricBusy := false, ricDone := true }) := by
  rw [exec_rangeDone, execRangeDone, hbusy, hlines]
  rfl

theorem startRange_starts (purge : Bool) (hbusy : s.pool.ricBusy = false) (hlines : s.pool.ribLines ≠ 0) :
    s.startRange purge = s.modPool fun p => { p with ricOp := purge, ricNow := purge, ricBusy := true } := by
  simp only [State.startRange, State.modPool, hbusy, hlines, Bool.false_eq_true, if_false]

theorem startRange_empty (purge : Bool) (hbusy : s.pool.ricBusy = false) (hlines : s.pool.ribLines = 0) :
    s.startRange purge = s.modPool fun p => { p with ricOp := purge, ricDone := true } := by
  simp [State.startRange, State.modPool, hbusy, hlines]

theorem startRange_busy (purge : Bool) (hbusy : s.pool.ricBusy = true) : s.startRange purge = s.modPool fun p => { p with ricOp := purge } := by
  simp [State.startRange, State.modPool, hbusy]

theorem rangeFlush_starts (hl : s.portLives .poolric = true) : exec .rangeFlush s = .next (s.startRange false) := if_pos hl

theorem rangePurge_starts (hl : s.portLives .poolric = true) : exec .rangePurge s = .next (s.startRange true) := if_pos hl

end

theorem windowAndRanges : Claim.WindowAndRanges := by
  intro s
  refine ⟨rfl, fun hlock hlocked hfail hq hways hdir => ?_, fun hl => ⟨fun hbusy hlines => ?_, fun hbusy hlines => ?_, fun hbusy => ?_⟩, fun hbusy hout => ?_⟩
  · refine ⟨_, windowLockComplete_forms hlock hlocked hfail hq hways hdir, rfl, fun a ha => ?_, fun a ha => ?_⟩
    · exact (Mem.read_filter (fun b => decide (b < windowBase)) s.mem a).trans (if_neg (by simpa using ha))
    · exact (Mem.read_filter (fun b => decide (b < windowBase)) s.mem a).trans (if_pos (by simpa using ha))
  · rw [rangeFlush_starts hl, rangePurge_starts hl, startRange_starts _ hbusy hlines, startRange_starts _ hbusy hlines]
    exact ⟨rfl, rfl⟩
  · rw [rangeFlush_starts hl, rangePurge_starts hl, startRange_empty _ hbusy hlines, startRange_empty _ hbusy hlines]
    exact ⟨rfl, rfl⟩
  · rw [rangeFlush_starts hl, rangePurge_starts hl, startRange_busy _ hbusy, startRange_busy _ hbusy]
    exact ⟨rfl, rfl⟩
  · exact ⟨_, rangeDone_empty hbusy (rangeLines_none hout), rfl, rfl, rfl, rfl⟩

/-- Settles O30: the retry buffers and filtered mode, Hedgerow and the ways, then the window and the ranges. -/
theorem ringsWaysAndWindow : Obligations.RingsWaysAndWindow := ⟨millrace, poolWays, windowAndRanges⟩

end Sys2Proof.Machine
end

section
/-! SUPPORT. Main memory: reads and writes of DRAM, the scrubber, failing channels, and the end of zeroing (R248, R264, R276 to R286, R405, R492), which settle O31. -/

namespace Sys2Proof.Machine

/-! Reads of a line whose group has all its channels (R275 to R278). -/

/-- The controller has completed its read of a line for the home slice (R276). -/
def State.readDone (s : State) (line : Nat) : State := { s with mc := { s.mc with reads := s.mc.reads.erase line } }

/-- How a controller ends a read of a line in which some bursts cannot be corrected (R278). -/
def State.endRead (s : State) (g line : Nat) (bad : List (Fin 5)) : State :=
  match s.verdict g line bad with
  | .good => s
  | .rebuild b => s.report (0x800 + (5 * g + b.val)) .recoverable none (BitVec.ofNat 64 (line * 256))
  | .lost => (s.loseLine g line).returnPoison line

section
variable {s u : State} {line : Nat} {bad corrected : List (Fin 5)}

theorem LineWhole.inUse (h : LineWhole s line) (hmc : u.mc.channels = s.mc.channels) (bs : List (Fin 5)) : u.inUse (groupOf line) bs = bs := by
  refine List.filter_eq_self.mpr fun b _ => ?_
  rw [State.channelFailed, hmc, ← State.channelFailed, channelOf, h.channels b]
  rfl

theorem State.reportCorrected_mc (g a : Nat) : ∀ (s : State) (bs : List (Fin 5)), (s.reportCorrected g bs a).mc = s.mc
  | _, [] => rfl
  | s, _ :: bs => (State.reportCorrected_mc g a _ bs).trans (s.report_mc ..)

/-- A read of the data bursts of a whole line: what was corrected is reported, and the line ends as its bad bursts say. -/
theorem dramLineRead_whole (h : LineWhole s line) (hr : s.readsLine line = true) (hbad : bad.eraseDups = bad) (hbad4 : ∀ b ∈ bad, b.val ≠ 4)
    (hcor : corrected.eraseDups = corrected) (hcor4 : ∀ b ∈ corrected, b.val ≠ 4) :
    exec (.dramLineRead line { bad := bad, corrected := corrected, parityOff := false, retries := [] }) s =
      .next (((s.readDone line).reportCorrected (groupOf line) corrected (line * 256)).endRead (groupOf line) line bad) := by
  have hdata (p : Fin 5 → Bool) {bs : List (Fin 5)} (h4 : ∀ b ∈ bs, b.val ≠ 4) : bs.filter (fun b => b.val != 4 || p b) = bs :=
    List.filter_eq_self.mpr fun b hb => by simp [h4 b hb]
  rw [exec_dramLineRead, execDramLineRead, if_neg (by rw [h.dram]; exact Bool.false_ne_true), if_neg (by rw [h.isOpen, hr]; exact Bool.false_ne_true)]
  extract_lets g a _ u dataBad parityRead read v
  have hv : v = (s.readDone line).reportCorrected g corrected a := congrArg (State.reportCorrected _ g · a)
    ((congrArg (List.filter read) ((h.inUse rfl _).trans hcor)).trans (hdata _ hcor4))
  have hchannels : ((s.readDone line).reportCorrected g corrected a).mc.channels = s.mc.channels :=
    (congrArg MemCtl.channels (State.reportCorrected_mc g a (s.readDone line) corrected) :)
  have hread : (((s.readDone line).reportCorrected g corrected a).inUse g bad.eraseDups).filter read = bad :=
    (congrArg (List.filter read) ((h.inUse hchannels _).trans hbad)).trans (hdata _ hbad4)
  rw [hv, hread]
  change _ = Host.Outcome.next (((s.readDone line).reportCorrected g corrected a).endRead g line bad)
  rw [State.endRead]
  cases ((s.readDone line).reportCorrected g corrected a).verdict g line bad <;> rfl

/-- What a controller finds in a whole line, by the bursts that cannot be corrected. -/
theorem verdict_whole (h : LineWhole s line) (hmc : u.mc = (s.readDone line).mc) :
    u.verdict (groupOf line) line [] = .good ∧ (∀ b, u.verdict (groupOf line) line [b] = .rebuild b) ∧
      ∀ b b', u.verdict (groupOf line) line [b, b'] = .lost := by
  have hgroup : u.group (groupOf line) = s.group (groupOf line) := by rw [State.group, hmc]; rfl
  have hpoison : u.mc.poisonCode = s.mc.poisonCode := (congrArg MemCtl.poisonCode hmc :)
  simp [State.verdict, hgroup, h.group, hpoison, h.clean]

/-- A lost line carries the poison code, with a SEVERE event of its group, and its Pool copy the poison indication (R278). -/
theorem loseLine_poisons (s : State) (g line : Nat) :
    let t := (s.loseLine g line).returnPoison line
    Reported s t (0x818 + g) .severe (BitVec.ofNat 64 (line * 256)) ∧ line ∈ t.mc.poisonCode ∧ t.mc.reads = s.mc.reads ∧ t.mem = s.mem ∧
      t.pool.agents = s.pool.agents ∧ ∀ d, s.dirEntry line = some d → ∃ d', t.dirEntry line = some d' ∧ d'.p = true ∧ d'.d = d.d ∧ d'.pv = d.pv := by
  intro t
  have hmc : (s.loseLine g line).mc = (s.markPoison line).mc := State.report_mc ..
  have hmem : (s.loseLine g line).mem = s.mem := State.report_mem ..
  have hpool : (s.loseLine g line).pool = s.pool := State.report_pool ..
  obtain ⟨r, hflight, hr⟩ := (s.markPoison line).report_reported (0x818 + g) .severe none (BitVec.ofNat 64 (line * 256))
  refine ⟨⟨r, hflight, hr⟩, ?_, (congrArg MemCtl.reads hmc :), hmem, (congrArg Pool.agents hpool :), fun d hd => ?_⟩
  · exact (congrArg MemCtl.poisonCode hmc).symm ▸ List.mem_cons_self
  · have hentry := State.modDir_some (s := s.loseLine g line) (f := fun e => { e with p := true }) (fun _ => rfl)
      ((State.dirEntry_congr (congrArg Pool.dir hpool) line).trans hd)
    exact ⟨_, hentry, rfl, rfl, rfl⟩

end

theorem memoryReads : Claim.MemoryReads := by
  intro s line b b' h hr hb hb' hne r a e
  have hb4 : b.val ≠ 4 := Nat.ne_of_lt hb
  have hb4' : b'.val ≠ 4 := Nat.ne_of_lt hb'
  have hone : ∀ x ∈ [b], x.val ≠ 4 := by simpa using hb4
  have htwo : ∀ x ∈ [b, b'], x.val ≠ 4 := by simp [hb4, hb4']
  have hdups : [b, b'].eraseDups = [b, b'] := by simp [List.eraseDups_cons, hne.symm]
  obtain ⟨hgood, hrebuild, hlost⟩ := verdict_whole (u := s.readDone line) h rfl
  refine ⟨?_, ?_, ?_, ?_⟩
  · rw [dramLineRead_whole h hr rfl (by simp) rfl (by simp), State.reportCorrected, List.foldl_nil, State.endRead, hgood]
    rfl
  · obtain ⟨hgood', -⟩ := verdict_whole (u := (s.readDone line).reportCorrected (groupOf line) [b] (line * 256)) h (State.reportCorrected_mc ..)
    refine ⟨(s.readDone line).report (0x800 + (5 * groupOf line + b.val)) .corrected none a, ?_, ?_, State.report_mem .., State.report_pool .., State.report_mc ..⟩
    · rw [dramLineRead_whole h hr rfl (by simp) rfl hone, State.endRead, hgood']
      rfl
    · exact Nat.add_assoc .. ▸ State.report_reported (s.readDone line) ..
  · refine ⟨(s.readDone line).report (0x800 + (5 * groupOf line + b.val)) .recoverable none a, ?_, ?_, State.report_mem .., State.report_pool .., State.report_mc ..⟩
    · rw [dramLineRead_whole h hr rfl hone rfl (by simp), State.reportCorrected, List.foldl_nil, State.endRead, hrebuild]
    · exact Nat.add_assoc .. ▸ State.report_reported (s.readDone line) ..
  · obtain ⟨hflight, hpoison, hreads, hmem, hagents, hentry⟩ := loseLine_poisons (s.readDone line) (groupOf line) line
    refine ⟨((s.readDone line).loseLine (groupOf line) line).returnPoison line, ?_, hflight, hpoison, hreads, hmem, hagents, hentry⟩
    rw [dramLineRead_whole h hr hdups htwo rfl (by simp), State.reportCorrected, List.foldl_nil, State.endRead, hlost]

/-! Writes of lines to DRAM (R248, R258, R264, R276). -/

section
variable {s : State} {line : Nat} {d : DirEntry}

theorem dropLine_none (xs : List (Nat × Byte)) (line : Nat) : ∀ c ∈ dropLine xs line, c.1 / 256 ≠ line := fun c hc => by
  simpa [inLine, lineOf] using (List.mem_filter.mp hc).2

/-- A line that the Pool holds modified or poisoned joins the writes of its controller, poison code and all. -/
theorem writeBack_writes (hd : s.dirEntry line = some d) (h : d.d = true ∨ d.p = true) :
    s.writeBack line = { s with
      mc := { s.mc with
        poisonCode := if d.p then line :: s.mc.poisonCode.filter (· != line) else s.mc.poisonCode.filter (· != line), writes := s.mc.writes ++ [line] },
      pool := { s.pool with dramOld := dropLine s.pool.dramOld line } } := by
  rw [State.writeBack, hd]
  exact if_pos (by simpa using h)

theorem writeBack_clean (hd : s.dirEntry line = some d) (hclean : d.d = false) (hgood : d.p = false) : s.writeBack line = s := by
  rw [State.writeBack, hd]
  exact if_neg (by simp [hclean, hgood])

theorem dramLineWrite_completes (hdram : s.isDram (line * 256) = true) (hw : line ∈ s.mc.writes) :
    exec (.dramLineWrite line { bad := [], corrected := [], parityOff := false, retries := [] }) s =
      .next { s with mc := { s.mc with writes := s.mc.writes.erase line } } := by
  rw [exec_dramLineWrite, execDramLineWrite, hdram, if_neg (by decide), if_pos (by simpa using hw)]
  rfl

end

theorem memoryWrites : Claim.MemoryWrites := by
  intro s line d hdram hd t
  refine ⟨fun h => ?_, fun hclean hgood => writeBack_clean hd hclean hgood, dramLineWrite_completes hdram⟩
  have ht : t = _ := writeBack_writes hd h
  rw [ht]
  refine ⟨rfl, dropLine_none _ line, ?_, rfl, rfl, rfl⟩
  cases d.p <;> simp

/-! The scrubber (R279). -/

section
variable {s : State} {g : Nat} {x : MemGroup}

theorem State.group_get (hx : s.mc.groups[g]? = some x) : s.group g = x := by simp [State.group, List.getD, hx]

/-- A good line is left, and the scrubber goes on. -/
theorem scrubLine_good (hg : g < 4) (hx : s.mc.groups[g]? = some x) (hlost : x.lost = false) (hopen : s.poolOpen = true)
    (hclean : scrubLineOf g x.scrubAt ∉ s.mc.poisonCode) :
    exec (.scrubLine g { bad := [], corrected := [], parityOff := false, retries := [] }) s = .next (s.scrubOn g) := by
  have hgroup := State.group_get hx
  have hverdict : s.verdict g (scrubLineOf g x.scrubAt) [] = .good := by simp [State.verdict, hgroup, hlost, hclean]
  rw [exec_scrubLine, execScrubLine, if_neg (Nat.not_le.mpr hg), hopen, if_neg (by decide)]
  simp only [State.linkRetries, State.inUse, State.reportCorrected, List.eraseDups_nil, List.filter_nil, List.foldl_nil, hgroup, hverdict, Bool.false_and,
    Bool.false_eq_true, if_false]

theorem State.modGroup_get (f : MemGroup → MemGroup) (hx : s.mc.groups[g]? = some x) : (s.modGroup g f).mc.groups[g]? = some (f x) := by
  simp [State.modGroup, modAt, hx]

theorem State.modGroup_other (s : State) (f : MemGroup → MemGroup) {i : Nat} (hi : i ≠ g) : (s.modGroup g f).mc.groups[i]? = s.mc.groups[i]? := by
  simp [State.modGroup, modAt, hi.symm]

end

theorem scrubbing : Claim.Scrubbing := by
  intro s g x hg hx hlost hopen hclean
  exact ⟨_, scrubLine_good hg hx hlost hopen hclean, State.modGroup_get _ hx, fun i hi => State.modGroup_other s _ hi, rfl, rfl, rfl⟩

/-! Channels that fail, and the end of zeroing (R281, R283, R286, R405, R492). -/

section
variable {s : State} {n : Nat} {cause : ChannelCause} {c : MemChannel} {x : MemGroup}

/-- An event is on its way as long as nothing else of Weir's input and of the time changed before it. -/
theorem Reported.of_same {u t : State} {src : Nat} {cls : FaultClass} {addr : Word} (hweir : u.weir = s.weir) (hbeat : u.beatc = s.beatc)
    (h : Reported u t src cls addr) : Reported s t src cls addr := by
  rw [Reported, ← hweir, ← hbeat]
  exact h

/-- A channel out of use, with its cause and, unless promotion is its event, a SEVERE one (R281). -/
def State.channelOut (s : State) (n : Nat) (cause : ChannelCause) : State :=
  let s := { s with mc := { s.mc with channels := modAt s.mc.channels n (fun c => { c with failed := true, cause := causeCode cause }) } }
  if cause = .promotion then s else s.report (channelSource n) .severe none 0

theorem failChannel_eq (hc : s.mc.channels[n]? = some c) (hgood : c.failed = false) :
    s.failChannel n cause = if ((s.channelOut n cause).group (n / 5)).deg then
        ((s.channelOut n cause).modGroup (n / 5) fun x => { x with lost := true }).report (0x818 + n / 5) .fatal none 0
      else (s.channelOut n cause).modGroup (n / 5) fun x => { x with deg := true, fch := BitVec.ofNat 3 (n % 5) } := by
  rw [State.failChannel, if_neg (by simp [State.channelFailed, hc, hgood])]
  rfl

theorem channelFail_fails (hn : n < 20) (hc : s.mc.channels[n]? = some c) (hgood : c.failed = false)
    (hsev : cause = .promotion → (s.weir.source (0x800 + n)).sev = true) : exec (.channelFail n cause) s = .next (s.failChannel n cause) := by
  have hfailed : s.channelFailed n = false := by simp [State.channelFailed, hc, hgood]
  have hmay : (cause == .promotion && !(s.weir.source (channelSource n)).sev) = false := by
    by_cases hp : cause = .promotion
    · simp [channelSource, hsev hp]
    · simp [hp]
  rw [exec_channelFail, execChannelFail, if_neg (Nat.not_le.mpr hn), hfailed, hmay]
  rfl

theorem channelOut_mc (s : State) (n : Nat) (cause : ChannelCause) :
    (s.channelOut n cause).mc = { s.mc with channels := modAt s.mc.channels n (fun c => { c with failed := true, cause := causeCode cause }) } := by
  unfold State.channelOut
  dsimp only
  split_ifs
  · rfl
  · exact State.report_mc ..

theorem channelOut_mem (s : State) (n : Nat) (cause : ChannelCause) : (s.channelOut n cause).mem = s.mem := by
  unfold State.channelOut
  dsimp only
  split_ifs
  · rfl
  · exact State.report_mem ..

/-- The channel is out of use, and the rest of main memory's channels and contents as they were. -/
theorem failChannel_mc (hc : s.mc.channels[n]? = some c) (hgood : c.failed = false) (hx : s.mc.groups[n / 5]? = some x) :
    let t := s.failChannel n cause
    t.mc.channels = modAt s.mc.channels n (fun c => { c with failed := true, cause := causeCode cause }) ∧ t.mem = s.mem ∧
      t.mc.groups[n / 5]? = some (if x.deg then { x with lost := true } else { x with deg := true, fch := BitVec.ofNat 3 (n % 5) }) := by
  have hmc := channelOut_mc s n cause
  have hmem := channelOut_mem s n cause
  have hget : (s.channelOut n cause).mc.groups[n / 5]? = some x := by rw [hmc]; exact hx
  intro t
  have ht : t = _ := failChannel_eq hc hgood
  rw [State.group_get hget] at ht
  rw [ht]
  split_ifs
  · refine ⟨?_, (State.report_mem ..).trans hmem, ?_⟩ <;> rw [State.report_mc]
    · exact congrArg MemCtl.channels hmc
    · exact State.modGroup_get _ hget
  · exact ⟨congrArg MemCtl.channels hmc, hmem, State.modGroup_get _ hget⟩

/-- A channel that fails in a whole group is itself the SEVERE event (R281). -/
theorem failChannel_severe (hc : s.mc.channels[n]? = some c) (hgood : c.failed = false) (hx : s.mc.groups[n / 5]? = some x) (hp : cause ≠ .promotion)
    (hdeg : x.deg = false) : Reported s (s.failChannel n cause) (0x800 + n) .severe 0 := by
  have hget : (s.channelOut n cause).mc.groups[n / 5]? = some x := by rw [channelOut_mc]; exact hx
  rw [failChannel_eq hc hgood, State.group_get hget, hdeg, if_neg Bool.false_ne_true, State.channelOut, if_neg hp]
  have hreported := State.report_reported { s with mc := { s.mc with channels := modAt s.mc.channels n fun c => { c with failed := true, cause := causeCode cause } } }
    (0x800 + n) .severe none 0
  exact .of_same rfl rfl hreported

/-- A promoted channel of a degraded group loses the group (R283). -/
theorem failChannel_fatal (hc : s.mc.channels[n]? = some c) (hgood : c.failed = false) (hx : s.mc.groups[n / 5]? = some x) (hp : cause = .promotion)
    (hdeg : x.deg = true) : Reported s (s.failChannel n cause) (0x818 + n / 5) .fatal 0 := by
  have hget : (s.channelOut n cause).mc.groups[n / 5]? = some x := by rw [channelOut_mc]; exact hx
  rw [failChannel_eq hc hgood, State.group_get hget, hdeg, if_pos rfl, State.channelOut, if_pos hp]
  exact .of_same rfl rfl (State.report_reported ..)

/-- The handover leaves the controllers' readiness and their groups. -/
theorem handOver_mc (s : State) : s.handOver.mc.ready = s.mc.ready ∧ s.handOver.mc.zeroing = s.mc.zeroing ∧ s.handOver.mc.groups = s.mc.groups := by
  have hw := (formWindow_keeps s).mc
  rcases handOver_cases s with h | h | ⟨b, h⟩
  · rw [h]
    exact ⟨rfl, rfl, rfl⟩
  · rw [h, hw]
    exact ⟨rfl, rfl, rfl⟩
  · rw [h, State.release, hw]
    exact ⟨rfl, rfl, rfl⟩

theorem handOver_started (h : s.pool.start = false) : s.handOver = s := by
  rw [State.handOver, if_pos (by rw [h, Bool.not_false, Bool.or_true])]

end

theorem channelsAndReady : Claim.ChannelsAndReady := by
  intro s n cause c x
  refine ⟨fun hn hc hgood hx hsev => ?_, fun hz hp => ?_⟩
  · obtain ⟨hchannels, hmem, hgroup⟩ := failChannel_mc (cause := cause) hc hgood hx
    refine ⟨_, channelFail_fails hn hc hgood hsev, ?_, fun i hi => ?_, hmem, hgroup, fun hp hdeg => failChannel_severe hc hgood hx hp hdeg,
      fun hp hdeg => failChannel_fatal hc hgood hx hp hdeg⟩
    · rw [State.channelFailed, hchannels]
      simp [modAt, hc]
    · rw [hchannels]
      simp [modAt, hi.symm]
  · have hexec : exec .memoryReady s = .next (State.handOver { s with mc := { s.mc with zeroing := false, ready := true } }) := by
      rw [exec_memoryReady, execMemoryReady, if_pos (by rw [hz, hp]; rfl), memoryUp_zeroed hz]
    obtain ⟨hready, hzeroing, hgroups⟩ := handOver_mc { s with mc := { s.mc with zeroing := false, ready := true } }
    exact ⟨_, hexec, hready, hzeroing, hgroups, fun hstart => handOver_started hstart⟩

/-- Settles O31: reads and writes of DRAM, the scrubber, then failing channels and main memory's readiness. -/
theorem mainMemory : Obligations.MainMemory := ⟨memoryReads, memoryWrites, scrubbing, channelsAndReady⟩

end Sys2Proof.Machine
end
